-- ==== Sys2Proof/Word.lean ====
section
/-!
DEFINITION. The words of the device: bytes, words of fixed width, byte strings and sparse tables.
Their operations are in Machine/Table.lean and Machine/Bytes.lean.
-/
namespace Sys2Proof

abbrev Byte := BitVec 8
abbrev W16 := BitVec 16
abbrev W32 := BitVec 32
abbrev W64 := BitVec 64
/-- A byte string, first byte first. -/
abbrev Bytes := List Byte
/-- A sparse table from a numeric key to an entry, in one canonical form: keys strictly rising. -/
abbrev Tbl (α : Type) := List (Nat × α)

end Sys2Proof
end

