-- ==== Sys2Proof/Syntax.lean ====
section
/-!
DEFINITION. The commands the device takes from outside: one constructor per row of spec/opcode_table.json. The operands
are what the outside fixes: indices, values written, what host memory returned, what arrived on a line or the duet link,
and the physical findings of a check (an upset cell, a failed training).
-/
namespace Sys2Proof

/-- The four kinds of ring (R71-R73). -/
inductive RingKind where
  | command | completion | event | sample
  deriving DecidableEq, Repr

/-- What a descriptor fetch got from host memory: the 64-byte descriptors, or a failure (0 Unsupported Request,
1 Completer Abort, 2 completion timeout; R87). -/
inductive FetchReply where
  | ok (descs : List Bytes)
  | fail (cause : Fin 3)
  deriving DecidableEq, Repr

/-- The service engines (R481). -/
inductive Engine where
  | sym (i : Fin 2)
  | pk (i : Fin 2)
  | drbg
  deriving DecidableEq, Repr

/-- What a start-up meets outside the device's own state. -/
structure StartUp where
  /-- negotiated PCIe speed and width codes (Table 2-10) -/
  speed : Fin 6
  width : Fin 9
  /-- first channel that fails training, with the MEM_TRAIN result (R525, Table 12-10) -/
  trainFail : Option (Fin 4 × Fin 5)
  /-- cause of a failed start-up or known-answer test of the DRBG (R512, R513) -/
  drbgFail : Option (Fin 4)
  /-- lane-group PLLs that lock in step 7 (R39) -/
  plls : BitVec 8
  /-- the PCIE_SRIS pin at the release of RESET_N (R746) -/
  sris : Bool
  /-- time in ns with the main supplies off, and whether VBAT held the battery domain (R630, R634) -/
  offNs : Nat
  retained : Bool
  /-- states of the four tamper loops (Table 14-9) -/
  loops : List (Fin 4)
  deriving DecidableEq, Repr, Inhabited

/-- A TCAM entry whose parity is bad, and the bits of its stored key and mask that are flipped. -/
structure TcamUpset where
  entry : Fin 65536
  key : BitVec 160 := 0#160
  mask : BitVec 160 := 0#160
  deriving DecidableEq, Repr

/-- What a proof run or self-test found (R157, R158, R598). -/
structure ProofFindings where
  /-- presses whose known-answer test failed -/
  badPresses : List (Fin 24)
  /-- TCAM entries with bad parity -/
  badTcam : List TcamUpset
  /-- MAC entries in an uncorrectable SRAM word -/
  badMac : List (Fin 131072)
  /-- slots, and data-plane key records by SA index, whose stored key differs from what was written -/
  upsetSlots : List (Fin 1024 × Bytes)
  upsetRecs : List (Fin 262144 × Bytes)
  deriving DecidableEq, Repr

/-- Errors that the PCS and the FEC of a port have found since they last reported: errored blocks, BIP errors, corrected and
uncorrectable codewords, and corrected symbols (R767). -/
structure PcsErrors where
  block : Nat := 0
  bip : Nat := 0
  corrected : Nat := 0
  uncorrected : Nat := 0
  symbols : Nat := 0
  deriving DecidableEq, Repr

/-- The bring-up of a port (R736): its time in ms, the outcome of the clause 99 verify exchange (R152), auto-negotiations begun
again, and lanes whose link training failed (R767, R768). -/
structure BringUp where
  ms : W32
  verified : Bool
  restarts : Nat := 0
  failed : List (Fin 128) := []
  deriving DecidableEq, Repr

/-- The frame-alignment words that follow on a stream of a port: lane 0 is the port's own stream (R278, R283, R285). -/
structure LaneWords where
  lane : Fin 21
  words : List (BitVec 48)
  deriving DecidableEq, Repr

/-- What a superframe's frames carry: the payload, and GCC1 and GCC2, or H4 and K3, of each of them as the partner or the TSI
passes them (R275, R276, R332). -/
structure ClientFrames where
  payload : Bytes
  carried : Bytes := []
  deriving DecidableEq, Repr

/-- A frame as it arrives: its bytes without FCS, whether its last byte has passed stage 2 when it is classified, and
whether its FCS is good. -/
structure FrameIn where
  data : Bytes
  whole : Bool
  fcsOk : Bool
  pcs : PcsErrors := {}
  deriving DecidableEq, Repr

/-- What a line receiver has seen when a defect may change (R287, R299, R301): the payload label, the errored blocks at the
near end and those that the far end reports, of `blocks` blocks; for a path, the pointer words H1 H2 of its slot and of those
behind it on the port; for an OTN port, the FEC codewords received. -/
structure LineSeen where
  label : Byte := 0#8
  near : Nat := 0
  far : Nat := 0
  blocks : Nat := 0
  pointers : List (BitVec 16) := []
  /-- ns by which each logical lane of an OTU4 port lags the earliest -/
  skews : List Nat := []
  codewords : List Bytes := []
  deriving DecidableEq, Repr

/-- What a read of a line of protected memory meets (R540, R545): an ECC error, or a line whose ECC is clean or corrected, with
the tag that DDR4 holds for it. -/
inductive LineFault where
  | correctable | uncorrectable
  | received (data tag : Bytes)
  deriving DecidableEq, Repr

/-- An error found in a line of protected memory: line number, kind, and what found it: 0 a read, 1 the patrol, 2 re-encryption. -/
structure LineError where
  line : Nat
  fault : LineFault
  by_ : Fin 3 := 1
  deriving DecidableEq, Repr

/-- What an SA context fetch found beside the device's own records: errors in the lines it read, and a data-plane key
record whose stored key is not what was written. -/
structure FetchFindings where
  errors : List LineError
  upset : Option Bytes
  deriving DecidableEq, Repr

/-- What the ECC of the Galley found when a frame was read at dequeue (R406). -/
inductive GalleyEcc where
  | clean
  | corrected
  /-- an uncorrectable cell of the frame -/
  | badCell (bank : Fin 16) (cell : Fin 16384) (firstByteLeft : Bool)
  /-- an uncorrectable link word of the frame's queue -/
  | badLink (bank : Fin 16) (cell : Fin 16384)
  deriving DecidableEq, Repr

/-- What a frame's lookups found wrong in the tables they read: a corrected MAC word, an uncorrectable MAC word (R388),
or bad parity in a TCAM entry (R375). -/
inductive TableEcc where
  | clean
  | macCorrected
  | macBad (entry : Fin 131072)
  | tcamBad (x : TcamUpset)
  deriving DecidableEq, Repr

/-- A detection of a tamper source in one housekeeping cycle (R610), with the reading of Table 14-10. -/
structure TamperHit where
  source : Fin 18
  reading : W32
  deriving DecidableEq, Repr

/-- A PTP message as the agent sees it: its messageType, whether the best master clock algorithm holds the port in
slave state, and the offset from master in ns where the message completes a usable Sync (R654-R657). -/
structure PtpMsg where
  type : Fin 16
  slave : Bool
  offset : Option Int
  deriving DecidableEq, Repr

/-- The header of a duet-link message; and its bytes where they are not those that its sender enciphered for this receiver: an error
of the link, or another sender (R569). -/
structure DuetHdr where
  epoch : W32
  seq : Nat
  wire : Option Bytes := none
  deriving DecidableEq, Repr

/-- A HELLO message (R566). -/
structure Hello where
  member : Fin 262144
  cert : Bytes
  nonce : Bytes
  point : Bytes
  sig : Bytes
  part : W16
  epoch : W32
  pinOut : Bool
  /-- the pairing digest that the signature covers, and the member number in use (R568) -/
  digest : Bytes
  inUse : Fin 262144
  deriving DecidableEq, Repr

/-- The commands of the device: one constructor per row of spec/opcode_table.json, in its order. -/
inductive Instr where
  /-- RESET_N (R695): Release of RESET_N starts start-up: fuses, supplement, profile, keys, memory, then the
  mode is entered. -/
  | resetN (pins : Fin 4) (start : StartUp)
  /-- BOOT_RESET (R698): Writing the key value to BOOT_RESET performs a device reset without resampling
  PROFILE_SEL. -/
  | bootReset (val : W32) (start : StartUp)
  /-- PERST_N (R752): PERST_N resets only the PCIe link and the host interface. -/
  | perstN (speed width : Fin 16)
  /-- PWRFAIL_N (R753): Assertion of PWRFAIL_N releases FAILOVER_OUT_N, masks undervoltage sources and flushes
  the journal with a checkpoint. -/
  | pwrfailN
  /-- MAIN_POWER_OFF (R630): Main supplies leave their range and the battery domain runs from VBAT. -/
  | mainPowerOff
  /-- ROOT_PLL_LOCK (R647): The root PLL first reports lock and the time bases start running. -/
  | rootPllLock
  /-- FLR_VF (R61): Function Level Reset of a virtual function disables its rings and aborts its jobs. -/
  | flrVf (f : Fin 16)
  /-- FLR_PF (R62): Function Level Reset of the physical function disables all rings and aborts all service
  jobs. -/
  | flrPf
  /-- GLB_SEAL (R66): Writing the seal key locks every RWL field and sets SEALED. -/
  | glbSeal (val : W32)
  /-- REGISTER_WRITE (R10): A write to a register field that has no behaviour of its own takes effect as its
  access code states. -/
  | registerWrite (f : Fin 16) (off : BitVec 22) (val : W32)
  /-- COUNTER_LOW_READ (R69): A 32-bit read of a counter's low half latches its high half for the function. -/
  | counterLowRead (f : Fin 16) (c : Fin 131072)
  /-- REC_OPTIME_LO_READ (R729): Reading REC_OPTIME_LO latches the high part of the operating time. -/
  | recOptimeLoRead
  /-- COMMAND_RING_TAIL_DOORBELL (R83): A command ring tail doorbell exposes new descriptors, or is ignored
  when out of range. -/
  | commandRingTailDoorbell (f : Fin 16) (ring : Fin 64) (val : W32)
  /-- COMPLETION_RING_HEAD_DOORBELL (R90): A completion ring head doorbell frees entries and lets stalled
  rings resume. -/
  | completionRingHeadDoorbell (f : Fin 16) (cq : Fin 64) (val : W32)
  /-- EVENT_RING_HEAD_DOORBELL (R94): An event ring head doorbell frees room for further records. -/
  | eventRingHeadDoorbell (f : Fin 16) (e : Fin 4) (val : W32)
  /-- SAMPLE_RING_HEAD_DOORBELL (R95): The sample ring head doorbell frees room for further samples. -/
  | sampleRingHeadDoorbell (f : Fin 16) (val : W32)
  /-- HIF_CMD_CTRL_ENABLE (R100): Setting a ring's ENABLE resets its indices and, for a completion ring, the
  expected phase. -/
  | hifCmdCtrlEnable (kind : RingKind) (n : Fin 64) (val : W32)
  /-- DESCRIPTOR_FETCH (R85): The fetch engine reads pending descriptors in weighted round robin. -/
  | descriptorFetch (reply : FetchReply)
  /-- COALESCING_TIMEOUT (R98): COAL_TIME expires after an unsignalled completion and the ring's vector is
  raised. -/
  | coalescingTimeout (cq : Fin 64)
  /-- UNKNOWN_OPCODE (R102): A descriptor with an unassigned opcode completes with BAD_OPCODE. -/
  | unknownOpcode (r : Fin 64)
  /-- NOP (R102): NOP completes with OK and has no effect. -/
  | nop (r : Fin 64)
  /-- ABORT (R104): ABORT ends an abortable queued command of the issuing function and reports what happened. -/
  | abort (r : Fin 64)
  /-- RING_STATUS (R106): RING_STATUS returns a ring's pointers and status word. -/
  | ringStatus (r : Fin 64)
  /-- IDENTITY_ATTEST (R477): IDENTITY_ATTEST is accepted and queued for a signed attestation statement. -/
  | identityAttest (r : Fin 64)
  /-- IDENTITY_ATTEST_DONE (R477): The attestation signature is finished and the statement is written. -/
  | identityAttestDone (e : Fin 2)
  /-- EVENT_READ (R718): EVENT_READ returns the records of one source and start-up from the on-die ring or
  journal. -/
  | eventRead (r : Fin 64)
  /-- COUNTER_SNAPSHOT (R725): COUNTER_SNAPSHOT copies a range of counters as they stood in one core cycle. -/
  | counterSnapshot (r : Fin 64)
  /-- STATS_READ (R218): STATS_READ writes per-SA statistics records to the host buffer. -/
  | statsRead (r : Fin 64)
  /-- DOMAIN_ENROL (R690): DOMAIN_ENROL is accepted and queued to check the certificate and write the
  enrolment record. -/
  | domainEnrol (r : Fin 64) (buf : Bytes)
  /-- DOMAIN_ENROL_DONE (R690): Enrolment is written, fuses are blown and ENROLLED is written. -/
  | domainEnrolDone
  /-- CERT_INSTALL (R691): CERT_INSTALL replaces the member certificate in the enrolment record. -/
  | certInstall (r : Fin 64) (buf : Bytes)
  /-- SUPPLEMENT_INSTALL (R692): SUPPLEMENT_INSTALL is accepted and queued to write a supplement image. -/
  | supplementInstall (r : Fin 64) (buf : Bytes)
  /-- SUPPLEMENT_INSTALL_DONE (R693): The supplement region is written, read back and fuses are blown. -/
  | supplementInstallDone (readBackOk : Bool)
  /-- PROFILE_INSTALL (R694): PROFILE_INSTALL is accepted and queued to write a profile image. -/
  | profileInstall (r : Fin 64) (buf : Bytes)
  /-- PROFILE_INSTALL_DONE (R694): The profile region is written and read back. -/
  | profileInstallDone (readBackOk : Bool)
  /-- REPROVISION_REQUEST (R638): REPROVISION_REQUEST is accepted and queued to verify the authorisation. -/
  | reprovisionRequest (r : Fin 64) (buf : Bytes)
  /-- REPROVISION_GRANTED (R640): An accepted authorisation stores the grant in the battery domain. -/
  | reprovisionGranted
  /-- PROFILE_SELECT (R700): PROFILE_SELECT performs a warm restart of the data path under the new profile. -/
  | profileSelect (r : Fin 64) (restartUs : Fin 300001)
  /-- SECY_SET (R201): SECY_SET creates or changes a SecY. -/
  | secySet (r : Fin 64)
  /-- SECY_DEL (R204): SECY_DEL removes a SecY. -/
  | secyDel (r : Fin 64)
  /-- SC_SET (R205): SC_SET creates an SC or sets its SCI and places it in the received-SCI table. -/
  | scSet (r : Fin 64)
  /-- SC_DEL (R207): SC_DEL removes an SC and its hash entry. -/
  | scDel (r : Fin 64)
  /-- SA_INSTALL (R208): SA_INSTALL installs an SA key record and context, or raises its PN. -/
  | saInstall (r : Fin 64) (buf : Bytes)
  /-- SA_ENABLE_TX (R227): SA_ENABLE_TX changes the SC's encoding AN at the switch moment. -/
  | saEnableTx (r : Fin 64)
  /-- SA_ENABLE_TX_COMMIT (R227): The last old-SA frame is dispatched and SA_ENABLE_TX commits and completes. -/
  | saEnableTxCommit (sc : Fin 65536)
  /-- SA_DELETE (R250): SA_DELETE takes the SA out of installed state and starts the drain fence. -/
  | saDelete (r : Fin 64)
  /-- DRAIN_FENCE_CLEAR (R252): No forme holds the SA; its record is erased and SA_DELETE completes. -/
  | drainFenceClear (sa : Fin 262144)
  /-- DRAIN_TIMEOUT (R253): The fence has not cleared after 10 ms; holding frames are dropped and the deletion
  proceeds. -/
  | drainTimeout (sa : Fin 262144)
  /-- KEY_TURN_SCHEDULE (R233): KEY_TURN_SCHEDULE schedules or cancels a group's turn, executing a late turn
  at once. -/
  | keyTurnSchedule (r : Fin 64)
  /-- TURN_GROUP_SET (R231): TURN_GROUP_SET arms, disarms or removes an SC in a turn group. -/
  | turnGroupSet (r : Fin 64)
  /-- TURN_TICK_FIX (R236): 1 µs before T the device fixes the turn tick of a pending turn. -/
  | turnTickFix (group : Fin 4096)
  /-- TURN_TICK (R237): At the turn tick every armed member of the group switches to its armed SA. -/
  | turnTick (group : Fin 4096)
  /-- KN_ASSOC_SET (R351): KN_ASSOC_SET creates or changes a Knadra association. -/
  | knAssocSet (r : Fin 64)
  /-- KN_ASSOC_DEL (R355): KN_ASSOC_DEL is accepted and the association's outputs go to AIS at the next frame
  boundary. -/
  | knAssocDel (r : Fin 64)
  /-- KN_ASSOC_DEL_DONE (R355): The association's four records are erased and KN_ASSOC_DEL completes. -/
  | knAssocDelDone (a : Fin 16384)
  /-- KN_KEY_INSTALL (R353): KN_KEY_INSTALL installs a current or next key record of one direction. -/
  | knKeyInstall (r : Fin 64) (buf : Bytes)
  /-- KN_TURN_SCHEDULE (R260): KN_TURN_SCHEDULE schedules or cancels a transmit Knadra turn at superframe S. -/
  | knTurnSchedule (r : Fin 64)
  /-- ROUTE_ADD (R369): ROUTE_ADD inserts or rewrites a route in the TCAM by band moves. -/
  | routeAdd (r : Fin 64)
  /-- ROUTE_DEL (R370): ROUTE_DEL invalidates a route and closes the hole. -/
  | routeDel (r : Fin 64)
  /-- MAC_ADD (R390): MAC_ADD writes a static MAC table entry. -/
  | macAdd (r : Fin 64)
  /-- MAC_DEL (R391): MAC_DEL removes one MAC table entry. -/
  | macDel (r : Fin 64)
  /-- MAC_FLUSH (R391): MAC_FLUSH removes every matching MAC table entry. -/
  | macFlush (r : Fin 64)
  /-- POLICER_SET (R435): POLICER_SET writes a policer's mode, rates and bursts. -/
  | policerSet (r : Fin 64)
  /-- SHAPER_SET (R437): SHAPER_SET writes a scheduling node's shaper. -/
  | shaperSet (r : Fin 64)
  /-- QUEUE_SET (R438): QUEUE_SET sets a queue, binds a group or maps a port pair. -/
  | queueSet (r : Fin 64)
  /-- QUEUE_REMAP_TIMEOUT (R425): After 100 ms the pair's remaining frames are dropped and the map change
  takes effect. -/
  | queueRemapTimeout (ingress egress : Fin 128)
  /-- TSI_PAGE_WRITE (R306): TSI_PAGE_WRITE writes connection entries into the standby page. -/
  | tsiPageWrite (r : Fin 64) (buf : Bytes)
  /-- TSI_SWITCH (R308): TSI_SWITCH is accepted and waits for its reference boundary. -/
  | tsiSwitch (r : Fin 64)
  /-- TSI_REFERENCE_BOUNDARY (R310): The reference port's frame start, or the internal tick, fixes the
  switch's reference boundary. -/
  | tsiReferenceBoundary
  /-- TSI_PORT_PAGE_CHANGE (R311): An egress SDH port changes to the new page at its own frame start. -/
  | tsiPortPageChange (p : Fin 128)
  /-- SYM_JOB (R486): SYM_JOB is checked and accepted into the symmetric queue. -/
  | symJob (r : Fin 64) (buf : Bytes)
  /-- PK_JOB (R495): PK_JOB is checked and accepted into the modular queue. -/
  | pkJob (r : Fin 64) (buf : Bytes)
  /-- PK_CURVE_LOAD (R503): PK_CURVE_LOAD is accepted into the modular queue. -/
  | pkCurveLoad (r : Fin 64) (buf : Bytes)
  /-- DRBG_GENERATE (R514): DRBG_GENERATE is accepted for random bytes. -/
  | drbgGenerate (r : Fin 64)
  /-- REVOCATION_UPDATE (R515): REVOCATION_UPDATE is accepted for its signature check. -/
  | revocationUpdate (r : Fin 64) (buf : Bytes)
  /-- JOB_START (R483): A free engine starts the next accepted job and resolves its key slots. -/
  | jobStart (e : Engine)
  /-- PK_YIELD (R507): A long modular job reaches a yield point and runs waiting short jobs. -/
  | pkYield (e : Fin 2) (both : Bool)
  /-- SYM_JOB_DONE (R490): A symmetric job ends and writes its output or authentication result. -/
  | symJobDone (e : Fin 2)
  /-- PK_JOB_DONE (R500): A modular job ends after its fixed duration with its result or INPUT_REJECTED. -/
  | pkJobDone (e : Fin 2) (invariant : Option (Fin 3))
  /-- CURVE_LOADED (R504): A curve load finishes its checks and is accepted or rejected. -/
  | curveLoaded (e : Fin 2)
  /-- DRBG_GENERATE_DONE (R514): The random bytes are written and DRBG_GENERATE completes. -/
  | drbgGenerateDone
  /-- REVOCATION_APPLIED (R517): A verified update is applied, associations taken out of service and the
  bitmap sealed to flash. -/
  | revocationApplied (e : Fin 2)
  /-- SLOT_IMPORT (R470): SLOT_IMPORT writes a wrapped or clear key into an empty slot. -/
  | slotImport (r : Fin 64) (buf : Bytes)
  /-- SLOT_GENERATE (R473): SLOT_GENERATE fills an empty slot from the DRBG. -/
  | slotGenerate (r : Fin 64)
  /-- SLOT_DELETE (R474): SLOT_DELETE erases a slot and increments its GEN. -/
  | slotDelete (r : Fin 64)
  /-- SLOT_EXPORT_WRAPPED (R475): SLOT_EXPORT_WRAPPED is checked and accepted for wrapping a slot key. -/
  | slotExportWrapped (r : Fin 64)
  /-- SLOT_EXPORT_WRAPPED_DONE (R475): The wrapped key is written to the host buffer. -/
  | slotExportWrappedDone (e : Fin 2)
  /-- KEY_INVALIDATE (R476): KEY_INVALIDATE increments a slot's GEN so its descendants become stale. -/
  | keyInvalidate (r : Fin 64)
  /-- MEM_REBUILD (R547): MEM_REBUILD is accepted to rebuild a quarantined subtree. -/
  | memRebuild (r : Fin 64)
  /-- MEM_REBUILT (R549): The subtree is erased and rewritten, leaves quarantine and the rebuild completes. -/
  | memRebuilt
  /-- DUET_PAIR (R564): DUET_PAIR starts pairing with the named peer. -/
  | duetPair (r : Fin 64)
  /-- DUET_PAIR_DONE (R565): Pairing ends, paired or refused, and DUET_PAIR completes. -/
  | duetPairDone
  /-- PAIR_WAIT_TIMEOUT (R565): No valid HELLO arrives within WAIT_S and pairing is refused. -/
  | pairWaitTimeout
  /-- DUET_SWITCHOVER (R596): DUET_SWITCHOVER hands the active role to the standby. -/
  | duetSwitchover (r : Fin 64)
  /-- DUET_UNPAIR (R597): DUET_UNPAIR sends UNPAIR, erases the link and pair keys and becomes SOLO. -/
  | duetUnpair (r : Fin 64)
  /-- LOOPBACK_SET (R742): LOOPBACK_SET sets a lane's loopback. -/
  | loopbackSet (r : Fin 64)
  /-- PRBS_SET (R743): PRBS_SET starts, stops or reads a lane's PRBS generator and checker. -/
  | prbsSet (r : Fin 64)
  /-- MARGIN_SCAN (R744): MARGIN_SCAN is accepted to measure a lane's eye. -/
  | marginScan (r : Fin 64)
  /-- MARGIN_SCAN_DONE (R744): The eye scan ends and its result is reported. -/
  | marginScanDone (lane : Fin 133) (width height : Fin 65536)
  /-- PROOF_RUN (R157): PROOF_RUN is accepted to test presses, tables or the key store. -/
  | proofRun (r : Fin 64)
  /-- PROOF_RUN_DONE (R158): The proof run finishes; failed presses leave service and passing ones return. -/
  | proofRunDone (found : ProofFindings)
  /-- FRAME_INGRESS (R360): An Ethernet frame arrives, is parsed, classified and policed. -/
  | frameIngress (p : Fin 128) (frame : FrameIn) (ecc : TableEcc)
  /-- FL_FRAME (R150): A fixed-latency frame arrives and leaves exactly 480 ns later. -/
  | flFrame (p : Fin 128) (frame : FrameIn)
  /-- FORME_ALLOCATION (R118): A classified frame takes a forme and frame-memory cells once they are free. -/
  | formeAllocation (p : Fin 128)
  /-- SA_FETCH_DONE (R123): An SA context fetch from DDR4 completes and waiting frames proceed. -/
  | saFetchDone (sa : Fin 262144) (found : FetchFindings)
  /-- PRESS_DISPATCH (R130): A frame is dispatched to a press and, on encrypt, is assigned its PN. -/
  | pressDispatch (f : Fin 16384)
  /-- PRESS_COMPLETE (R193): A press finishes a frame; a received frame takes its Table 4-3 outcome. -/
  | pressComplete (f : Fin 16384)
  /-- ENC_STOMPED (R139): A cut-through encrypt frame found bad after its first byte left is stomped. -/
  | encStomped (f : Fin 16384) (tooLong : Bool)
  /-- REORDER_RELEASE (R135): The reorder unit releases a frame to stage 9 in its order flow. -/
  | reorderRelease (f : Fin 16384)
  /-- GALLEY_DEQUEUE (R416): The scheduler selects an eligible frame and it starts leaving its egress port. -/
  | galleyDequeue (p : Fin 128) (ecc : GalleyEcc)
  /-- FRAME_TX_END (R121): A frame's last byte leaves stage 10 and its forme is released. -/
  | frameTxEnd (f : Fin 16384)
  /-- PTP_LAUNCH_MISS (R664): A PTP frame that cannot start at its launch time is dropped. -/
  | ptpLaunchMiss (f : Fin 16384)
  /-- POLICER_REFILL (R431): Every 256 ns policer buckets gain tokens. -/
  | policerRefill
  /-- SHAPER_REFILL (R429): Every 1 µs shaper buckets gain tokens. -/
  | shaperRefill
  /-- SHED_CLASS_UPDATE (R415): Every 1 µs the shed class rises or falls with queued press work. -/
  | shedClassUpdate
  /-- LINK_UP (R736): All bring-up stages have held for the debounce time and the port declares link up. -/
  | linkUp (p : Fin 128) (up : BringUp)
  /-- LINK_DOWN (R737): A port loses a bring-up stage or receives remote fault and declares link down. -/
  | linkDown (p : Fin 128) (cause : Fin 9)
  /-- GALLEY_HOLD_EXPIRY (R421): The hold ends with the link down and the port's queued frames are flushed. -/
  | galleyHoldExpiry (p : Fin 128)
  /-- PLL_UNLOCK (R738): A lane group's PLL loses lock and its ports go down. -/
  | pllUnlock (g : Fin 8)
  /-- LANE_EQ_WRITE (R735): A write to LANE_TXEQ or LANE_CTLE takes effect within 10 µs. -/
  | laneEqWrite (lane : Fin 133) (ctle : Bool) (val : W32)
  /-- FORCE_DOWN_WRITE (R737): Writing FORCE_DOWN holds the port down with cause 8. -/
  | forceDownWrite (p : Fin 128) (val : W32)
  /-- IN_FRAME (R282): A framing candidate reaches two confirmations and the stream becomes in-frame. -/
  | inFrame (p : Fin 128) (lane : Fin 21) (words : List (Nat × BitVec 48))
  /-- OOF (R283): Four consecutive errored frame-alignment words make the stream out of frame. -/
  | oof (p : Fin 128) (seen : LaneWords)
  /-- LOF_TIMER (R283): OOF persisting, or in-frame holding, for 3 ms raises or clears LOF. -/
  | lofTimer (p : Fin 128)
  /-- DEFECT_CHANGE (R288): A layer-one defect rises or clears and its consequent actions apply. -/
  | defectChange (p : Fin 128) (slot : Fin 192) (defect : Fin 64) (raised : Bool) (seen : LineSeen)
  /-- TRACE_RECEPTION (R292): A trace is received; three identical receptions make it the accepted trace. -/
  | traceReception (kind : Fin 4) (index : Fin 12288) (trace : Bytes)
  /-- TRACE_COMMIT (R296): COMMIT in FRM_TR_CTL writes the trace view into the selected entry. -/
  | traceCommit (val : W32)
  /-- FRM_TR_SEL_WRITE (R316): Writing FRM_TR_SEL loads the selected trace entry into the view. -/
  | frmTrSelWrite (val : W32)
  /-- FRM_KN_SEL_WRITE (R356): Writing FRM_KN_SEL loads an association snapshot into the view. -/
  | frmKnSelWrite (val : W32)
  /-- KEY_SLOT_SEL_WRITE (R478): Writing KEY_SLOT_SEL loads a slot snapshot into the view. -/
  | keySlotSelWrite (val : W32)
  /-- KN_SUPERFRAME_TX (R334): A transmit superframe is sent with its fields, ciphertext and previous tag. -/
  | knSuperframeTx (a : Fin 16384) (sent : ClientFrames)
  /-- KN_SUPERFRAME_RX (R337): The last tag byte of a received superframe decides pass or fail. -/
  | knSuperframeRx (a : Fin 16384) (frames : List (Byte × Bytes)) (payload tag : Bytes)
  /-- KN_OUTPUT_CHANGE (R339): A receive state change alters the output at the first frame boundary 2 µs after
  the tag. -/
  | knOutputChange (a : Fin 16384)
  /-- TCAM_SCRUB (R375): The background scrub checks TCAM parity over every 10 ms. -/
  | tcamScrub (bad : List TcamUpset)
  /-- TCAM_REPAIRED (R378): The Caller rewrites a disabled entry and re-enables it. -/
  | tcamRepaired (entry : Fin 65536)
  /-- MAC_AGEING (R387): Dynamic MAC entries not refreshed for AGE_TIME are removed. -/
  | macAgeing (bad : List TableEcc)
  /-- KEY_SWEEP (R456): The background sweep checks every used slot each PERIOD_S. -/
  | keySweep (upset : List (Fin 1024 × Bytes))
  /-- DRBG_RESEED (R511): The DRBG reseeds from the entropy source every RESEED_S seconds. -/
  | drbgReseed (fail : Option (Fin 4))
  /-- MEM_PATROL (R544): The patrol reads lines of protected memory and checks ECC and tags. -/
  | memPatrol (found : List LineError)
  /-- ZQ_CALIBRATION (R526): Every 128 ms each channel is ZQ-calibrated. -/
  | zqCalibration
  /-- DRAM_TEMP_READ (R526): Every 32 ms DRAM temperature is read and refresh doubled above 85 °C. -/
  | dramTempRead (hot : BitVec 4)
  /-- TAMPER_EVENT (R610): A tamper source detects an event, and an alarm is raised when its filter fills. -/
  | tamperEvent (events : List TamperHit)
  /-- ALARM_CLEAR (R617): W passes without an event and a raised alarm clears. -/
  | alarmClear (n : Fin 18)
  /-- MAG_CONVERSION (R611): Every 100 µs, or at a trigger, the magnetic sensors are converted. -/
  | magConversion (readings : List (Fin 65536))
  /-- SHADOW_SCAN (R609): Every 100 µs the slot TYPE and ATTR shadows are compared. -/
  | shadowScan (bad : List (Fin 1024))
  /-- WATCHDOG_EXPIRY (R603): The Caller watchdog is not serviced for 100 ms. -/
  | watchdogExpiry
  /-- BATTERY_ALARM (R631): A battery-domain source raises an alarm; the BBK is erased and the latch set. -/
  | batteryAlarm (n : Fin 5) (kind : Fin 16) (afterNs : Nat)
  /-- IDENTITY_REDERIVE (R621): 1 s after the last ZEROISE source, the DRBG and BBK are renewed. -/
  | identityRederive
  /-- VBAT_MEASURE (R635): Every 1 s VBAT is measured and CELL_LOW written when it falls below 2.5 V. -/
  | vbatMeasure (mv : Fin 65536)
  /-- PRESS_PROOF_RETRY (R133): Every 10 s a faulted press is proof-run and returns after three passes. -/
  | pressProofRetry (m : Fin 24) (passes : Bool)
  /-- TIME_FREQ_HI_WRITE (R649): Writing TIME_FREQ_HI applies the new frequency word at the next tick. -/
  | timeFreqHiWrite (b : Fin 4) (val : W32)
  /-- TIME_CMD_STEP (R650): TIME_CMD STEP sets the base to the STEP value at the next tick. -/
  | timeCmdStep (b : Fin 4)
  /-- TIME_CMD_OFFSET (R650): TIME_CMD OFFSET adds the signed offset at the next tick. -/
  | timeCmdOffset (b : Fin 4)
  /-- TIME_BASE_CTL_WRITE (R652): Writing TIME_BASE_CTL sets LOCKED, the agent and its profile, or is ignored
  under the agent. -/
  | timeBaseCtlWrite (b : Fin 4) (val : W32)
  /-- TIME_SNAP_WRITE (R676): Writing TIME_SNAP latches the selected bases at one tick. -/
  | timeSnapWrite (val : W32)
  /-- PTP_MESSAGE_RX (R654): The agent receives a PTP message and steps or steers its base. -/
  | ptpMessageRx (p : Fin 128) (msg : PtpMsg)
  /-- PTP_SYNC_TIMEOUT (R657): 3 Sync intervals without a usable Sync clear LOCKED. -/
  | ptpSyncTimeout (b : Fin 4)
  /-- PTP_SYNC_INTERVAL (R655): A master port sends Sync and Pdelay each interval. -/
  | ptpSyncInterval (p : Fin 128)
  /-- TRIGGER_ENABLE (R667): Setting ENABLE of a trigger unit computes its first fire time. -/
  | triggerEnable (u : Fin 8) (val : W32)
  /-- TRIGGER_FIRE (R669): A trigger unit fires, drives PPS_OUT, starts conversions and writes MARKER. -/
  | triggerFire (u : Fin 8)
  /-- TS_CAP_EDGE (R675): An edge on TS_CAP captures its base's value. -/
  | tsCapEdge (n : Fin 4) (falling : Bool)
  /-- JOURNAL_WRITE (R709): Records in the on-die ring are written to the journal within 10 ms. -/
  | journalWrite
  /-- CHECKPOINT (R716): Every 60 s a checkpoint block is written. -/
  | checkpoint
  /-- HEARTBEAT_SEND (R573): Every 250 µs a member sends a HEARTBEAT. -/
  | heartbeatSend
  /-- HEARTBEAT_RX (R571): A HEARTBEAT arrives and a newer active epoch may be adopted. -/
  | heartbeatRx (h : DuetHdr) (role : Fin 4) (health : W32) (pinOut : Bool)
  /-- HEARTBEAT_LOSS (R573): No valid HEARTBEAT for 1,000 µs or the link goes down. -/
  | heartbeatLoss
  /-- HEARTBEAT_GIVE_UP (R588): FAILOVER_IN_N stays low for 1 ms after heartbeat loss; the standby enters
  SYNCING. -/
  | heartbeatGiveUp
  /-- FAILOVER_IN_HIGH (R588): FAILOVER_IN_N high for 50 µs makes the standby take over. -/
  | failoverInHigh
  /-- FAILOVER_IN_FALL (R561): FAILOVER_IN_N falls; within 100 µs of own assertion the member mutes again. -/
  | failoverInFall
  /-- HOLDOFF_EXPIRY (R561): A SOLO member's hold-off ends and it asserts FAILOVER_OUT_N and transmits. -/
  | holdoffExpiry
  /-- FAULT_RX (R588): A FAULT message arrives at the standby. -/
  | faultRx (h : DuetHdr) (cause : Fin 5)
  /-- STEP_DOWN_RX (R593): A STEP_DOWN arrives and the member enters SYNCING. -/
  | stepDownRx (h : DuetHdr)
  /-- SWITCH_RX (R596): A SWITCH arrives and the standby performs takeover steps 1–4. -/
  | switchRx (h : DuetHdr) (epoch : W32)
  /-- SWITCH_ACK_RX (R596): SWITCH_ACK arrives and the old active releases its pin. -/
  | switchAckRx (h : DuetHdr) (epoch : W32)
  /-- UNPAIR_RX (R597): An UNPAIR arrives and the member becomes SOLO. -/
  | unpairRx (h : DuetHdr)
  /-- HELLO_RX (R566): A peer's HELLO arrives and is checked for pairing. -/
  | helloRx (hello : Hello)
  /-- CONFIRM_RX (R567): A peer's CONFIRM arrives and pairing completes with roles assigned. -/
  | confirmRx (h : DuetHdr) (digest : Bytes)
  /-- MIRROR_RX (R578): A standby applies a MIRROR message in SEQ order and acknowledges it. -/
  | mirrorRx (h : DuetHdr) (desc buf : Bytes)
  /-- MIRROR_ACK_RX (R577): A MIRROR_ACK lets the active post the mirrored command's completion. -/
  | mirrorAckRx (h : DuetHdr) (seq : Nat) (failed : Bool)
  /-- MIRROR_ACK_TIMEOUT (R577): No MIRROR_ACK within 2 ms; the active sends STEP_DOWN and declares PEER_LOST. -/
  | mirrorAckTimeout
  /-- PEER_LOST_WAIT (R590): 1.5 ms after PEER_LOST the active grants marks itself. -/
  | peerLostWait
  /-- BULK_MIRROR_START (R594): With a SYNCING peer and heartbeats both ways, the active starts a bulk mirror. -/
  | bulkMirrorStart
  /-- BULK_END_RX (R594): BULK_END arrives and the SYNCING member becomes STANDBY. -/
  | bulkEndRx (h : DuetHdr)
  /-- MARK_RX (R579): A standby records a reservation mark and acknowledges it. -/
  | markRx (h : DuetHdr) (marks : List (Nat × Nat))
  /-- MARK_ACK_RX (R579): A MARK_ACK makes the requested mark current on the active. -/
  | markAckRx (h : DuetHdr) (seq : Nat)
  /-- PN_RESYNC_RX (R585): A standby aligns its SA PNs from a PN_RESYNC. -/
  | pnResyncRx (h : DuetHdr) (triples : List (Nat × Nat × W64))
  /-- ANCHOR_RX (R584): An ANCHOR starts comparison on a port at the matching frame. -/
  | anchorRx (h : DuetHdr) (port : Fin 128) (ref : W64) (window : Nat)
  /-- TURN_INTENT_RX (R244): A standby starts holding a turning SC's frames on a turn intent. -/
  | turnIntentRx (h : DuetHdr) (sc : Fin 65536) (an : Fin 4)
  /-- TURN_CUT_RX (R244): A standby places held frames by the active's cut counts. -/
  | turnCutRx (h : DuetHdr) (sc : Fin 65536) (cuts : List (Fin 128 × Nat))
  /-- SHADOW_HOLD_TIMEOUT (R245): No cut within SHADOW_HOLD_US; frames are placed by own tick and the window
  voided. -/
  | shadowHoldTimeout (sc : Fin 65536)
  /-- DIGEST_RX (R585): A peer's window digest arrives and is compared with the own one. -/
  | digestRx (h : DuetHdr) (kind : Fin 2) (index : Fin 16384) (window : Nat) (digest : W64) (void : Bool)
  /-- MISMATCH_RX (R586): A MISMATCH arrives and the member starts its proof run. -/
  | mismatchRx (h : DuetHdr) (kind : Fin 2) (index : Fin 16384) (window : Nat)
  /-- PROOF_RESULT_RX (R587): Both proof results are known and the disagreement outcome applies. -/
  | proofResultRx (h : DuetHdr) (flags : Byte)
  /-- SELFTEST_STEP (R598): Every 400 ms the standby self-test advances to the next press. -/
  | selftestStep (found : ProofFindings)
  /-- HEALTH_WORD_UPDATE (R599): Every 100 ms the health word is computed. -/
  | healthWordUpdate
  /-- DL_STATE (R739): A duet-link bring-up stage completes and the link advances. -/
  | dlState (locked : BitVec 4)
  /-- DL_DETECT_RETRY (R739): Every 10 ms while absent, receiver termination detection is repeated. -/
  | dlDetectRetry (present : Bool)
  /-- DL_LINK_DOWN (R741): A data lane loses block lock or the peer's termination disappears. -/
  | dlLinkDown
  /-- DL_CLOCK_LOSS (R740): The forwarded clock stops for 20 ns and the receiver moves to the recovered clock. -/
  | dlClockLoss
  /-- DL_CLOCK_RETURN (R740): After 1 ms of clean clock the receiver returns to the forwarded clock. -/
  | dlClockReturn
  /-- POWER_ARBITER_TICK (R755): Every 1 µs the arbiter grants current and throttles in step order. -/
  | powerArbiterTick (demand : Fin 2048)
  /-- THROTTLE_RELEASE (R755): With demand 2 W below budget, one step is released per millisecond. -/
  | throttleRelease
  /-- LIMITER_STEP (R756): Every 100 µs the admission cap falls or rises by 1 %. -/
  | limiterStep
  /-- BUDGET_UNMET (R757): Once per second while demand exceeds budget with nothing to cap. -/
  | budgetUnmet
  /-- PWR_BUDGET_WRITE (R755): Writing PWR_BUDGET sets the budget the arbiter meets. -/
  | pwrBudgetWrite (val : W32)
  /-- HOLD_ENTER (R760): Writing HOLD = 1 stops traffic and powers the data path down. -/
  | holdEnter (val : W32)
  /-- HOLD_EXIT (R760): Writing HOLD = 0 restores the data path within 1.2 s. -/
  | holdExit (val : W32)
  /-- THERMAL_WARN (R764): PWR_TJ reaches TJ_WARN and one warning is written per excursion. -/
  | thermalWarn (tj : Fin 65536)
  /-- PRS_SECY_PN_THRESH_HI_WRITE (R216): Writing the high threshold register makes the SecY's PN threshold
  take effect. -/
  | prsSecyPnThreshHiWrite (n : Fin 1024) (val : W32)
  /-- GROUP_PLL_RELOCK (R738): A lane group's PLL regains lock, its GLB_CLK_STATUS bit is set again and its
  ports restart bring-up at stage 1. -/
  | groupPllRelock (g : Fin 8)
  /-- STATS_WRITEBACK (R217): At least once every second the on-die statistics of cached SA contexts are
  written to DDR4. -/
  | statsWriteback
  /-- DQS_DRIFT_TRACKING (R526): Every 100 ms each DDR4 channel's DQS drift is tracked, holding the channel
  for at most 1 µs. -/
  | dqsDriftTracking
  /-- KBYTES_ACCEPTED (R318): The same K1 and K2 received in 3 consecutive SDH frames update RX_K1, RX_K2 and
  write KBYTES. -/
  | kbytesAccepted (p : Fin 128) (k1 k2 : Byte)
  /-- DISAGREE_PROOF_RUN_DONE (R586): A member's own disagreement proof run ends within 12 ms and it sends
  PROOF_RESULT. -/
  | disagreeProofRunDone (found : ProofFindings)
  /-- FAILOVER_IN_RISE (R561): FAILOVER_IN_N goes high, starting a SOLO member's hold-off and letting a
  takeover assert its pin. -/
  | failoverInRise
  /-- SWITCH_ACK_TIMEOUT (R596): SWITCH_ACK has not come within 2 ms and DUET_SWITCHOVER completes with
  BUSY_REFERENCED. -/
  | switchAckTimeout
  /-- NEWER_EPOCH_HOLD_TIMEOUT (R571): A duet-link message held for a newer epoch that has not been adopted
  within 1 ms is discarded and counted. -/
  | newerEpochHoldTimeout
  /-- STANDBY_TURN_HOLD_START (R244): 20 µs before T of a scheduled turn a SHADOW standby starts holding the
  turning SC's frames at stage 6. -/
  | standbyTurnHoldStart (group : Fin 4096)
  /-- PPS_PULSE_END (R670): WIDTH ns after a fire PPS_OUT returns to inactive, or ends a pulse in progress
  after ENABLE is cleared. -/
  | ppsPulseEnd (u : Fin 8)
  /-- ENTROPY_HEALTH_FAIL (R513): A continuous repetition count or adaptive proportion test fails and stops
  the DRBG. -/
  | entropyHealthFail (cause : Fin 4)
  /-- RCLK_SQUELCH_RELEASE (R747): 1 ms after CDR lock returns on its source lane, RCLK_OUT stops being held
  low and SQUELCHED clears. -/
  | rclkSquelchRelease (n : Fin 2)
  /-- STAGED_FRAME_EGRESS (R147): In LINK a staged frame starts leaving its egress port once four cells are
  staged and the port is granted, or at a PTP launch time. -/
  | stagedFrameEgress (p : Fin 128)
  /-- BLOCKED_DDR4_ACCESS (R529): A debug or internal DMA access to DDR4 is blocked, counted in MEM_BLOCKED
  and reported by MEM_BLOCKED_ACCESS. -/
  | blockedDdr4Access (master : Fin 2) (addr : W64) (write : Bool)
  deriving DecidableEq, Repr

end Sys2Proof
end

