-- ==== Sys2Proof/Config.lean ====
section
/-!
DEFINITION. What the spec leaves to the standards it cites, and its free values. The cryptographic primitives are those
of the standards named; the spec states none of their values, so each is an uninterpreted function and no proof can rest
on one of its values (log 1). The random bit generator and the values the spec leaves open are free values (log 2).
-/
namespace Sys2Proof.Config

/-- AES encryption of one 16-byte block (key of 16 or 32 bytes). -/
opaque aesBlock (key block : Bytes) : Bytes
/-- GHASH under H of the data (NIST SP 800-38D). -/
opaque ghash (h data : Bytes) : Bytes
/-- Parity of the 239 information bytes of an RS(255,239) codeword, and the codeword within 8 symbols of a received one
(ITU-T G.709 Annex A). -/
opaque rsParity (info : Bytes) : Bytes
opaque rsDecode (word : Bytes) : Option Bytes
/-- The evaluation of ITU-T G.806: `errors` errored blocks of `blocks` exceed the threshold 10^-exp. -/
opaque berExceeds (exp errors blocks : Nat) : Bool
/-- AES-CMAC (NIST SP 800-38B), 16 bytes. -/
opaque cmac (key msg : Bytes) : Bytes
/-- AES key wrap (RFC 3394) and key wrap with padding (RFC 5649). -/
opaque wrap3394 (key data : Bytes) : Bytes
opaque unwrap3394 (key data : Bytes) : Option Bytes
opaque wrap5649 (key data : Bytes) : Bytes
opaque unwrap5649 (key data : Bytes) : Option Bytes
/-- SHA-256, SHA-384 and SHA-512 (FIPS 180-4), chosen by the digest length in bytes. -/
opaque sha (len : Nat) (msg : Bytes) : Bytes
/-- HMAC (FIPS 198-1) with the hash of the given digest length. -/
opaque hmac (len : Nat) (key msg : Bytes) : Bytes

/-- FREE VALUE: byte `i` that the DRBG delivers after reset. -/
opaque drbgByte : Nat → Byte
/-- FREE VALUE: how many of the `n` ticks from `tick` round a base's advance up, where its frequency word `f` gives no
whole number of 2^-64 ns per tick (R646). -/
opaque freqCarry (f : Int) (tick n : Nat) : Nat
/-- FREE VALUE: the full-load demand in W of the profile with this pairing digest input (R759). -/
opaque requiredW (profile : Bytes) : Nat
/-- FREE VALUE: DENSITY that the profile with this pairing digest input gives (R524), less 1 and modulo 3: the spec gives no place in
the profile for it. -/
opaque densityOf (profile : Bytes) : Nat
/-- FREE VALUE: the reason of Table 13-3, less 1 and modulo 7, for which a peer refuses a pairing, at a clock (R565): no message
carries it. -/
opaque peerReason (clock : Nat) : Nat
/-- FREE VALUE: position of a received SCI in bank `w` of its table, whose hash the spec does not name (R392). -/
opaque sciHash (w port : Nat) (sci : W64) : Nat
/-- FREE VALUE: the pick of the eviction LFSR among `n` candidates at the `i`-th eviction (R383). -/
opaque evictPick (i n : Nat) : Nat
/-- FREE VALUE: which of `n` cached lines the memory protection unit puts out at its `i`-th eviction (R538). -/
opaque cacheVictim (i n : Nat) : Nat
/-- FREE VALUE: erasure time in ns that ZEROISED number `i` reports (R644, Table 14-3). -/
opaque eraseNs : Nat → Nat
/-- FREE VALUE: the public key of SLOT_GENERATE with coordinates longer than the `len` bytes of n (R473). -/
opaque shortPoint (len x y : Nat) : Bytes
/-- FREE VALUE: engine time in ticks at which yield point `k` of the check of a curve of `bits` bits comes (R506). -/
opaque curvePoint (bits k : Nat) : Nat
/-- FREE VALUES: H1, H2 and H3 of the AU pointer that the pointer processor generates for an output container, from a clock and a
frame number; and B1 and B2 of a port's frame, the parity of all its bytes (R276): no command gives the frame phases that decide
them. -/
opaque auPointer (key clock frame : Nat) : Nat
opaque sectionParity (port clock frame : Nat) : Bytes
/-- FREE VALUE: link delay in 2^-16 ns that the agent has measured on a port (R662). -/
opaque linkDelay : Nat → Int

/-- FREE VALUES: LANE_TXEQ that a link partner requests in training, and the peaking that a receiver adapts to, for a lane
at a clock (R733, R734). -/
opaque ltTaps (lane clock : Nat) : W32
opaque adaptedPeak (lane clock : Nat) : Nat
/-- FREE VALUES: bits and bit errors that a PRBS checker has counted since its last read, and whether it has locked to the
pattern by read number `i` (R743). -/
opaque prbsBits (i : Nat) : Nat
opaque prbsErrors (i : Nat) : Nat
opaque prbsLocks (i : Nat) : Bool
/-- FREE VALUE: what an 8-bit margin field of LANE_STATUS shows for a figure above 255 (R744). -/
opaque marginField (v : Nat) : Nat
/-- What the clock frequency monitor can find (R40). -/
inductive ClockFinding where
  | lockLost | refclkOff | both
  deriving DecidableEq, Repr, Inhabited

/-- FREE VALUE: what the monitor found at a clock: no field of a CLOCK detection says which (R40). -/
opaque clockFault (clock : Nat) : ClockFinding
/-- FREE VALUE: frequency word to which the PTP agent steers base `b` at clock `t` for this offset (R656). -/
opaque agentFreq (b t : Nat) (offset : Int) : Int

/-- FREE VALUE: the frame, without FCS, of a PTP message of a type that the agent sends on a port at a clock (R655): its
addresses and header fields are those of IEEE 1588. -/
opaque agentFrame (port type domain clock : Nat) : Bytes


/-- FREE VALUE: the P-256 public key, 0x04 || X || Y, that a KEY_HASH fuse names (Table 16-2). A profile does not carry
its signer's key (R685). -/
opaque keyOfHash (hash : Bytes) : Bytes

/-- What the start-up after a write of BOOT_RESET meets, where the command gives no more than the written value: a free
value per power cycle and clock. -/
opaque startUp (powerCycles clock : Nat) : StartUp

end Sys2Proof.Config
end

