-- ==== Sys2Proof/Machine/Bytes.lean ====
section
/-!
DEFINITION. Byte strings: little-endian and network-order fields, padding, bit fields and CRC-32C (R7, R705); sorting of
lists.
-/
namespace Sys2Proof.Machine

/-- Put a value before the first element it may stand before. -/
def insertBy {α : Type} (le : α → α → Bool) (a : α) : List α → List α
  | [] => [a]
  | b :: l => if le a b then a :: b :: l else b :: insertBy le a l

/-- The list in order; equal elements keep theirs. -/
def sortBy {α : Type} (le : α → α → Bool) (l : List α) : List α := l.foldr (insertBy le) []

def sortNats (l : List Nat) : List Nat := sortBy (fun a b => a ≤ b) l

/-- The low `n` bytes of a number, least significant first. -/
def leBytes : Nat → Nat → Bytes
  | 0, _ => []
  | n + 1, v => BitVec.ofNat 8 v :: leBytes n (v / 256)

/-- The low `n` bytes of a number in network order. -/
def beBytes (n v : Nat) : Bytes := (leBytes n v).reverse

def leNat : Bytes → Nat
  | [] => 0
  | b :: bs => b.toNat + 256 * leNat bs

def beNat (bs : Bytes) : Nat := leNat bs.reverse

def zeros (n : Nat) : Bytes := List.replicate n 0#8

/-- Exactly `n` bytes: cut, or filled with zeros at the end. -/
def fit (n : Nat) (bs : Bytes) : Bytes := (bs ++ zeros n).take n

/-- The bytes at offsets `lo` to `lo + n - 1`; bytes past the end read 0. -/
def slice (bs : Bytes) (lo n : Nat) : Bytes := fit n (bs.drop lo)

def byteAt (bs : Bytes) (i : Nat) : Byte := (bs[i]?).getD 0#8

/-- A little-endian field of `n` bytes at offset `lo`. -/
def leField (bs : Bytes) (lo n : Nat) : Nat := leNat (slice bs lo n)

/-- A network-order field of `n` bytes at offset `lo`. -/
def beField (bs : Bytes) (lo n : Nat) : Nat := beNat (slice bs lo n)

/-- Zero padding up to a multiple of `m`. -/
def padTo (m : Nat) (bs : Bytes) : Bytes := bs ++ zeros ((m - bs.length % m) % m)

def allZero (bs : Bytes) : Bool := bs.all (fun b => b == 0#8)

def xorBytes (a b : Bytes) : Bytes := List.zipWith (fun x y => x ^^^ y) a b

/-- Bits `hi` down to `lo` of a number. -/
def bitsNat (v hi lo : Nat) : Nat := v / 2 ^ lo % 2 ^ (hi + 1 - lo)

/-- Bits `hi` down to `lo` of a register word, as a number. -/
def bits (w : W32) (hi lo : Nat) : Nat := bitsNat w.toNat hi lo

def bit (w : W32) (i : Nat) : Bool := w.getLsbD i

/-- A register word with `v` placed in bits `hi` down to `lo` and 0 elsewhere. -/
def place (hi lo v : Nat) : W32 := BitVec.ofNat 32 (v % 2 ^ (hi + 1 - lo) * 2 ^ lo)

/-- A register word with bits `hi` down to `lo` set. -/
def mask (hi lo : Nat) : W32 := BitVec.ofNat 32 ((2 ^ (hi + 1 - lo) - 1) * 2 ^ lo)

def flagAt (i : Nat) (b : Bool) : W32 := if b then BitVec.ofNat 32 (2 ^ i) else 0#32

def w32 (n : Nat) : W32 := BitVec.ofNat 32 n

/-- One bit of the reflected CRC-32C. -/
def crcStep (c : W32) : W32 :=
  if c.getLsbD 0 then (c >>> 1) ^^^ 0x82F63B78#32 else c >>> 1

def crcByte (c : W32) (b : Byte) : W32 :=
  crcStep (crcStep (crcStep (crcStep (crcStep (crcStep (crcStep (crcStep (c ^^^ b.setWidth 32))))))))

/-- CRC-32C: reflected, initial value and final XOR 0xFFFF_FFFF (R705). -/
def crc32c (bs : Bytes) : W32 := (bs.foldl crcByte 0xFFFFFFFF#32) ^^^ 0xFFFFFFFF#32

/-- One bit of CRC-64 with the ECMA-182 polynomial, not reflected. -/
def crc64Step (c : W64) : W64 := if c.getLsbD 63 then (c <<< 1) ^^^ 0x42F0E1EBA9EA3693#64 else c <<< 1

def crc64Byte (c : W64) (b : Byte) : W64 :=
  let x := c ^^^ (b.setWidth 64 <<< 56)
  crc64Step (crc64Step (crc64Step (crc64Step (crc64Step (crc64Step (crc64Step (crc64Step x)))))))

/-- crc64 of R582: initial value 0. -/
def crc64 (bs : Bytes) : W64 := bs.foldl crc64Byte 0#64

/-- The whole numbers from `lo` up, `n` of them. -/
def upFrom (lo n : Nat) : List Nat := (List.range n).map (fun i => lo + i)

end Sys2Proof.Machine
end

