-- ==== Sys2Proof/Machine/State.lean ====
section
/-!
DEFINITION. The state of the device: one record per block of Table 1-1, the set-up registers, the counters, the fuses
and the queue of commands that wait. Plain data only. Register fields that the host writes stand in `Device.regs`;
the read-only fields are computed from this state (Machine/Flags.lean).
-/
namespace Sys2Proof.Machine

/-! ## Enumerations -/

/-- The orderable part (R2, Table 0-1). -/
inductive Part where
  | lvt1600E | lvt1600C | lvt0800E
  deriving DecidableEq, Repr

/-- The operating modes in the order of their codes (R17, Table 1-3). -/
inductive Mode where
  | provision | link | aggregate | otn | sdh | mixed | maintain | locked
  deriving DecidableEq, Repr

/-- The Duet roles in the order of their codes (R30). -/
inductive Role where
  | solo | active | standby | syncing
  deriving DecidableEq, Repr

/-- The status codes (R107, Table 2-12). -/
inductive Status where
  | ok | badOpcode | badField | badIndex | noRoom | busyReferenced | keySlotBad | keyStale | keyAttrDenied
  | lengthError | inputRejected | aborted | abortedZeroise | roleStale | modeDenied | internal
  deriving DecidableEq, Repr

/-- The event sources in the order of their codes 0x01-0x10 (R708, Table 17-2). -/
inductive Source where
  | tamper | battery | duet | memory | key | macsec | framer | tsi | forward | galley | lane | time | boot | power
  | host | service
  deriving DecidableEq, Repr

/-- 64 and 16 zero bytes. -/
def zeroString : Bytes := List.replicate 64 0#8
def zeroTag : Bytes := List.replicate 16 0#8

/-! ## What the device sends out -/

/-- One act of the device that leaves it. -/
inductive Out where
  /-- a posted write to host memory with the requester ID of function `fn` (R71, R82) -/
  | hostWrite (fn : Nat) (addr : W64) (data : Bytes)
  /-- an MSI-X vector raised (R96) -/
  | interrupt (vector : Nat)
  /-- a frame on an egress port; `stomped` says that it ends with an inverted or stomped FCS -/
  | frame (port : Nat) (data : Bytes) (stomped : Bool)
  /-- a Knadra superframe sent on an association (R334) -/
  | superframe (assoc : Nat) (fields payload tag : Bytes)
  /-- deciphered payload of an association's superframe, delivered toward the client (R340) -/
  | clear (assoc : Nat) (payload : Bytes)
  /-- frames of a superframe period on an output: the rows of an OTN port with their FEC bytes; or, of the SDH container at
  slot index `slot`, the section bytes J0, K1, K2, M1, the path overhead and the payload (R275, R276, R298, R324-R326) -/
  | frames (port slot : Nat) (frames : List Bytes)
  /-- AIS on an output for a superframe period: ODUk-AIS, or on the SDH container at slot index `slot` AU-AIS, or MS-AIS on
  its port, with K1 and K2 as sent (R288, R290, R557) -/
  | ais (port slot : Nat) (kbytes : Bytes)
  /-- a duet-link message as it goes on the wire (R569) -/
  | duet (message : Bytes)
  /-- a PTP message sent by the agent (R655) -/
  | ptp (port : Nat) (message : Bytes)
  /-- a level change of an output pin -/
  | pin (name : String) (level : Bool)
  deriving DecidableEq, Repr

/-! ## Commands of the rings (02) -/

/-- Where a descriptor came from and what its completion needs (R75, R88). -/
structure Origin where
  ring : Nat
  fn : Nat
  tag : Nat
  /-- the FLAGS byte of the descriptor -/
  flags : Byte
  /-- position of the descriptor among those fetched from its ring -/
  order : Nat
  /-- function resets of the ring before the fetch (R61) -/
  epoch : Nat
  bufAddr : Nat
  bufLen : Nat
  /-- completion rings disabled before the fetch, on all rings (R74) -/
  offs : Nat := 0
  /-- clock of the fetch -/
  fetched : Nat := 0
  deriving DecidableEq, Repr

/-- A completion that has fallen due but is not written: its ring is full (R90) or its mirror ack is out (R577). -/
structure Due where
  origin : Origin
  status : Status
  /-- RESULT bytes 8-23 -/
  result : Bytes
  wroteBuf : Bool
  /-- operating time in ns at the commit point or job end -/
  time : Nat
  deriving DecidableEq, Repr

structure Fetched where
  order : Nat
  desc : Bytes
  /-- `Hif.cqOffs` at the fetch -/
  offs : Nat := 0
  /-- clock of the fetch -/
  at_ : Nat := 0
  deriving DecidableEq, Repr

/-- A command ring (R73, R83, R99): HEAD, TAIL, fetched descriptors that have not begun, and posting order. -/
structure CmdRing where
  head : Nat := 0
  tail : Nat := 0
  fetched : List Fetched := []
  nextOrder : Nat := 0
  /-- one more than the greatest order whose completion has been posted (QUEUED of Table 2-5) -/
  postedTo : Nat := 0
  /-- function resets that have discarded the ring's commands (R61) -/
  epoch : Nat := 0
  deriving DecidableEq, Repr

/-- A completion ring (R88-R90, R98). -/
structure CqRing where
  head : Nat := 0
  write : Nat := 0
  /-- PHASE of the next entry (R89) -/
  phase : Bool := true
  /-- entries posted since the last interrupt -/
  unsignalled : Nat := 0
  /-- clock of the first entry not yet signalled -/
  firstAt : Nat := 0
  /-- clock at which the ring became full with work stalled on it -/
  stallSince : Option Nat := none
  due : List Due := []
  /-- `Hif.cqOffs` after the ring was last disabled (R74) -/
  offNo : Nat := 0
  deriving DecidableEq, Repr

/-- An event ring (R91-R94) or the sample ring (R95); byte offsets, or entry indices for the sample ring. -/
structure EvRing where
  head : Nat := 0
  tail : Nat := 0
  lost : W32 := 0#32
  /-- lost since the last EVENTS_UNDELIVERED record (R722) -/
  unreported : Nat := 0
  deriving DecidableEq, Repr

/-- An accepted queued command, or an executed one whose completion waits for its mirror ack. -/
structure Inflight where
  origin : Origin
  opcode : Nat
  /-- its commit point has passed (R78) -/
  committed : Bool
  deriving DecidableEq, Repr

/-- An executed ABORT whose completion waits until the aborted command's is posted (R105): the completion ring and the
origin it waits for, and its own completion. -/
structure AbortWait where
  cq : Nat
  target : Origin
  due : Due
  deriving DecidableEq, Repr

structure Hif where
  cmd : Tbl CmdRing := []
  cq : Tbl CqRing := []
  ev : Tbl EvRing := []
  sample : EvRing := {}
  /-- rotating pointer of the fetch engine (R85) -/
  fetchPtr : Nat := 0
  /-- rotating pointer of the doorbells (R86) -/
  bellPtr : Nat := 0
  /-- rotating pointer of rank-3 grants (R51) -/
  grantPtr : Nat := 0
  /-- per-function counter latch: index and high half (R69) -/
  latch : Tbl (Nat × W32) := []
  inflight : List Inflight := []
  abortWaits : List AbortWait := []
  /-- completion rings disabled since reset, counted over all rings (R74) -/
  cqOffs : Nat := 0
  /-- PCIE_SRIS as sampled at the last release of RESET_N (R746) -/
  sris : Bool := false
  /-- MSI-X vectors raised and not cleared by a function reset -/
  raised : List Nat := []
  /-- the PCIe data link layer is active; negotiated width and speed codes (R57, Table 2-10) -/
  linkUp : Bool := false
  width : Nat := 0
  speed : Nat := 0
  deriving DecidableEq, Repr

/-! ## Global state (01) -/

structure Glb where
  part : Part := .lvt1600E
  mode : Mode := .provision
  sealed : Bool := false
  profileIdx : Nat := 0
  /-- `none` until start-up step 7 begins; then the clock at which the data path is ready at the latest (R695) -/
  bringUpEnds : Option Nat := none
  rootLock : Bool := false
  refclkOk : Bool := false
  duetPll : Bool := false
  groupPll : BitVec 8 := 0#8
  /-- the root PLL and the PLL of each used lane group have reported lock (R39) -/
  awake : Bool := false
  /-- SHA-256 over every register with an RWL field as it stood at GLB_SEAL (R477); empty before -/
  configDigest : Bytes := []
  deriving DecidableEq, Repr

/-! ## Profile, flash and fuses (16) -/

/-- A port-map entry (R684, Table 16-6). -/
structure PortCfg where
  firstLane : Nat
  lanes : Nat
  type : Nat
  line : Bool
  partner : Nat
  flags : Nat
  deriving DecidableEq, Repr

/-- One SOURCE entry of the sensor section (Table 16-7). -/
structure Sensor where
  response : Nat
  n : Nat
  w : Nat
  deriving DecidableEq, Repr

/-- What a profile fixes, read from its image (R684). -/
structure Profile where
  signer : Nat := 0
  version : Nat := 0
  mode : Mode := .provision
  style : Nat := 0
  family : Nat := 0
  oversub : Nat := 100
  budget : Nat := 50
  /-- personality of each lane group -/
  groups : List Nat := [0, 0, 0, 0, 0, 0, 0, 0]
  ports : Tbl PortCfg := []
  sensors : List Sensor := []
  thresh : Nat := 5
  /-- the bytes the pairing digest covers (R686) -/
  digestInput : Bytes := []
  deriving DecidableEq, Repr

/-- An image region: the image and its install tag (R678, R687). -/
structure Region where
  image : Bytes
  tag : Bytes
  deriving DecidableEq, Repr

/-- The enrolment record (R689). -/
structure Enrolment where
  authority : Bytes
  cert : Bytes
  tag : Bytes
  deriving DecidableEq, Repr

/-- A sealed copy of the revocation bitmap (R517): SEQ, member numbers set, tag. -/
structure RevCopy where
  seq : Nat
  members : List Nat
  tag : Bytes
  deriving DecidableEq, Repr

/-- A journal block (R712, Table 17-3). -/
structure Block where
  /-- offset in the journal partition -/
  offset : Nat
  kind : Nat
  powerCycles : Nat
  seq : Nat
  content : Bytes
  tag : Bytes
  deriving DecidableEq, Repr

structure Flash where
  /-- 0 128 Mbit, 1 256 Mbit, 2 512 Mbit -/
  size : Nat := 2
  suppA : Option Region := none
  suppB : Option Region := none
  profiles : Tbl Region := []
  enrolment : Option Enrolment := none
  revocation : List RevCopy := []
  journal : List Block := []
  /-- next write offset in the journal partition, and next BLOCK_SEQ -/
  writePos : Nat := 0
  nextBlock : Nat := 0
  deriving DecidableEq, Repr

/-- The fuses (R679, Table 16-2). -/
structure Fuses where
  key : Bytes
  dieId : W64
  keyHash : List Bytes
  revoke : BitVec 4
  /-- blown bits of the ROLLBACK thermometer -/
  rollback : Nat
  field : Bool
  debugKill : Bool
  deriving DecidableEq, Repr

/-- An install that has been accepted and waits for the flash (R692, R694). -/
structure Install where
  origin : Origin
  /-- SLOT or INDEX -/
  index : Nat
  advance : Bool
  revoke : Nat
  image : Bytes
  deriving DecidableEq, Repr

/-- A DOMAIN_ENROL that has been accepted (R690). -/
structure Enrol where
  origin : Origin
  enterField : Bool
  debugKill : Bool
  buf : Bytes
  deriving DecidableEq, Repr

/-- A PROFILE_SELECT in progress (R700): its command, the index and the new profile, the restart time in us, and the clock
at which it ends. -/
structure Restart where
  origin : Origin
  index : Nat
  profile : Profile
  us : Nat
  ends : Nat
  deriving DecidableEq, Repr

structure Boot where
  flash : Flash := {}
  profile : Profile := {}
  step : Nat := 3
  /-- start-up has ended (R697) -/
  ended : Bool := false
  pins : Nat := 0
  enrolled : Bool := false
  /-- 0 A, 1 B, 2 none -/
  suppSlot : Nat := 0
  suppVersion : Nat := 0
  aFailed : Bool := false
  foreignImage : Bool := false
  profileOk : Bool := false
  suppFail : Nat := 0
  profileFail : Nat := 0
  suppInstall : Option Install := none
  profInstall : Option Install := none
  enrol : Option Enrol := none
  /-- the warm restart in progress: GLB_STATE.RESTART (R54) -/
  restart : Option Restart := none
  deriving DecidableEq, Repr

/-! ## Recorder (17) -/

/-- An event record in the on-die ring (R705, R709). -/
structure EvRec where
  source : Source
  type : Nat
  seq : W32
  powerCycles : W32
  opTimeUs : Nat
  /-- DOMAIN_TIME when base 0 was locked (R706) -/
  domain : Option Bytes
  payload : Bytes
  /-- copied to its event ring or found none enabled; written to the journal -/
  delivered : Bool
  journalled : Bool
  deriving DecidableEq, Repr

structure Recorder where
  /-- on-die ring, oldest first -/
  ring : List EvRec := []
  /-- SEQ of the next record of each source, by code (R707) -/
  nextSeq : Tbl W32 := []
  powerCycles : W32 := 0#32
  /-- operating time in ns (R716, R88) -/
  opTime : Nat := 0
  journalReady : Bool := false
  opUnverified : Bool := false
  opHiLatch : W32 := 0#32
  /-- per source: first SEQ lost, records lost, clock of the last RECORDS_DROPPED + 1 (R710) -/
  dropped : Tbl (Nat × Nat × Nat) := []
  lfsr : W32 := 1#32
  deriving DecidableEq, Repr

/-! ## Duet (13) -/

/-- A DUET_PAIR in progress (R564-R566). -/
structure Pairing where
  origin : Origin
  peer : Nat
  waitS : Nat
  started : Nat
  nonce : Bytes
  scalar : Bytes
  /-- link key, pair key, role epoch of the peer and pair member number, once the peer's HELLO has been accepted -/
  hello : Option (Bytes × Bytes × W32 × Nat) := none
  /-- how pairing ended, once it has: reason of Table 13-3 and the peer's reason -/
  outcome : Option (Nat × Nat) := none
  deriving DecidableEq, Repr

/-- A mirrored command whose MIRROR_ACK is out (R577). -/
structure MirrorWait where
  seq : Nat
  sent : Nat
  due : Due
  /-- the slot that an engine job has written -/
  slot : Option Nat := none
  deriving DecidableEq, Repr

/-- A reservation mark: the first number that may not be used, and the outstanding request with its SEQ (R579, R580). -/
structure Mark where
  mark : Nat
  pend : Option (Nat × Nat)
  deriving DecidableEq, Repr

/-- An open window of a digest stream (R582): sum of the values so far, how many, void, the transmit SAs it carried. -/
structure Window where
  sum : W64 := 0#64
  valued : Nat := 0
  void : Bool := false
  sas : List Nat := []
  deriving DecidableEq, Repr

/-- A digest stream (R582-R584): anchored, the window that arriving frames join, how many have joined it, and the windows
that have not closed. -/
structure Digest where
  anchored : Bool := false
  window : Nat := 0
  arrived : Nat := 0
  opened : Tbl Window := []
  deriving DecidableEq, Repr

/-- A closed window waiting for the other member's digest (R585). -/
structure Closed where
  kind : Nat
  index : Nat
  window : Nat
  sum : W64
  void : Bool
  /-- the transmit SAs the window carried -/
  sas : List Nat
  deriving DecidableEq, Repr

/-- An entry of the recent-frame history (R584), with the value its frame added to its window, once known. -/
structure Seen where
  ref : W64
  sa : Nat
  pn : Nat
  at_ : Nat
  no : Nat
  val : Option W64
  deriving DecidableEq, Repr

/-- The duet-link messages of Table 13-5 that follow CONFIRM and reach a receiver, with their payloads. -/
inductive DuetMsg where
  | beat (role : Role) (health : W32) (pin : Bool)
  | fault (cause : Nat)
  | stepDown
  | switch (epoch : W32)
  | unpair
  | switchAck (epoch : W32)
  | mirror (desc buf : Bytes)
  | mirrorAck (seq : Nat) (failed : Bool)
  | bulkEnd
  | mark (marks : List (Nat × Nat))
  | markAck (seq : Nat)
  | resync (triples : List (Nat × Nat × W64))
  | turnIntent (sc an : Nat)
  | turnCut (sc : Nat) (cuts : List (Nat × Nat))
  | digest (c : Closed)
  | anchor (port : Nat) (ref : W64) (window : Nat)
  | mismatch (kind index window : Nat)
  | proofResult (flags : Nat)
  deriving DecidableEq, Repr

/-- A duet-link message held until its newer epoch is adopted (R571). -/
structure HeldMsg where
  msg : DuetMsg
  epoch : W32
  seq : Nat
  arrived : Nat
  deriving DecidableEq, Repr

/-- A disagreement in progress (R586, R587): pass flags once known. -/
structure Disagree where
  started : Nat
  own : Option Nat
  peer : Option Nat
  deriving DecidableEq, Repr

/-- A takeover whose pin waits for FAILOVER_IN_N to be high (R591 step 4): sign, fault cause, frames dropped. -/
structure Takeover where
  sign : Nat
  cause : Nat
  dropped : Nat
  deriving DecidableEq, Repr

/-- A DUET_SWITCHOVER that waits for SWITCH_ACK (R596). -/
structure Switching where
  origin : Origin
  epoch : W32
  sent : Nat
  /-- SWITCH_ACK has come -/
  acked : Bool := false
  deriving DecidableEq, Repr

structure Duet where
  role : Role := .solo
  epoch : W32 := 0#32
  /-- FAILOVER_OUT_N asserted (driven low); FAILOVER_IN_N low -/
  pinOut : Bool := false
  pinInLow : Bool := false
  /-- clock since which FAILOVER_IN_N has been high -/
  pinInHighSince : Nat := 0
  /-- start of the hold-off, its lengthening in ns, and the clock of the last own assertion (R561) -/
  holdStart : Option Nat := none
  holdExtra : Nat := 0
  assertedAt : Nat := 0
  pairing : Option Pairing := none
  /-- a HELLO that has come while no DUET_PAIR was pending (R565) -/
  early : Option Hello := none
  linkKey : Option Bytes := none
  pairKey : Option Bytes := none
  /-- CONFIRM has been exchanged on an active link -/
  confirmed : Bool := false
  pairMember : Option Nat := none
  peerMember : Option Nat := none
  txSeq : Nat := 1
  rxSeq : Nat := 0
  /-- clocks of recent discards (R570) -/
  discards : List Nat := []
  held : List HeldMsg := []
  lastBeat : Nat := 0
  beatLost : Bool := false
  /-- clock of the heartbeat loss a standby is waiting out (R588) -/
  lossAt : Option Nat := none
  peerLost : Bool := false
  peerLostAt : Nat := 0
  /-- marks are granted without an ack (R581, R590) -/
  selfGrant : Bool := false
  peerRole : Role := .solo
  ownHealth : W32 := 0#32
  peerHealth : W32 := 0#32
  waits : List MirrorWait := []
  marks : Tbl Mark := []
  knMarks : Tbl Mark := []
  /-- a SYNCING member: start of the bulk mirror, objects applied, and a message that could not be applied (R578) -/
  bulkAt : Option Nat := none
  bulkObjects : Nat := 0
  bulkBad : Bool := false
  /-- the ACTIVE member has sent the snapshot to the present SYNCING peer (R594) -/
  bulkSent : Bool := false
  syncPct : Nat := 0
  /-- keyed by the Ethernet ingress port, and by 128 + association -/
  digests : Tbl Digest := []
  ownClosed : List Closed := []
  peerClosed : List Closed := []
  history : Tbl (List Seen) := []
  /-- ports whose next arriving frame the active anchors (R584) -/
  anchorNext : List Nat := []
  disagree : Option Disagree := none
  /-- self-test cycle: press under test, failures so far, cycles completed, last complete cycle passed (R598) -/
  testPress : Option Nat := none
  testFailed : Bool := false
  cycles : Nat := 0
  lastCycleOk : Bool := false
  /-- one more than the clock of the last press fault or failed sweep (R599) -/
  faultAt : Nat := 0
  takeover : Option Takeover := none
  switching : Option Switching := none
  deriving DecidableEq, Repr

/-! ## Key store (10) -/

/-- A service key slot (R448, Table 10-2). -/
structure Slot where
  /-- 0 empty, 1 in use, 2 bad -/
  state : Nat := 0
  key : Bytes := []
  type : Nat := 0
  len : Nat := 0
  curve : Nat := 0
  attr : W16 := 0#16
  gen : W32 := 0#32
  /-- the GEN it took when it was written -/
  born : W32 := 0#32
  /-- PARENT and PARENT_GEN -/
  parent : Option (Nat × W32) := none
  depth : Nat := 0
  check : W32 := 0#32
  /-- a running job will write it (R484) -/
  reserved : Bool := false
  deriving DecidableEq, Repr

/-- A data-plane key record (R444, R455). -/
structure KeyRec where
  present : Bool := false
  key : Bytes := []
  /-- 0 AES-128, 1 AES-256 -/
  type : Nat := 0
  gen : W32 := 0#32
  check : W32 := 0#32
  deriving DecidableEq, Repr

/-- The derivation tree (R464, Table 10-6). -/
structure Tree where
  root : Bytes
  identity : Bytes
  slotCheck : Bytes
  journal : Bytes
  duetPair : Bytes
  imageSalt : Bytes
  deriving DecidableEq, Repr

/-- The snapshot behind the KEY view registers (R478). -/
structure SlotView where
  info : W32 := 0#32
  gen : W32 := 0#32
  parent : W32 := 0#32
  parentGen : W32 := 0#32
  deriving DecidableEq, Repr

structure Keys where
  slots : Tbl Slot := []
  records : Tbl KeyRec := []
  tree : Option Tree := none
  identityNew : Bool := false
  view : SlotView := {}
  deriving DecidableEq, Repr

/-! ## Services (11) -/

/-- What a job resolved when it started (R461, R484). -/
structure Resolved where
  key : Bytes := []
  type : Nat := 0
  /-- the input key's slot with the GEN and the DEPTH it had, which a slot written by the job records (R459) -/
  slot : Nat := 0
  gen : W32 := 0#32
  depth : Nat := 0
  /-- the wrap key of an export -/
  wrap : Bytes := []
  out : Option Nat := none
  deriving DecidableEq, Repr

/-- An accepted service job: SYM_JOB, SLOT_EXPORT_WRAPPED, PK_JOB, PK_CURVE_LOAD, REVOCATION_UPDATE,
IDENTITY_ATTEST or DRBG_GENERATE. -/
structure Job where
  origin : Origin
  opcode : Nat
  desc : Bytes
  buf : Bytes
  res : Resolved := {}
  /-- its place in acceptance order, and the slots in use or bad that it names with their GEN at acceptance (R461, R483) -/
  number : Nat := 0
  seen : Tbl W32 := []
  /-- clock when it took its engine last, engine time it had spent before in ticks, and yield points passed (R500, R506) -/
  started : Nat := 0
  spent : Nat := 0
  points : Nat := 0
  deriving DecidableEq, Repr

/-- A loaded curve (R503). -/
structure Curve where
  bits : Nat
  cofactor : Nat
  p : Nat
  a : Nat
  b : Nat
  gx : Nat
  gy : Nat
  n : Nat
  deriving DecidableEq, Repr

structure Svc where
  symQueue : List Job := []
  pkQueue : List Job := []
  /-- accepted DRBG_GENERATE jobs; the first is running -/
  drbgQueue : List Job := []
  /-- jobs running on symmetric engines 0, 1 and modular engines 0, 1 -/
  symRun : Tbl Job := []
  pkRun : Tbl Job := []
  /-- per modular engine: the long job that yielded and the short jobs dealt to it (R507) -/
  yielded : Tbl (Job × List Job) := []
  /-- jobs accepted so far -/
  accepts : Nat := 0
  curves : Tbl Curve := []
  drbgReady : Bool := false
  /-- STOP_CAUSE when stopped (R513) -/
  drbgStopped : Option Nat := none
  /-- requests and clock since the last reseed (R511) -/
  drbgRequests : Nat := 0
  reseedAt : Nat := 0
  /-- member numbers revoked, rising (R515), and the last accepted SEQ -/
  revoked : List Nat := []
  revSeq : Nat := 0
  deriving DecidableEq, Repr

/-! ## Protected memory (12) -/

/-- A counter line: major counter and the minors that are not 0 (R535). -/
structure Group where
  major : Nat := 0
  minors : Tbl Nat := []
  deriving DecidableEq, Repr

/-- A quarantine list entry (R542, Table 12-8). -/
structure Quar where
  level : Nat
  node : Nat
  rebuilding : Bool := false
  deriving DecidableEq, Repr

/-- A line of DDR4 as stored, and its 64-bit tag (R532). -/
structure Stored where
  data : Bytes
  tag : Bytes
  deriving DecidableEq, Repr

/-- An accepted MEM_REBUILD: the quarantined nodes and roots it rebuilds (R547). -/
structure Rebuild where
  origin : Origin
  nodes : List Quar
  roots : List Nat
  deriving DecidableEq, Repr

structure Mem where
  /-- DENSITY of the fitted devices: 1 2 Gb, 2 4 Gb, 3 8 Gb (R522); 0 before start-up has read it from the profile (R524) -/
  density : Nat := 0
  trained : BitVec 4 := 0#4
  trainFailed : Bool := false
  hot : BitVec 4 := 0#4
  ready : Bool := false
  memKey : Option Bytes := none
  /-- correctable errors per channel: last full hour, this hour and its start (R553) -/
  ceHour : Tbl Nat := []
  ceNow : Tbl Nat := []
  ceHourStart : Nat := 0
  /-- per channel: errors since the last MEM_CE record, and one more than its clock (R555) -/
  cePending : Tbl (Nat × Nat) := []
  groups : Tbl Group := []
  frozen : List Nat := []
  majorHwm : Nat := 0
  /-- the version of each counter line and node below the top level that its parent holds, keyed by level * 2 ^ 24 + node;
  root registers -/
  versions : Tbl Nat := []
  roots : Tbl Nat := []
  /-- DDR4 by line number (R532): data lines enciphered, counter lines and nodes in the clear, each with its tag. A written
  data line that is not listed holds enciphered zeros, a counter line or node that is not listed its content of R539 -/
  dram : Tbl Stored := []
  /-- counter lines and nodes on die, with the changed ones, by their keys; tag lines on die, with the changed ones, by line
  number (R538); lines that have left both caches so far (the model's own count) -/
  ctrCache : List Nat := []
  ctrDirty : List Nat := []
  tagCache : List Nat := []
  tagDirty : List Nat := []
  evictions : Nat := 0
  /-- poisoned lines, by line number (R541) -/
  poison : List Nat := []
  quar : List Quar := []
  rootQuar : List Nat := []
  /-- deleted SAs whose erasure waits for a rebuild (R546) -/
  eraseLater : List Nat := []
  rebuilds : List Rebuild := []
  deriving DecidableEq, Repr

/-- What a PK_JOB yields; `none` is INPUT_REJECTED (Table 11-6). -/
inductive PkResult where
  | signature (bytes : Bytes)
  | verdict (ok : Bool)
  | secret (x : Bytes)
  | valid
  deriving DecidableEq, Repr

/-! ## Tamper monitors and the battery domain (14) -/

/-- A tamper source's filter state (R610): clocks of its events inside the window, newest first. -/
structure TSource where
  events : List Nat := []
  raised : Bool := false
  raisedAt : Nat := 0
  deriving DecidableEq, Repr

/-- The battery domain (R630-R634); it survives every reset and the loss of the main supplies. -/
structure Batt where
  bbk : Option Bytes := none
  /-- a BBK has been held before (reason of IDENTITY_NEW) -/
  everHeld : Bool := false
  latch : Bool := false
  grant : Bool := false
  signature : Bool := false
  /-- time the counter has run, in ns; COUNT is this at 32.768 kHz -/
  ns : Nat := 0
  log : List W64 := []
  overflow : Nat := 0
  deriving DecidableEq, Repr

structure Tmp where
  batt : Batt := {}
  sources : Tbl TSource := []
  /-- responses and filters in force, sources 0-17, and THRESH_MT (R614, R626) -/
  sensors : List Sensor := []
  thresh : Nat := 5
  /-- strongest response applied since reset: 0 NOTIFY to 3 ZEROISE -/
  applied : Option Nat := none
  halted : Bool := false
  eraseVerified : Bool := false
  identity : Bool := false
  alarmN : Bool := false
  /-- CLOCK is armed (R607) -/
  clockArmed : Bool := false
  /-- PWRFAIL_N has been asserted: undervoltage and CELL are masked (R606) -/
  pwrfail : Bool := false
  mainPower : Bool := true
  sigOk : Bool := false
  vbat : Nat := 0
  cellLow : Bool := false
  loops : List Nat := [0, 0, 0, 0]
  magRead : Tbl Nat := []
  /-- one more than the clock of the last conversion start (R673) -/
  magAt : Nat := 0
  /-- a trigger unit has started a conversion that has not been read -/
  magStarted : Bool := false
  /-- clock since which no source whose response is ZEROISE has been raised, while the device has no identity (R621) -/
  zeroWait : Option Nat := none
  /-- accepted REPROVISION_REQUESTs, with their authorisations (R638) -/
  requests : List (Origin × Bytes) := []
  deriving DecidableEq, Repr

/-! ## Time unit (15) -/

/-- A time base (R645, R646): its value in units of 2^-64 ns and its frequency word. -/
structure TBase where
  value : Nat := 0
  freq : Int := 0
  /-- PTP agent: good Sync intervals in a row, first lock done since AGENT_EN, last offset in ns (R656, R657) -/
  goodRun : Nat := 0
  lockedOnce : Bool := false
  lastOffset : Int := 0
  /-- clock of the last usable Sync -/
  lastSync : Nat := 0
  /-- value latched by TIME_SNAP -/
  snap : Nat := 0
  deriving DecidableEq, Repr

/-- A trigger unit (R667-R674); `next` is N in ns, `marked` the clock of the last MARKER plus one. -/
structure Trg where
  running : Bool := false
  next : Nat := 0
  fired : Nat := 0
  markCount : Nat := 0
  marked : Nat := 0
  /-- clock at which the pulse in progress ends -/
  pulseEnd : Option Nat := none
  deriving DecidableEq, Repr

/-- A capture input (R675): last capture in units of 2^-64 ns, and one more than its clock. -/
structure Cap where
  value : Nat := 0
  at_ : Nat := 0
  deriving DecidableEq, Repr

structure TimeUnit where
  bases : Tbl TBase := []
  running : Bool := false
  trg : Tbl Trg := []
  cap : Tbl Cap := []
  deriving DecidableEq, Repr

/-! ## Lanes, ports and power (18) -/

/-- A lane's PRBS generator and checker (R743). -/
structure Prbs where
  pattern : Nat
  rate : Nat
  bits : Nat := 0
  errors : Nat := 0
  locked : Bool := false
  deriving DecidableEq, Repr

/-- A serial lane: general lane n at n, duet-link lane d at 128 + d (R730-R735, R742-R744). -/
structure Lane where
  signal : Bool := false
  cdr : Bool := false
  block : Bool := false
  trained : Bool := false
  ltOwned : Bool := false
  peakUsed : Nat := 0
  width : Nat := 0
  height : Nat := 0
  /-- the last margin result lay below its limit -/
  marginLow : Bool := false
  loopback : Nat := 0
  prbs : Option Prbs := none
  /-- clock at which CDR lock last returned (R747) -/
  cdrAt : Nat := 0
  deriving DecidableEq, Repr

/-- An Ethernet port's link (R736, R737). -/
structure PortLink where
  up : Bool := false
  localFault : Bool := false
  remoteFault : Bool := false
  hiBer : Bool := false
  fecLock : Bool := false
  anDone : Bool := false
  cause : Nat := 0
  /-- clock at which the link went down -/
  downAt : Nat := 0
  /-- the clause 99 verify exchange has passed since the link came up (R152) -/
  merge : Bool := false
  deriving DecidableEq, Repr

/-- An accepted MARGIN_SCAN (R744). -/
structure Scan where
  origin : Origin
  lane : Nat
  deriving DecidableEq, Repr

structure Lanes where
  lanes : Tbl Lane := []
  ports : Tbl PortLink := []
  scans : List Scan := []
  /-- reads of PRBS counts so far: the argument of the free values of a PRBS checker -/
  prbsReads : Nat := 0
  /-- SQUELCHED of RCLK_OUT 0 and 1 -/
  squelched : Tbl Bool := []
  /-- duet link: STATE, forwarded clock in use, data lanes block-locked (R739-R741) -/
  dlState : Nat := 0
  dlForwarded : Bool := false
  dlLocked : BitVec 4 := 0#4
  deriving DecidableEq, Repr

structure Power where
  budget : Nat := 50
  step : Nat := 0
  holding : Bool := false
  belowRequired : Bool := false
  required : Nat := 0
  /-- demand in tenths of a watt -/
  demand : Nat := 0
  limitPct : Nat := 100
  /-- capped bytes admitted in the current 100 µs and the 100 µs before, and the start of the current one -/
  capBytes : Nat := 0
  capLast : Nat := 0
  capAt : Nat := 0
  /-- clock since which demand has stayed at least 2 W below budget -/
  belowSince : Option Nat := none
  /-- clock of the last step release, and one more than the clock of the last BUDGET_UNMET -/
  releasedAt : Nat := 0
  unmetAt : Nat := 0
  /-- clock of the last step change, for PWR_STEP_US -/
  stepAt : Nat := 0
  /-- hottest junction, signed, in 0.125 °C -/
  tj : Int := 0
  /-- an excursion above TJ_WARN is in progress -/
  hot : Bool := false
  /-- clock at which it began -/
  hotAt : Nat := 0
  deriving DecidableEq, Repr

/-! ## MACsec (04) and key turns (05) -/

/-- A SecY (R201, Table 4-4). -/
structure SecY where
  port : Nat
  suite : Nat
  protect : Bool
  tagMode : Nat
  conf : Nat
  validate : Nat
  replay : Bool
  implicitRx : Bool
  cls : Nat
  clearTags : Nat
  window : Nat
  txVlan : Nat
  deriving DecidableEq, Repr

/-- An SC (R205, Table 4-5) with its encoding AN, turn-group membership and armed AN (R230). -/
structure Sc where
  secy : Nat
  rx : Bool
  sci : W64
  encAn : Option Nat := none
  group : Option Nat := none
  armed : Option Nat := none
  deriving DecidableEq, Repr

/-- An SA's context (R122, R185, R198). PNs are numbers up to 2^64. -/
structure Sa where
  /-- GCM-AES-256 rather than GCM-AES-128, and XPN -/
  suite : Nat
  salt : Bytes
  ssci : W32
  /-- transmit: next PN to assign; receive: next PN expected -/
  pn : Nat
  /-- receive: lowest acceptable PN -/
  lowest : Nat := 0
  exhausted : Bool := false
  /-- PN_NEAR_EXHAUSTION has been written (R187) -/
  nearSent : Bool := false
  oos : Bool := false
  /-- RX_SA_FIRST has been written (R200) -/
  seen : Bool := false
  /-- SA_DELETE has taken it out of installed state -/
  deleting : Bool := false
  /-- PN or replay state changed since the context was last written to DDR4 (R123) -/
  dirty : Bool := false
  /-- last PN assigned, for the deletion's result -/
  lastPn : Nat := 0
  deriving DecidableEq, Repr

/-- A pending SA_ENABLE_TX (R227): the switch moment has passed and old-SA frames are still to be dispatched. -/
structure TxSwitch where
  /-- the SA_ENABLE_TX to complete; none for a late turn (R235) -/
  origin : Option Origin
  sc : Nat
  oldAn : Option Nat
  an : Nat
  /-- classification number of the first frame after the switch moment -/
  start : Nat
  deriving DecidableEq, Repr

/-- An SA_DELETE behind its drain fence (R250-R254). -/
structure Deletion where
  /-- none on a standby that applies a mirrored deletion -/
  origin : Option Origin
  desc : Bytes
  sa : Nat
  started : Nat
  /-- a forme held the SA at the commit point -/
  held : Bool
  /-- the SC and SecY under which frames still hold it, where the SC has been deleted since (R250) -/
  was : Option (Sc × SecY) := none
  deriving DecidableEq, Repr

/-- A pending scheduled turn (R233, R236). -/
structure Turn where
  base : Nat
  /-- T in ns -/
  at_ : Nat
  /-- the fixed turn tick -/
  tick : Option Nat := none
  deriving DecidableEq, Repr

/-- A turn that a SHADOW standby is holding (R244). -/
structure Hold where
  sc : Nat
  an : Nat
  since : Nat
  /-- a scheduled turn rather than a turn intent -/
  scheduled : Bool
  /-- its own turn tick, once reached -/
  tick : Option Nat := none
  deriving DecidableEq, Repr

/-- A turn intent whose acknowledgement is out (R242): its SEQ, when it was sent, and the switch that waits. -/
structure Intent where
  seq : Nat
  sent : Nat
  switch : TxSwitch
  deriving DecidableEq, Repr

structure MacSec where
  secys : Tbl SecY := []
  scs : Tbl Sc := []
  sas : Tbl Sa := []
  /-- STATS words of an SA in DDR4, and the on-die accumulators of cached contexts, keyed by 16 * SA + word (R217,
  R221) -/
  stats : Tbl W64 := []
  acc : Tbl W64 := []
  /-- effective PN thresholds per SecY (R216) -/
  thresholds : Tbl Nat := []
  switches : List TxSwitch := []
  intents : List Intent := []
  deletions : List Deletion := []
  turns : Tbl Turn := []
  holds : List Hold := []
  lastGroup : Option Nat := none
  /-- frames assigned per SC and ingress port since the last cut, keyed by 128 * SC + port (R243) -/
  cuts : Tbl Nat := []
  /-- frames that a SHADOW standby has yet to classify onto an old SA, because the ACTIVE member's cut counted them: the AN and
  their number, oldest cut first, under the same keys (R244) -/
  owed : Tbl (List (Nat × Nat)) := []
  deriving DecidableEq, Repr

/-! ## Cipher path (03) -/

/-- A classified frame (stages 1-3): what its lookup captured (R117), before and after it has a forme. -/
structure Work where
  /-- DIR is decrypt -/
  dec : Bool
  /-- fixed-latency (R149) -/
  fl : Bool := false
  ing : Nat
  /-- number in classification order -/
  no : Nat
  arrival : Nat
  /-- time-stamp on the port's base at arrival (R659) -/
  stamp : Nat
  /-- the frame as it arrived, without FCS -/
  data : Bytes
  /-- its last byte has passed stage 2 -/
  whole : Bool
  /-- its FCS is bad, which shows at its last byte -/
  badFcs : Bool := false
  eg : Nat
  cls : Nat
  action : Nat
  secy : Option Nat
  sa : Option Nat
  epoch : Nat
  yellow : Bool
  sampled : Bool
  /-- digest window its arrival falls into (R582) -/
  win : Option Nat
  /-- its number among the frames of its port that its SC has classified since the previous turn cut; 0 where it is not counted
  (R243, R244) -/
  cut : Nat := 0
  /-- started by the device itself, for the PTP agent (R658) -/
  agent : Bool := false
  /-- STAGE_TIME so far, stage 2 first; only when sampled -/
  times : List W32
  deriving DecidableEq, Repr

/-- Where a frame with a forme is: waiting for its SA context or its press, in a press or past it and not released by the
reorder unit, queued at stage 9, or leaving. -/
inductive Stage where
  | wait | press | queued | sending
  deriving DecidableEq, Repr

/-- A forme (R116). -/
structure Forme where
  w : Work
  /-- order of allocation -/
  order : Nat
  seq : Nat
  stage : Stage := .wait
  /-- its SA context has been here once, so that stage 6 has been entered (R116) -/
  entered : Bool := false
  pn : Nat := 0
  press : Option Nat := none
  /-- core cycles of press work, key load included -/
  cycles : Nat := 0
  /-- the frame as it leaves, without FCS -/
  out : Bytes := []
  /-- the ICV, and the outcome of its check -/
  icv : Bytes := []
  icvOk : Bool := true
  /-- the press has finished, and the outcome has been taken -/
  done : Bool := false
  settled : Bool := false
  /-- it will leave with an inverted FCS (R139, R141) -/
  stomped : Bool := false
  /-- Table 4-3 step of the outcome; 12 delivered by a step before a press -/
  step : Nat := 0
  /-- Galley queue, charge in cells, and bank of each cell written -/
  queue : Option Nat := none
  charge : Nat := 0
  banks : List Nat := []
  /-- launch time of a PTP frame or a fixed-latency frame, as a tick (R150, R663) -/
  launch : Option Nat := none
  /-- the SecY as it stood at dispatch (R203) -/
  rules : Option SecY := none
  deriving DecidableEq, Repr

/-- Allocation is stopped (R119): since when, and the cells that the refused frame needs. -/
structure AllocStop where
  since : Nat
  cells : Nat
  deriving DecidableEq, Repr

structure Press where
  out : Bool := false
  /-- expanded-key cache: SA indices, most recently used first -/
  keys : List Nat := []
  /-- proof runs passed in a row while out of service (R133) -/
  passes : Nat := 0
  deriving DecidableEq, Repr

/-- A rate-limited event: occurrences since the last record, and one more than its clock. -/
structure Limited where
  count : Nat := 0
  at_ : Nat := 0
  deriving DecidableEq, Repr

structure Prs where
  presses : Tbl Press := []
  pressPtr : Nat := 0
  formes : Tbl Forme := []
  /-- classified frames without a forme, per ingress port -/
  fifo : Tbl (List Work) := []
  pipePtr : Nat := 0
  /-- ports whose pipes wait for a forme, in order of their requests, and the stop of allocation (R119, R120) -/
  waiting : List Nat := []
  stop : Option AllocStop := none
  nextOrder : Nat := 0
  /-- classification number of the next frame -/
  nextNo : Nat := 0
  /-- next SEQ of each order flow, keyed by (ingress * 8 + class) * 128 + egress -/
  seqs : Tbl Nat := []
  /-- SA context cache: per set, most recently used first; fetches out or waiting, in order -/
  cache : Tbl (List Nat) := []
  fetching : List Nat := []
  /-- since when a fetch has waited beyond 1,536 outstanding (R160) -/
  waitSince : Option Nat := none
  /-- since when some frame has waited on a mark (Table 13-16) -/
  markSince : Option Nat := none
  /-- ordinary frames lost on a press that went out of service (R133) -/
  pressLost : Nat := 0
  /-- LINK staging per egress port: forme numbers, head first -/
  staged : Tbl (List Nat) := []
  /-- the forme that a port is sending -/
  tx : Tbl Nat := []
  /-- ports whose FL_ACTIVE is 1; clock until which an express frame occupies an egress port -/
  flActive : List Nat := []
  /-- accepted PROOF_RUNs with their descriptors, oldest first (R157) -/
  proofs : List (Origin × Bytes) := []
  /-- ports that passed the checks of GLB_SEAL (R156) -/
  flPassed : List Nat := []
  flBusy : Tbl Nat := []
  shed : Nat := 0
  stomps : Tbl Limited := []
  overruns : Tbl Limited := []
  deriving DecidableEq, Repr

/-! ## Framing (06) -/

/-- A candidate tracker (R278-R282): confirmations, bit position of its next check and of its birth. -/
structure Tracker where
  conf : Nat
  next : Nat
  born : Nat
  deriving DecidableEq, Repr

/-- A framed stream: 128 × stream + port, where stream 0 is the port's and 1-20 are OTU4 logical lanes (R279-R286). -/
structure Stream where
  inFrame : Bool := false
  trackers : List Tracker := []
  /-- consecutive errored frame-alignment words while in frame (R283) -/
  errored : Nat := 0
  /-- logical lane marker of an OTU4 lane (R285) -/
  marker : Nat := 0
  /-- clock of the last change into or out of frame -/
  since : Nat := 0
  deriving DecidableEq, Repr

/-- A trace memory entry with what is received for it (R291-R296). -/
structure Trace where
  expected : Bytes := zeroString
  format : Nat := 0
  expC2 : Nat := 0
  sent : Bytes := zeroString
  sentFormat : Nat := 0
  maskLo : W32 := 0#32
  maskHi : W32 := 0#32
  /-- last reception and how many in a row -/
  last : Bytes := []
  run : Nat := 0
  accepted : Option Bytes := none
  deriving DecidableEq, Repr

/-- Limiter of DEFECT_ON or DEFECT_OFF (R318): transitions not yet recorded, one more than the clock of the last record, and
the port and slot that a record names. -/
structure Edge where
  count : Nat := 0
  at_ : Nat := 0
  port : Nat := 0
  slot : Nat := 0
  code : Nat := 0
  deriving DecidableEq, Repr

/-- A TSI_SWITCH between acceptance and completion (R310-R313). -/
structure TsiSwitch where
  /-- none for a mirrored switch -/
  origin : Option Origin
  refPort : Nat
  copyBack : Bool
  accepted : Nat
  boundary : Option Nat := none
  internal : Bool := false
  changed : List Nat := []
  deriving DecidableEq, Repr

/-- A mirrored command that waits for the switch in progress (R314, R578). -/
inductive TsiLater where
  | switch (x : TsiSwitch)
  | page (which first n : Nat) (buf : Bytes)
  deriving DecidableEq, Repr

structure Frm where
  streams : Tbl Stream := []
  /-- port defects by code (Table 6-3); LOS stands until the first signal -/
  defects : Tbl W32 := []
  /-- path defects, bit (code - 32), and detected container SIZE, by slot index of the received path -/
  path : Tbl W32 := []
  structs : Tbl Nat := []
  /-- received payload type per port, received C2 per path -/
  portLabel : Tbl Nat := []
  pathLabel : Tbl Nat := []
  /-- ns by which each logical lane of an OTU4 port lags the earliest, and, while LOL is clear, the lanes in the order of their
  markers: the physical lane, the logical stream and the ns that its deskew buffer adds (R285, R286) -/
  skews : Tbl (List Nat) := []
  deskew : Tbl (List (Nat × Nat × Nat)) := []
  /-- clock of the last uncorrectable codeword of an OTN port, and what its FEC decoder handed on last (R287, R299) -/
  uncorrAt : Tbl Nat := []
  fecOut : Tbl (List Bytes) := []
  /-- errored blocks to send back (M1, BEI, REI) per port, and per path at 128 + slot index (R288) -/
  sendBack : Tbl Nat := []
  /-- BIP-8 values of the frames sent last, two per OTN port and one per SDH path at 128 + slot index (R275, R276) -/
  bips : Tbl Bytes := []
  /-- keyed by 128 * code + port, and 2 ^ 14 + 64 * slot index + code; rises, then falls -/
  rises : Tbl Edge := []
  falls : Tbl Edge := []
  /-- received K1 and K2 as one number -/
  kbytes : Tbl Nat := []
  /-- keyed by 16384 * KIND + INDEX -/
  traces : Tbl Trace := []
  /-- ERR of FRM_TR_STATUS -/
  trErr : Bool := false
  /-- connection pages by destination slot index, and the active one -/
  page0 : Tbl W32 := []
  page1 : Tbl W32 := []
  active : Bool := false
  switch : Option TsiSwitch := none
  /-- mirrored switches and page writes that wait for the switch in progress (R314) -/
  later : List TsiLater := []
  deriving DecidableEq, Repr

/-! ## Knadra (07) -/

/-- An association (R319-R323). The records' keys stand in the key store. -/
structure Assoc where
  port : Nat
  slot : Nat
  txOn : Bool
  rxOn : Bool
  nFail : Nat
  mGood : Nat
  peer : Nat
  txStart : Nat
  rxHi : Nat
  salt : Bytes
  /-- which record of each pair is current, and the key indices of the current and next records held -/
  txSel : Nat := 0
  rxSel : Nat := 0
  txCur : Option Nat := none
  txNext : Option Nat := none
  rxCur : Option Nat := none
  rxNext : Option Nat := none
  /-- clock at which the next receive record was installed (R342) -/
  rxNextAt : Nat := 0
  /-- number of the superframe being sent, whether one has been sent, tag of the previous one (R333, R334) -/
  sfn : Nat
  sent : Bool := false
  /-- clock at which the superframe being sent began -/
  began : Nat := 0
  tagPrev : Bytes := zeroTag
  /-- turn superframe S of a pending transmit turn (R262) -/
  turn : Option Nat := none
  /-- 0 ACQUIRE, 1 RUN, 2 AUTH_FAIL -/
  rxState : Nat := 0
  /-- predicted number of the next received superframe, last verified one (R336) -/
  pred : Option Nat := none
  last : Option Nat := none
  failRun : Nat := 0
  passRun : Nat := 0
  fails : Nat := 0
  /-- S and the key index of a verified announcement, and whether the turn has been decided (R266, R342) -/
  rxTurn : Option Nat := none
  rxIndex : Nat := 0
  rxDecided : Bool := false
  /-- SDH superframe lock at a frame phase, the phases at which the last superframe period showed the sync pair, and the
  consecutive superframes in which the locked one was errored (R327) -/
  locked : Bool := false
  phase : Nat := 0
  syncAt : List Nat := []
  syncBad : Nat := 0
  /-- the receive output carries deciphered payload, and a change that waits for its frame boundary (R339) -/
  output : Bool := false
  outputDue : Option (Nat × Bool) := none
  /-- the output has changed to this after so many frames of the superframe being received (R339, R340) -/
  cut : Option (Nat × Bool) := none
  /-- clock of the last superframe row, and superframes that began before withholding ended (R289, R295) -/
  rxAt : Nat := 0
  skip : Nat := 0
  /-- FLAGS and LIMITS that apply from the next superframe of a direction: enable and limits (R352) -/
  txPend : Option Bool := none
  rxPend : Option (Bool × Nat × Nat) := none
  /-- clock at which the receive change was commanded -/
  rxPendAt : Nat := 0
  oos : Bool := false
  /-- press capacity is short (R349) -/
  starved : Bool := false
  /-- decryption is withheld (R289) -/
  withheld : Bool := false
  sfFail : Limited := {}
  /-- an accepted KN_ASSOC_DEL and the clock of its commit -/
  deleting : Option (Origin × Nat) := none
  deriving DecidableEq, Repr

/-- The snapshot behind the FRM_KN view (R356). -/
structure KnView where
  status : W32 := 0#32
  sfn : W64 := 0#64
  fails : W32 := 0#32
  deriving DecidableEq, Repr

structure Kn where
  assocs : Tbl Assoc := []
  view : KnView := {}
  deriving DecidableEq, Repr

/-! ## Classification and forwarding (08) -/

/-- A route (R366, R372). -/
structure Route where
  table : Nat
  v6 : Bool
  len : Nat
  /-- the prefix as a 32- or 128-bit number -/
  pre : Nat
  port : Nat
  secy : Nat
  policer : Nat
  deriving DecidableEq, Repr

/-- A TCAM entry, or the pair of an IPv6 route at its even index; `copy` is what the Caller's table in DDR4 holds. -/
structure TcamEnt where
  route : Route
  /-- bits of the stored key and mask that an upset has flipped (R377) -/
  keyFlip : BitVec 160 := 0#160
  maskFlip : BitVec 160 := 0#160
  badParity : Bool := false
  disabled : Bool := false
  /-- the Caller's table in DDR4 has lost it: its parity was bad when the table was rebuilt (R541) -/
  lost : Bool := false
  deriving DecidableEq, Repr

/-- A MAC entry (R380-R383); policer 0xFFFF is none. -/
structure MacEnt where
  domain : Nat
  mac : Nat
  port : Nat
  secy : Nat
  policer : Nat
  static : Bool
  seen : Nat
  deriving DecidableEq, Repr

/-- A received-SCI entry (R392). -/
structure SciEnt where
  port : Nat
  sci : W64
  sc : Nat
  deriving DecidableEq, Repr

structure Cls where
  tcam : Tbl TcamEnt := []
  /-- keyed by bank * 32768 + position -/
  mac : Tbl MacEnt := []
  /-- keyed by bank * 16384 + position -/
  sci : Tbl SciEnt := []
  epoch : Nat := 0
  evicted : Limited := {}
  failed : Limited := {}
  /-- new addresses learned, by tick, over the last second (R385) -/
  learned : Tbl Nat := []
  deriving DecidableEq, Repr

/-! ## Galley (09) -/

/-- A non-negative fraction: the virtual times of R428. -/
structure Frac where
  num : Nat := 0
  den : Nat := 1
  deriving DecidableEq, Repr

/-- A policer (R430, R434): buckets in 1/31,250 byte; parameters that apply from the next refill. -/
structure PolicerCfg where
  mode : Nat := 0
  aware : Bool := false
  coupled : Bool := false
  cir : Nat := 0
  cbs : Nat := 0
  pir : Nat := 0
  pbs : Nat := 0
  deriving DecidableEq, Repr
structure Policer where
  cfg : PolicerCfg := {}
  tc : Int := 0
  te : Int := 0
  next : Option PolicerCfg := none
  deriving DecidableEq, Repr

/-- A shaper (R429, R434): bucket in 1/8,000 byte. -/
structure ShaperCfg where
  overhead : Bool := false
  rate : Nat := 0
  burst : Nat := 0
  deriving DecidableEq, Repr
structure Shaper where
  cfg : ShaperCfg := {}
  bucket : Int := 0
  next : Option ShaperCfg := none
  deriving DecidableEq, Repr

structure QueueCfg where
  strict : Bool := false
  weight : Nat := 1
  deriving DecidableEq, Repr

/-- A group of the virtual-time family: the port it is bound to (groups 128 on) and its weight. -/
structure GroupCfg where
  port : Option Nat := none
  weight : Nat := 1
  deriving DecidableEq, Repr

/-- A WF2Q+ child: start and finish. -/
structure Node where
  start : Frac := {}
  finish : Frac := {}
  deriving DecidableEq, Repr

/-- A map change waiting for the pair's frames to leave the old group (R425). -/
structure Remap where
  origin : Option Origin
  desc : Bytes
  eg : Nat
  ing : Nat
  group : Option Nat
  started : Nat
  deriving DecidableEq, Repr

structure GalPort where
  holding : Bool := false
  /-- the hold has ended with the link down: frames are dropped at admission -/
  dropping : Bool := false
  downAt : Nat := 0
  deriving DecidableEq, Repr

/-- A frame whose length a policer deducts when its last byte passes stage 2, and from which of its buckets (R432). -/
structure MeterDue where
  policer : Nat
  len : Nat
  at_ : Nat
  tc : Bool
  te : Bool
  deriving DecidableEq, Repr

structure Gal where
  /-- forme numbers of each queue, head first -/
  queues : Tbl (List Nat) := []
  cfg : Tbl QueueCfg := []
  groups : Tbl GroupCfg := []
  /-- keyed by egress * 128 + ingress -/
  map : Tbl Nat := []
  remaps : List Remap := []
  /-- deficit round robin: deficit per queue; per port, the class being served and whether it has had its quantum -/
  deficit : Tbl Nat := []
  drr : Tbl (Nat × Bool) := []
  queueNode : Tbl Node := []
  groupNode : Tbl Node := []
  vGroup : Tbl Frac := []
  vPort : Tbl Frac := []
  /-- keyed by level * 65536 + index -/
  shapers : Tbl Shaper := []
  policers : Tbl Policer := []
  /-- deductions of frames that are still arriving -/
  metered : List MeterDue := []
  bankPtr : Nat := 0
  bankUsed : Tbl Nat := []
  ports : Tbl GalPort := []
  deriving DecidableEq, Repr

/-! ## The device -/

/-- Everything but the fuses and the queue. -/
structure Device where
  /-- 2 ns time-unit ticks since reset -/
  clock : Nat := 0
  glb : Glb := {}
  hif : Hif := {}
  rcd : Recorder := {}
  boot : Boot := {}
  key : Keys := {}
  svc : Svc := {}
  mem : Mem := {}
  tmp : Tmp := {}
  time : TimeUnit := {}
  lane : Lanes := {}
  pwr : Power := {}
  ms : MacSec := {}
  prs : Prs := {}
  frm : Frm := {}
  kn : Kn := {}
  cls : Cls := {}
  gal : Gal := {}
  duet : Duet := {}
  /-- the writable bits of the set-up registers by BAR0 offset, where they differ from reset (R10, R99) -/
  regs : Tbl W32 := []
  /-- the performance counters that are not 0, by index (R723, R724) -/
  counters : Tbl W64 := []
  /-- random bytes drawn so far: the argument of the free values `Config.drbgByte` -/
  drawn : Nat := 0
  /-- what a row that reads a register or counter returned last -/
  lastRead : W64 := 0#64
  /-- what the device has sent out, newest first -/
  out : List Out := []
  deriving DecidableEq, Repr

/-- The machine: the device, its fuses, and the commands that wait, first in, first out. -/
structure State where
  dev : Device
  fuses : Fuses
  pending : List Instr
  deriving DecidableEq, Repr

/-- What the definition of an opcode makes of one command (R103, R108): it fails with a status and RESULT bytes, it is
done with RESULT bytes and bytes for the host buffer, it is accepted and completes later, or it has to wait. -/
inductive Verdict where
  | fail (d : Device) (st : Status) (result : Bytes)
  | done (d : Device) (result : Bytes) (out : Option Bytes)
  | accept (d : Device)
  | wait
  deriving DecidableEq, Repr

/-- The command classes (R20, Table 1-4). -/
inductive CmdClass where
  | a | b | c | d | e | f | g | h | j | k | l
  deriving DecidableEq, Repr

/-- A family of set-up registers: offset of the first, stride, number, access masks and reset value. Bits in no mask
are read-only or reserved (R8, R10). -/
structure RegInfo where
  base : Nat
  stride : Nat
  count : Nat
  rw : W32
  rwl : W32
  w1c : W32
  reset : W32
  deriving DecidableEq, Repr

/-- No command of the device stops the machine: the type has no constructor that a meaning raises but this one,
for a state that no rule reaches. Safe. -/
inductive Fault where
  | unreachable
  deriving DecidableEq, Repr

/-- Reasons for having no meaning. -/
inductive Refusal where
  /-- raised only by Machine/Dispatch.lean for a command that has no meaning yet; safe: the machine stops. -/
  | notModelled (mnemonic : String)
  deriving DecidableEq, Repr

/-- The fuses of a part fresh from manufacture: nothing blown but a zero serial number and key (log 3). -/
def Fuses.fresh : Fuses :=
  { key := List.replicate 32 0#8, dieId := 0#64, keyHash := List.replicate 4 (List.replicate 32 0#8),
    revoke := 0#4, rollback := 0, field := false, debugKill := false }

/-- The machine right after reset: RESET_N is released by the first RESET_N command (R695). -/
def State.reset : State := { dev := {}, fuses := Fuses.fresh, pending := [] }

end Sys2Proof.Machine
end

