-- ==== Sys2Proof/Machine/Table.lean ====
section
/-!
DEFINITION. Operations on sparse tables. `put` and `del` keep the keys strictly rising; `setD` is for an array
whose unlisted entries hold a default, so it lists no entry equal to the default.
-/
namespace Sys2Proof

def Tbl.get? {α : Type} : Tbl α → Nat → Option α
  | [], _ => none
  | (k', v) :: t, k => if k' = k then some v else Tbl.get? t k

def Tbl.getD {α : Type} (t : Tbl α) (k : Nat) (dflt : α) : α := (Tbl.get? t k).getD dflt

def Tbl.has {α : Type} (t : Tbl α) (k : Nat) : Bool := (Tbl.get? t k).isSome

def Tbl.put {α : Type} : Tbl α → Nat → α → Tbl α
  | [], k, v => [(k, v)]
  | (k', v') :: t, k, v =>
    if k = k' then (k, v) :: t
    else if k < k' then (k, v) :: (k', v') :: t
    else (k', v') :: Tbl.put t k v

def Tbl.del {α : Type} (t : Tbl α) (k : Nat) : Tbl α := t.filter (fun e => e.1 != k)

/-- Write an array element; writing the default removes the entry. -/
def Tbl.setD {α : Type} [DecidableEq α] (t : Tbl α) (k : Nat) (dflt v : α) : Tbl α :=
  if v = dflt then Tbl.del t k else Tbl.put t k v

/-- Change an entry if it is there. -/
def Tbl.modify {α : Type} (t : Tbl α) (k : Nat) (f : α → α) : Tbl α :=
  match Tbl.get? t k with
  | some v => Tbl.put t k (f v)
  | none => t

/-- Change an array element. -/
def Tbl.modifyD {α : Type} [DecidableEq α] (t : Tbl α) (k : Nat) (dflt : α) (f : α → α) : Tbl α :=
  Tbl.setD t k dflt (f (Tbl.getD t k dflt))

/-- Change every listed entry. -/
def Tbl.mapVals {α β : Type} (t : Tbl α) (f : Nat → α → β) : Tbl β := t.map (fun e => (e.1, f e.1 e.2))

/-- Keep the listed entries that satisfy `p`. -/
def Tbl.keep {α : Type} (t : Tbl α) (p : Nat → α → Bool) : Tbl α := t.filter (fun e => p e.1 e.2)

def Tbl.findKey? {α : Type} (t : Tbl α) (p : Nat → α → Bool) : Option Nat :=
  (t.find? (fun e => p e.1 e.2)).map Prod.fst

def Tbl.any {α : Type} (t : Tbl α) (p : Nat → α → Bool) : Bool := List.any t (fun e => p e.1 e.2)

/-- The canonical form: keys strictly rising. -/
def Tbl.sorted {α : Type} : Tbl α → Bool
  | [] => true
  | [_] => true
  | (k, _) :: (k', v') :: t => decide (k < k') && Tbl.sorted ((k', v') :: t)

/-- The lowest number from `lo` up, below `lo + n`, that satisfies `p`. -/
def firstFrom (p : Nat → Bool) : Nat → Nat → Option Nat
  | _, 0 => none
  | lo, n + 1 => if p lo then some lo else firstFrom p (lo + 1) n

end Sys2Proof
end

