-- ==== Sys2Proof/Machine/Registers.lean ====
section
/-!
DEFINITION. The set-up registers of BAR0: which bits the host may write, under which access code, and their reset values
(R8, R10, R63, R66). One table for all blocks, from the register tables of the chapters.
-/
namespace Sys2Proof.Machine

def reg1 (base : Nat) (rw rwl w1c reset : W32) : RegInfo := ⟨base, 4, 1, rw, rwl, w1c, reset⟩
def regN (base stride count : Nat) (rw rwl w1c reset : W32) : RegInfo := ⟨base, stride, count, rw, rwl, w1c, reset⟩

/-- HIF (R99, Tables 2-6 to 2-10). -/
def regsHif : List RegInfo :=
  [regN 0x10000 0x20 64 (mask 31 12) 0 0 0,
   regN 0x10004 0x20 64 (mask 31 0) 0 0 0,
   regN 0x10008 0x20 64 0 (mask 31 28 ||| mask 21 16 ||| mask 11 8 ||| mask 4 0) 0 0x10000006#32,
   regN 0x1000C 0x20 64 (mask 0 0) 0 0 0,
   regN 0x10014 0x20 64 0 0 (mask 2 0) 0,
   regN 0x10800 0x20 64 (mask 31 12) 0 0 0,
   regN 0x10804 0x20 64 (mask 31 0) 0 0 0,
   regN 0x10808 0x20 64 0 (mask 22 16 ||| mask 11 8 ||| mask 4 0) 0 0x6#32,
   regN 0x1080C 0x20 64 (mask 31 31 ||| mask 19 8 ||| mask 7 0) 0 0 0x1#32,
   regN 0x11000 0x20 5 (mask 31 12) 0 0 0,
   regN 0x11004 0x20 5 (mask 31 0) 0 0 0,
   regN 0x11008 0x20 5 (mask 31 31) (mask 22 16 ||| mask 4 0) 0 0xC#32,
   regN 0x1100C 0x20 5 (mask 31 3) 0 0 0,
   regN 0x11010 0x20 5 (mask 31 0) 0 0 0,
   reg1 0x11100 0 (mask 31 0) 0 0,
   reg1 0x11200 0 (mask 15 8 ||| mask 6 0) 0 0xBF008000#32,
   regN 0x11204 4 15 (mask 31 31) (mask 29 24 ||| mask 15 8 ||| mask 6 0) 0 0,
   reg1 0x11300 0 (mask 21 0) 0 0]

/-- PWR, LANE and PORT (R766, Tables 18-18 to 18-24). PWR_BUDGET and PWR_CFG.HOLD stand in the power state. -/
def regsLane : List RegInfo :=
  [reg1 0x20004 (mask 23 16) (mask 26 24) 0 0x04690000#32,
   regN 0x40000 0x400 128 0 (mask 31 28) 0 0,
   regN 0x40004 0x400 128 (mask 21 16 ||| mask 13 8 ||| mask 3 0) 0 0 0x3F00#32,
   regN 0x40008 0x400 128 (mask 31 30 ||| mask 3 0) 0 0 0xC0000008#32,
   regN 0x60000 0x400 5 0 (mask 31 28) 0 0,
   regN 0x60004 0x400 5 (mask 21 16 ||| mask 13 8 ||| mask 3 0) 0 0 0x3F00#32,
   regN 0x60008 0x400 5 (mask 31 31 ||| mask 3 0) 0 0 0x80000008#32,
   regN 0x70000 4 2 (mask 31 31 ||| mask 29 29 ||| mask 22 16 ||| mask 9 0) 0 0 0x42#32,
   reg1 0x70014 (mask 15 0) 0 0 0x100F#32,
   regN 0x80000 8 128 (mask 23 16 ||| mask 0 0) 0 0 0x000A0000#32]

/-- KEY, SVC, MEM, DUET and TMP (R478, R520, R553, R600, R642). -/
def regsSec : List RegInfo :=
  [reg1 0x1C0004 (mask 9 0) 0 0 0,
   reg1 0x1C0020 (mask 31 31 ||| mask 15 0) 0 0 0x8000003C#32,
   reg1 0x1C0100 0 0 0 0x04000000#32,
   regN 0x1C0104 4 15 0 (mask 26 16 ||| mask 9 0) 0 0,
   reg1 0x1D0000 0 (mask 2 0) 0 0x7#32,
   reg1 0x1D0008 0 (mask 11 0) 0 0xA#32,
   reg1 0x1D0018 (mask 17 0) 0 0 0,
   reg1 0x1E0000 (mask 31 31 ||| mask 15 0) (mask 23 16) 0 0x80180064#32,
   reg1 0x1E0020 (mask 7 0) 0 0 0,
   reg1 0x200000 0 (mask 29 29 ||| mask 20 16) 0 0x00140000#32,
   reg1 0x210004 0 0 (mask 17 0) 0,
   reg1 0x2100C0 0 (mask 11 8) 0 0]

/-- TIME and REC (R676, R729). -/
def regsTime : List RegInfo :=
  [regN 0x220100 0x40 4 (mask 31 27 ||| mask 23 15 ||| mask 6 0) 0 (mask 26 26) 0,
   regN 0x220104 0x40 4 (mask 31 0) 0 0 0,
   regN 0x220108 0x40 4 (mask 7 0) 0 0 0,
   regN 0x22010C 0x40 4 (mask 31 0) 0 0 0,
   regN 0x220110 0x40 4 (mask 15 0) 0 0 0,
   regN 0x220114 0x40 4 (mask 31 0) 0 0 0,
   regN 0x220118 0x40 4 (mask 31 0) 0 0 0,
   regN 0x220400 4 128 (mask 31 28 ||| mask 15 0) 0 0 0,
   regN 0x220800 0x20 8 (mask 31 24 ||| mask 15 0) 0 0 0,
   regN 0x220804 0x20 8 (mask 31 0) 0 0 0,
   regN 0x220808 0x20 8 (mask 15 0) 0 0 0,
   regN 0x22080C 0x20 8 (mask 31 0) 0 0 0,
   regN 0x220810 0x20 8 (mask 31 0) 0 0 0x3B9ACA00#32,
   regN 0x220814 0x20 8 (mask 31 0) 0 0 0x05F5E100#32,
   regN 0x220900 0x10 4 (mask 31 27) 0 (mask 26 26) 0,
   reg1 0x230010 (mask 31 29 ||| mask 4 0) 0 0 0x10#32]

/-- CLS, PRS and GAL (R159, R215, R270, R400, R441). -/
def regsData : List RegInfo :=
  [regN 0x100000 4 128 0 (mask 31 16 ||| mask 11 0) 0 0,
   regN 0x100200 4 128 (mask 31 24 ||| mask 9 0) 0 0 0,
   regN 0x100400 4 128 (mask 31 29 ||| mask 13 0) 0 0 0,
   regN 0x100800 4 256 (mask 31 24 ||| mask 9 0) 0 0 0,
   reg1 0x101000 (mask 31 30 ||| mask 19 0) 0 0 0x12C#32,
   reg1 0x101004 (mask 31 31) 0 0 0x80000000#32,
   reg1 0x101100 (mask 31 0) 0 0 0x21000000#32,
   reg1 0x101104 (mask 31 0) 0 0 0x21002100#32,
   reg1 0x101108 (mask 31 0) 0 0 0x00002100#32,
   reg1 0x10110C (mask 31 0) 0 0 0,
   reg1 0x140008 0 0 (mask 23 0) 0,
   regN 0x140100 4 128 0 (mask 31 31) 0 0,
   regN 0x140300 4 128 0 (mask 31 31 ||| mask 28 24 ||| mask 9 0) 0 0,
   regN 0x140500 4 128 0 (mask 20 0) 0 0,
   regN 0x141000 4 128 0 (mask 31 31 ||| mask 25 16 ||| mask 11 8) 0 0x300#32,
   reg1 0x141200 0 (mask 31 31 ||| mask 15 0) 0 0x8000888E#32,
   regN 0x141204 4 7 0 (mask 31 31 ||| mask 15 0) 0 0,
   reg1 0x141400 0 (mask 15 0) 0 0,
   regN 0x142000 8 1024 (mask 31 0) 0 0 0,
   regN 0x142004 8 1024 (mask 31 0) 0 0 0,
   reg1 0x144000 0 (mask 31 31 ||| mask 15 0) 0 0xC8#32,
   reg1 0x180000 0 (mask 13 0) 0 0x3000#32,
   regN 0x180100 4 128 (mask 30 11) (mask 6 0) 0 0x06432041#32,
   regN 0x180300 4 128 (mask 31 25 ||| mask 17 0) 0 0 0x64002000#32,
   reg1 0x181000 (mask 13 0) 0 0 0]

/-- FRM, Knadra views and TSI (R316, R356). COMMIT of FRM_TR_CTL stores nothing. -/
def regsLine : List RegInfo :=
  [regN 0xC0000 0x40 128 (mask 31 31 ||| mask 27 20 ||| mask 15 8) (mask 30 28) 0 0x26300300#32,
   regN 0xC0008 0x40 128 0 0 (mask 16 0) 0,
   regN 0xC0010 0x40 128 (mask 31 16) 0 0 0,
   reg1 0xC4000 (mask 31 29 ||| mask 13 0) 0 0 0,
   reg1 0xC4004 (mask 15 8 ||| mask 1 0) 0 0 0,
   reg1 0xC4008 (mask 31 0) 0 0 0,
   reg1 0xC400C (mask 31 0) 0 0 0,
   regN 0xC4040 4 16 (mask 31 0) 0 0 0,
   reg1 0xC8004 (mask 13 0) 0 0 0,
   reg1 0xE0004 (mask 16 16 ||| mask 13 0) 0 0 0]

def regTable : List RegInfo := regsHif ++ regsLane ++ regsSec ++ regsTime ++ regsData ++ regsLine

def RegInfo.holds (i : RegInfo) (off : Nat) : Bool :=
  i.base ≤ off && (off - i.base) % i.stride == 0 && (off - i.base) / i.stride < i.count

/-- Registers of general lanes that are fused off: they read 0 and take no write (R2, Table 0-1). -/
def fusedOff (part : Part) (off : Nat) : Bool := part == .lvt0800E && 0x50000 ≤ off && off < 0x60000

def regInfo? (off : Nat) : Option RegInfo := regTable.find? (fun i => i.holds off)

/-- Reset value of a register; TJ_WARN resets to 0x64 on the C range (Table 18-23). -/
def regReset (part : Part) (off : Nat) : W32 :=
  if off = 0x20004 ∧ part = .lvt1600C then 0x04640000#32
  else if fusedOff part off then 0#32
  else match regInfo? off with
    | some i => i.reset
    | none => 0#32

/-- The stored bits of a register. -/
def reg (d : Device) (off : Nat) : W32 := (Tbl.get? d.regs off).getD (regReset d.glb.part off)

def setReg (d : Device) (off : Nat) (v : W32) : Device :=
  { d with regs := Tbl.setD d.regs off (regReset d.glb.part off) v }

/-- Set the bits of `m` in a register to those of `v`. -/
def setBits (d : Device) (off : Nat) (m v : W32) : Device :=
  setReg d off ((reg d off &&& ~~~m) ||| (v &&& m))

/-- The value a register holds after a write of `val`: RW bits take it, RWL bits take it before the seal, W1C bits are
cleared where it has 1; all others stay (R8, R10, R66). -/
def written (i : RegInfo) (sealed : Bool) (old val : W32) : W32 :=
  let m := i.rw ||| (if sealed then 0#32 else i.rwl)
  ((old &&& ~~~m) ||| (val &&& m)) &&& ~~~(i.w1c &&& val)

/-- A host write to a register without behaviour of its own. -/
def plainWrite (d : Device) (off : Nat) (val : W32) : Device :=
  if fusedOff d.glb.part off then d else
  match regInfo? off with
  | some i => setReg d off (written i d.glb.sealed (reg d off) val)
  | none => d

/-- Bits `hi` to `lo` of a stored register. -/
def field (d : Device) (off hi lo : Nat) : Nat := bits (reg d off) hi lo

end Sys2Proof.Machine
end

