-- ==== Sys2Proof/Machine/Ops.lean ====
section
/-!
DEFINITION. The operations every block shares: counters, time, random bytes, event records, interrupts, duet-link
messages, and the life of a descriptor command from fetch to completion.
-/
namespace Sys2Proof.Machine

/-! ## Lifting to the state -/

/-- The next state of a command that changes only the device. -/
def State.withDev (s : State) (d : Device) : Host.Outcome State Fault Refusal := .next { s with dev := d }

/-! ## Codes -/

def Mode.code : Mode → Nat
  | .provision => 0 | .link => 1 | .aggregate => 2 | .otn => 3 | .sdh => 4 | .mixed => 5 | .maintain => 6 | .locked => 7

def modeOfCode : Nat → Mode
  | 1 => .link | 2 => .aggregate | 3 => .otn | 4 => .sdh | 5 => .mixed | 6 => .maintain | 7 => .locked | _ => .provision

def Role.code : Role → Nat
  | .solo => 0 | .active => 1 | .standby => 2 | .syncing => 3

def roleOfCode : Nat → Role
  | 1 => .active | 2 => .standby | 3 => .syncing | _ => .solo

def Status.code : Status → Nat
  | .ok => 0x00 | .badOpcode => 0x10 | .badField => 0x11 | .badIndex => 0x12 | .noRoom => 0x20
  | .busyReferenced => 0x21 | .keySlotBad => 0x30 | .keyStale => 0x31 | .keyAttrDenied => 0x32
  | .lengthError => 0x40 | .inputRejected => 0x41 | .aborted => 0x50 | .abortedZeroise => 0x51
  | .roleStale => 0x60 | .modeDenied => 0x70 | .internal => 0x7F

def Source.code : Source → Nat
  | .tamper => 0x01 | .battery => 0x02 | .duet => 0x03 | .memory => 0x04 | .key => 0x05 | .macsec => 0x06
  | .framer => 0x07 | .tsi => 0x08 | .forward => 0x09 | .galley => 0x0A | .lane => 0x0B | .time => 0x0C
  | .boot => 0x0D | .power => 0x0E | .host => 0x0F | .service => 0x10

/-- GLB_ID.PART, RANGE and PRESSES of the part (R53). -/
def Part.id : Part → Nat
  | .lvt0800E => 0x0800 | _ => 0x1600
def Part.range : Part → Nat
  | .lvt1600C => 1 | _ => 0
def Part.presses : Part → Nat
  | .lvt0800E => 12 | _ => 24
def Part.lanes : Part → Nat
  | .lvt0800E => 64 | _ => 128
def Part.maxPorts : Part → Nat
  | .lvt0800E => 64 | _ => 128

/-! ## Counters (R723, R724, Table 17-6) -/

def counter (d : Device) (i : Nat) : W64 := Tbl.getD d.counters i 0#64

/-- Add to a counter, modulo 2^64. -/
def count (d : Device) (i : Nat) (n : Nat := 1) : Device :=
  { d with counters := Tbl.setD d.counters i 0#64 (counter d i + BitVec.ofNat 64 n) }

def portCtr (k p : Nat) : Nat := 128 * k + p
def secyCtr (k s : Nat) : Nat := 8192 + 1024 * k + s
def queueCtr (k p c : Nat) : Nat := 12288 + 1024 * k + 8 * p + c
def unitCtr (k n : Nat) : Nat := 14336 + 64 * k + n
def devCtr (i : Nat) : Nat := 16384 + i
def devCtr2 (i : Nat) : Nat := 16448 + i

/-! ## Time -/

/-- 2 ns ticks in a microsecond and in a millisecond. -/
def usTicks : Nat := 500
def msTicks : Nat := 500000

def opTimeUs (d : Device) : Nat := d.rcd.opTime / 1000

def tbase (d : Device) (b : Nat) : TBase := Tbl.getD d.time.bases b {}

def setBase (d : Device) (b : Nat) (t : TBase) : Device :=
  { d with time := { d.time with bases := Tbl.setD d.time.bases b {} t } }

/-- One nanosecond in the units of a base's value. -/
def nsUnit : Nat := 2 ^ 64
/-- A base's value wraps where SEC does (R645). -/
def baseWrap : Nat := 2 ^ 48 * 10 ^ 9 * nsUnit

def ctlOff (b : Nat) : Nat := 0x220100 + 0x40 * b

/-- LOCKED of a base (R653). -/
def baseLocked (d : Device) (b : Nat) : Bool := bit (reg d (ctlOff b)) 31

/-- A time value in the layout of R645: SEC, NSEC, FRAC. -/
def timeBytes (v : Nat) : Bytes :=
  leBytes 6 (v / nsUnit / 10 ^ 9) ++ leBytes 4 (v / nsUnit % 10 ^ 9) ++ leBytes 2 (v / 2 ^ 48 % 2 ^ 16)

/-- A base's value in whole ns. -/
def baseNs (d : Device) (b : Nat) : Nat := (tbase d b).value / nsUnit

/-- What `n` ticks add to a base: 2 ns each, plus F * 2^-15 * 10^-9 ns each, kept to 2^-64 ns (R646). Where a tick's
share is no whole number of units, which ticks round up is a free value. -/
def baseAdvance (f : Int) (tick n : Nat) : Int :=
  let share := f * 2 ^ 49
  n * (2 * nsUnit) + n * (share / 10 ^ 9)
    + (if share % 10 ^ 9 = 0 then 0 else ((min n (Config.freqCarry f tick n) : Nat) : Int))

def TBase.advance (t : TBase) (tick n : Nat) : TBase :=
  { t with value := ((t.value : Int) + baseAdvance t.freq tick n).toNat % baseWrap }

/-- All four bases (unlisted ones hold the default). -/
def advanceBases (d : Device) (n : Nat) : Tbl TBase :=
  (List.range 4).foldl (fun l b => Tbl.setD l b {} ((tbase d b).advance d.clock n)) d.time.bases

/-- Time passes: `n` ticks of 2 ns for the tick counter, the operating time, the battery counter and the bases
(R646, R647, R716, R630). -/
def elapse (d : Device) (n : Nat) : Device :=
  { d with clock := d.clock + n
           rcd := { d.rcd with opTime := d.rcd.opTime + 2 * n }
           tmp := { d.tmp with batt := { d.tmp.batt with ns := d.tmp.batt.ns + 2 * n } }
           time := if d.time.running then { d.time with bases := advanceBases d n } else d.time }

/-- Time passes until a deadline, if it lies ahead. -/
def elapseTo (d : Device) (t : Nat) : Device := if d.clock < t then elapse d (t - d.clock) else d

/-! ## Random bytes (R511) -/

/-- The next `n` bytes of the DRBG: free values, whose place in the stream is all the state keeps. -/
def drbgBytes (d : Device) (n : Nat) : Bytes := (upFrom d.drawn n).map Config.drbgByte

def drawn (d : Device) (n : Nat) : Device := { d with drawn := d.drawn + n }

/-- A request to the DRBG: it counts the request and the bytes (R511, R521). -/
def drbgRequest (d : Device) (n : Nat) : Device :=
  let d := count (drawn d n) (devCtr 35) n
  if d.svc.drbgRequests + 1 ≥ 2 ^ 20 then
    count { d with svc := { d.svc with drbgRequests := 0, reseedAt := d.clock } } (devCtr 36)
  else { d with svc := { d.svc with drbgRequests := d.svc.drbgRequests + 1 } }

def drbgOk (d : Device) : Bool := d.svc.drbgReady && d.svc.drbgStopped.isNone

/-! ## Output -/

def send (d : Device) (o : Out) : Device := { d with out := o :: d.out }

/-! ## Event records (R705-R710, R714) -/

/-- LENGTH of a record. -/
def recLen (domain : Option Bytes) (payload : Bytes) : Nat :=
  24 + (match domain with | some _ => 12 | none => 0) + payload.length

/-- A record's bytes, CRC included (Table 17-1). -/
def recBytes (r : EvRec) : Bytes :=
  let body := leBytes 2 (recLen r.domain r.payload) ++ leBytes 1 r.source.code ++ leBytes 1 r.type
    ++ leBytes 4 r.seq.toNat ++ leBytes 4 r.powerCycles.toNat
    ++ leBytes 8 (r.opTimeUs % 2 ^ 63 + (if r.domain.isSome then 2 ^ 63 else 0))
    ++ r.domain.getD [] ++ r.payload
  body ++ leBytes 4 (crc32c body).toNat

def recSize (r : EvRec) : Nat := recLen r.domain r.payload

/-- Bytes of the on-die ring that have not reached the journal (R729). -/
def ringUsed (l : List EvRec) : Nat := ((l.filter (fun r => !r.journalled)).map recSize).sum

/-- Room for a source's records: 16 KiB is kept for TAMPER, BATTERY and BOOT (R710). -/
def ringRoom (src : Source) : Nat :=
  match src with
  | .tamper | .battery | .boot => 262144
  | _ => 262144 - 16384

def ringBytes (l : List EvRec) : Nat := (l.map recSize).sum

/-- Overwrite journalled records, oldest first, until `need` bytes fit in the 256 KiB ring. -/
def trimRing (need : Nat) : List EvRec → List EvRec
  | [] => []
  | r :: l =>
    if ringBytes (r :: l) + need ≤ 262144 then r :: l
    else if r.journalled then trimRing need l
    else r :: trimRing need l

def nextSeq (d : Device) (src : Source) : W32 := Tbl.getD d.rcd.nextSeq src.code 1#32

/-- Create a record: it takes the source's next number; it enters the on-die ring, or is dropped where it finds no
room. -/
def emitRaw (d : Device) (src : Source) (type : Nat) (payload : Bytes) : Device :=
  let seq := nextSeq d src
  let domain := if baseLocked d 0 then some (timeBytes (tbase d 0).value) else none
  let r : EvRec := { source := src, type := type, seq := seq, powerCycles := d.rcd.powerCycles,
                     opTimeUs := opTimeUs d, domain := domain, payload := payload, delivered := false,
                     journalled := false }
  let seqs := Tbl.put d.rcd.nextSeq src.code (seq + 1#32)
  if ringUsed d.rcd.ring + recSize r ≤ ringRoom src then
    count { d with rcd := { d.rcd with nextSeq := seqs, ring := trimRing (recSize r) d.rcd.ring ++ [r] } } (devCtr 56)
  else
    let (first, n, t) := Tbl.getD d.rcd.dropped src.code (0, 0, 0)
    let first := if n = 0 then seq.toNat else first
    count { d with rcd := { d.rcd with nextSeq := seqs,
                                       dropped := Tbl.put d.rcd.dropped src.code (first, n + 1, t) } } (devCtr 57)

/-- Write RECORDS_DROPPED for a source that has lost records and has reported none for one second (R710, R722). -/
def reportDrops (d : Device) (src : Source) : Device :=
  match Tbl.get? d.rcd.dropped src.code with
  | some (first, n, t) =>
    if n > 0 ∧ d.tmp.pwrfail = false ∧ (t = 0 ∨ d.clock + 1 ≥ t + 1000 * msTicks) then
      emitRaw { d with rcd := { d.rcd with dropped := Tbl.put d.rcd.dropped src.code (0, 0, d.clock + 1) } }
        .boot 0x10 (leBytes 1 src.code ++ leBytes 4 first ++ leBytes 4 n)
    else d
  | none => d

/-- Write an event record. After PWRFAIL_N only TAMPER, BATTERY and POWER create records (R714). -/
def emit (d : Device) (src : Source) (type : Nat) (payload : Bytes) : Device :=
  if d.tmp.pwrfail ∧ src ≠ .tamper ∧ src ≠ .battery ∧ src ≠ .power then d
  else reportDrops (emitRaw d src type payload) src

/-! ## Interrupts (R96-R98) -/

def vecBase (d : Device) (f : Nat) : Nat := field d (0x11200 + 4 * f) 6 0
/-- VEC_COUNT; values above 128 are treated as 0. -/
def vecCount (d : Device) (f : Nat) : Nat :=
  let n := field d (0x11200 + 4 * f) 15 8
  if n > 128 then 0 else n

def inVecRange (d : Device) (f v : Nat) : Bool :=
  vecBase d f ≤ v && v < vecBase d f + vecCount d f && v < 128

/-- The vector belongs to the function: it lies in its range and in no lower-numbered function's (R96, R97). -/
def ownsVector (d : Device) (f v : Nat) : Bool :=
  inVecRange d f v && !(List.range f).any (fun g => inVecRange d g v)

def raiseVector (d : Device) (f v : Nat) : Device :=
  if ownsVector d f v then
    send { d with hif := { d.hif with raised := v :: d.hif.raised.filter (· != v) } } (.interrupt v)
  else d

/-! ## Rings -/

def cmdRing (d : Device) (r : Nat) : CmdRing := Tbl.getD d.hif.cmd r {}
def setCmdRing (d : Device) (r : Nat) (x : CmdRing) : Device :=
  { d with hif := { d.hif with cmd := Tbl.setD d.hif.cmd r {} x } }
def cqRing (d : Device) (m : Nat) : CqRing := Tbl.getD d.hif.cq m {}
def setCqRing (d : Device) (m : Nat) (x : CqRing) : Device :=
  { d with hif := { d.hif with cq := Tbl.setD d.hif.cq m {} x } }
def evRing (d : Device) (e : Nat) : EvRing := Tbl.getD d.hif.ev e {}
def setEvRing (d : Device) (e : Nat) (x : EvRing) : Device :=
  { d with hif := { d.hif with ev := Tbl.setD d.hif.ev e {} x } }

def cmdCfgOff (r : Nat) : Nat := 0x10008 + 0x20 * r
def cmdCtrlOff (r : Nat) : Nat := 0x1000C + 0x20 * r
def cmdStatusOff (r : Nat) : Nat := 0x10014 + 0x20 * r
def cqCfgOff (m : Nat) : Nat := 0x10808 + 0x20 * m
def cqCtrlOff (m : Nat) : Nat := 0x1080C + 0x20 * m

def cmdEnabled (d : Device) (r : Nat) : Bool := bit (reg d (cmdCtrlOff r)) 0
def cmdOwner (d : Device) (r : Nat) : Nat := field d (cmdCfgOff r) 11 8
def cmdCq (d : Device) (r : Nat) : Nat := field d (cmdCfgOff r) 21 16
/-- Descriptors fetched per visit; 0 is 16 (Table 2-7). -/
def cmdWeight (d : Device) (r : Nat) : Nat :=
  let w := field d (cmdCfgOff r) 31 28
  if w = 0 then 16 else w
/-- 2^k for a k of 6-16, none for a reserved LOG2_SIZE (R73). -/
def sizeOf (k : Nat) : Option Nat := if 6 ≤ k ∧ k ≤ 16 then some (2 ^ k) else none
def cmdSize (d : Device) (r : Nat) : Option Nat := sizeOf (field d (cmdCfgOff r) 4 0)
def cqEnabled (d : Device) (m : Nat) : Bool := bit (reg d (cqCtrlOff m)) 31
def cqOwner (d : Device) (m : Nat) : Nat := field d (cqCfgOff m) 11 8
def cqSize (d : Device) (m : Nat) : Option Nat := sizeOf (field d (cqCfgOff m) 4 0)
def base64 (d : Device) (off : Nat) : Nat := (reg d off).toNat + 2 ^ 32 * (reg d (off + 4)).toNat

/-- The completion ring keeps one entry free before the last head (R90). -/
def cqFull (d : Device) (m : Nat) : Bool :=
  match cqSize d m with
  | some n => ((cqRing d m).write + 1) % n == (cqRing d m).head
  | none => false

/-! ## Completions (R79, R88-R90, R98) -/

/-- The 32 bytes of a completion entry (Table 2-5). -/
def entryBytes (due : Due) (phase queued : Bool) : Bytes :=
  leBytes 4 due.origin.tag ++ leBytes 1 due.status.code
    ++ leBytes 1 ((if phase then 1 else 0) + (if queued then 2 else 0) + (if due.wroteBuf then 4 else 0))
    ++ leBytes 2 due.origin.ring ++ fit 16 due.result ++ leBytes 8 due.time

/-- Signal a completion ring: at once, or when COAL_COUNT entries have been posted (R98). -/
def signalCq (d : Device) (m : Nat) (now : Bool) : Device :=
  let c := cqRing d m
  let n := c.unsignalled + 1
  let coal := max 1 (field d (cqCtrlOff m) 7 0)
  if now || field d (cqCtrlOff m) 19 8 == 0 || n ≥ coal then
    raiseVector (setCqRing d m { c with unsignalled := 0 }) (cqOwner d m) (field d (cqCfgOff m) 22 16)
  else
    setCqRing d m { c with unsignalled := n, firstAt := if c.unsignalled = 0 then d.clock else c.firstAt }

/-- A command ring in use that is mapped to completion ring `m`: one that is enabled, or holds commands that were fetched. -/
def mappedTo (d : Device) (m r : Nat) : Bool :=
  (cmdEnabled d r || !(cmdRing d r).fetched.isEmpty) && cmdCq d r == m

/-- Set CQ_STALL of every command ring mapped to a completion ring that is full, and start its stall time (R90). -/
def markStall (d : Device) (m : Nat) : Device :=
  let c := cqRing d m
  let d := (List.range 64).foldl (fun d r =>
    if mappedTo d m r then setBits d (cmdStatusOff r) (mask 2 2) (mask 2 2) else d) d
  if c.stallSince.isNone then setCqRing d m { cqRing d m with stallSince := some d.clock } else d

/-- An enabled completion ring whose head or ENABLE has changed, or that a command ring has come to, is seen as full where
it is. -/
def seeFull (d : Device) (m : Nat) : Device := if cqEnabled d m && cqFull d m then markStall d m else d

/-- Write one entry at the write index; the index and the phase advance (R89). -/
def writeEntry (d : Device) (m size : Nat) (due : Due) : Device :=
  let c := cqRing d m
  let ring := cmdRing d due.origin.ring
  let entry := entryBytes due c.phase (due.origin.order + 1 < ring.postedTo)
  let addr := base64 d (0x10800 + 0x20 * m) + 32 * c.write
  let d := send d (.hostWrite (cqOwner d m) (BitVec.ofNat 64 addr) entry)
  let d := setCmdRing d due.origin.ring { ring with postedTo := max ring.postedTo (due.origin.order + 1) }
  let w := (c.write + 1) % size
  let d := setCqRing d m { c with write := w, phase := if w = 0 then !c.phase else c.phase }
  let d := signalCq d m (due.origin.flags.getLsbD 2)
  if cqFull d m then markStall d m else d

/-- Write the completions that have fallen due, in order, while the ring has room. -/
def drainCq (d : Device) (m : Nat) : List Due → Device
  | [] => setCqRing d m { cqRing d m with due := [] }
  | due :: rest =>
    match cqSize d m with
    | some size =>
      if cqEnabled d m then
        if cqFull d m then setCqRing d m { cqRing d m with due := due :: rest }
        else drainCq (writeEntry d m size due) m rest
      else drainCq d m rest
    | none => drainCq d m rest

/-- PK_REJECTED counts the completions with INPUT_REJECTED (R521). -/
def countRejected (d : Device) (due : Due) : Device :=
  if due.status = .inputRejected then count d (devCtr 32) else d

/-- A completion falls due. It is discarded after a reset of its function (R61), for an OK under QUIET (R75), and where its
completion ring has been disabled since the command's fetch, enabled again or not (R74); otherwise it is written, or waits
for room. -/
def post (d : Device) (due : Due) : Device :=
  let r := due.origin.ring
  let m := cmdCq d r
  if (cmdRing d r).epoch ≠ due.origin.epoch then d
  else if due.origin.flags.getLsbD 1 ∧ due.status = .ok then d
  else if !cqEnabled d m ∨ (cqSize d m).isNone ∨ due.origin.offs < (cqRing d m).offNo then d
  else drainCq (countRejected d due) m ((cqRing d m).due ++ [due])

/-- Write a command's output to its host buffer. A range past 2^64 cannot be issued (R82). -/
def writeBuf (d : Device) (o : Origin) (addr len : Nat) (data : Bytes) : Option Device :=
  if addr + len > 2 ^ 64 then none
  else if data = [] then some d
  else some (send d (.hostWrite o.fn (BitVec.ofNat 64 addr) data))

def dueOf (d : Device) (o : Origin) (st : Status) (result : Bytes) (wrote : Bool) : Due :=
  { origin := o, status := st, result := fit 16 result, wroteBuf := wrote, time := d.rcd.opTime }

def internalResult (cause : Nat) : Bytes := fit 16 (leBytes 4 cause)

/-- The completion of a command that ends OK, with its output written or found impossible to issue (R82). -/
def outputDue (d : Device) (o : Origin) (result : Bytes) (out : Option Bytes) : Device × Due :=
  match out with
  | none => (d, dueOf d o .ok result false)
  | some data =>
    match writeBuf d o o.bufAddr o.bufLen data with
    | some d => (d, dueOf d o .ok result (data != []))
    | none => (d, dueOf d o .internal (internalResult 1) false)

def dropInflight (d : Device) (o : Origin) : Device :=
  { d with hif := { d.hif with inflight := d.hif.inflight.filter (fun i => i.origin != o) } }

/-! ## Duet-link messages (R569) -/

/-- The member number of the enrolment certificate (R688). -/
def ownMember (d : Device) : Nat :=
  match d.boot.flash.enrolment with
  | some e => if d.boot.enrolled then leField e.cert 4 4 % 2 ^ 18 else 0
  | none => 0

/-- The number a member uses: the pair member number while it holds one (R568). -/
def memberInUse (d : Device) : Nat := d.duet.pairMember.getD (ownMember d)

/-! ## AES-GCM (NIST SP 800-38D, R331-R333) -/

/-- Counter block i: the 96-bit IV and the 32-bit counter. -/
def gcmBlock (iv : Bytes) (i : Nat) : Bytes := fit 12 iv ++ beBytes 4 i

/-- Data under the keystream: block j under counter block j + 2, a final partial block under its leading bytes. -/
def gcmCrypt (key iv data : Bytes) : Bytes :=
  xorBytes data ((List.range ((data.length + 15) / 16)).flatMap (fun j => fit 16 (Config.aesBlock key (gcmBlock iv (j + 2)))))

/-- Bytes filled with zeros to whole blocks. -/
def wholeBlocks (b : Bytes) : Bytes := b ++ zeros ((16 - b.length % 16) % 16)

/-- GHASH under AES-K(0) over the additional data, the ciphertext and their lengths in bits, exclusive-or AES-K of counter
block 1. -/
def gcmTag (key iv aad cipher : Bytes) : Bytes :=
  xorBytes
    (fit 16 (Config.ghash (fit 16 (Config.aesBlock key (zeros 16)))
      (wholeBlocks aad ++ wholeBlocks cipher ++ beBytes 8 (8 * aad.length) ++ beBytes 8 (8 * cipher.length))))
    (fit 16 (Config.aesBlock key (gcmBlock iv 1)))

def duetHeader (d : Device) (type flags len seq : Nat) : Bytes :=
  leBytes 1 type ++ leBytes 1 flags ++ leBytes 2 len ++ leBytes 4 d.duet.epoch.toNat ++ leBytes 8 seq

/-- A message enciphered under a link key. -/
def duetBytes (d : Device) (key : Bytes) (seq type : Nat) (ack : Bool) (payload : Bytes) : Bytes :=
  let hdr := duetHeader d type (if ack then 1 else 0) payload.length seq
  let iv := beBytes 4 (ownMember d) ++ beBytes 8 seq
  let ct := fit payload.length (gcmCrypt key iv payload)
  hdr ++ ct ++ fit 16 (gcmTag key iv hdr ct)

/-- A message leaves while the duet link is active (R739). -/
def putDuet (d : Device) (msg : Bytes) : Device := if d.lane.dlState = 5 then send d (.duet msg) else d

/-- Send a message enciphered under the link key; nothing is sent without one. SEQ is never repeated. -/
def sendDuet (d : Device) (type : Nat) (ack : Bool) (payload : Bytes) : Device :=
  match d.duet.linkKey with
  | none => d
  | some key =>
    putDuet { d with duet := { d.duet with txSeq := d.duet.txSeq + 1 } }
      (duetBytes d key d.duet.txSeq type ack payload)

/-- The device is a member of a Duet with a peer on the link. -/
def peerPresent (d : Device) : Bool :=
  d.duet.role != .solo && d.duet.confirmed && !d.duet.peerLost && d.duet.linkKey.isSome

/-! ## Descriptor commands -/

def CmdClass.bitOf : CmdClass → Option Nat
  | .a => some 24 | .d => some 25 | .e => some 26 | .f => some 27 | .g => some 28 | .h => some 29 | _ => none

/-- Class and kind (queued) of an opcode (R102, Table 2-11). -/
def opInfo : Nat → Option (CmdClass × Bool)
  | 0x0000 => some (.a, false) | 0x0001 => some (.a, false) | 0x0002 => some (.a, false)
  | 0x0010 => some (.a, true) | 0x0011 => some (.a, false) | 0x0012 => some (.a, false) | 0x0013 => some (.a, false)
  | 0x0020 => some (.b, true) | 0x0021 => some (.b, false) | 0x0022 => some (.b, true) | 0x0023 => some (.b, true)
  | 0x0030 => some (.c, true) | 0x0038 => some (.l, false)
  | 0x0100 => some (.d, false) | 0x0101 => some (.d, false) | 0x0102 => some (.d, false) | 0x0103 => some (.d, false)
  | 0x0104 => some (.d, false) | 0x0105 => some (.d, false) | 0x0106 => some (.d, true) | 0x0107 => some (.d, false)
  | 0x0108 => some (.d, false)
  | 0x0180 => some (.e, false) | 0x0181 => some (.e, true) | 0x0182 => some (.e, false) | 0x0183 => some (.e, false)
  | 0x0200 => some (.f, false) | 0x0201 => some (.f, false) | 0x0202 => some (.f, false) | 0x0203 => some (.f, false)
  | 0x0204 => some (.f, false) | 0x0210 => some (.f, false) | 0x0211 => some (.f, false) | 0x0212 => some (.f, false)
  | 0x0280 => some (.g, false) | 0x0281 => some (.g, false)
  | 0x0300 => some (.h, true) | 0x0301 => some (.h, true) | 0x0302 => some (.h, true) | 0x0303 => some (.h, true)
  | 0x0304 => some (.h, true)
  | 0x0310 => some (.h, false) | 0x0311 => some (.h, false) | 0x0312 => some (.h, false) | 0x0313 => some (.h, true)
  | 0x0314 => some (.h, false) | 0x0320 => some (.h, true)
  | 0x0380 => some (.j, true) | 0x0381 => some (.j, false) | 0x0382 => some (.j, false)
  | 0x0400 => some (.k, false) | 0x0401 => some (.k, false) | 0x0402 => some (.k, true) | 0x0403 => some (.k, true)
  | _ => none

/-- Some lane group has one of these personalities (R17, R55). -/
def hasGroup (d : Device) (ps : List Nat) : Bool := d.boot.profile.groups.any (fun g => ps.contains g)

/-- Table 1-4. In MIXED, a class bound to lane groups needs a group of a personality it serves. -/
def modeAllows (d : Device) : CmdClass → Bool
  | .a => true
  | .b => d.glb.mode == .provision
  | .c => d.glb.mode == .locked
  | .d => d.glb.mode == .link || d.glb.mode == .aggregate || (d.glb.mode == .mixed && hasGroup d [1, 2])
  | .e => d.glb.mode == .otn || d.glb.mode == .sdh || (d.glb.mode == .mixed && hasGroup d [3, 4])
  | .f => d.glb.mode == .aggregate || (d.glb.mode == .mixed && hasGroup d [2])
  | .g => d.glb.mode == .sdh || (d.glb.mode == .mixed && hasGroup d [4])
  | .h => d.glb.mode != .locked
  | .j => d.glb.mode == .link || d.glb.mode == .aggregate || d.glb.mode == .otn || d.glb.mode == .sdh
          || d.glb.mode == .mixed
  | .k => d.glb.mode == .maintain
  | .l => d.glb.mode != .locked

/-- Class rights of a function (R101). -/
def classRight (d : Device) (fn : Nat) (c : CmdClass) : Bool :=
  fn == 0 || (match c.bitOf with
    | some b => bit (reg d (0x11200 + 4 * fn)) b
    | none => false)

/-- Classes that wait while RESTART is 1 (R701). -/
def restartWaits : CmdClass → Bool
  | .d | .e | .f | .g | .j | .k => true
  | _ => false

/-- Classes refused in HOLD (R760). -/
def holdDenies : CmdClass → Bool
  | .d | .e | .f | .g | .j | .k | .l => true
  | _ => false

/-- Classes that complete with INTERNAL after a failed DDR4 training (R525). -/
def needsDram : CmdClass → Bool
  | .d | .e | .f | .g => true
  | _ => false

def opcodeOf (desc : Bytes) : Nat := leField desc 0 2

/-- The first offending offset among candidates listed in ascending order (R769). -/
def firstBad (l : List (Nat × Bool)) : Option Nat := (l.find? (fun e => e.2)).map Prod.fst

/-- Reserved bytes `lo` to `hi`: each is bad where it is not 0. -/
def zeroFrom (desc : Bytes) (lo hi : Nat) : List (Nat × Bool) :=
  (upFrom lo (hi + 1 - lo)).map (fun i => (i, byteAt desc i != 0#8))

/-- Reserved bits `m` of one byte. -/
def zeroBits (desc : Bytes) (off m : Nat) : Nat × Bool := (off, (byteAt desc off).toNat &&& m != 0)

/-- A status with the descriptor offset of the offending field in RESULT bytes 8-9 (Table 2-5). -/
def failAt (d : Device) (st : Status) (off : Nat) : Verdict := .fail d st (fit 16 (leBytes 2 off))

def fail (d : Device) (st : Status) : Verdict := .fail d st (zeros 16)
def failInternal (d : Device) (cause : Nat) : Verdict := .fail d .internal (internalResult cause)

/-- The objects of Table 13-6: the commands the ACTIVE member mirrors (R575); slots only in the mirror range (R460). -/
def mirrors (opcode : Nat) (desc : Bytes) : Bool :=
  (0x0100 ≤ opcode && opcode ≤ 0x0108 && opcode != 0x0105) || (0x0180 ≤ opcode && opcode ≤ 0x0183) || opcode == 0x0200 || opcode == 0x0201
    || (0x0210 ≤ opcode && opcode ≤ 0x0212) || opcode == 0x0280 || opcode == 0x0281
    || ((opcode == 0x0310 || opcode == 0x0311 || opcode == 0x0312 || opcode == 0x0314)
        && 768 ≤ leField desc 20 2 % 1024)

/-- The key record that a KN_KEY_INSTALL descriptor names: four per association from 196,608 on, transmit before
receive; within a pair the current record alternates at each turn (R321). -/
def knRecordOf (d : Device) (a dir target : Nat) : Nat :=
  let sel := match Tbl.get? d.kn.assocs a with
    | some x => if dir = 0 then x.txSel else x.rxSel
    | none => 0
  196608 + 4 * a + 2 * dir + (sel + target) % 2

def mirrorRecord (d : Device) (desc : Bytes) : Nat :=
  knRecordOf d (leField desc 20 2 % 2 ^ 14) (leField desc 22 1) (leField desc 26 1)

/-- The entries of a connection page in messages of at most 4,096 payload bytes (R569). -/
def pageParts (desc buf : Bytes) : List Bytes :=
  let first := leField desc 22 2
  let n := leField desc 24 2
  (List.range ((n + 1007) / 1008)).map (fun k =>
    let m := min 1008 (n - 1008 * k)
    desc.take 22 ++ leBytes 2 (first + 1008 * k) ++ leBytes 2 m ++ desc.drop 26 ++ slice buf (4032 * k) (4 * m))

/-- MIRROR carries the command that made the object, and its key wrapped under the pair key (R575; log 14): a written
slot travels as a SLOT_IMPORT of what it holds, an SA or Knadra key as its install command, a Knadra turn with S. -/
def mirrorPayload (d : Device) (opcode : Nat) (desc : Bytes) : Bytes :=
  let pair := d.duet.pairKey.getD []
  if opcode = 0x0310 ∨ opcode = 0x0311 then
    let i := leField desc 20 2 % 1024
    let s := Tbl.getD d.key.slots i {}
    leBytes 2 0x0310 ++ zeros 18 ++ leBytes 2 i ++ [0#8] ++ leBytes 1 s.type
      ++ leBytes 2 (match s.parent with | some (p, _) => p | none => 0xFFFF)
      ++ leBytes 2 s.attr.toNat ++ leBytes 1 s.curve ++ leBytes 1 s.len
      ++ leBytes 1 (match s.parent with
        | some (p, g) => if (Tbl.getD d.key.slots p {}).gen = g then 0 else 1
        | none => 0)
      ++ zeros 33 ++ Config.wrap5649 pair s.key
  else if opcode = 0x0104 then
    desc ++ Config.wrap3394 pair (Tbl.getD d.key.records (leField desc 20 3 % 2 ^ 18) {}).key
  else if opcode = 0x0182 then
    desc ++ Config.wrap3394 pair (Tbl.getD d.key.records (mirrorRecord d desc) {}).key
  else if opcode = 0x0183 then
    desc ++ leBytes 8 (match Tbl.get? d.kn.assocs (leField desc 20 2 % 2 ^ 14) with
      | some x => x.turn.getD 0
      | none => 0)
  else desc

/-- The MIRROR messages of a command. -/
def mirrorParts (d : Device) (opcode : Nat) (desc buf : Bytes) : List Bytes :=
  if opcode = 0x0280 then pageParts desc buf else [mirrorPayload d opcode desc]

def sendMirror (d : Device) (payload : Bytes) : Device := count (sendDuet d 0x20 true payload) (devCtr 48)

/-- Commands that write shared entries, which the data path writes too: SA contexts, SecYs, SCs, associations, MAC and TCAM
entries, policers and shapers. -/
def reachesEntry (opcode : Nat) : Bool :=
  match opInfo opcode with
  | some (.d, _) | some (.e, _) | some (.f, _) => true
  | _ => false

/-- A command of ring `r` that reaches a shared entry is granted it, and the rotating pointer of rank 3 moves to the ring
after `r` (R51). -/
def granting (d : Device) (r opcode : Nat) : Device :=
  if reachesEntry opcode then { d with hif := { d.hif with grantPtr := (r + 1) % 64 } } else d

/-- A KEY_TURN_SCHEDULE that cancelled no turn has no effect to mirror (R240). -/
def cancelledNothing (opcode : Nat) (desc : Bytes) (due : Due) : Bool :=
  opcode == 0x0107 && byteAt desc 23 == 1#8 && byteAt due.result 0 != 1#8

/-- The command as it travels: byte 34 of a KEY_TURN_SCHEDULE, reserved in the command, says that the turn was late (R235; log 14). -/
def mirroredDesc (opcode : Nat) (desc : Bytes) (due : Due) : Bytes :=
  if opcode = 0x0107 ∧ byteAt desc 23 = 0#8 ∧ byteAt due.result 0 = 1#8 then desc.set 34 1#8 else desc

/-- Post the completion of a command that took effect, or hold it until the MIRROR_ACK of the mirrored command (R577). -/
def mirrorThenPost (d : Device) (opcode : Nat) (desc buf : Bytes) (due : Due) : Device :=
  let d := granting d due.origin.ring opcode
  if d.duet.role = .active ∧ peerPresent d ∧ mirrors opcode desc ∧ !cancelledNothing opcode desc due
      ∧ (d.duet.peerRole = .standby ∨ d.duet.bulkSent) then
    let d := (mirrorParts d opcode (mirroredDesc opcode desc due) buf).foldl sendMirror d
    let seq := d.duet.txSeq - 1
    if d.duet.peerRole = .standby then
      { d with duet := { d.duet with waits := d.duet.waits ++ [{ seq := seq, sent := d.clock, due := due }] }
               hif := { d.hif with inflight :=
                 d.hif.inflight.filter (fun i => i.origin != due.origin)
                   ++ [{ origin := due.origin, opcode := opcode, committed := true }] } }
    else post (dropInflight d due.origin) due
  else post (dropInflight d due.origin) due

/-- A queued or deferred command ends: its inflight entry goes and its completion falls due. -/
def finish (d : Device) (o : Origin) (st : Status) (result : Bytes) : Device :=
  post (dropInflight d o) (dueOf d o st result false)

/-- As `finish` with OK and output for the host buffer. -/
def finishOut (d : Device) (o : Origin) (result : Bytes) (out : Option Bytes) : Device :=
  let r := outputDue d o result out
  post (dropInflight r.1 o) r.2

/-- Why the front command of a ring does not begin: start-up has not ended (R697), its completion ring is full (R90), an
earlier command of the ring has not committed (R78), WAIT is set and an earlier queued command is out (R75), or a
restart is in progress (R701). A full completion ring that is disabled before it has been drained still holds its commands
back: R90 speaks of full rings and R74 of disabled ones, and neither of one that is both (DESIGN CHOICE, log 83). -/
def heldBack (d : Device) (r opcode : Nat) (f : Fetched) : Bool :=
  !d.boot.ended || cqFull d (cmdCq d r)
    || d.hif.inflight.any (fun i => i.origin.ring == r && i.origin.epoch == (cmdRing d r).epoch && !i.committed)
    || ((byteAt f.desc 2).getLsbD 0
        && d.hif.inflight.any (fun i => i.origin.ring == r && i.origin.epoch == (cmdRing d r).epoch))
    || (d.boot.restart.isSome && (match opInfo opcode with | some (c, _) => restartWaits c | none => false))

def originOf (d : Device) (r : Nat) (f : Fetched) : Origin :=
  { ring := r, fn := cmdOwner d r, tag := leField f.desc 4 4, flags := byteAt f.desc 2, order := f.order,
    epoch := (cmdRing d r).epoch, bufAddr := leField f.desc 8 8, bufLen := leField f.desc 16 4, offs := f.offs, fetched := f.at_ }

/-- The profile's entry for a port. -/
def portCfg (d : Device) (p : Nat) : Option PortCfg := Tbl.get? d.boot.profile.ports p

/-- Personality of a lane group. -/
def groupMode (d : Device) (g : Nat) : Nat := (d.boot.profile.groups[g]?).getD 0

/-- The port exists and its lane group has none of these personalities (R19). -/
def wrongGroup (d : Device) (p : Nat) (ps : List Nat) : Bool :=
  match portCfg d p with
  | some c => !ps.contains (groupMode d (c.firstLane / 16))
  | none => false

/-- LENGTH of a ROUTE_ADD lies in the family's range and PREFIX has no 1 beyond it; R373 puts the contrary before MODE_DENIED. -/
def routeFits (desc : Bytes) : Bool :=
  let v6 := leField desc 21 1 == 6
  let n := leField desc 22 1
  n ≤ (if v6 then 128 else 32)
    && (if v6 then beField desc 32 16 else beField desc 32 4) % 2 ^ ((if v6 then 128 else 32) - n) == 0

/-- The ports that a descriptor addresses, and the personalities that the command serves (R19, R202, R352, R390, R439). -/
def addressed (opcode : Nat) (desc : Bytes) : List Nat × List Nat :=
  match opcode with
  | 0x0100 => ([leField desc 22 1], [1, 2])
  | 0x0180 => ([leField desc 22 1], [3, 4])
  | 0x0200 => (if routeFits desc then [leField desc 24 1] else [], [2])
  | 0x0202 => ([leField desc 22 1], [2])
  | 0x0204 => (if (byteAt desc 20).getLsbD 0 then [leField desc 22 1] else [], [2])
  | 0x0211 => (if leField desc 20 1 = 2 then [leField desc 22 2] else [], [2])
  | 0x0212 =>
    (if leField desc 20 1 = 1 then [leField desc 24 1]
     else if leField desc 20 1 = 2 then [leField desc 24 1, leField desc 25 1] else [], [2])
  | 0x0281 => ([leField desc 20 1], [4])
  | _ => ([], [])

/-- A port that the command addresses lies in a lane group of the wrong personality (R19, step 3 of R103). -/
def portDenied (d : Device) (opcode : Nat) (desc : Bytes) : Bool :=
  (addressed opcode desc).1.any (fun p => wrongGroup d p (addressed opcode desc).2)

/-- The checks of R103 that come before an opcode's own conditions, with the class rights, the mode and what HALT, HOLD
and a failed training add to it, and the check of reserved bits and values (R769). INTERNAL 3 (R525) is judged before the
reserved bits, with the other conditions that hold for a whole class; the spec orders the two nowhere (DESIGN CHOICE,
log 83). -/
def preCheck (d : Device) (fn opcode : Nat) (right : Bool) (desc : Bytes) (own : List (Nat × Bool)) :
    Option (Status × Bytes) :=
  match opInfo opcode with
  | none => some (.badOpcode, zeros 16)
  | some (c, _) =>
    if !classRight d fn c || !right then some (.badOpcode, zeros 16)
    else if !modeAllows d c || portDenied d opcode desc then some (.modeDenied, zeros 16)
    else if d.tmp.halted && c != .a then some (.modeDenied, zeros 16)
    else if d.pwr.holding && holdDenies c then some (.modeDenied, zeros 16)
    else if d.mem.trainFailed && needsDram c then some (.internal, internalResult 3)
    else match firstBad ([zeroBits desc 2 0xF8, zeroBits desc 3 0xFF] ++ own) with
      | some off => some (.badField, leBytes 2 off)
      | none => none

/-- The front descriptor is taken from ring `r`. -/
def taken (d : Device) (r : Nat) (rest : List Fetched) : Device := setCmdRing d r { cmdRing d r with fetched := rest }

/-- Run the front fetched descriptor of ring `r` as opcode `opcode`: `own` lists the offsets whose reserved bits or
values are bad, `right` the per-opcode right of R101, `body` the opcode's definition. Nothing happens where the front
descriptor is another opcode's or is held back. -/
def runCommand (opcode r : Nat) (right : Device → Nat → Bool) (own : Bytes → List (Nat × Bool))
    (body : Origin → Bytes → Bytes → Device → Verdict) (buf : Bytes) (d : Device) : Device :=
  match (cmdRing d r).fetched with
  | [] => d
  | f :: rest =>
    if opcodeOf f.desc ≠ opcode ∨ heldBack d r opcode f then d
    else
      let o := originOf d r f
      let d' := taken d r rest
      match preCheck d' o.fn opcode (right d' o.fn) f.desc (own f.desc) with
      | some (st, res) => post d' (dueOf d' o st res false)
      | none =>
        match body o f.desc (fit o.bufLen buf) d' with
        | .wait => d
        | .fail e st res => post e (dueOf e o st res false)
        | .done e res out =>
          let x := outputDue e o res out
          mirrorThenPost x.1 opcode f.desc (fit o.bufLen buf) x.2
        | .accept e => e

/-- Enter an accepted command: a queued one has committed, an in-order one that waits for its commit point has not. -/
def enterInflight (d : Device) (o : Origin) (opcode : Nat) : Device :=
  let d := granting d o.ring opcode
  { d with hif := { d.hif with inflight := d.hif.inflight ++
      [{ origin := o, opcode := opcode
         committed := match opInfo opcode with | some (_, q) => q | none => true }] } }

/-- No per-opcode right beyond the class. -/
def anyRight (_ : Device) (_ : Nat) : Bool := true

end Sys2Proof.Machine
end

