-- ==== Sys2Proof/Machine/Curves.lean ====
section
/-!
DEFINITION. The arithmetic of the modular engines: elliptic curves in affine coordinates, ECDSA, ECDH, RSA verification
and the Miller-Rabin test (R495-R504). P-256 and P-384 have the domain parameters of NIST SP 800-186, which the spec
names and does not print (log 4).
-/
namespace Sys2Proof.Machine

/-- A point, `none` for the point at infinity. -/
abbrev Point := Option (Nat × Nat)

def powModAux : Nat → Nat → Nat → Nat → Nat → Nat
  | 0, _, _, _, acc => acc
  | f + 1, b, e, m, acc =>
    if e = 0 then acc
    else powModAux f (b * b % m) (e / 2) m (if e % 2 = 1 then acc * b % m else acc)

/-- b ^ e mod m. -/
def powMod (b e m : Nat) : Nat := powModAux (Nat.log2 e + 1) (b % m) e m (1 % m)

/-- Inverse modulo a prime. -/
def invMod (a p : Nat) : Nat := powMod a (p - 2) p

def subMod (a b p : Nat) : Nat := (a % p + (p - b % p)) % p

def onCurve (c : Curve) : Point → Bool
  | none => true
  | some (x, y) => y * y % c.p == (x * x * x + c.a * x + c.b) % c.p

def ecAdd (c : Curve) : Point → Point → Point
  | none, q => q
  | p, none => p
  | some (x1, y1), some (x2, y2) =>
    if x1 % c.p = x2 % c.p ∧ (y1 + y2) % c.p = 0 then none
    else
      let l := if x1 % c.p = x2 % c.p then (3 * x1 * x1 + c.a) * invMod (2 * y1) c.p % c.p
               else subMod y2 y1 c.p * invMod (subMod x2 x1 c.p) c.p % c.p
      let x3 := subMod (l * l) (x1 + x2) c.p
      some (x3, subMod (l * subMod x1 x3 c.p) y1 c.p)

def ecMulAux (c : Curve) : Nat → Nat → Point → Point → Point
  | 0, _, _, acc => acc
  | f + 1, k, q, acc =>
    if k = 0 then acc
    else ecMulAux c f (k / 2) (ecAdd c q q) (if k % 2 = 1 then ecAdd c acc q else acc)

/-- k times a point. -/
def ecMul (c : Curve) (k : Nat) (q : Point) : Point := ecMulAux c (Nat.log2 k + 1) k q none

def Curve.gen (c : Curve) : Point := some (c.gx, c.gy)

/-- Byte length of p and of n. -/
def byteLen (n : Nat) : Nat := (Nat.log2 n + 8) / 8
def Curve.lenP (c : Curve) : Nat := (c.bits + 7) / 8
def Curve.lenN (c : Curve) : Nat := byteLen c.n

def p256 : Curve :=
  { bits := 256, cofactor := 1, p := 2 ^ 256 - 2 ^ 224 + 2 ^ 192 + 2 ^ 96 - 1,
    a := 2 ^ 256 - 2 ^ 224 + 2 ^ 192 + 2 ^ 96 - 4,
    b := 0x5ac635d8aa3a93e7b3ebbd55769886bc651d06b0cc53b0f63bce3c3e27d2604b,
    gx := 0x6b17d1f2e12c4247f8bce6e563a440f277037d812deb33a0f4a13945d898c296,
    gy := 0x4fe342e2fe1a7f9b8ee7eb4a7c0f9e162bce33576b315ececbb6406837bf51f5,
    n := 0xffffffff00000000ffffffffffffffffbce6faada7179e84f3b9cac2fc632551 }

def p384 : Curve :=
  { bits := 384, cofactor := 1, p := 2 ^ 384 - 2 ^ 128 - 2 ^ 96 + 2 ^ 32 - 1,
    a := 2 ^ 384 - 2 ^ 128 - 2 ^ 96 + 2 ^ 32 - 4,
    b := 0xb3312fa7e23ee7e4988e056be3f82d19181d9c6efe8141120314088f5013875ac656398d8a2ed19d2a85c8edd3ec2aef,
    gx := 0xaa87ca22be8b05378eb1c71ef320ad746e1d3b628ba79b9859f741e082542a385502f25dbf55296c3a545e3872760ab7,
    gy := 0x3617de4a96262c6f5d9e98bf9292dc29f8f41dbd289a147ce9da3113b5f0b8c00a60b1ce1d7e819d7a431d7c90ea0e5f,
    n := 0xffffffffffffffffffffffffffffffffffffffffffffffffc7634d81f4372ddf581a0db248b0a77aecec196accc52973 }

/-- An uncompressed point, 0x04 || X || Y, network order. -/
def pointBytes (c : Curve) : Point → Bytes
  | none => 0x04#8 :: zeros (2 * c.lenP)
  | some (x, y) => 0x04#8 :: (beBytes c.lenP x ++ beBytes c.lenP y)

/-- The input conditions on a point: first byte, coordinates, on the curve, and its order where the cofactor is above 1
(Table 11-6). -/
def readPoint (c : Curve) (bs : Bytes) : Option Point :=
  let x := beField bs 1 c.lenP
  let y := beField bs (1 + c.lenP) c.lenP
  if byteAt bs 0 = 0x04#8 ∧ x < c.p ∧ y < c.p ∧ onCurve c (some (x, y))
      ∧ (c.cofactor ≤ 1 ∨ ecMul c c.n (some (x, y)) = none)
  then some (some (x, y)) else none

/-- The leftmost bits of a digest, up to the bit length of n (R497). -/
def digestInt (c : Curve) (digest : Bytes) : Nat :=
  beNat digest / 2 ^ (8 * digest.length - min (8 * digest.length) (Nat.log2 c.n + 1))

def ecdsaVerify (c : Curve) (q : Point) (digest : Bytes) (r s : Nat) : Bool :=
  let w := invMod s c.n
  let z := digestInt c digest
  match ecAdd c (ecMul c (z * w % c.n) c.gen) (ecMul c (r * w % c.n) q) with
  | some (x, _) => x % c.n == r
  | none => false

/-- (r, s) under private key `x` with nonce `k`. -/
def ecdsaSign (c : Curve) (x k : Nat) (digest : Bytes) : Nat × Nat :=
  match ecMul c k c.gen with
  | some (px, _) =>
    let r := px % c.n
    (r, invMod k c.n * (digestInt c digest + r * x) % c.n)
  | none => (0, 0)

/-- A scalar in [1, n - 1] from random bytes. -/
def scalarFrom (n : Nat) (bs : Bytes) : Nat := beNat bs % (n - 1) + 1

def scalarOk (c : Curve) (x : Nat) : Bool := 0 < x && x < c.n

/-- Verify a P-256 signature with SHA-256 over a message under an uncompressed public key; r and s of 32 bytes each. -/
def verifyP256 (pub msg sig : Bytes) : Bool :=
  let r := beField sig 0 32
  let s := beField sig 32 32
  match readPoint p256 pub with
  | some q => scalarOk p256 r && scalarOk p256 s && ecdsaVerify p256 q (fit 32 (Config.sha 32 msg)) r s
  | none => false

/-! ## RSA (R497, Table 11-6) -/

/-- DigestInfo of RFC 8017 for SHA-256 or SHA-384. -/
def digestInfo (len : Nat) (digest : Bytes) : Bytes :=
  (if len = 32 then
    [0x30#8, 0x31#8, 0x30#8, 0x0d#8, 0x06#8, 0x09#8, 0x60#8, 0x86#8, 0x48#8, 0x01#8, 0x65#8, 0x03#8, 0x04#8, 0x02#8,
     0x01#8, 0x05#8, 0x00#8, 0x04#8, 0x20#8]
   else
    [0x30#8, 0x41#8, 0x30#8, 0x0d#8, 0x06#8, 0x09#8, 0x60#8, 0x86#8, 0x48#8, 0x01#8, 0x65#8, 0x03#8, 0x04#8, 0x02#8,
     0x02#8, 0x05#8, 0x00#8, 0x04#8, 0x30#8]) ++ digest

/-- EMSA-PKCS1-v1_5 encoding in `m` bytes. -/
def pkcs1 (m len : Nat) (digest : Bytes) : Bytes :=
  let t := digestInfo len digest
  0x00#8 :: 0x01#8 :: (List.replicate (m - t.length - 3) 0xFF#8 ++ 0x00#8 :: t)

def rsaVerify (m modulus e sig len : Nat) (digest : Bytes) : Bool :=
  beBytes m (powMod sig e modulus) == pkcs1 m len digest

/-! ## Primality and curve acceptance (R504) -/

/-- Write n - 1 = 2^s * d with d odd. -/
def splitTwo : Nat → Nat → Nat → Nat × Nat
  | 0, d, s => (d, s)
  | f + 1, d, s => if d % 2 = 0 then splitTwo f (d / 2) (s + 1) else (d, s)

def mrSquares (n : Nat) : Nat → Nat → Bool
  | 0, _ => false
  | f + 1, x => x == n - 1 || mrSquares n f (x * x % n)

/-- One Miller-Rabin round with base `a`. -/
def mrRound (n a : Nat) : Bool :=
  let ds := splitTwo (Nat.log2 n + 1) (n - 1) 0
  let x := powMod a ds.1 n
  x == 1 || mrSquares n ds.2 x

/-- 64 rounds, with bases drawn from 64 times 66 random bytes. -/
def millerRabin (n : Nat) (rand : Bytes) : Bool :=
  3 ≤ n && n % 2 == 1 && (List.range 64).all (fun i => mrRound n (beNat (slice rand (66 * i) 66) % (n - 3) + 2))

/-- The checks of R504, in order. -/
def curveOk (c : Curve) (rand : Bytes) : Bool :=
  millerRabin c.p (rand.take 4224)
    && (4 * c.a * c.a * c.a + 27 * c.b * c.b) % c.p != 0
    && onCurve c c.gen
    && millerRabin c.n (rand.drop 4224)
    && ecMul c c.n c.gen == none
    && (let t : Int := (c.p : Int) + 1 - (c.cofactor * c.n : Nat); t * t ≤ 4 * c.p)
    && c.n != c.p

end Sys2Proof.Machine
end

