-- ==== Sys2Proof/Machine/KeyBase.lean ====
section
/-!
DEFINITION. The key store's shared operations: the KDF and the derivation tree (R464), the integrity check (R455),
slots, staleness and the conditions on writing one (R449-R460).
-/
namespace Sys2Proof.Machine

/-! ## Derivation (R464-R466) -/

def ascii (s : String) : Bytes := s.toList.map (fun c => BitVec.ofNat 8 c.toNat)

/-- The SP 800-108 KDF in counter mode, `bits` a multiple of 8 (R464). -/
def kdf (key : Bytes) (label : String) (context : Bytes) (bits : Nat) : Bytes :=
  fit (bits / 8) ((upFrom 1 ((bits + 255) / 256)).flatMap (fun i =>
    fit 32 (Config.hmac 32 key (beBytes 4 i ++ ascii label ++ [0#8] ++ context ++ beBytes 4 bits))))

/-- Table 10-6. -/
def deriveTree (fuseKey bbk : Bytes) : Tree :=
  let root := kdf fuseKey "LVT1600 ROOT" bbk 256
  { root := root
    identity := kdf root "LVT1600 IDENTITY" [] 384
    slotCheck := kdf root "LVT1600 SLOT CHECK" [] 256
    journal := kdf root "LVT1600 JOURNAL" [] 256
    duetPair := kdf root "LVT1600 DUET PAIR" [] 256
    imageSalt := kdf root "LVT1600 IMAGE SALT" [] 256 }

/-- The identity private key (R466). -/
def identityKey (t : Tree) : Nat := beNat t.identity % (p256.n - 1) + 1

def identityPub (t : Tree) : Bytes := pointBytes p256 (ecMul p256 (identityKey t) p256.gen)

/-- A signature by the identity key over a message, with a nonce from the DRBG. -/
def identitySign (t : Tree) (rand msg : Bytes) : Bytes :=
  let rs := ecdsaSign p256 (identityKey t) (scalarFrom p256.n rand) (fit 32 (Config.sha 32 msg))
  beBytes 32 rs.1 ++ beBytes 32 rs.2

/-! ## The integrity check (R455) -/

/-- The message of CHECK and its leftmost 32 bits. -/
def checkMsg (type : Nat) (key : Bytes) (attr : W16) (gen : W32) : Bytes :=
  leBytes 1 type ++ leBytes 1 key.length ++ key ++ beBytes 2 attr.toNat ++ beBytes 4 gen.toNat

def checkValue (d : Device) (type : Nat) (key : Bytes) (attr : W16) (gen : W32) : W32 :=
  match d.key.tree with
  | some t => BitVec.ofNat 32 (beNat (fit 4 (Config.cmac t.slotCheck (checkMsg type key attr gen))))
  | none => 0#32

/-! ## Slots -/

def slot (d : Device) (i : Nat) : Slot := Tbl.getD d.key.slots i {}
def setSlot (d : Device) (i : Nat) (s : Slot) : Device :=
  { d with key := { d.key with slots := Tbl.setD d.key.slots i {} s } }

def aENC : Nat := 0x001
def aDEC : Nat := 0x002
def aWRAP : Nat := 0x004
def aUNWRAP : Nat := 0x008
def aDERIVE : Nat := 0x010
def aSIGN : Nat := 0x020
def aAGREE : Nat := 0x040
def aDATAPLANE : Nat := 0x080
def aSERVICE : Nat := 0x100
def aMIRROR : Nat := 0x200
def aEXPORT : Nat := 0x400

def hasAttr (a : W16) (m : Nat) : Bool := a.toNat &&& m == m

/-- Attributes Table 10-3 permits for a type. -/
def attrPermitted : Nat → Nat
  | 0 | 1 => 0x79F
  | 2 => 0x713
  | _ => 0x760

/-- The attribute conditions of R450. -/
def attrBad (type attr slotNo : Nat) : Bool :=
  attr &&& 0xF800 != 0
    || attr &&& (0xFFFF - attrPermitted type) != 0
    || (attr &&& (aWRAP ||| aUNWRAP) != 0 && attr &&& aDATAPLANE != 0)
    || (attr &&& (aENC ||| aDEC ||| aDERIVE ||| aSIGN ||| aAGREE) != 0 && attr &&& aSERVICE == 0)
    || (attr &&& aMIRROR != 0 && slotNo < 768)

/-- The mirror range carries MIRROR, and a parent lies in it too (R460). -/
def mirrorBad (attr slotNo : Nat) (parent : Option Nat) : Bool :=
  768 ≤ slotNo && (attr &&& aMIRROR == 0 || (match parent with | some p => p < 768 | none => false))

/-- Slots a function may address (R453, Table 10-11). -/
def slotInRange (d : Device) (fn i : Nat) : Bool :=
  let off := 0x1C0100 + 4 * fn
  let base := field d off 9 0
  base ≤ i && i < base + field d off 26 16 && i < 1024

/-- GEN increments and never wraps (R454). -/
def nextGen (g : W32) : W32 := if g = 0xFFFFFFFF#32 then g else g + 1#32

/-- Links that a chain of parents is followed for: as many as there are slots, since a rewritten parent can lengthen the
chains of its stale children beyond DEPTH, or close them. -/
def chainFuel : Nat := 1024

/-- A slot is stale when any slot of its chain of parents holds another GEN than recorded below it (R459). -/
def staleAux (d : Device) : Nat → Nat → Bool
  | 0, _ => false
  | f + 1, i =>
    match (slot d i).parent with
    | some (p, g) => (slot d p).gen != g || staleAux d f p
    | none => false

def stale (d : Device) (i : Nat) : Bool := staleAux d chainFuel i

/-- The chain of parents of slot `i` includes slot `a`. -/
def descends (d : Device) (a : Nat) : Nat → Nat → Bool
  | 0, _ => false
  | f + 1, i =>
    match (slot d i).parent with
    | some (p, _) => p == a || descends d a f p
    | none => false

/-- A STANDBY or SYNCING member does not write, delete or invalidate a mirror-range slot by command (R460). -/
def mirrorRole (d : Device) (i : Nat) : Bool :=
  768 ≤ i && (d.duet.role == .standby || d.duet.role == .syncing)

/-- Mark a slot bad (R457): its GEN increments, and SLOT_BAD says what found it. -/
def markBad (d : Device) (i by_ : Nat) : Device :=
  let s := slot d i
  let d := if by_ = 0 then d else { d with duet := { d.duet with faultAt := d.clock + 1 } }
  emit (setSlot d i { s with state := 2, gen := nextGen s.gen }) .key 0x01 (leBytes 2 i ++ leBytes 1 by_)

/-- Check CHECK of a slot in use; a failure marks it bad (R456, R457). True when the slot is good. -/
def verifySlot (d : Device) (i by_ : Nat) : Device × Bool :=
  let s := slot d i
  if s.state ≠ 1 then (d, s.state == 0)
  else if checkValue d s.type s.key s.attr s.gen = s.check then (d, true)
  else (markBad d i by_, false)

def useBad (d : Device) : Device := count d (devCtr 26)
def useStale (d : Device) : Device := count d (devCtr 27)

/-- A use of a slot: bad gives KEY_SLOT_BAD, stale KEY_STALE, each counted (R457, R459, R479). -/
def goodAndFresh (d : Device) (i : Nat) : Device × Option Status :=
  let r := verifySlot d i 0
  if !r.2 then (useBad r.1, some .keySlotBad)
  else if stale r.1 i then (useStale r.1, some .keyStale)
  else (r.1, none)

/-- What a written slot records of its parent: the slot, its GEN and its DEPTH (R459). -/
structure ParentLink where
  slot : Nat
  gen : W32
  depth : Nat
  deriving DecidableEq, Repr

def linkTo (d : Device) (p : Nat) : ParentLink := { slot := p, gen := (slot d p).gen, depth := (slot d p).depth }

/-- Write a key into a slot: GEN increments, CHECK is made, the parent is recorded (R454, R455, R459). -/
def writeSlot (d : Device) (i type curve attr : Nat) (key : Bytes) (parent : Option ParentLink) : Device :=
  let gen := nextGen (slot d i).gen
  let a := BitVec.ofNat 16 attr
  setSlot d i
    { state := 1, key := key, type := type, len := key.length, curve := curve, attr := a, gen := gen, born := gen
      parent := parent.map (fun p => (p.slot, p.gen))
      depth := (match parent with | some p => p.depth + 1 | none => 0)
      check := checkValue d type key a gen, reserved := false }

/-- GEN cannot increment any more (R454). -/
def genFull (d : Device) (i : Nat) : Bool := (slot d i).gen == 0xFFFFFFFF#32

/-- The curve of a key type. -/
def keyCurve (d : Device) (type curve : Nat) : Option Curve :=
  if type = 3 then some p256 else if type = 4 then some p384
  else if type = 5 then Tbl.get? d.svc.curves curve else none

/-- Key length in bytes of a type (Table 10-3); none for a curve that is not loaded. -/
def keyLen (d : Device) (type curve len : Nat) : Option Nat :=
  if type = 0 then some 16 else if type = 1 then some 32 else if type = 2 then some len
  else if type = 3 then some 32 else if type = 4 then some 48
  else (Tbl.get? d.svc.curves curve).map Curve.lenN

/-- Length of a wrapped key (R471). -/
def wrappedLen (type len : Nat) : Nat := if type ≤ 1 then len + 8 else 8 * ((len + 7) / 8) + 8

def wrapKey (type : Nat) (kek key : Bytes) : Bytes :=
  fit (wrappedLen type key.length) (if type ≤ 1 then Config.wrap3394 kek key else Config.wrap5649 kek key)

/-- Unwrap a key of a given length; a failed integrity check or another length gives none. -/
def unwrapKey (type len : Nat) (kek data : Bytes) : Option Bytes :=
  match (if type ≤ 1 then Config.unwrap3394 kek data else Config.unwrap5649 kek data) with
  | some k => if k.length = len then some k else none
  | none => none

/-- An EC private key is a scalar in [1, n - 1]; other keys are any bytes. -/
def keyValueOk (d : Device) (type curve : Nat) (key : Bytes) : Bool :=
  match keyCurve d type curve with
  | some c => scalarOk c (beNat key)
  | none => true

/-! ## Data-plane key records (R444, R455) -/

def keyRec (d : Device) (i : Nat) : KeyRec := Tbl.getD d.key.records i {}
def setKeyRec (d : Device) (i : Nat) (r : KeyRec) : Device :=
  { d with key := { d.key with records := Tbl.setD d.key.records i {} r } }

/-- Install a key record; its GEN follows the rule of R454. -/
def writeRec (d : Device) (i type : Nat) (key : Bytes) : Device :=
  let g := nextGen (keyRec d i).gen
  setKeyRec d i { present := true, key := key, type := type, gen := g, check := checkValue d type key 0x0080#16 g }

/-- Erase a key record. -/
def eraseRec (d : Device) (i : Nat) : Device :=
  let r := keyRec d i
  if r.present then setKeyRec d i { gen := nextGen r.gen } else d

/-- The record's GEN cannot increment any more: a command that would install or erase it ends with NO_ROOM (R454). -/
def recFull (d : Device) (i : Nat) : Bool := (keyRec d i).gen == 0xFFFFFFFF#32

/-- The record's check holds. -/
def recGood (d : Device) (i : Nat) : Bool :=
  let r := keyRec d i
  checkValue d r.type r.key 0x0080#16 r.gen == r.check

end Sys2Proof.Machine
end

