-- ==== Sys2Proof/Machine/Jobs.lean ====
section
/-!
DEFINITION. The service engines' queues (R481-R484, R507-R510): acceptance, start, end and abort of jobs.
-/
namespace Sys2Proof.Machine

def symOpcode (opc : Nat) : Bool := opc == 0x0300 || opc == 0x0313
def pkOpcode (opc : Nat) : Bool := opc == 0x0301 || opc == 0x0302 || opc == 0x0304 || opc == 0x0010

/-- Release the output slot a job has reserved (R484). -/
def releaseSlot (d : Device) (j : Job) : Device :=
  match j.res.out with
  | some i => setSlot d i { slot d i with reserved := false }
  | none => d

def svcCtrAborts (d : Device) : Device := count d (devCtr 34)

/-- A later accepted job comes after an earlier one. -/
def insertJob (j : Job) : List Job → List Job
  | [] => [j]
  | k :: l => if j.number < k.number then j :: k :: l else k :: insertJob j l

/-- Accepted modular jobs that wait: in the queue, or dealt to an engine that runs another (R482). -/
def pkWaiting (d : Device) : Nat := d.svc.pkQueue.length + (d.svc.yielded.map (fun e => e.2.2.length)).sum

/-- Every accepted job that has not completed: running, yielded, dealt or waiting. -/
def allJobs (d : Device) : List Job :=
  d.svc.symRun.map Prod.snd ++ d.svc.symQueue ++ d.svc.pkRun.map Prod.snd
    ++ d.svc.yielded.flatMap (fun e => e.2.1 :: e.2.2) ++ d.svc.pkQueue ++ d.svc.drbgQueue

/-- A job that yielded, without the aborted ones: the next dealt job keeps the engine, or the long job resumes. -/
def trimYield (keep : Job → Bool) (y : Job × List Job) : Option (Job × List Job) :=
  if keep y.1 then some (y.1, y.2.filter keep) else none

/-! ## Resolution at the start (R461, R484) -/

/-- The DRBG is needed and has stopped: INTERNAL with cause 2 (R494, R501, R513). -/
def drbgCause : Status × Bytes := (.internal, internalResult 2)

def plain (st : Status) : Status × Bytes := (st, zeros 16)

/-- A status that names the field at `off` (Table 2-5). -/
def atOffset (st : Status) (off : Nat) : Status × Bytes := (st, fit 16 (leBytes 2 off))

def symMode (j : Job) : Nat := leField j.desc 20 1
def symReverse (j : Job) : Bool := (byteAt j.desc 21).getLsbD 0
def symTypeOk (mode prf type : Nat) : Bool :=
  if mode ≤ 4 then type ≤ 1
  else if mode ≤ 10 then type == 2
  else if prf = 1 then type ≤ 2 else type ≤ 1

/-- Attributes a keyed mode needs (Table 11-2, R450). -/
def symAttrs (mode : Nat) (rev : Bool) : Nat :=
  aSERVICE ||| (if mode = 11 then aDERIVE else if rev then aDEC else aENC)

/-- The conditions on a slot that a job writes, at the job's start (R453, R459, R460, R484); the slot number stands at
`off`, the parent's at 22. -/
def outSlotCheck (d : Device) (fn out off parent : Nat) : Option (Status × Bytes) :=
  if !slotInRange d fn out then some (atOffset .badIndex off)
  else if (slot d out).state != 0 || (slot d out).reserved then some (plain .busyReferenced)
  else if (slot d parent).depth ≥ 4 then some (atOffset .badField 22)
  else if genFull d out then some (plain .noRoom)
  else if mirrorRole d out then some (plain .roleStale)
  else none

def reserveSlot (d : Device) (i : Nat) : Device := setSlot d i { slot d i with reserved := true }

/-- The slot is empty, or has been written anew since the job was accepted (R461). -/
def slotGone (d : Device) (j : Job) (i : Nat) : Bool :=
  (slot d i).state == 0 || (match Tbl.get? j.seen i with | some g => g < (slot d i).born | none => false)

/-- The slot has been invalidated since the job was accepted (R461). -/
def slotMoved (d : Device) (j : Job) (i : Nat) : Bool :=
  match Tbl.get? j.seen i with | some g => (slot d i).gen != g | none => false

/-- Range, attributes with the type, CHECK and staleness of a job's key, named at 22 (R461, R488, R496). -/
def resolveKey (d : Device) (j : Job) (i attrs : Nat) (typeOk : Slot → Bool) : Device × Option (Status × Bytes) :=
  if !slotInRange d j.origin.fn i || slotGone d j i then (d, some (atOffset .badIndex 22))
  else if !hasAttr (slot d i).attr attrs || !typeOk (slot d i) then (d, some (plain .keyAttrDenied))
  else
    let r := goodAndFresh d i
    if r.2.isNone && slotMoved r.1 j i then (useStale r.1, some (plain .keyStale)) else (r.1, r.2.map plain)

def takeKey (d : Device) (i : Nat) : Resolved :=
  { key := (slot d i).key, type := (slot d i).type, slot := i, gen := (slot d i).gen, depth := (slot d i).depth }

/-- Resolve a symmetric job. -/
def startSymJob (d : Device) (j : Job) : Device × Except (Status × Bytes) Job :=
  let mode := symMode j
  if 5 ≤ mode ∧ mode ≤ 7 then (d, .ok j)
  else if !drbgOk d then (d, .error drbgCause)
  else
    let k := leField j.desc 22 2 % 1024
    let prf := leField j.desc 21 1 / 8 % 2
    let r := resolveKey d j k (symAttrs mode (symReverse j)) (fun s => symTypeOk mode prf s.type)
    match r.2 with
    | some e => (r.1, .error e)
    | none =>
      if mode = 11 then
        let out := leField j.desc 30 2 % 1024
        match outSlotCheck r.1 j.origin.fn out 30 k with
        | some e => (r.1, .error e)
        | none => (reserveSlot r.1 out, .ok { j with res := { takeKey r.1 k with out := some out } })
      else (r.1, .ok { j with res := takeKey r.1 k })

/-- Either slot bad, or either slot stale (R475). -/
def bothGood (d : Device) (s w : Nat) : Device × Option Status :=
  let a := verifySlot d s 0
  let b := verifySlot a.1 w 0
  if !a.2 || !b.2 then (useBad b.1, some .keySlotBad)
  else if stale b.1 s || stale b.1 w then (useStale b.1, some .keyStale)
  else (b.1, none)

/-- The conditions of R475 on an export, in order, but for the length; `gone` are the slots that are not to be had. -/
def exportSlots (d : Device) (fn s w : Nat) (gone : Nat → Bool) : Device × Option (Status × Nat) :=
  if s = w then (d, some (.badField, 22))
  else if !slotInRange d fn s || gone s then (d, some (.badIndex, 20))
  else if !slotInRange d fn w || gone w then (d, some (.badIndex, 22))
  else if !hasAttr (slot d s).attr aEXPORT || !hasAttr (slot d w).attr aWRAP
      || ((slot d w).type == 0 && (slot d s).len > 16) then (d, some (.keyAttrDenied, 0))
  else
    let r := bothGood d s w
    (r.1, r.2.map (fun st => (st, 0)))

/-- The conditions of R475 at acceptance. -/
def exportCheck (d : Device) (fn s w bufLen : Nat) : Device × Option (Status × Nat) :=
  let r := exportSlots d fn s w (fun i => (slot d i).state == 0)
  if r.2.isNone ∧ bufLen ≠ wrappedLen (slot d s).type (slot d s).len then (r.1, some (.lengthError, 16)) else r

/-- At the start both slots are resolved again; a change since acceptance ends the job (R461, R475). -/
def startExport (d : Device) (j : Job) : Device × Except (Status × Bytes) Job :=
  let s := leField j.desc 20 2
  let w := leField j.desc 22 2
  let r := exportSlots d j.origin.fn s w (slotGone d j)
  match r.2 with
  | some (st, off) => (r.1, .error (atOffset st off))
  | none =>
    if slotMoved r.1 j s || slotMoved r.1 j w then (useStale r.1, .error (plain .keyStale))
    else (r.1, .ok { j with res := { takeKey r.1 s with wrap := (slot r.1 w).key } })

def startSym (d : Device) (j : Job) : Device × Except (Status × Bytes) Job :=
  if j.opcode = 0x0313 then startExport d j else startSymJob d j

/-- The curve a PK_JOB names (Table 11-4). -/
def pkCurve (d : Device) (code : Nat) : Option Curve :=
  if code = 0 then some p256 else if code = 1 then some p384
  else if 8 ≤ code ∧ code ≤ 15 then Tbl.get? d.svc.curves (code - 8) else none

/-- The key type and curve number that match a CURVE code (R496). -/
def pkKeyMatches (code : Nat) (s : Slot) : Bool :=
  if code = 0 then s.type == 3 else if code = 1 then s.type == 4
  else s.type == 5 && s.curve == code - 8

def startPkJob (d : Device) (j : Job) : Device × Except (Status × Bytes) Job :=
  if !drbgOk d then (d, .error drbgCause)
  else
    let op := leField j.desc 20 1
    let code := leField j.desc 21 1
    let k := leField j.desc 22 2 % 1024
    if op = 0 ∨ op = 2 then
      let r := resolveKey d j k (aSERVICE ||| (if op = 0 then aSIGN else aAGREE)) (pkKeyMatches code)
      match r.2 with
      | some e => (r.1, .error e)
      | none =>
        if op = 2 then
          let out := leField j.desc 28 2 % 1024
          match outSlotCheck r.1 j.origin.fn out 28 k with
          | some e => (r.1, .error e)
          | none => (reserveSlot r.1 out, .ok { j with res := { takeKey r.1 k with out := some out } })
        else (r.1, .ok { j with res := takeKey r.1 k })
    else (d, .ok j)

def startPk (d : Device) (j : Job) : Device × Except (Status × Bytes) Job :=
  if j.opcode = 0x0301 then startPkJob d j
  else if j.opcode = 0x0302 ∨ j.opcode = 0x0010 then
    if drbgOk d then (d, .ok j) else (d, .error drbgCause)
  else (d, .ok j)

/-- The lower-numbered free engine of a kind. -/
def freeEngine (run : Tbl Job) : Option Nat := firstFrom (fun i => !Tbl.has run i) 0 2

/-- Start a job on symmetric engine `e`: it runs, or completes at once with what its resolution found. -/
def runSym (d : Device) (e : Nat) (j : Job) : Device :=
  match startSym d j with
  | (d, .ok j) => { d with svc := { d.svc with symRun := Tbl.put d.svc.symRun e { j with started := d.clock } } }
  | (d, .error (st, res)) => finish d j.origin st res

/-- Start a job on modular engine `e`; true when it runs. -/
def runPk (d : Device) (e : Nat) (j : Job) : Device × Bool :=
  match startPk d j with
  | (d, .ok j) =>
    ({ d with svc := { d.svc with pkRun := Tbl.put d.svc.pkRun e { j with started := d.clock } } }, true)
  | (d, .error (st, res)) => (finish d j.origin st res, false)

/-- The slots that a job reads. -/
def namedSlots (j : Job) : List Nat :=
  if j.opcode = 0x0313 then [leField j.desc 20 2, leField j.desc 22 2]
  else if j.opcode = 0x0300 then (if 5 ≤ symMode j ∧ symMode j ≤ 7 then [] else [leField j.desc 22 2 % 1024])
  else if j.opcode = 0x0301 ∧ (leField j.desc 20 1 = 0 ∨ leField j.desc 20 1 = 2) then [leField j.desc 22 2 % 1024]
  else []

/-- A job is accepted: it takes its place in acceptance order and notes the GEN of the slots it names. Jobs that fail at
their start are posted after acceptance, so the inflight entry comes first. -/
def accepted (d : Device) (j : Job) : Device × Job :=
  let seen := (namedSlots j).foldl (fun t i => if (slot d i).state = 0 then t else Tbl.put t i (slot d i).gen) []
  ({ enterInflight d j.origin j.opcode with svc := { d.svc with accepts := d.svc.accepts + 1 } },
   { j with number := d.svc.accepts, seen := seen })

/-- Accept a symmetric job: it starts at once where an engine is free and none waits, and waits for room in a full
queue (R482, R483). -/
def acceptSym (d : Device) (j : Job) : Option Device :=
  let x := accepted d j
  match freeEngine d.svc.symRun, d.svc.symQueue with
  | some e, [] => some (runSym x.1 e x.2)
  | _, q => if q.length < 256 then some { x.1 with svc := { x.1.svc with symQueue := q ++ [x.2] } } else none

/-- Accept a modular job; the modular queue holds 64. -/
def acceptPk (d : Device) (j : Job) : Option Device :=
  let x := accepted d j
  match freeEngine d.svc.pkRun, d.svc.pkQueue with
  | some e, [] => some (runPk x.1 e x.2).1
  | _, q => if pkWaiting d < 64 then some { x.1 with svc := { x.1.svc with pkQueue := q ++ [x.2] } } else none

/-- Accept a DRBG_GENERATE; a stopped DRBG ends it with INTERNAL (R513). -/
def acceptDrbg (d : Device) (j : Job) : Device :=
  let x := accepted d j
  if drbgOk d then { x.1 with svc := { x.1.svc with drbgQueue := d.svc.drbgQueue ++ [x.2] } }
  else finish x.1 j.origin .internal (internalResult 2)

/-- A short job is any PK_JOB on P-256 (R507). -/
def shortJob (j : Job) : Bool :=
  j.opcode == 0x0301 && leField j.desc 20 1 ≤ 3 && leField j.desc 21 1 == 0

/-- A job that yields: a curve load, or an RSA verification (R506). -/
def longJob (j : Job) : Bool :=
  j.opcode == 0x0302 || (j.opcode == 0x0301 && leField j.desc 20 1 == 4)

/-- Start the first dealt short job that can run; those that fail complete at once. With none left the long job
resumes: the time it was away is no engine time of its own (R500). -/
def runDealt (d : Device) (e : Nat) (long : Job) : List Job → Device
  | [] => { d with svc := { d.svc with pkRun := Tbl.put d.svc.pkRun e { long with started := d.clock }
                                       yielded := Tbl.del d.svc.yielded e } }
  | j :: rest =>
    match runPk d e j with
    | (d, true) => { d with svc := { d.svc with yielded := Tbl.put d.svc.yielded e (long, rest) } }
    | (d, false) => runDealt d e long rest

/-- A free engine whose long job has yielded takes the next dealt job, or the long job. -/
def nextDealt (d : Device) (e : Nat) : Device :=
  match Tbl.get? d.svc.yielded e with
  | some (long, rest) => runDealt d e long rest
  | none => d

/-- Take an ended job off its modular engine: the next dealt job starts, or the long job resumes. -/
def leavePk (d : Device) (e : Nat) : Device := nextDealt { d with svc := { d.svc with pkRun := Tbl.del d.svc.pkRun e } } e

def leaveSym (d : Device) (e : Nat) : Device :=
  { d with svc := { d.svc with symRun := Tbl.del d.svc.symRun e } }

/-! ## Ends that no row brings (R508-R510) -/

/-- Remove jobs from queues and engines. Dealt jobs of a long job that goes return to their places in the queue; an engine
whose short job goes takes the next dealt job, or resumes its long job (R483, R507, R508). -/
def removeJobs (d : Device) (gone : Job → Bool) : Device :=
  let keep := fun j => !gone j
  let orphans := d.svc.yielded.flatMap (fun e => if gone e.2.1 then e.2.2.filter keep else [])
  let yielded := d.svc.yielded.filterMap (fun e => (trimYield keep e.2).map (fun y => (e.1, y)))
  let d := (allJobs d).foldl (fun d j => if gone j then svcCtrAborts (releaseSlot d j) else d) d
  let d := { d with svc := { d.svc with
      symQueue := d.svc.symQueue.filter keep, symRun := d.svc.symRun.filter (fun e => keep e.2)
      pkQueue := orphans.foldl (fun l j => insertJob j l) (d.svc.pkQueue.filter keep)
      pkRun := d.svc.pkRun.filter (fun e => keep e.2)
      yielded := yielded, drbgQueue := d.svc.drbgQueue.filter keep } }
  (List.range 2).foldl (fun d e => if Tbl.has d.svc.pkRun e then d else nextDealt d e) d

/-- End jobs with a status: their queues and engines are cleared first, then each completion is posted (R508, R510). -/
def abortJobs (d : Device) (gone : Job → Bool) (st : Status) : Device :=
  let js := (allJobs d).filter gone
  js.foldl (fun d j => finish d j.origin st (zeros 16)) (removeJobs d gone)

/-- End jobs without a completion (R509). -/
def discardJobs (d : Device) (gone : Job → Bool) : Device :=
  let js := (allJobs d).filter gone
  js.foldl (fun d j => dropInflight d j.origin) (removeJobs d gone)

end Sys2Proof.Machine
end

