-- ==== Sys2Proof/Machine/KeyStore.lean ====
section
/-!
DEFINITION. The key-store commands and the slot rows (10): SLOT_IMPORT, SLOT_GENERATE, SLOT_DELETE,
SLOT_EXPORT_WRAPPED, KEY_INVALIDATE, IDENTITY_ATTEST, the view, the sweep and the entropy rows.
-/
namespace Sys2Proof.Machine

/-- A slot whose table gives it bits [9:0]: the others are ignored unless marked reserved (R769). -/
def slotNo (desc : Bytes) (off : Nat) : Nat := leField desc off 2 % 1024

/-- A slot given as two bytes: a number above 1,023 lies in no function's range (R453). -/
def slotNo16 (desc : Bytes) (off : Nat) : Nat := leField desc off 2

/-- Reserved bits and values of SLOT_IMPORT (R472), ascending. -/
def importOwn (desc : Bytes) : List (Nat × Bool) :=
  let type := leField desc 23 1
  let curve := leField desc 28 1
  let len := leField desc 29 1
  [zeroBits desc 21 0xFC, (22, leField desc 22 1 > 1), (23, type > 5), zeroBits desc 27 0xF8,
   (28, if type = 5 then curve > 7 else curve != 0), (29, type == 2 && (len < 16 || len > 64))]
    ++ zeroFrom desc 30 63

/-- The rest of SLOT_IMPORT's conditions, in the order of R472. -/
def importBody (o : Origin) (desc buf : Bytes) (d : Device) : Verdict :=
  let i := slotNo desc 20
  let wrapped := leField desc 22 1 == 0
  let type := leField desc 23 1
  let w := slotNo desc 24
  let attr := leField desc 26 2
  let curve := leField desc 28 1
  let parent := if wrapped then some w else none
  if !slotInRange d o.fn i then failAt d .badIndex 20
  else if wrapped && !slotInRange d o.fn w then failAt d .badIndex 24
  else if (slot d i).state != 0 || (slot d i).reserved then fail d .busyReferenced
  else if !wrapped && d.glb.mode != .provision then fail d .modeDenied
  else if attrBad type attr i then failAt d .badField 26
  else if wrapped && (slot d w).depth ≥ 4 then failAt d .badField 24
  else if mirrorBad attr i none then failAt d .badField 26
  else if mirrorBad attr i parent || (wrapped && w == i) then failAt d .badField 24
  else if wrapped && (slot d w).state == 0 then failAt d .badIndex 24
  else match keyLen d type curve (leField desc 29 1) with
    | none => failAt d .badIndex 28
    | some len =>
      let g := if wrapped then goodAndFresh d w else (d, none)
      match g.2 with
      | some st => fail g.1 st
      | none =>
        if wrapped && !hasAttr (slot d w).attr aUNWRAP then fail d .keyAttrDenied
        else if wrapped && (slot d w).type == 0 && len > 16 then fail d .keyAttrDenied
        else if o.bufLen ≠ (if wrapped then wrappedLen type len else len) then failAt d .lengthError 16
        else match (if wrapped then unwrapKey type len (slot d w).key buf else some buf) with
          | none => fail d .inputRejected
          | some key =>
            if !keyValueOk d type curve key then fail d .inputRejected
            else if genFull d i then fail d .noRoom
            else if mirrorRole d i then fail d .roleStale
            else .done (writeSlot d i type curve attr key (parent.map (linkTo d))) (zeros 16) none

/-- SLOT_IMPORT (R470-R472). -/
def execSlotImport (r : Fin 64) (buf : Bytes) (s : State) : Host.Outcome State Fault Refusal :=
  s.withDev (runCommand 0x0310 r anyRight importOwn importBody buf s.dev)

def generateOwn (desc : Bytes) : List (Nat × Bool) :=
  let type := leField desc 22 1
  let curve := leField desc 23 1
  let len := leField desc 26 1
  [(22, decide (type > 5)), (23, if type = 5 then curve > 7 else curve != 0),
   zeroBits desc 25 0xF8, (26, type == 2 && (len < 16 || len > 64))] ++ zeroFrom desc 27 63

/-- The public key that SLOT_GENERATE writes: each coordinate in LEN bytes, the length of n (R473, Table 10-3). Coordinates
that do not fit in them are a free value. -/
def publicBytes (c : Curve) : Point → Bytes
  | some (x, y) =>
    if x < 256 ^ c.lenN ∧ y < 256 ^ c.lenN then 0x04#8 :: (beBytes c.lenN x ++ beBytes c.lenN y)
    else fit (2 * c.lenN + 1) (Config.shortPoint c.lenN x y)
  | none => zeros (2 * c.lenN + 1)

/-- SLOT_GENERATE's conditions in the order of R472 for the fields present, then R473. -/
def generateBody (o : Origin) (desc _buf : Bytes) (d : Device) : Verdict :=
  let i := slotNo16 desc 20
  let type := leField desc 22 1
  let curve := leField desc 23 1
  let attr := leField desc 24 2
  if !slotInRange d o.fn i then failAt d .badIndex 20
  else if (slot d i).state != 0 || (slot d i).reserved then fail d .busyReferenced
  else if attrBad type attr i || mirrorBad attr i none then failAt d .badField 24
  else match keyLen d type curve (leField desc 26 1) with
    | none => failAt d .badIndex 23
    | some len =>
      let c := keyCurve d type curve
      if o.bufLen ≠ (match c with | some c => 2 * c.lenN + 1 | none => 0) then failAt d .lengthError 16
      else if !drbgOk d then failInternal d 2
      else if genFull d i then fail d .noRoom
      else if mirrorRole d i then fail d .roleStale
      else
        let rand := drbgBytes d len
        let d := drbgRequest d len
        match c with
        | some c =>
          let k := scalarFrom c.n rand
          .done (writeSlot d i type curve attr (beBytes len k) none) (zeros 16)
            (some (publicBytes c (ecMul c k c.gen)))
        | none => .done (writeSlot d i type curve attr rand none) (zeros 16) none

/-- SLOT_GENERATE (R473). A scalar drawn by rejection is a scalar in range made from free bytes. -/
def execSlotGenerate (r : Fin 64) (s : State) : Host.Outcome State Fault Refusal :=
  s.withDev (runCommand 0x0311 r anyRight generateOwn generateBody [] s.dev)

/-- Reserved bytes of a command that names a slot and nothing else. Bits 15 to 10 of SLOT are not marked reserved: the 16-bit number
is judged whole, and one above 1,023 names no slot (DESIGN CHOICE, log 91). -/
def slotOnlyOwn (desc : Bytes) : List (Nat × Bool) := zeroFrom desc 22 63

/-- Erase a slot; its GEN increments, and a job's reservation stays (R454, R474, R484). -/
def deleteSlot (d : Device) (i : Nat) : Device :=
  setSlot d i { gen := nextGen (slot d i).gen, reserved := (slot d i).reserved }

def deleteBody (o : Origin) (desc _buf : Bytes) (d : Device) : Verdict :=
  let i := slotNo16 desc 20
  if !slotInRange d o.fn i then failAt d .badIndex 20
  else if genFull d i then fail d .noRoom
  else if mirrorRole d i then fail d .roleStale
  else .done (deleteSlot d i) (zeros 16) none

/-- SLOT_DELETE (R474). -/
def execSlotDelete (r : Fin 64) (s : State) : Host.Outcome State Fault Refusal :=
  s.withDev (runCommand 0x0312 r anyRight slotOnlyOwn deleteBody [] s.dev)

def exportOwn (desc : Bytes) : List (Nat × Bool) := zeroFrom desc 24 63

def exportBody (o : Origin) (desc buf : Bytes) (d : Device) : Verdict :=
  let r := exportCheck d o.fn (slotNo16 desc 20) (slotNo16 desc 22) o.bufLen
  match r.2 with
  | some (st, 0) => fail r.1 st
  | some (st, off) => failAt r.1 st off
  | none =>
    match acceptSym r.1 { origin := o, opcode := 0x0313, desc := desc, buf := buf } with
    | some d => .accept d
    | none => .wait

/-- SLOT_EXPORT_WRAPPED (R475): accepted for a symmetric engine (log 12). -/
def execSlotExportWrapped (r : Fin 64) (s : State) : Host.Outcome State Fault Refusal :=
  s.withDev (runCommand 0x0313 r anyRight exportOwn exportBody [] s.dev)

/-- The export on engine `e` ends: the wrapped key goes to the host buffer. -/
def exportDone (d : Device) (e : Nat) : Device :=
  match Tbl.get? d.svc.symRun e with
  | some j =>
    if j.opcode = 0x0313 then
      let w := wrapKey j.res.type j.res.wrap j.res.key
      let d := count (count (leaveSym d e) (unitCtr 7 e)) (unitCtr 8 e) j.res.key.length
      finishOut (count d (devCtr 30)) j.origin (leBytes 2 w.length) (some w)
    else d
  | none => d

/-- SLOT_EXPORT_WRAPPED_DONE (R475). -/
def execSlotExportWrappedDone (e : Fin 2) (s : State) : Host.Outcome State Fault Refusal :=
  s.withDev (exportDone s.dev e)

/-- Slots in use or bad whose chain of parents includes slot `i` (R476). -/
def descendants (d : Device) (i : Nat) : Nat :=
  (d.key.slots.filter (fun e => e.2.state != 0 && descends d i chainFuel e.1)).length

def invalidateBody (o : Origin) (desc _buf : Bytes) (d : Device) : Verdict :=
  let i := slotNo16 desc 20
  if !slotInRange d o.fn i || (slot d i).state == 0 then failAt d .badIndex 20
  else if genFull d i then fail d .noRoom
  else if mirrorRole d i then fail d .roleStale
  else
    let s := slot d i
    let g := nextGen s.gen
    let n := descendants d i
    let d := setSlot d i { s with gen := g, check := checkValue d s.type s.key s.attr g }
    .done (emit d .key 0x04 (leBytes 2 i ++ leBytes 4 g.toNat ++ leBytes 2 n))
      (leBytes 4 g.toNat ++ leBytes 2 n) none

/-- KEY_INVALIDATE (R476). CHECK covers GEN, so it is made again. -/
def execKeyInvalidate (r : Fin 64) (s : State) : Host.Outcome State Fault Refusal :=
  s.withDev (runCommand 0x0314 r anyRight slotOnlyOwn invalidateBody [] s.dev)

/-! ## The view (R478) and the sweep (R456) -/

/-- The snapshot of a slot that the view registers show. -/
def slotView (d : Device) (i : Nat) : SlotView :=
  let s := slot d i
  { info := flagAt 31 (s.state != 0) ||| flagAt 30 (s.state == 2) ||| flagAt 29 (s.state != 0 && stale d i)
      ||| place 28 26 s.depth ||| place 23 16 s.type ||| place 15 0 s.attr.toNat
    gen := s.gen
    parent := match s.parent with | some (p, _) => 0x80000000#32 ||| w32 p | none => 0#32
    parentGen := match s.parent with | some (_, g) => g | none => 0#32 }

def selectSlot (d : Device) (val : W32) : Device :=
  let d := plainWrite d 0x1C0004 val
  { d with key := { d.key with view := slotView d (bits val 9 0) } }

/-- KEY_SLOT_SEL_WRITE (R478). -/
def execKeySlotSelWrite (val : W32) (s : State) : Host.Outcome State Fault Refusal :=
  s.withDev (selectSlot s.dev val)

/-- A physical upset: a used slot's stored key is now `key`. -/
def upsetSlot (d : Device) (i : Nat) (key : Bytes) : Device :=
  if (slot d i).state = 1 then setSlot d i { slot d i with key := key } else d

/-- Check every used slot (R456): `by_` is 1 for the sweep, 2 for a proof run. -/
def sweepSlots (d : Device) (by_ : Nat) : Device :=
  (d.key.slots.map Prod.fst).foldl (fun d i => (verifySlot d i by_).1) d

/-- KEY_SWEEP (R456), after the upsets that the sweep meets. It runs only with ENABLE = 1. -/
def execKeySweep (upset : List (Fin 1024 × Bytes)) (s : State) : Host.Outcome State Fault Refusal :=
  let d := upset.foldl (fun d u => upsetSlot d u.1 u.2) s.dev
  s.withDev (if bit (reg d 0x1C0020) 31 then count (sweepSlots d 1) (devCtr 29) else d)

/-! ## Attestation (R477) -/

def attestOwn (desc : Bytes) : List (Nat × Bool) := zeroFrom desc 20 23 ++ zeroFrom desc 56 63

def attestBody (o : Origin) (desc buf : Bytes) (d : Device) : Verdict :=
  if o.bufLen ≠ 276 then failAt d .lengthError 16
  else if !d.tmp.identity then failInternal d 4
  else if !drbgOk d then failInternal d 2
  else match acceptPk d { origin := o, opcode := 0x0010, desc := desc, buf := buf } with
    | some d => .accept d
    | none => .wait

/-- IDENTITY_ATTEST (R477): accepted for a modular engine. -/
def execIdentityAttest (r : Fin 64) (s : State) : Host.Outcome State Fault Refusal :=
  s.withDev (runCommand 0x0010 r anyRight attestOwn attestBody [] s.dev)

def profileImage (d : Device) : Bytes :=
  match Tbl.get? d.boot.flash.profiles d.glb.profileIdx with
  | some r => if d.boot.profileOk then r.image else []
  | none => []

/-- GLB_ID (R53). -/
def glbId (p : Part) : Nat := p.id * 2 ^ 16 + p.range * 2 ^ 12 + 1 * 2 ^ 8 + p.presses

/-- Bytes 0-211 of the attestation statement (Table 10-9). -/
def attestBodyBytes (d : Device) (f : Fuses) (t : Tree) (nonce : Bytes) : Bytes :=
  leBytes 2 1 ++ leBytes 2 276 ++ leBytes 4 (glbId d.glb.part) ++ leBytes 8 f.dieId.toNat
    ++ leBytes 4 (if d.boot.enrolled then ownMember d + 2 ^ 31 else 0)
    ++ leBytes 2 (field d 0x11300 15 0) ++ leBytes 1 (field d 0x11300 21 16)
    ++ leBytes 1 (d.glb.mode.code + 16 * d.duet.role.code + (if d.glb.sealed then 64 else 0)
        + (if d.tmp.batt.latch then 128 else 0))
    ++ leBytes 4 d.boot.suppVersion ++ leBytes 1 f.rollback ++ leBytes 1 d.glb.profileIdx ++ zeros 2
    ++ leBytes 4 d.rcd.powerCycles.toNat ++ leBytes 8 (opTimeUs d) ++ leBytes 4 d.duet.epoch.toNat
    ++ fit 32 (Config.sha 32 (profileImage d)) ++ fit 32 d.glb.configDigest ++ nonce ++ fit 65 (identityPub t)
    ++ zeros 3

/-- The attestation on engine `e` ends: the signed statement is written. -/
def attestDone (d : Device) (f : Fuses) (e : Nat) : Device :=
  match Tbl.get? d.svc.pkRun e, d.key.tree with
  | some j, some t =>
    if j.opcode = 0x0010 then
      let body := attestBodyBytes d f t (slice j.desc 24 32)
      let sig := identitySign t (drbgBytes d 40) body
      let d := count (leavePk (drbgRequest d 40) e) (unitCtr 9 e)
      finishOut d j.origin (zeros 16) (some (body ++ sig))
    else d
  | _, _ => d

/-- IDENTITY_ATTEST_DONE (R477). -/
def execIdentityAttestDone (e : Fin 2) (s : State) : Host.Outcome State Fault Refusal :=
  s.withDev (attestDone s.dev s.fuses e)

end Sys2Proof.Machine
end

