-- ==== Sys2Proof/Machine/Services.lean ====
section
/-!
DEFINITION. The service engines (11): SYM_JOB, PK_JOB, PK_CURVE_LOAD, DRBG_GENERATE, the acceptance of
REVOCATION_UPDATE, and the rows in which jobs start, yield and end. The update itself takes effect in Machine/Revoke.lean.
-/
namespace Sys2Proof.Machine

/-! ## SYM_JOB (R486-R494) -/

def symOwn (desc : Bytes) : List (Nat × Bool) :=
  let mode := leField desc 20 1
  let flags := leField desc 21 1
  ([(20, decide (mode > 11)), (21, decide (flags ≥ 16) || (mode == 11 && flags / 2 % 4 == 3)), zeroBits desc 23 0xFC] : List (Nat × Bool))
    ++ (if mode = 11 then [] else zeroFrom desc 30 31)
    ++ [(33, mode == 11 && (byteAt desc 33).toNat &&& 0xF8 != 0), (34, mode == 11 && decide (leField desc 34 1 > 2))] ++ zeroFrom desc 36 39
    ++ (if mode = 11 then zeroFrom desc 40 47 else []) ++ zeroFrom desc 52 63

def tagInBuf (mode : Nat) : Bool := mode == 1 || mode == 2 || (8 ≤ mode && mode ≤ 10)

/-- Digest length of a hash or HMAC mode. -/
def symDigest (mode : Nat) : Nat :=
  if mode = 5 ∨ mode = 8 then 32 else if mode = 6 ∨ mode = 9 then 48 else 64

def ivLen (mode : Nat) : Nat := if mode = 0 then 16 else if mode = 1 then 12 else 0

def tagLenOk (mode t : Nat) : Bool :=
  if mode = 1 then 12 ≤ t && t ≤ 16 else if mode = 2 then 4 ≤ t && t ≤ 16
  else if 8 ≤ mode ∧ mode ≤ 10 then 4 ≤ t && t ≤ symDigest mode else t == 0

def dataLenOk (mode : Nat) (rev : Bool) (n : Nat) : Bool :=
  if mode = 3 then n % 8 == 0 && (if rev then 24 ≤ n && n ≤ 4104 else 16 ≤ n && n ≤ 4096)
  else if mode = 4 then (if rev then n % 8 == 0 && 16 ≤ n && n ≤ 4104 else 1 ≤ n && n ≤ 4096)
  else if mode = 11 then 1 ≤ n && n ≤ 4096 else true

/-- OUT_LEN of Table 11-2. -/
def symOutLen (mode : Nat) (rev : Bool) (n t : Nat) : Nat :=
  match mode with
  | 0 => n
  | 1 => if rev then n else n + t
  | 3 => if rev then n - 8 else n + 8
  | 4 => if rev then n - 8 else 8 * ((n + 7) / 8) + 8
  | 5 => 32 | 6 => 48 | 7 => 64
  | 11 => 0
  | _ => if rev then 0 else t

/-- The first length outside Tables 11-1 and 11-2 (R487, R488). -/
def symLenBad (o : Origin) (desc : Bytes) : Option Nat :=
  let mode := leField desc 20 1
  let rev := (byteAt desc 21).getLsbD 0
  let n := leField desc 24 2
  let aad := leField desc 26 2
  let iv := leField desc 28 1
  let t := leField desc 29 1
  firstBad [(16, o.bufLen != iv + aad + n + (if rev && tagInBuf mode then t else 0)),
    (24, !dataLenOk mode rev n), (26, if mode = 1 then aad > 4096 else aad != 0), (28, iv != ivLen mode),
    (29, !tagLenOk mode t),
    (35, mode == 11 && leField desc 34 1 == 2 && (leField desc 35 1 < 16 || leField desc 35 1 > 64)),
    (48, leField desc 48 4 != symOutLen mode rev n t)]

def symBody (o : Origin) (desc buf : Bytes) (d : Device) : Verdict :=
  let mode := leField desc 20 1
  let rev := (byteAt desc 21).getLsbD 0
  let out := slotNo desc 30
  let attr := leField desc 32 2
  if rev && ((5 ≤ mode && mode ≤ 7) || mode == 11) then failAt d .badField 21
  else if mode == 11 && (attrBad (leField desc 34 1) attr out || mirrorBad attr out none) then failAt d .badField 32
  else if mode == 11 && (mirrorBad attr out (some (slotNo desc 22)) || out == slotNo desc 22) then failAt d .badField 22
  else match symLenBad o desc with
    | some off => failAt d .lengthError off
    | none =>
      match acceptSym d { origin := o, opcode := 0x0300, desc := desc, buf := buf } with
      | some d => .accept d
      | none => .wait

/-- SYM_JOB (R486). -/
def execSymJob (r : Fin 64) (buf : Bytes) (s : State) : Host.Outcome State Fault Refusal :=
  s.withDev (runCommand 0x0300 r anyRight symOwn symBody buf s.dev)

/-- AES-CTR: the low 32 bits of the counter block increment and never carry further (R489). -/
def ctrBlock (iv : Bytes) (i : Nat) : Bytes := slice iv 0 12 ++ beBytes 4 (beField iv 12 4 + i)

def aesCtr (key iv data : Bytes) : Bytes :=
  xorBytes data ((List.range ((data.length + 15) / 16)).flatMap (fun i => fit 16 (Config.aesBlock key (ctrBlock iv i))))

/-- The KDF of MODE 11 (R491): K(1) || K(2) || ..., the counter in 1, 2 or 4 bytes. -/
def kdfJob (prf ctr : Nat) (key data : Bytes) (len : Nat) : Bytes :=
  let n := if prf = 1 then 32 else 16
  fit len ((upFrom 1 ((len + n - 1) / n)).flatMap (fun i =>
    let m := beBytes (2 ^ ctr) i ++ data
    fit n (if prf = 1 then Config.hmac 32 key m else Config.cmac key m)))

/-- What a symmetric job yields: its output, or the failed authentication of R490. -/
def symResult (key desc buf : Bytes) : Option Bytes × Nat :=
  let mode := leField desc 20 1
  let rev := (byteAt desc 21).getLsbD 0
  let n := leField desc 24 2
  let iv := slice buf 0 (leField desc 28 1)
  let aad := slice buf (leField desc 28 1) (leField desc 26 2)
  let data := slice buf (leField desc 28 1 + leField desc 26 2) n
  let t := leField desc 29 1
  let tag := slice buf (leField desc 28 1 + leField desc 26 2 + n) t
  let verify (v : Bytes) : Option Bytes × Nat := if v = tag then (some [], 0) else (none, 0)
  match mode with
  | 0 => (some (aesCtr key iv data), 0)
  | 1 =>
    let c := fit n (gcmCrypt key iv data)
    if rev then
      (if fit t (gcmTag key iv aad data) = tag then (some c, 0) else (none, 0))
    else (some (c ++ fit t (gcmTag key iv aad c)), 0)
  | 2 => if rev then verify (fit t (Config.cmac key data)) else (some (fit t (Config.cmac key data)), 0)
  | 3 =>
    if rev then ((Config.unwrap3394 key data).map (fit (n - 8)), 0)
    else (some (fit (n + 8) (Config.wrap3394 key data)), 0)
  | 4 =>
    if rev then
      (match Config.unwrap5649 key data with
       | some k => (some (fit (n - 8) k), k.length)
       | none => (none, 0))
    else (some (fit (8 * ((n + 7) / 8) + 8) (Config.wrap5649 key data)), 0)
  | 5 | 6 | 7 => (some (fit (symDigest mode) (Config.sha (symDigest mode) data)), 0)
  | _ =>
    let v := fit t (Config.hmac (symDigest mode) key data)
    if rev then verify v else (some v, 0)

/-- A descriptor that names a written slot, for its mirroring (R460). -/
def slotDesc (opcode i : Nat) : Bytes := leBytes 2 opcode ++ zeros 18 ++ leBytes 2 i ++ zeros 42

/-- A job's key output goes to its slot, under the parent as the job read it (R459, R461); a mirror-range slot is mirrored
before the completion is posted, and until then the job has not completed (R104, R577). -/
def slotOutput (d : Device) (j : Job) (i type attr : Nat) (key : Bytes) : Device :=
  let o := j.origin
  let d := writeSlot d i type 0 attr key (some { slot := j.res.slot, gen := j.res.gen, depth := j.res.depth })
  let d := mirrorThenPost d 0x0310 (slotDesc 0x0310 i) [] (dueOf d o .ok (zeros 16) false)
  { d with
    hif := { d.hif with inflight := d.hif.inflight.map (fun x => if x.origin = o then { x with opcode := j.opcode } else x) }
    duet := { d.duet with waits := d.duet.waits.map (fun w => if w.due.origin = o then { w with slot := some i } else w) } }

def symDone (d : Device) (e : Nat) : Device :=
  match Tbl.get? d.svc.symRun e with
  | some j =>
    if j.opcode = 0x0300 then
      let o := j.origin
      let mode := symMode j
      let d := count (count (leaveSym d e) (unitCtr 7 e)) (unitCtr 8 e) (leField j.desc 24 2)
      if mode = 11 then
        let flags := leField j.desc 21 1
        let type := leField j.desc 34 1
        let len := if type = 0 then 16 else if type = 1 then 32 else leField j.desc 35 1
        let key := kdfJob (flags / 8 % 2) (flags / 2 % 4) j.res.key j.buf len
        slotOutput d j (slotNo j.desc 30) type (leField j.desc 32 2) key
      else
        let r := symResult j.res.key j.desc j.buf
        match r.1 with
        | none => finish (count d (devCtr 31)) o .ok [1#8]
        | some out =>
          let res := if mode = 4 ∧ symReverse j then zeros 4 ++ leBytes 2 r.2 else zeros 16
          match writeBuf d o (leField j.desc 40 8) (leField j.desc 48 4) out with
          | some d => post (dropInflight d o) (dueOf d o .ok res (out != []))
          | none => finish d o .internal (internalResult 1)
    else d
  | none => d

/-- SYM_JOB_DONE (R490, R491). -/
def execSymJobDone (e : Fin 2) (s : State) : Host.Outcome State Fault Refusal := s.withDev (symDone s.dev e)

/-! ## PK_JOB (R495-R502) -/

def pkOwn (desc : Bytes) : List (Nat × Bool) :=
  let op := leField desc 20 1
  let code := leField desc 21 1
  ([(20, decide (op > 4)),
    (21, if op = 4 then decide (code > 2) else !(code ≤ 1 || (8 ≤ code && code ≤ 15)))] : List (Nat × Bool))
    ++ (if op = 0 ∨ op = 2 then [] else zeroFrom desc 22 23)
    ++ [(24, (op == 0 || op == 1 || op == 4) && decide (leField desc 24 1 > 1))]
    ++ (if op = 4 then [] else zeroFrom desc 25 26)
    ++ [(27, leField desc 27 1 != (if op = 2 then 2 else 0)), (31, op == 2 && (byteAt desc 31).toNat &&& 0xF8 != 0)]
    ++ zeroFrom desc 32 63

def digestLen (desc : Bytes) : Nat := if leField desc 24 1 = 0 then 32 else 48
def rsaLen (code : Nat) : Nat := if code = 0 then 256 else if code = 1 then 384 else 512

/-- BUF_LEN of Table 11-5. -/
def pkBufLen (c : Option Curve) (desc : Bytes) : Nat :=
  let op := leField desc 20 1
  let dl := digestLen desc
  match c with
  | some c =>
    if op = 0 then dl + 2 * c.lenN else if op = 1 then 1 + 2 * c.lenP + dl + 2 * c.lenN else 1 + 2 * c.lenP
  | none => 2 * rsaLen (leField desc 21 1) + leField desc 25 2 + dl

def pkBody (o : Origin) (desc buf : Bytes) (d : Device) : Verdict :=
  let op := leField desc 20 1
  let c := if op = 4 then none else pkCurve d (leField desc 21 1)
  let out := slotNo desc 28
  let attr := leField desc 30 2
  if op != 4 && c.isNone then failAt d .badIndex 21
  else if op == 4 && (leField desc 25 2 == 0 || leField desc 25 2 > 512) then failAt d .lengthError 25
  else if o.bufLen ≠ pkBufLen c desc then failAt d .lengthError 16
  else if op == 2 && (match c with | some c => c.bits > 512 | none => false) then failAt d .badField 21
  else if op == 2 && (attrBad 2 attr out || mirrorBad attr out none) then failAt d .badField 30
  else if op == 2 && (mirrorBad attr out (some (slotNo desc 22)) || out == slotNo desc 22) then failAt d .badField 22
  else match acceptPk d { origin := o, opcode := 0x0301, desc := desc, buf := buf } with
    | some d => .accept d
    | none => .wait

/-- PK_JOB (R495, R496). -/
def execPkJob (r : Fin 64) (buf : Bytes) (s : State) : Host.Outcome State Fault Refusal :=
  s.withDev (runCommand 0x0301 r anyRight pkOwn pkBody buf s.dev)

/-- Engine time of an elliptic-curve operation in µs (Table 11-7). -/
def pkMicros (op code bits : Nat) : Nat :=
  match op with
  | 0 => if code = 0 then 48 else if code = 1 then 110 else if bits ≤ 256 then 60 else if bits ≤ 384 then 130 else 260
  | 1 => if code = 0 then 96 else if code = 1 then 220 else if bits ≤ 256 then 120 else if bits ≤ 384 then 260 else 520
  | 2 => if code = 0 then 44 else if code = 1 then 100 else if bits ≤ 256 then 55 else if bits ≤ 384 then 120 else 240
  | _ => if code = 0 then 8 else if code = 1 then 18 else if bits ≤ 256 then 55 else if bits ≤ 384 then 120 else 240

/-- RSA verification: 4 µs and 12, 26 or 46 µs for each 64-bit chunk of the exponent (R500). -/
def rsaMicros (code eLen : Nat) : Nat :=
  4 + (eLen + 7) / 8 * (if code = 0 then 12 else if code = 1 then 26 else 46)

/-- What a PK_JOB finds: its result, or why it ends with INPUT_REJECTED, an invariant by its check number (Tables 11-6 and
11-13) or else an input. -/
def pkResult (c : Option Curve) (rand key desc buf : Bytes) : Except (Option Nat) PkResult :=
  let op := leField desc 20 1
  let dl := digestLen desc
  match op, c with
  | 0, some c =>
    let x := beNat key
    let rs := ecdsaSign c x (scalarFrom c.n rand) (slice buf 0 dl)
    if !scalarOk c x then .error none
    else if scalarOk c rs.1 && scalarOk c rs.2 && ecdsaVerify c (ecMul c x c.gen) (slice buf 0 dl) rs.1 rs.2 then
      .ok (.signature (beBytes c.lenN rs.1 ++ beBytes c.lenN rs.2))
    else .error (some 1)
  | 1, some c =>
    let pl := 1 + 2 * c.lenP
    let r := beField buf (pl + dl) c.lenN
    let s := beField buf (pl + dl + c.lenN) c.lenN
    match readPoint c (slice buf 0 pl) with
    | some q =>
      if scalarOk c r && scalarOk c s then .ok (.verdict (ecdsaVerify c q (slice buf pl dl) r s)) else .error none
    | none => .error none
  | 2, some c =>
    match readPoint c buf with
    | some q =>
      if scalarOk c (beNat key) then
        match ecMul c (beNat key) q with
        | some (x, _) => .ok (.secret (beBytes c.lenP x))
        | none => .error (some 2)
      else .error none
    | none => .error none
  | 3, some c => if (readPoint c buf).isSome then .ok .valid else .error none
  | 4, none =>
    let m := rsaLen (leField desc 21 1)
    let el := leField desc 25 2
    let modulus := beField buf 0 m
    let e := beField buf m el
    let sig := beField buf (m + el) m
    if modulus % 2 = 0 ∨ e % 2 = 0 ∨ e < 3 ∨ modulus ≤ sig then .error none
    else .ok (.verdict (rsaVerify m modulus e sig dl (slice buf (2 * m + el) dl)))
  | _, _ => .error none

/-- A modular job ends with INPUT_REJECTED: RESULT is 0 and the output slot is released (R484, R499). -/
def pkReject (d : Device) (j : Job) : Device :=
  finish (releaseSlot d j) j.origin .inputRejected (zeros 16)

/-- An invariant failure is reported without naming the job (R502). -/
def pkInvariant (d : Device) (j : Job) (e k : Nat) : Device :=
  pkReject (emit (count d (devCtr 33)) .service 0x01 (leBytes 1 e ++ leBytes 1 k)) j

def pkFinish (d : Device) (j : Job) (c : Option Curve) : PkResult → Device
  | .signature bytes =>
    let o := j.origin
    match writeBuf d o (o.bufAddr + digestLen j.desc) (o.bufLen - digestLen j.desc) bytes with
    | some d => post (dropInflight d o) (dueOf d o .ok (zeros 16) true)
    | none => finish d o .internal (internalResult 1)
  | .verdict ok => finish d j.origin .ok [if ok then 0#8 else 1#8]
  | .secret x => slotOutput d j (slotNo j.desc 28) 2 (leField j.desc 30 2) x
  | .valid => match c with
    | some _ => finish d j.origin .ok (zeros 16)
    | none => finish d j.origin .ok (zeros 16)

/-- When the job on its engine has spent `n` ticks of engine time, yielded time excluded (R500). -/
def engineTime (j : Job) (n : Nat) : Nat := j.started + (n - j.spent)

/-- A PK_JOB ends when its full duration has passed (R500). Its scalar multiplications are blinded from the DRBG; RSA
verification is not (R501). -/
def pkDone (d : Device) (e : Nat) (invariant : Option (Fin 3)) : Device :=
  match Tbl.get? d.svc.pkRun e with
  | some j =>
    if j.opcode = 0x0301 then
      let op := leField j.desc 20 1
      let code := leField j.desc 21 1
      let c := if op = 4 then none else pkCurve d code
      let us := match c with
        | some c => pkMicros op code c.bits
        | none => rsaMicros code (leField j.desc 25 2)
      let d := elapseTo d (engineTime j (us * usTicks))
      let rand := drbgBytes d 80
      let d := count (leavePk (if op = 4 then d else drbgRequest d 80) e) (unitCtr 9 e)
      match invariant with
      | some k => pkInvariant d j e k
      | none =>
        match pkResult c rand j.res.key j.desc j.buf with
        | .ok r => pkFinish d j c r
        | .error (some k) => pkInvariant d j e k
        | .error none => pkReject d j
    else d
  | none => d

/-- PK_JOB_DONE (R498-R502). -/
def execPkJobDone (e : Fin 2) (invariant : Option (Fin 3)) (s : State) : Host.Outcome State Fault Refusal :=
  s.withDev (pkDone s.dev e invariant)

/-! ## PK_CURVE_LOAD (R503-R505) -/

def curveOwn (desc : Bytes) : List (Nat × Bool) := zeroFrom desc 24 63

def curveBody (o : Origin) (desc buf : Bytes) (d : Device) : Verdict :=
  let k := leField desc 20 1
  let bits := leField desc 22 2
  if k > 7 then failAt d .badField 20
  else if leField desc 21 1 = 0 ∨ leField desc 21 1 > 4 then failAt d .badField 21
  else if bits < 224 ∨ bits > 521 then failAt d .badField 22
  else if o.bufLen ≠ 6 * ((bits + 7) / 8) then failAt d .lengthError 16
  else if Tbl.any d.key.slots (fun _ s => s.state != 0 && s.type == 5 && s.curve == k) then fail d .busyReferenced
  else match acceptPk d { origin := o, opcode := 0x0302, desc := desc, buf := buf } with
    | some d => .accept d
    | none => .wait

/-- PK_CURVE_LOAD (R503, R505). -/
def execPkCurveLoad (r : Fin 64) (buf : Bytes) (s : State) : Host.Outcome State Fault Refusal :=
  s.withDev (runCommand 0x0302 r anyRight curveOwn curveBody buf s.dev)

/-- The curve a load's buffer holds. -/
def curveOf (desc buf : Bytes) : Curve :=
  let bits := leField desc 22 2
  let l := (bits + 7) / 8
  { bits := bits, cofactor := leField desc 21 1, p := beField buf 0 l, a := beField buf l l
    b := beField buf (2 * l) l, gx := beField buf (3 * l) l, gy := beField buf (4 * l) l, n := beField buf (5 * l) l }

def curveMicros (bits : Nat) : Nat := if bits ≤ 256 then 1100 else if bits ≤ 384 then 2200 else 4000

def curveLoaded (d : Device) (e : Nat) : Device :=
  match Tbl.get? d.svc.pkRun e with
  | some j =>
    if j.opcode = 0x0302 then
      let c := curveOf j.desc j.buf
      let d := elapseTo d (engineTime j (curveMicros c.bits * usTicks))
      let rand := drbgBytes d 8448
      let d := count (leavePk (drbgRequest d 8448) e) (unitCtr 9 e)
      if curveOk c rand then
        let k := leField j.desc 20 1
        let d := { d with svc := { d.svc with curves := Tbl.put d.svc.curves k c } }
        finish (emit d .service 0x04 (leBytes 1 k ++ leBytes 2 c.bits ++ leBytes 1 c.cofactor)) j.origin .ok (zeros 16)
      else pkReject d j
    else d
  | none => d

/-- CURVE_LOADED (R504). -/
def execCurveLoaded (e : Fin 2) (s : State) : Host.Outcome State Fault Refusal := s.withDev (curveLoaded s.dev e)

/-! ## Random numbers (R511-R514) -/

def drbgOwn (desc : Bytes) : List (Nat × Bool) := zeroBits desc 20 0xFE :: zeroFrom desc 21 63

def drbgBody (o : Origin) (desc buf : Bytes) (d : Device) : Verdict :=
  if o.bufLen = 0 ∨ o.bufLen > 65536 then failAt d .lengthError 16
  else .accept (acceptDrbg d { origin := o, opcode := 0x0303, desc := desc, buf := buf })

/-- DRBG_GENERATE (R514). -/
def execDrbgGenerate (r : Fin 64) (s : State) : Host.Outcome State Fault Refusal :=
  s.withDev (runCommand 0x0303 r anyRight drbgOwn drbgBody [] s.dev)

/-- A reseed: the request count and the interval start again (R511). -/
def reseed (d : Device) : Device :=
  count { d with svc := { d.svc with drbgRequests := 0, reseedAt := d.clock } } (devCtr 36)

def drbgDone (d : Device) : Device :=
  match d.svc.drbgQueue with
  | j :: rest =>
    let d := { d with svc := { d.svc with drbgQueue := rest } }
    if drbgOk d then
      let d := if (byteAt j.desc 20).getLsbD 0 then reseed d else d
      let out := drbgBytes d j.origin.bufLen
      finishOut (drbgRequest d j.origin.bufLen) j.origin (zeros 16) (some out)
    else finish d j.origin .internal (internalResult 2)
  | [] => d

/-- DRBG_GENERATE_DONE (R514). -/
def execDrbgGenerateDone (s : State) : Host.Outcome State Fault Refusal := s.withDev (drbgDone s.dev)

/-- Stop the DRBG until the next device reset (R513). -/
def stopDrbg (d : Device) (cause : Nat) : Device :=
  if d.svc.drbgStopped.isSome then d
  else emit { d with svc := { d.svc with drbgStopped := some cause } } .service 0x02 (leBytes 1 cause)

/-- RESEED_S; its reserved values count as 10 (Table 11-9). -/
def reseedS (d : Device) : Nat :=
  let n := field d 0x1D0008 11 0
  if n = 0 ∨ n > 3600 then 10 else n

/-- RESEED_S seconds after the last reseed, fresh entropy comes with its health tests (R511, R512). -/
def reseedDue (d : Device) (fail : Option (Fin 4)) : Device :=
  if drbgOk d then
    let d := elapseTo d (d.svc.reseedAt + reseedS d * 1000 * msTicks)
    match fail with
    | some c => stopDrbg d c
    | none => reseed d
  else d

/-- DRBG_RESEED (R511): every RESEED_S seconds. -/
def execDrbgReseed (fail : Option (Fin 4)) (s : State) : Host.Outcome State Fault Refusal :=
  s.withDev (reseedDue s.dev fail)

/-- ENTROPY_HEALTH_FAIL (R513). -/
def execEntropyHealthFail (cause : Fin 4) (s : State) : Host.Outcome State Fault Refusal :=
  s.withDev (stopDrbg s.dev cause)

/-! ## REVOCATION_UPDATE, acceptance (R515, R516) -/

/-- FORMAT, COUNT and the reserved bits of an update (Table 11-8). -/
def updateShapeOk (buf : Bytes) : Bool :=
  let n := leField buf 2 2
  leField buf 0 2 == 1 && 1 ≤ n && n ≤ 4096 && leField buf 4 4 == 0
    && (List.range n).all (fun i => leField buf (16 + 4 * i) 4 / 2 ^ 18 % 2 ^ 13 == 0)

def revokeBody (o : Origin) (desc buf : Bytes) (d : Device) : Verdict :=
  if !d.boot.enrolled then fail d .modeDenied
  else if o.bufLen ≠ 16 + 4 * leField buf 2 2 + 64 then failAt d .lengthError 16
  else if !updateShapeOk buf || leField buf 8 8 ≤ d.svc.revSeq then failAt d .badField 8
  else match acceptPk d { origin := o, opcode := 0x0304, desc := desc, buf := buf } with
    | some d => .accept d
    | none => .wait

/-- REVOCATION_UPDATE (R515, R516). -/
def execRevocationUpdate (r : Fin 64) (buf : Bytes) (s : State) : Host.Outcome State Fault Refusal :=
  s.withDev (runCommand 0x0304 r anyRight (fun desc => zeroFrom desc 20 63) revokeBody buf s.dev)

/-! ## Starts and yields (R483, R507) -/

/-- A free engine takes the next waiting job; the lower-numbered one where both are free. -/
def jobStart (d : Device) : Engine → Device
  | .sym i =>
    if freeEngine d.svc.symRun ≠ some i.val then d
    else match d.svc.symQueue with
      | j :: rest => runSym { d with svc := { d.svc with symQueue := rest } } i.val j
      | [] => d
  | .pk i =>
    if freeEngine d.svc.pkRun ≠ some i.val then d
    else match d.svc.pkQueue with
      | j :: rest => (runPk { d with svc := { d.svc with pkQueue := rest } } i.val j).1
      | [] => d
  | .drbg => d

/-- JOB_START (R483). The DRBG serves the front of its own queue and has nothing to start. -/
def execJobStart (e : Engine) (s : State) : Host.Outcome State Fault Refusal := s.withDev (jobStart s.dev e)

/-- Yield points of a long job (R506): 64 rounds for each of two primes and five other checks, or one for each 64-bit chunk
of the exponent. -/
def yieldPoints (j : Job) : Nat := if j.opcode = 0x0302 then 64 + 1 + 1 + 64 + 3 else (leField j.desc 25 2 + 7) / 8

/-- Engine time in ticks at yield point `k`. RSA spends its base time first (R500; DESIGN CHOICE, log 90); how a curve's
check divides its time is a free value. -/
def yieldAt (j : Job) (k : Nat) : Nat :=
  if j.opcode = 0x0302 then
    let bits := (curveOf j.desc j.buf).bits
    min (curveMicros bits * usTicks) (Config.curvePoint bits k)
  else (4 + k * (rsaMicros (leField j.desc 21 1) 8 - 4)) * usTicks

/-- The long job on an engine that has not yielded and has a yield point ahead. -/
def atYield (d : Device) (e : Nat) : Option Job :=
  match Tbl.get? d.svc.pkRun e with
  | some j => if longJob j && !Tbl.has d.svc.yielded e && j.points < yieldPoints j then some j else none
  | none => none

/-- The next yield point of the long job on engine `e` comes. -/
def reachPoint (d : Device) (e : Nat) : Device :=
  match atYield d e with
  | some j =>
    let d := elapseTo d (engineTime j (yieldAt j (j.points + 1)))
    { d with svc := { d.svc with pkRun := Tbl.put d.svc.pkRun e { j with points := j.points + 1 } } }
  | none => d

/-- The long job on engine `e`, at its yield point, lets these short jobs run. -/
def yieldTo (d : Device) (e : Nat) (jobs : List Job) : Device :=
  match Tbl.get? d.svc.pkRun e with
  | some long =>
    if jobs.isEmpty then d
    else
      let long := { long with spent := long.spent + (d.clock - long.started) }
      let d := runDealt { d with svc := { d.svc with pkQueue := d.svc.pkQueue.filter (fun j => !jobs.contains j)
                                                     yielded := Tbl.put d.svc.yielded e (long, []) } } e long jobs
      if Tbl.has d.svc.yielded e then count d (unitCtr 10 e) else d
  | none => d

/-- Deal waiting short jobs to both engines alternately, engine 0 first. -/
def dealBoth : List Job → List Job × List Job
  | [] => ([], [])
  | [a] => ([a], [])
  | a :: b :: rest => let r := dealBoth rest; (a :: r.1, b :: r.2)

/-- PK_YIELD (R506, R507): up to four short jobs per engine, in acceptance order; `both` when the two engines reach a yield
point in one core cycle. -/
def execPkYield (e : Fin 2) (both : Bool) (s : State) : Host.Outcome State Fault Refusal :=
  let d := s.dev
  let short := d.svc.pkQueue.filter shortJob
  s.withDev (
    if both && (atYield d 0).isSome && (atYield d 1).isSome then
      let deal := dealBoth (short.take 8)
      yieldTo (yieldTo (reachPoint (reachPoint d 0) 1) 0 deal.1) 1 deal.2
    else if (atYield d e).isSome then yieldTo (reachPoint d e) e (short.take 4)
    else d)

end Sys2Proof.Machine
end

