-- ==== Sys2Proof/Machine/HostRings.lean ====
section
/-!
DEFINITION. The host interface (02): function resets, counter reads, doorbells, ring enables, descriptor
fetches, coalescing, and the commands the chapter defines (NOP, ABORT, RING_STATUS, unassigned opcodes).
-/
namespace Sys2Proof.Machine

/-! ## Function resets (R61, R62, R509) -/

/-- Reset command ring `r`: disabled, indices 0, commands that have not begun discarded, later completions of begun ones
discarded through the epoch. -/
def resetCmdRing (d : Device) (r : Nat) : Device :=
  let c := cmdRing d r
  setBits (setCmdRing d r { c with head := 0, tail := 0, fetched := [], epoch := c.epoch + 1 })
    (cmdCtrlOff r) (mask 0 0) 0#32

/-- The stall time of a completion ring up to now is counted (R90). -/
def countStall (d : Device) (m : Nat) : Device :=
  match (cqRing d m).stallSince with
  | some t => count (setCqRing d m { cqRing d m with stallSince := none }) (unitCtr 15 m) ((d.clock - t) / usTicks)
  | none => d

/-- A completion ring is disabled: what waits for room is discarded, with every completion of a command fetched up to now
(R74). -/
def cqGoesOff (d : Device) (m : Nat) : Device :=
  let d := countStall d m
  let d := { d with hif := { d.hif with cqOffs := d.hif.cqOffs + 1 } }
  setCqRing d m { cqRing d m with due := [], offNo := d.hif.cqOffs }

/-- The ABORTs whose target's completion no longer waits for room complete (R105). -/
def releaseAborts (d : Device) : Device :=
  let waits := fun (d : Device) (w : AbortWait) => (cqRing d w.cq).due.any (fun u => u.origin == w.target)
  let free := d.hif.abortWaits.filter (fun w => !waits d w)
  let d := { d with hif := { d.hif with abortWaits := d.hif.abortWaits.filter (waits d) } }
  free.foldl (fun d w => post (dropInflight d w.due.origin) w.due) d

def resetCqRing (d : Device) (m : Nat) : Device :=
  let d := cqGoesOff d m
  setBits (setCqRing d m { cqRing d m with head := 0, write := 0, unsignalled := 0 }) (cqCtrlOff m) (mask 31 31) 0#32

/-- The function resets of R61 and R62 on the rings of the functions in `fns`. -/
def resetFunctions (d : Device) (fns : Nat → Bool) : Device :=
  let d := discardJobs d (fun j => fns (cmdOwner d j.origin.ring))
  let d := (List.range 64).foldl (fun d r => if fns (cmdOwner d r) then resetCmdRing d r else d) d
  releaseAborts ((List.range 64).foldl (fun d m => if fns (cqOwner d m) then resetCqRing d m else d) d)

/-- FLR_VF (R61). Function 0 is no virtual function: no effect. -/
def execFlrVf (f : Fin 16) (s : State) : Host.Outcome State Fault Refusal :=
  s.withDev (if f.val = 0 then s.dev else resetFunctions s.dev (fun g => g == f.val))

def evqCfgOff (e : Nat) : Nat := 0x11008 + 0x20 * e

/-- Every ring of every function, the event rings and the sample ring (R62). -/
def resetPf (d : Device) : Device :=
  let d := resetFunctions d (fun _ => true)
  let d := (List.range 5).foldl (fun d e => setBits d (evqCfgOff e) (mask 31 31) 0#32) d
  let ev := d.hif.ev.map (fun e => (e.1, { e.2 with head := 0, tail := 0 }))
  { d with hif := { d.hif with ev := ev, sample := { d.hif.sample with head := 0, tail := 0 }, raised := [] } }

/-- FLR_PF (R62). -/
def execFlrPf (s : State) : Host.Outcome State Fault Refusal := s.withDev (resetPf s.dev)

def speedOk (n : Nat) : Bool := 1 ≤ n && n ≤ 5
def widthOk (n : Nat) : Bool := n == 1 || n == 2 || n == 4 || n == 8

/-- The PCIe link trains to a speed and a width (R57); with codes Table 2-10 does not define it stays down. -/
def trainLink (d : Device) (speed width : Nat) : Device :=
  if speedOk speed && widthOk width then
    { d with hif := { d.hif with linkUp := true, speed := speed, width := width } }
  else { d with hif := { d.hif with linkUp := false, speed := 0, width := 0 } }

/-- PERST_N (R752). -/
def execPerstN (speed width : Fin 16) (s : State) : Host.Outcome State Fault Refusal :=
  s.withDev (trainLink (resetPf s.dev) speed width)

/-! ## MSI-X (R96) -/

/-- The MSI-X Table Size field that function `f` presents in its configuration space: VEC_COUNT - 1, and 0, which is one
entry, where VEC_COUNT is 0. -/
def msixTableSize (d : Device) (f : Nat) : Nat := vecCount d f - 1

/-! ## Reads with an effect (R69, R70, R729) -/

def counterAccess (d : Device) (f : Nat) : Bool := f == 0 || bit (reg d (0x11200 + 4 * f)) 31

/-- COUNTER_LOW_READ (R69, R70). -/
def execCounterLowRead (f : Fin 16) (c : Fin 131072) (s : State) : Host.Outcome State Fault Refusal :=
  let d := s.dev
  s.withDev (if counterAccess d f then
      let v := counter d c
      { d with hif := { d.hif with latch := Tbl.put d.hif.latch f (c.val, (v >>> 32).setWidth 32) }
               lastRead := BitVec.ofNat 64 (v.toNat % 2 ^ 32) }
    else { d with lastRead := 0#64 })

/-- REC_OPTIME_LO_READ (R729). -/
def execRecOptimeLoRead (s : State) : Host.Outcome State Fault Refusal :=
  let d := s.dev
  s.withDev { d with rcd := { d.rcd with opHiLatch := w32 (opTimeUs d % 2 ^ 63 / 2 ^ 32) }
                     lastRead := BitVec.ofNat 64 (opTimeUs d % 2 ^ 32) }

/-! ## Doorbells (R83-R86) -/

/-- An ignored doorbell (R84). -/
def badDoorbell (d : Device) (f page : Nat) (val : W32) : Device :=
  emit d .host 0x01 (leBytes 1 f ++ leBytes 2 page ++ leBytes 4 val.toNat)

/-- `v` is an index of a ring with LOG2 size field `k`. -/
def inSize (size : Option Nat) (v : Nat) : Bool :=
  match size with
  | some n => v < n
  | none => false

def bellCmd (d : Device) (f n : Nat) (val : W32) : Device :=
  let v := bits val 15 0
  if cmdOwner d n = f ∧ inSize (cmdSize d n) v then
    let d := setCmdRing d n { cmdRing d n with tail := v }
    { d with hif := { d.hif with bellPtr := (n + 1) % 64 } }
  else badDoorbell (setBits d (cmdStatusOff n) (mask 1 1) (mask 1 1)) f (4 * n) val

/-- COMMAND_RING_TAIL_DOORBELL (R83, R84). -/
def execCommandRingTailDoorbell (f : Fin 16) (ring : Fin 64) (val : W32) (s : State) :
    Host.Outcome State Fault Refusal := s.withDev (bellCmd s.dev f ring val)

/-- A full completion ring has room again: its stall time is counted (R90). -/
def endStall (d : Device) (m : Nat) : Device := if cqFull d m then d else countStall d m

/-- The size of a completion ring has changed: where it is full now its stall begins, and else what waits for room is
written. -/
def seeSize (d : Device) (m : Nat) : Device :=
  if cqEnabled d m && (cqSize d m).isSome then
    let d := endStall d m
    releaseAborts (seeFull (drainCq d m (cqRing d m).due) m)
  else d

/-- The head moves: CQ_STALL stands for the time the ring was full, and is set anew where the head leaves it full. -/
def bellCq (d : Device) (f m : Nat) (val : W32) : Device :=
  let v := bits val 15 0
  if cqOwner d m = f ∧ inSize (cqSize d m) v then
    let d := seeFull d m
    let d := endStall (setCqRing d m { cqRing d m with head := v }) m
    let d := drainCq d m (cqRing d m).due
    releaseAborts (seeFull d m)
  else badDoorbell d f (0x100 + 4 * m) val

/-- COMPLETION_RING_HEAD_DOORBELL (R83, R84, R90). -/
def execCompletionRingHeadDoorbell (f : Fin 16) (cq : Fin 64) (val : W32) (s : State) :
    Host.Outcome State Fault Refusal := s.withDev (bellCq s.dev f cq val)

/-- Bytes of event ring `e`; none for a reserved LOG2_BYTES (Table 2-9). -/
def evSize (d : Device) (e : Nat) : Option Nat :=
  let j := field d (evqCfgOff e) 4 0
  if 12 ≤ j ∧ j ≤ 24 then some (2 ^ j) else none
def evEnabled (d : Device) (e : Nat) : Bool := bit (reg d (evqCfgOff e)) 31

/-- EVENTS_UNDELIVERED for the records a ring has had no room for since the last one (R722). -/
def reportUndelivered (d : Device) (e : Nat) : Device :=
  let x := evRing d e
  if x.unreported = 0 then d
  else emit (setEvRing d e { x with unreported := 0 }) .host 0x03 (leBytes 1 e ++ leBytes 4 x.unreported)

def bellEv (d : Device) (f e : Nat) (val : W32) : Device :=
  let v := bits val 20 0
  if f = 0 ∧ inSize ((evSize d e).map (· / 8)) v then
    reportUndelivered (setEvRing d e { evRing d e with head := 8 * v }) e
  else badDoorbell d f (0x200 + 4 * e) val

/-- EVENT_RING_HEAD_DOORBELL (R83, R84, R94). -/
def execEventRingHeadDoorbell (f : Fin 16) (e : Fin 4) (val : W32) (s : State) : Host.Outcome State Fault Refusal :=
  s.withDev (bellEv s.dev f e val)

/-- Entries of the sample ring; its CFG has the layout of an event ring's, with k of 6 to 16 (R95). -/
def sampleSize (d : Device) : Option Nat := sizeOf (field d (evqCfgOff 4) 4 0)

def bellSample (d : Device) (f : Nat) (val : W32) : Device :=
  let v := bits val 15 0
  if f = 0 ∧ inSize (sampleSize d) v then { d with hif := { d.hif with sample := { d.hif.sample with head := v } } }
  else badDoorbell d f 0x210 val

/-- SAMPLE_RING_HEAD_DOORBELL (R83, R84, R95). -/
def execSampleRingHeadDoorbell (f : Fin 16) (val : W32) (s : State) : Host.Outcome State Fault Refusal :=
  s.withDev (bellSample s.dev f val)

/-! ## Enables (R87, R100) -/

/-- Write HIF_CMD_CTRL[n]. A ring that a fetch error disabled stays so while FAULT is set (R87). -/
def writeCmdCtrl (d : Device) (n : Nat) (val : W32) : Device :=
  let was := cmdEnabled d n
  if bit val 0 && bit (reg d (cmdStatusOff n)) 0 then d
  else
    let d := seeFull d (cmdCq d n)
    let d := plainWrite d (cmdCtrlOff n) val
    if bit val 0 && !was then seeFull (setCmdRing d n { cmdRing d n with head := 0, tail := 0 }) (cmdCq d n) else d

/-- Write HIF_CQ_CTRL[m]. -/
def writeCqCtrl (d : Device) (m : Nat) (val : W32) : Device :=
  let was := cqEnabled d m
  let d := plainWrite (if was then seeFull d m else d) (cqCtrlOff m) val
  if bit val 31 && !was then
    setCqRing d m { cqRing d m with head := 0, write := 0, phase := true, unsignalled := 0 }
  else if !bit val 31 then releaseAborts (cqGoesOff d m)
  else d

/-- Write HIF_EVQ_CFG[e]. -/
def writeEvCfg (d : Device) (e : Nat) (val : W32) : Device :=
  let was := evEnabled d e
  let d := plainWrite d (evqCfgOff e) val
  if bit val 31 && !was then setEvRing d e { evRing d e with head := 0, tail := 0 } else d

/-- Write HIF_SMP_CFG. -/
def writeSampleCfg (d : Device) (val : W32) : Device :=
  let was := evEnabled d 4
  let d := plainWrite d (evqCfgOff 4) val
  if bit val 31 && !was then { d with hif := { d.hif with sample := { d.hif.sample with head := 0, tail := 0 } } } else d

def writeRingCtrl (d : Device) (kind : RingKind) (n : Nat) (val : W32) : Device :=
  match kind with
  | .command => writeCmdCtrl d n val
  | .completion => writeCqCtrl d n val
  | .event => if n < 4 then writeEvCfg d n val else d
  | .sample => writeSampleCfg d val

/-- HIF_CMD_CTRL_ENABLE (R100): a write of the register that holds a ring's ENABLE. -/
def execHifCmdCtrlEnable (kind : RingKind) (n : Fin 64) (val : W32) (s : State) : Host.Outcome State Fault Refusal :=
  s.withDev (writeRingCtrl s.dev kind n val)

/-! ## Fetch (R67, R74, R85, R87) -/

/-- Descriptors of ring `r` between HEAD and TAIL. -/
def pendingDescs (d : Device) (r : Nat) : Nat :=
  match cmdSize d r with
  | some n => ((cmdRing d r).tail + n - (cmdRing d r).head) % n
  | none => 0

/-- The fetch engine may fetch from ring `r`, and finds descriptors there. -/
def fetchable (d : Device) (r : Nat) : Bool :=
  d.boot.ended && cmdEnabled d r && pendingDescs d r != 0 && (cmdOwner d r == 0 || d.glb.sealed)
    && cqOwner d (cmdCq d r) == cmdOwner d r && cqEnabled d (cmdCq d r) && (cqSize d (cmdCq d r)).isSome

/-- The next ring of the rotation with descriptors. -/
def nextRing (d : Device) : Option Nat :=
  (firstFrom (fun i => fetchable d (i % 64)) d.hif.fetchPtr 64).map (· % 64)

/-- The descriptors a visit brings, with their order in the ring. -/
def fetchList (order offs now : Nat) (descs : List Bytes) (n : Nat) : List Fetched :=
  (List.range n).map (fun i => { order := order + i, desc := fit 64 ((descs[i]?).getD []), offs := offs, at_ := now })

/-- One visit of the fetch engine. -/
def fetchVisit (d : Device) (reply : FetchReply) : Device :=
  match nextRing d with
  | none => d
  | some r =>
    let c := cmdRing d r
    let d := { d with hif := { d.hif with fetchPtr := (r + 1) % 64 } }
    match reply with
    | .ok descs =>
      let n := min (cmdWeight d r) (pendingDescs d r)
      setCmdRing d r { c with head := (c.head + n) % (cmdSize d r).getD 1, nextOrder := c.nextOrder + n
                              fetched := c.fetched ++ fetchList c.nextOrder d.hif.cqOffs d.clock descs n }
    | .fail cause =>
      let d := setBits d (cmdCtrlOff r) (mask 0 0) 0#32
      emit (setBits d (cmdStatusOff r) (mask 0 0) (mask 0 0)) .host 0x02 (leBytes 1 r ++ leBytes 1 cause)

/-- DESCRIPTOR_FETCH (R85, R87): one visit, and what host memory answered. -/
def execDescriptorFetch (reply : FetchReply) (s : State) : Host.Outcome State Fault Refusal :=
  s.withDev (fetchVisit s.dev reply)

/-! ## Coalescing (R98) -/

def coalesce (d : Device) (m : Nat) : Device :=
  let c := cqRing d m
  let t := field d (cqCtrlOff m) 19 8
  if c.unsignalled = 0 ∨ t = 0 then d
  else
    let d := elapseTo d (c.firstAt + t * usTicks)
    raiseVector (setCqRing d m { cqRing d m with unsignalled := 0 }) (cqOwner d m) (field d (cqCfgOff m) 22 16)

/-- COALESCING_TIMEOUT (R98). -/
def execCoalescingTimeout (cq : Fin 64) (s : State) : Host.Outcome State Fault Refusal := s.withDev (coalesce s.dev cq)

/-! ## Commands defined in chapter 02 -/

/-- The front fetched descriptor of a ring, if its opcode is unassigned, ends with BAD_OPCODE. -/
def unknownOpcode (d : Device) (r : Nat) : Device :=
  match (cmdRing d r).fetched with
  | f :: _ =>
    if (opInfo (opcodeOf f.desc)).isNone then
      runCommand (opcodeOf f.desc) r anyRight (fun _ => []) (fun _ _ _ d => fail d .badOpcode) [] d
    else d
  | [] => d

/-- UNKNOWN_OPCODE (R102). -/
def execUnknownOpcode (r : Fin 64) (s : State) : Host.Outcome State Fault Refusal := s.withDev (unknownOpcode s.dev r)

/-- NOP (R103): it uses only the header. -/
def execNop (r : Fin 64) (s : State) : Host.Outcome State Fault Refusal :=
  s.withDev (runCommand 0x0000 r anyRight (fun _ => []) (fun _ _ _ d => .done d (zeros 16) none) [] s.dev)

/-- The abortable opcodes (R104). -/
def abortable (opcode : Nat) : Bool :=
  opcode == 0x0300 || opcode == 0x0301 || opcode == 0x0302 || opcode == 0x0303 || opcode == 0x0010 || opcode == 0x0313
    || opcode == 0x0304

/-- Where an ABORT finds its target. -/
inductive AbortTarget where
  | accepted (o : Origin) (opcode : Nat)
  | waiting (f : Fetched)
  deriving DecidableEq, Repr

def AbortTarget.order : AbortTarget → Nat
  | .accepted o _ => o.order
  | .waiting f => f.order

def AbortTarget.earlier : Option AbortTarget → AbortTarget → Option AbortTarget
  | none, t => some t
  | some u, t => if t.order < u.order then some t else some u

/-- The earliest command of ring `r` with this tag that has not completed (R104). A command completes when its completion
falls due: one whose entry only waits for room is no target. A descriptor that a doorbell has exposed and no fetch has
brought yet is no target either, which the spec leaves open (DESIGN CHOICE, log 83). -/
def abortTarget (d : Device) (r tag : Nat) : Option AbortTarget :=
  let mine := fun (o : Origin) => o.ring == r && o.tag == tag && o.epoch == (cmdRing d r).epoch
  let a := (d.hif.inflight.filter (fun i => mine i.origin)).map (fun i => AbortTarget.accepted i.origin i.opcode)
  let b := ((cmdRing d r).fetched.filter (fun f => leField f.desc 4 4 == tag)).map AbortTarget.waiting
  (a ++ b).foldl AbortTarget.earlier none

/-- ABORT has aborted `target` of ring `r`: it completes now, or after the target's completion where that still waits for
room in another completion ring (R105). -/
def abortDone (d : Device) (o target : Origin) (r : Nat) : Verdict :=
  if (cqRing d (cmdCq d r)).due.any (fun u => u.origin == target) then
    let w : AbortWait := { cq := cmdCq d r, target := target, due := dueOf d o .ok [1#8] false }
    .accept (enterInflight { d with hif := { d.hif with abortWaits := d.hif.abortWaits ++ [w] } } o 0x0001)
  else .done d [1#8] none

/-- The job of `t` has written its slot, and its completion waits for the MIRROR_ACK: aborted, it has no effect (R104), so the
slot is emptied again, here and on the peer. -/
def abortWritten (d : Device) (t : Origin) : Device :=
  let slots := (d.duet.waits.filter (fun w => w.due.origin = t)).filterMap (fun w => w.slot)
  let d := { d with duet := { d.duet with waits := d.duet.waits.filter (fun w => w.due.origin ≠ t) } }
  let d := slots.foldl (fun d i => sendMirror (deleteSlot d i) (slotDesc 0x0312 i)) d
  finish (svcCtrAborts d) t .aborted (zeros 16)

def abortBody (o : Origin) (desc _buf : Bytes) (d : Device) : Verdict :=
  let r := (byteAt desc 24).toNat % 64
  if cmdOwner d r ≠ o.fn then .done d (zeros 16) none
  else match abortTarget d r (leField desc 20 4) with
    | none => .done d (zeros 16) none
    | some (.accepted t opc) =>
      if abortable opc && d.hif.inflight.any (fun i => i.origin == t) && (allJobs d).any (fun j => j.origin == t) then
        abortDone (abortJobs d (fun j => j.origin == t) .aborted) o t r
      else if abortable opc && d.duet.waits.any (fun w => w.due.origin == t && w.slot.isSome) then
        abortDone (abortWritten d t) o t r
      else .done d [2#8] none
    | some (.waiting f) =>
      if abortable (opcodeOf f.desc) then
        let c := cmdRing d r
        let d := svcCtrAborts (setCmdRing d r { c with fetched := c.fetched.filter (fun g => g.order != f.order) })
        abortDone (post d (dueOf d (originOf d r f) .aborted (zeros 16) false)) o (originOf d r f) r
      else .done d [2#8] none

/-- ABORT (R104, R105, R508). -/
def execAbort (r : Fin 64) (s : State) : Host.Outcome State Fault Refusal :=
  s.withDev (runCommand 0x0001 r anyRight (fun desc => zeroBits desc 24 0xC0 :: zeroFrom desc 25 63) abortBody [] s.dev)

def ringStatusOwn (desc : Bytes) : List (Nat × Bool) :=
  ([zeroBits desc 20 0xC0, (21, decide (leField desc 21 1 > 1))] : List (Nat × Bool)) ++ zeroFrom desc 22 63

/-- HIF_CMD_PTR and HIF_CQ_PTR. -/
def cmdPtr (d : Device) (n : Nat) : W32 := place 31 16 (cmdRing d n).tail ||| place 15 0 (cmdRing d n).head
def cqPtr (d : Device) (m : Nat) : W32 := place 31 16 (cqRing d m).head ||| place 15 0 (cqRing d m).write
/-- HIF_CMD_STATUS: CQ_STALL reads 1 while the ring stalls, and after it until it is cleared (R90, Table 2-7). -/
def cmdStatus (d : Device) (n : Nat) : W32 :=
  reg d (cmdStatusOff n) ||| flagAt 2 (mappedTo d (cmdCq d n) n && cqEnabled d (cmdCq d n) && cqFull d (cmdCq d n))
def cqStatus (d : Device) (m : Nat) : W32 :=
  flagAt 0 (cqEnabled d m) ||| flagAt 1 (cqFull d m) ||| flagAt 2 (cqRing d m).phase

def ringStatusBody (o : Origin) (desc _buf : Bytes) (d : Device) : Verdict :=
  let n := (byteAt desc 20).toNat % 64
  let answer (p st : W32) : Verdict := .done d (leBytes 4 p.toNat ++ leBytes 4 st.toNat) none
  if leField desc 21 1 = 0 then
    if cmdOwner d n ≠ o.fn then failAt d .badIndex 20 else answer (cmdPtr d n) (cmdStatus d n)
  else if cqOwner d n ≠ o.fn then failAt d .badIndex 20
  else answer (cqPtr d n) (cqStatus d n)

/-- RING_STATUS (R106). -/
def execRingStatus (r : Fin 64) (s : State) : Host.Outcome State Fault Refusal :=
  s.withDev (runCommand 0x0002 r anyRight ringStatusOwn ringStatusBody [] s.dev)

end Sys2Proof.Machine
end

