-- ==== Sys2Proof/Machine/Recorder.lean ====
section
/-!
DEFINITION. The event recorder (17): delivery to the event rings (R91-R94), the journal (R709-R714), checkpoints
(R716), EVENT_READ, COUNTER_SNAPSHOT and the samples' way to host memory (R95).
-/
namespace Sys2Proof.Machine

/-! ## Event rings (R91-R94) -/

def srcRing (d : Device) (src : Source) : Nat := field d 0x11100 (2 * src.code - 1) (2 * src.code - 2)

/-- Bytes a ring of `size` bytes holds between head and tail. -/
def evUsed (x : EvRing) (size : Nat) : Nat := (x.tail + size - x.head) % size

/-- A filler of `n` bytes (R92). -/
def filler (n : Nat) : Bytes := fit n (leBytes 2 n)

/-- Write a record and the new tail to an event ring, behind a filler where the record would wrap, and raise the ring's
vector; a record that finds no room is lost to the ring (R92-R94, R98). -/
def deliverTo (d : Device) (e size : Nat) (rec : Bytes) : Device :=
  let x := evRing d e
  let gap := if x.tail + rec.length > size then size - x.tail else 0
  if evUsed x size + gap + rec.length < size then
    let base := base64 d (0x11000 + 0x20 * e)
    let d := if gap = 0 then d else send d (.hostWrite 0 (BitVec.ofNat 64 (base + x.tail)) (filler gap))
    let start := if gap = 0 then x.tail else 0
    let tail := (start + rec.length) % size
    let d := send d (.hostWrite 0 (BitVec.ofNat 64 (base + start)) rec)
    let d := setEvRing d e { x with tail := tail }
    let d := send d (.hostWrite 0 (BitVec.ofNat 64 (base64 d (0x1100C + 0x20 * e))) (leBytes 8 tail))
    raiseVector d 0 (field d (evqCfgOff e) 22 16)
  else setEvRing d e { x with lost := x.lost + 1#32, unreported := x.unreported + 1 }

/-- Copy a record to the event ring of its source, where that is enabled. -/
def deliver (d : Device) (r : EvRec) : Device :=
  let e := srcRing d r.source
  match evSize d e with
  | some size => if evEnabled d e then deliverTo d e size (padTo 8 (recBytes r)) else d
  | none => d

/-- Copy every record that has not been copied. None leaves before step 6 has set POWER_CYCLES (R715). -/
def deliverAll (d : Device) : Device :=
  if d.boot.ended then
    let l := d.rcd.ring.filter (fun r => !r.delivered)
    let d := l.foldl deliver d
    { d with rcd := { d.rcd with ring := d.rcd.ring.map (fun r => { r with delivered := true }) } }
  else d

/-! ## The sample ring (R95) -/

/-- A sample goes to the sample ring. The tail that is written back is the entry index, the unit of the ring's head
doorbell, and VECTOR of HIF_SMP_CFG is raised after each sample, as an event ring's is after each record: R95 and R98 say
neither. The ring is full when its tail would reach its head, so one entry stays free, as in an event ring (DESIGN CHOICE, log
83). -/
def sendSample (d : Device) (entry : Bytes) : Device :=
  match sampleSize d with
  | some n =>
    if evEnabled d 4 then
      let x := d.hif.sample
      if (x.tail + 1) % n = x.head then
        { d with hif := { d.hif with sample := { x with lost := x.lost + 1#32 } } }
      else
        let tail := (x.tail + 1) % n
        let d := send d (.hostWrite 0 (BitVec.ofNat 64 (base64 d 0x11080 + 128 * x.tail)) (fit 128 entry))
        let d := { d with hif := { d.hif with sample := { x with tail := tail } } }
        let d := send d (.hostWrite 0 (BitVec.ofNat 64 (base64 d 0x1108C)) (leBytes 8 tail))
        raiseVector d 0 (field d (evqCfgOff 4) 22 16)
    else d
  | none => d

/-! ## The journal (R711-R713, R716) -/

def sector : Nat := 65536
/-- Size of the journal partition (Table 16-1). -/
def journalSize (size : Nat) : Nat := (if size = 0 then 12 else if size = 1 then 28 else 32) * 2 ^ 20

/-- Bytes of a block before its tag (Table 17-3). -/
def blockHead (b : Block) : Bytes :=
  [0x54#8, 0x4A#8, 0x4E#8, 0x4C#8] ++ leBytes 2 b.kind ++ leBytes 2 (32 + b.content.length)
    ++ leBytes 4 b.powerCycles ++ leBytes 4 b.seq ++ b.content

def blockTag (d : Device) (b : Block) : Bytes :=
  match d.key.tree with
  | some t => fit 16 (Config.hmac 32 t.journal (blockHead b))
  | none => zeros 16

/-- The tag holds under the current journal key (R713). -/
def verified (d : Device) (b : Block) : Bool := d.key.tree.isSome && b.tag == blockTag d b

/-- Write one block: it lies whole in one sector, and a sector is erased before its first block is written. -/
def writeBlock (d : Device) (kind : Nat) (content : Bytes) : Device :=
  let fl := d.boot.flash
  let len := 32 + content.length
  let pos := if fl.writePos % sector + len > sector then (fl.writePos / sector + 1) * sector else fl.writePos
  let pos := pos % journalSize fl.size
  let kept := if pos % sector = 0 then fl.journal.filter (fun b => b.offset / sector != pos / sector) else fl.journal
  let b : Block := { offset := pos, kind := kind, powerCycles := d.rcd.powerCycles.toNat, seq := fl.nextBlock
                     content := content, tag := [] }
  let b := { b with tag := blockTag d b }
  { d with boot := { d.boot with flash := { fl with journal := kept ++ [b], writePos := pos + len
                                                    nextBlock := fl.nextBlock + 1 } } }

/-- Whole padded records, as many in each block as fit in 4,096 bytes. -/
def packRecords : Bytes → List EvRec → List Bytes
  | acc, [] => if acc = [] then [] else [acc]
  | acc, r :: l =>
    let b := padTo 8 (recBytes r)
    if acc.length + b.length ≤ 4064 then packRecords (acc ++ b) l else acc :: packRecords b l

/-- Write every record that has not reached the journal; without the journal key they wait (R709, R711). -/
def journalAll (d : Device) : Device :=
  if d.rcd.journalReady then
    let l := d.rcd.ring.filter (fun r => !r.journalled)
    let d := (packRecords [] l).foldl (fun d c => writeBlock d 0 c) d
    { d with rcd := { d.rcd with ring := d.rcd.ring.map (fun r => { r with journalled := true }) } }
  else d

def sourcesInOrder : List Source :=
  [.tamper, .battery, .duet, .memory, .key, .macsec, .framer, .tsi, .forward, .galley, .lane, .time, .boot, .power,
   .host, .service]

/-- JOURNAL_WRITE (R709): the records go to their event rings and to the journal. -/
def execJournalWrite (s : State) : Host.Outcome State Fault Refusal :=
  s.withDev (sourcesInOrder.foldl reportDrops (journalAll (deliverAll s.dev)))

/-- Write a checkpoint; a verified one clears OPTIME_UNVERIFIED (R716, R717). -/
def checkpoint (d : Device) : Device :=
  if d.rcd.journalReady then
    let d := writeBlock d 1 (leBytes 8 (opTimeUs d) ++ zeros 8)
    { d with rcd := { d.rcd with opUnverified := false } }
  else d

/-- CHECKPOINT (R716). -/
def execCheckpoint (s : State) : Host.Outcome State Fault Refusal := s.withDev (checkpoint s.dev)

/-! ## EVENT_READ (R718-R721) -/

/-- A record as EVENT_READ finds it: its bytes, on die or in a block. -/
structure Found where
  bytes : Bytes
  verified : Bool
  /-- flash offset of the block, for a record from the journal -/
  flash : Option Nat
  deriving DecidableEq, Repr

def Found.seq (f : Found) : Nat := leField f.bytes 4 4

def Found.crcOk (f : Found) : Bool :=
  leField f.bytes (f.bytes.length - 4) 4 == (crc32c (f.bytes.take (f.bytes.length - 4))).toNat

/-- The records in a block's content: each padded to a multiple of 8 bytes. -/
def splitRecords : Nat → Bytes → List Bytes
  | 0, _ => []
  | n + 1, c =>
    let len := leField c 0 2
    if len < 24 ∨ len > 512 ∨ len > c.length then []
    else c.take len :: splitRecords n (c.drop (8 * ((len + 7) / 8)))

/-- Records of one source and start-up: on die first, then those that only the journal holds, in ascending SEQ. -/
def findRecords (d : Device) (src pc : Nat) : List Found :=
  let match_ := fun (b : Bytes) => leField b 2 1 == src && leField b 8 4 == pc
  let die : List Found := (d.rcd.ring.map recBytes).filterMap (fun b =>
    if match_ b then some { bytes := b, verified := true, flash := none } else none)
  let jrn : List Found := d.boot.flash.journal.flatMap (fun b =>
    if b.kind = 0 then
      let v := verified d b
      (splitRecords 512 b.content).filterMap (fun r =>
        if match_ r then some { bytes := r, verified := v, flash := some (0x400000 + b.offset) } else none)
    else [])
  let extra := jrn.filter (fun f => !die.any (fun g => g.seq == f.seq))
  sortBy (fun a b => a.seq ≤ b.seq) (die ++ extra)

/-- The scan of EVENT_READ. -/
structure Scanned where
  dev : Device
  out : Bytes := []
  returned : Nat := 0
  skipped : Nat := 0
  left : Nat := 0
  next : Nat
  deriving DecidableEq, Repr

def entryOf (f : Found) : Bytes :=
  leBytes 2 f.bytes.length ++ leBytes 1 ((if f.verified then 1 else 0) + (if f.flash.isSome then 2 else 0)) ++ zeros 5
    ++ padTo 8 f.bytes

/-- Examine records until the count, the records or the buffer ends. -/
def scanRecords (src pc max bufLen : Nat) (only : Bool) : List Found → Scanned → Scanned
  | [], x => x
  | f :: l, x =>
    if x.returned ≥ max then x
    else if !f.crcOk then
      let d := emit (count x.dev (devCtr 58)) .boot 0x11
        (leBytes 1 src ++ leBytes 4 pc ++ leBytes 4 (f.flash.getD 0))
      scanRecords src pc max bufLen only l { x with dev := d, skipped := x.skipped + 1, next := f.seq + 1 }
    else if only && !f.verified then
      scanRecords src pc max bufLen only l { x with left := x.left + 1, next := f.seq + 1 }
    else if x.out.length + (entryOf f).length > bufLen then x
    else scanRecords src pc max bufLen only l
      { x with out := x.out ++ entryOf f, returned := x.returned + 1, next := f.seq + 1 }

def eventReadOwn (desc : Bytes) : List (Nat × Bool) :=
  ([(20, leField desc 20 1 == 0 || decide (leField desc 20 1 > 16)), zeroBits desc 21 0xFE] : List (Nat × Bool))
    ++ zeroFrom desc 22 23 ++ zeroFrom desc 36 63

def eventReadBody (o : Origin) (desc _buf : Bytes) (d : Device) : Verdict :=
  let src := leField desc 20 1
  let pc := leField desc 24 4
  let first := leField desc 28 4
  let max := leField desc 32 4
  if max = 0 ∨ max > 4096 then failAt d .badField 32
  else if o.bufLen % 8 ≠ 0 ∨ o.bufLen < 520 ∨ o.bufLen > max * 520 then failAt d .lengthError 16
  else
    let l := findRecords d src pc
    if l.isEmpty then failAt d .badIndex 20
    else
      let x := scanRecords src pc max o.bufLen ((byteAt desc 21).getLsbD 0) (l.filter (fun f => first ≤ f.seq))
        { dev := d, next := first }
      .done x.dev (leBytes 2 x.returned ++ leBytes 2 x.skipped ++ leBytes 2 x.left ++ zeros 2
        ++ leBytes 4 x.next ++ leBytes 4 x.out.length) (some x.out)

/-- EVENT_READ (R718-R721). -/
def execEventRead (r : Fin 64) (s : State) : Host.Outcome State Fault Refusal :=
  s.withDev (runCommand 0x0011 r (fun _ fn => fn == 0) eventReadOwn eventReadBody [] s.dev)

/-! ## COUNTER_SNAPSHOT (R725, R726) -/

def snapshotBody (o : Origin) (desc _buf : Bytes) (d : Device) : Verdict :=
  let first := leField desc 20 4
  let n := leField desc 24 4
  if o.bufLen ≠ 16 + 8 * n then failAt d .lengthError 16
  else if n = 0 ∨ n > 16384 then failAt d .badField 24
  else if first + n > 131072 then failAt d .badIndex 20
  else .done d (zeros 16) (some (leBytes 8 d.clock ++ leBytes 4 first ++ leBytes 4 n
    ++ (List.range n).flatMap (fun i => leBytes 8 (counter d (first + i)).toNat)))

/-- COUNTER_SNAPSHOT (R725, R726). -/
def execCounterSnapshot (r : Fin 64) (s : State) : Host.Outcome State Fault Refusal :=
  s.withDev (runCommand 0x0012 r counterAccess (fun desc => zeroFrom desc 28 63) snapshotBody [] s.dev)

end Sys2Proof.Machine
end

