-- ==== Sys2Proof/Machine/Time.lean ====
section
/-!
DEFINITION. The time unit (15): steering a base, snapshots, trigger units and capture inputs. The PTP agent's rows are in
Machine/Ptp.lean.
-/
namespace Sys2Proof.Machine

def agentOn (d : Device) (b : Nat) : Bool := bit (reg d (ctlOff b)) 30

/-- A write that the agent's hold on the base makes void sets HOST_IGNORED (R652). -/
def hostIgnored (d : Device) (b : Nat) : Device := setBits d (ctlOff b) (mask 26 26) (mask 26 26)

def offset32 (n : Int) : Nat := (n % 2 ^ 32).toNat

/-- Signed ns, saturating (TIME_AGENT_OFFSET). -/
def satOffset (n : Int) : Nat := offset32 (max (-2 ^ 31) (min (2 ^ 31 - 1) n))

/-- Change LOCKED of a base; every change writes LOCK_CHANGE (R653). -/
def setLocked (d : Device) (b : Nat) (v byAgent : Bool) : Device :=
  if baseLocked d b = v then d
  else emit (setBits d (ctlOff b) (mask 31 31) (flagAt 31 v)) .time 0x01
    (leBytes 1 b ++ [if v then 1#8 else 0#8, if byAgent then 1#8 else 0#8] ++ leBytes 4 (satOffset (tbase d b).lastOffset))

/-! ## Frequency (R646, R649) -/

def freqBound : Int := 65536000000
def clipFreq (f : Int) : Int := max (-freqBound) (min freqBound f)

/-- The 40-bit word of TIME_FREQ_LO and _HI. -/
def freqWord (d : Device) (b : Nat) : Int :=
  (BitVec.ofNat 40 ((reg d (ctlOff b + 4)).toNat + 2 ^ 32 * field d (ctlOff b + 8) 7 0)).toInt

def writeFreqHi (d : Device) (b : Nat) (val : W32) : Device :=
  if agentOn d b then hostIgnored d b
  else
    let d := plainWrite d (ctlOff b + 8) val
    elapse (setBase d b { tbase d b with freq := clipFreq (freqWord d b) }) 1

/-- TIME_FREQ_HI_WRITE (R649): the new word applies at the next tick, which the row includes. -/
def execTimeFreqHiWrite (b : Fin 4) (val : W32) (s : State) : Host.Outcome State Fault Refusal :=
  s.withDev (writeFreqHi s.dev b val)

/-! ## TIME_CMD (R650, R651) -/

/-- The STEP value in ns. -/
def stepNs (d : Device) (b : Nat) : Nat :=
  let o := ctlOff b
  ((reg d (o + 0xC)).toNat + 2 ^ 32 * field d (o + 0x10) 15 0) * 10 ^ 9 + min 999999999 (reg d (o + 0x14)).toNat

/-- Set a base to a value and write STEPPED. -/
def stepBase (d : Device) (b : Nat) (byAgent : Bool) (value : Nat) : Device :=
  let before := (tbase d b).value
  emit (setBase d b { tbase d b with value := value }) .time 0x02
    (leBytes 1 b ++ [if byAgent then 1#8 else 0#8] ++ timeBytes before ++ timeBytes value)

def cmdStep (d : Device) (b : Nat) : Device :=
  if agentOn d b then hostIgnored d b else stepBase (elapse d 1) b false (stepNs d b * nsUnit)

/-- TIME_CMD_STEP (R650): at the next tick the base reads the STEP value, taken at the write. -/
def execTimeCmdStep (b : Fin 4) (s : State) : Host.Outcome State Fault Refusal := s.withDev (cmdStep s.dev b)

/-- Add signed ns to a value; below 0 it is clamped. -/
def addNs (value : Nat) (n : Int) : Nat := ((value : Int) + n * (nsUnit : Int)).toNat % baseWrap

def cmdOffset (d : Device) (b : Nat) : Device :=
  if agentOn d b then hostIgnored d b
  else
    let off := (reg d (ctlOff b + 0x18)).toInt
    let d := elapse d 1
    stepBase d b false (addNs (tbase d b).value off)

/-- TIME_CMD_OFFSET (R650): the offset, taken at the write, is added to the value the next tick reaches. -/
def execTimeCmdOffset (b : Fin 4) (s : State) : Host.Outcome State Fault Refusal := s.withDev (cmdOffset s.dev b)

/-! ## TIME_BASE_CTL and TIME_SNAP (R652, R653, R676) -/

def profileDomain (p : Nat) : Nat := if p = 1 then 254 else 0

def writeBaseCtl (d : Device) (b : Nat) (val : W32) : Device :=
  let old := reg d (ctlOff b)
  let agent := bit old 30
  let oldProfile := bits old 29 28
  let newProfile := if bits val 29 28 < 2 then bits val 29 28 else oldProfile
  let domain := if newProfile ≠ oldProfile then profileDomain newProfile else bits val 23 16
  let keep := (old &&& (mask 31 31 ||| mask 26 26)) &&& ~~~(val &&& mask 26 26)
  let fresh := (val &&& (mask 30 30 ||| mask 27 27 ||| mask 15 15 ||| mask 6 0))
    ||| place 29 28 newProfile ||| place 23 16 domain
  let d := setReg d (ctlOff b) (keep ||| fresh)
  let d := if bit val 30 && !agent then
      setBase d b { tbase d b with goodRun := 0, lockedOnce := false, lastSync := d.clock } else d
  if agent then (if bit val 31 = bit old 31 then d else hostIgnored d b)
  else setLocked d b (bit val 31) false

/-- TIME_BASE_CTL_WRITE (R652, R653, Table 15-4). -/
def execTimeBaseCtlWrite (b : Fin 4) (val : W32) (s : State) : Host.Outcome State Fault Refusal :=
  s.withDev (writeBaseCtl s.dev b val)

def snapBases (d : Device) (val : W32) : Device :=
  (List.range 4).foldl (fun d b =>
    if bit val b then setBase d b { tbase d b with snap := (tbase d b).value } else d) d

/-- TIME_SNAP_WRITE (R676). -/
def execTimeSnapWrite (val : W32) (s : State) : Host.Outcome State Fault Refusal := s.withDev (snapBases s.dev val)

/-! ## Trigger units (R667-R674) -/

def trgOff (u : Nat) : Nat := 0x220800 + 0x20 * u
def trg (d : Device) (u : Nat) : Trg := Tbl.getD d.time.trg u {}
def setTrg (d : Device) (u : Nat) (t : Trg) : Device :=
  { d with time := { d.time with trg := Tbl.setD d.time.trg u {} t } }

def trgEnabled (d : Device) (u : Nat) : Bool := bit (reg d (trgOff u)) 31
def trgBase (d : Device) (u : Nat) : Nat := field d (trgOff u) 30 29
def trgPeriod (d : Device) (u : Nat) : Nat :=
  let p := (reg d (trgOff u + 0x10)).toNat
  if 1000 ≤ p ∧ p ≤ 4000000000 then p else 1000000000
def trgWidth (d : Device) (u : Nat) : Nat :=
  let w := (reg d (trgOff u + 0x14)).toNat
  if 8 ≤ w ∧ w < trgPeriod d u then w else trgPeriod d u / 2
def trgStart (d : Device) (u : Nat) : Nat :=
  let o := trgOff u
  ((reg d (o + 4)).toNat + 2 ^ 32 * field d (o + 8) 15 0) * 10 ^ 9 + (reg d (o + 0xC)).toNat

/-- START + k * PERIOD with the smallest k that puts it at or after `value` (R667). -/
def firstFire (start period value : Nat) : Nat :=
  if start * nsUnit ≥ value then start
  else start + (value - start * nsUnit + period * nsUnit - 1) / (period * nsUnit) * period

def writeTrgCtl (d : Device) (u : Nat) (val : W32) : Device :=
  let was := trgEnabled d u
  let d := plainWrite d (trgOff u) val
  if bit val 31 && !was then
    let n := firstFire (trgStart d u) (trgPeriod d u) (tbase d (trgBase d u)).value
    setTrg d u { trg d u with running := true, next := n, fired := 0 }
  else if !bit val 31 then
    setTrg d u { trg d u with running := (trg d u).running && (trg d u).pulseEnd.isSome }
  else d

/-- TRIGGER_ENABLE (R667, R672): a write of TIME_TRG_CTL; a unit that is cleared runs on to its pulse's end. -/
def execTriggerEnable (u : Fin 8) (val : W32) (s : State) : Host.Outcome State Fault Refusal :=
  s.withDev (writeTrgCtl s.dev u val)

/-- Ticks until a base reads at or after `ns`. -/
def ticksTo (t : TBase) (ns : Nat) : Nat :=
  let inc := (baseAdvance t.freq 0 1).toNat
  (ns * nsUnit - t.value + inc - 1) / inc

def ppsPin (p : Nat) : String :=
  match p with
  | 0 => "PPS_OUT0" | 1 => "PPS_OUT1" | 2 => "PPS_OUT2" | _ => "PPS_OUT3"

/-- No lower-numbered enabled unit names the same pin (R671). -/
def ownsPps (d : Device) (u : Nat) : Bool :=
  let c := reg d (trgOff u)
  bit c 27 && !(List.range u).any (fun v =>
    let e := reg d (trgOff v)
    bit e 31 && bit e 27 && bits e 26 25 == bits c 26 25)

/-- WIDTH as ticks, rounded up. -/
def pulse (d : Device) (u : Nat) : Device :=
  if ownsPps d u then
    let c := reg d (trgOff u)
    let d := send d (.pin (ppsPin (bits c 26 25)) (!bit c 24))
    setTrg d u { trg d u with pulseEnd := some (d.clock + (trgWidth d u + 1) / 2) }
  else d

/-- TMP_MAG_CFG. -/
def magCfg (d : Device) : W32 := reg d 0x2100C0

/-- A conversion start, unless it comes less than 80 µs after the previous one (R673). -/
def startMag (d : Device) (u : Nat) : Device :=
  let c := magCfg d
  if bit c 11 && bits c 10 8 == u && (d.tmp.magAt = 0 || d.clock + 1 ≥ d.tmp.magAt + 80 * usTicks) then
    { d with tmp := { d.tmp with magAt := d.clock + 1, magStarted := true } }
  else d

/-- At most one MARKER per millisecond, with the fires since the last (R674). -/
def marker (d : Device) (u : Nat) : Device :=
  let t := { trg d u with markCount := (trg d u).markCount + 1 }
  if bit (reg d (trgOff u)) 28 && (t.marked = 0 || d.clock + 1 ≥ t.marked + msTicks) then
    emit (setTrg d u { t with markCount := 0, marked := d.clock + 1 }) .time 0x03
      (leBytes 1 u ++ leBytes 4 t.markCount ++ timeBytes (tbase d (trgBase d u)).value ++ leBytes 8 d.clock)
  else setTrg d u t

/-- A unit fires: N advances past the base's value, and each fire time it was carried past is counted (R667-R669). -/
def fireNow (d : Device) (u : Nat) : Device :=
  let t := trg d u
  let p := trgPeriod d u
  let missed := ((tbase d (trgBase d u)).value - t.next * nsUnit) / (p * nsUnit)
  let fired := min (2 ^ 31 - 1) (t.fired + 1)
  let n := field d (trgOff u) 15 0
  let d := setTrg d u { t with next := t.next + (missed + 1) * p, fired := fired, running := n = 0 || fired < n }
  let d := if missed = 0 then d else count d (unitCtr 11 u) missed
  marker (startMag (pulse d u) u) u

/-- The fire of a running unit; time passes until its base reaches N. -/
def fire (d : Device) (u : Nat) : Device :=
  if (trg d u).running && trgEnabled d u && d.time.running then
    let t := tbase d (trgBase d u)
    let d := if t.value < (trg d u).next * nsUnit then elapse d (ticksTo t (trg d u).next) else d
    fireNow d u
  else d

/-- TRIGGER_FIRE (R667-R674). -/
def execTriggerFire (u : Fin 8) (s : State) : Host.Outcome State Fault Refusal := s.withDev (fire s.dev u)

def endPulse (d : Device) (u : Nat) : Device :=
  match (trg d u).pulseEnd with
  | some t =>
    let d := elapseTo d t
    let c := reg d (trgOff u)
    let running := (trg d u).running && bit c 31
    send (setTrg d u { trg d u with pulseEnd := none, running := running }) (.pin (ppsPin (bits c 26 25)) (bit c 24))
  | none => d

/-- PPS_PULSE_END (R669, R672). -/
def execPpsPulseEnd (u : Fin 8) (s : State) : Host.Outcome State Fault Refusal := s.withDev (endPulse s.dev u)

/-! ## Capture inputs (R675) -/

def capOff (i : Nat) : Nat := 0x220900 + 0x10 * i

/-- 250 ps in the units of a base's value. -/
def quarterNs : Nat := 2 ^ 62

def capture (d : Device) (i : Nat) (falling : Bool) : Device :=
  let c := reg d (capOff i)
  let last := (Tbl.getD d.time.cap i {}).at_
  if !bit c 31 || bit c 28 != falling then d
  else if last ≠ 0 ∧ d.clock + 1 < last + usTicks then count d (unitCtr 12 i)
  else
    let b := bits c 30 29
    let v := (tbase d b).value / quarterNs * quarterNs
    let d := { d with time := { d.time with cap := Tbl.put d.time.cap i { value := v, at_ := d.clock + 1 } } }
    let d := setBits d (capOff i) (mask 26 26) (mask 26 26)
    if bit c 27 then emit d .time 0x04 (leBytes 1 i ++ leBytes 1 b ++ timeBytes v) else d

/-- TS_CAP_EDGE (R675). -/
def execTsCapEdge (i : Fin 4) (falling : Bool) (s : State) : Host.Outcome State Fault Refusal :=
  s.withDev (capture s.dev i falling)

end Sys2Proof.Machine
end

