-- ==== Sys2Proof/Machine/Ports.lean ====
section
/-!
DEFINITION. The profile's ports: types, counted rates, roles, partners and personalities (R18, R33, R55, Table 1-6).
-/
namespace Sys2Proof.Machine

/-- Counted rate in Mbit/s (Table 1-6). -/
def typeRate : Nat → Nat
  | 0x01 => 1000 | 0x02 => 10000 | 0x03 => 25000 | 0x04 => 40000 | 0x05 => 50000 | 0x06 => 100000 | 0x07 => 100000
  | 0x08 => 200000 | 0x09 => 400000 | 0x10 => 156 | 0x11 => 622 | 0x12 => 2488 | 0x13 => 9953 | 0x20 => 10709
  | 0x21 => 11096 | 0x22 => 111810 | _ => 0

/-- Lanes of a type; 0 for a reserved type. -/
def typeLanes : Nat → Nat
  | 0x01 => 1 | 0x02 => 1 | 0x03 => 1 | 0x04 => 4 | 0x05 => 1 | 0x06 => 4 | 0x07 => 2 | 0x08 => 4 | 0x09 => 8
  | 0x10 => 1 | 0x11 => 1 | 0x12 => 1 | 0x13 => 1 | 0x20 => 1 | 0x21 => 1 | 0x22 => 4 | _ => 0

/-- LANE_CFG.RATE of a type (Table 18-1). -/
def typeLaneRate : Nat → Nat
  | 0x01 => 0x01 | 0x02 => 0x06 | 0x03 => 0x09 | 0x04 => 0x06 | 0x05 => 0x0B | 0x06 => 0x09 | 0x07 => 0x0B
  | 0x08 => 0x0B | 0x09 => 0x0B | 0x10 => 0x03 | 0x11 => 0x04 | 0x12 => 0x02 | 0x13 => 0x05 | 0x20 => 0x07
  | 0x21 => 0x08 | 0x22 => 0x0A | _ => 0

def ethType (t : Nat) : Bool := 1 ≤ t && t ≤ 9
def sdhType (t : Nat) : Bool := 0x10 ≤ t && t ≤ 0x13
def otnType (t : Nat) : Bool := 0x20 ≤ t && t ≤ 0x22

/-- RS-FEC runs on the port (Table 18-2). -/
def hasFec (c : PortCfg) : Bool :=
  (c.type == 3 && c.flags % 2 == 1) || (5 ≤ c.type && c.type ≤ 9)

def portRate (d : Device) (p : Nat) : Nat :=
  match portCfg d p with
  | some c => typeRate c.type
  | none => 0

def isLine (d : Device) (p : Nat) : Bool :=
  match portCfg d p with
  | some c => c.line
  | none => false

def isClient (d : Device) (p : Nat) : Bool :=
  match portCfg d p with
  | some c => !c.line
  | none => false

def isEth (d : Device) (p : Nat) : Bool :=
  match portCfg d p with
  | some c => ethType c.type
  | none => false

def partner (d : Device) (p : Nat) : Option Nat :=
  match portCfg d p with
  | some c => if c.partner < 128 then some c.partner else none
  | none => none

/-- Personality of a port's lane group; 0 for a port that the map does not hold (R19). -/
def personality (d : Device) (p : Nat) : Nat :=
  match portCfg d p with
  | some c => groupMode d (c.firstLane / 16)
  | none => 0

def isLink (d : Device) (p : Nat) : Bool := personality d p == 1
def isAggregate (d : Device) (p : Nat) : Bool := personality d p == 2

/-- Modes 1-5. -/
def trafficMode (d : Device) : Bool := 1 ≤ d.glb.mode.code && d.glb.mode.code ≤ 5

def linkUp (d : Device) (p : Nat) : Bool := (Tbl.getD d.lane.ports p {}).up

/-! ## Lanes (R730-R734, R747) -/

/-- A lane by its number: general lanes 0-127, duet-link lane d at 128 + d. -/
def laneOf (d : Device) (n : Nat) : Lane := Tbl.getD d.lane.lanes n {}
def setLane (d : Device) (n : Nat) (x : Lane) : Device :=
  { d with lane := { d.lane with lanes := Tbl.setD d.lane.lanes n {} x } }
def portLanes (d : Device) (p : Nat) : List Nat :=
  match portCfg d p with
  | some c => upFrom c.firstLane c.lanes
  | none => []
/-- The port that owns a general lane. -/
def laneOwner (d : Device) (n : Nat) : Option Nat :=
  Tbl.findKey? d.boot.profile.ports (fun _ c => c.firstLane ≤ n && n < c.firstLane + c.lanes)
/-- The device's profile uses the lane. -/
def laneUsed (d : Device) (n : Nat) : Bool :=
  if n < 128 then (laneOwner d n).isSome else decide (n < 133) && (d.boot.profile.style == 1 || d.boot.profile.style == 2)
/-- LANE_CFG.RATE. -/
def laneRate (d : Device) (n : Nat) : Nat :=
  if n < 128 then (match (laneOwner d n).bind (portCfg d) with | some c => typeLaneRate c.type | none => 0)
  else if laneUsed d n then 0x09 else 0

/-- Offset of a lane's registers. -/
def laneBase (n : Nat) : Nat := if n < 128 then 0x40000 + 0x400 * n else 0x60000 + 0x400 * (n - 128)

/-- MEDIUM is 1 and the port's type takes it (R732). -/
def backplane (d : Device) (n : Nat) : Bool :=
  field d (laneBase n) 29 28 == 1
    && (match (laneOwner d n).bind (portCfg d) with | some c => ethType c.type && c.type != 9 | none => false)
/-- The lane runs link training: a backplane lane of another type than 1000BASE-X. -/
def trains (d : Device) (n : Nat) : Bool :=
  backplane d n && (match (laneOwner d n).bind (portCfg d) with | some c => c.type != 1 | none => false)

def rclkOff (i : Nat) : Nat := 0x70000 + 4 * i
def rclkOn (d : Device) (i : Nat) : Bool := bit (reg d (rclkOff i)) 31
/-- The source lane of RCLK_OUT `i`. -/
def rclkLane (d : Device) (i : Nat) : Nat :=
  field d (rclkOff i) 22 16 + (if bit (reg d (rclkOff i)) 29 then 128 else 0)
def setSquelch (d : Device) (i : Nat) (v : Bool) : Device :=
  { d with lane := { d.lane with squelched := Tbl.setD d.lane.squelched i false v } }

/-- A lane gains or loses its signal and CDR lock. Lock with ADAPT = 1 adapts the peaking; loss holds the outputs low that
the lane drives. -/
def setCdr (d : Device) (n : Nat) (on : Bool) : Device :=
  let x := laneOf d n
  if x.cdr = on ∧ x.signal = on then d
  else if on then
    let c := reg d (laneBase n + 8)
    let peak := if bit c 31 then Config.adaptedPeak n d.clock % 16 else bits c 3 0
    setLane d n { x with signal := true, cdr := true, cdrAt := d.clock, peakUsed := peak }
  else
    let d := setLane d n { x with signal := false, cdr := false, block := false, trained := false, ltOwned := false }
    [0, 1].foldl (fun d i => if rclkOn d i ∧ rclkLane d i = n then setSquelch d i true else d) d

/-- The PLL of a port's lane group is locked. -/
def pllLocked (d : Device) (p : Nat) : Bool :=
  match portCfg d p with
  | some c => d.glb.groupPll.getLsbD (c.firstLane / 16)
  | none => false

/-- The root PLL and the PLL of every lane group that the profile uses are locked (R39). -/
def locksHeld (d : Device) : Bool :=
  d.glb.rootLock && !Tbl.any d.boot.profile.ports (fun p _ => !pllLocked d p)
def wakePath (d : Device) : Device := if locksHeld d && !d.mem.trainFailed then { d with glb := { d.glb with awake := true } } else d

/-- GLB_STATE.DP_READY (R525, R618, R695, R700, R760). -/
def dpReady (d : Device) : Bool :=
  match d.glb.bringUpEnds with
  | some t => decide (t ≤ d.clock) && d.glb.mode != .locked && d.boot.restart.isNone && !d.tmp.halted && !d.mem.trainFailed
      && !d.pwr.holding
  | none => false

/-- The data path runs: the locks of R39 have been held, and neither HALT, HOLD nor a warm restart has stopped it
(R22, R618, R760), and DDR4 has been trained (R525). -/
def pathRuns (d : Device) : Bool := d.glb.awake && !d.tmp.halted && !d.pwr.holding && d.boot.restart.isNone && !d.mem.trainFailed

/-- The ports' lanes are powered and their logic runs. A data path that stays idle for want of DDR4 brings up none (R525). -/
def portsRun (d : Device) : Bool :=
  d.glb.bringUpEnds.isSome && !d.mem.trainFailed && d.glb.mode != .provision && d.glb.mode != .locked && !d.pwr.holding && d.glb.rootLock

def pressCount (d : Device) : Nat := d.glb.part.presses
def press (d : Device) (n : Nat) : Press := Tbl.getD d.prs.presses n {}
def setPress (d : Device) (n : Nat) (x : Press) : Device :=
  { d with prs := { d.prs with presses := Tbl.setD d.prs.presses n {} x } }
/-- Press `n` is in service. -/
def pressIn (d : Device) (n : Nat) : Bool := n < pressCount d && !(press d n).out
def pressesIn (d : Device) : Nat := ((List.range 24).filter (pressIn d)).length

end Sys2Proof.Machine
end

