-- ==== Sys2Proof/Machine/DuetBase.lean ====
section
/-!
DEFINITION. What the data path and the tamper response need of the Duet (13): muting and FAILOVER_OUT_N, declaring a fault,
reservation marks, and the output digests.
-/
namespace Sys2Proof.Machine

def style (d : Device) : Nat := d.boot.profile.style

/-- The profile's Duet style is SHADOW or WARM: the duet link comes up, whatever the mode (R739). -/
def usesDuetLink (p : Profile) : Bool := p.style == 1 || p.style == 2

def shadow (d : Device) : Bool := style d == 1

/-- DIE_ID and role aside, a member is muted while it is neither ACTIVE nor transmitting as SOLO, that is while its pin is
released (R557, R558); HALT mutes every port (R618). -/
def muted (d : Device) : Bool :=
  d.tmp.halted || (usesDuetLink d.boot.profile && trafficMode d && !d.duet.pinOut)

/-- Drive FAILOVER_OUT_N: asserted is low. -/
def setPin (d : Device) (on : Bool) : Device :=
  if d.duet.pinOut = on then d
  else send { d with duet := { d.duet with pinOut := on, assertedAt := if on then d.clock else d.duet.assertedAt } }
    (.pin "FAILOVER_OUT_N" (!on))

/-- FAILOVER_OUT_N after a change of what the device may transmit: a device of style NONE asserts it in modes 1-5 while
nothing stops its traffic (R558). A member of another style asserts only through R561 and R591. -/
def settlePin (d : Device) : Device :=
  if style d = 0 then
    setPin d (trafficMode d && d.boot.ended && !d.tmp.halted && !d.pwr.holding && !d.tmp.pwrfail && d.tmp.mainPower)
  else if trafficMode d && !d.pwr.holding then d
  else setPin d false

def setRole (d : Device) (r : Role) : Device := { d with duet := { d.duet with role := r } }

/-- STEPPED_DOWN, role SYNCING and a released pin (R593). -/
def stepDown (d : Device) (cause : Nat) : Device :=
  emit (setRole (setPin d false) .syncing) .duet 0x04 (leBytes 1 cause ++ leBytes 4 d.duet.epoch.toNat)

/-- An ACTIVE member declares a fault: FAULT is sent, the pin is released and it enters SYNCING (R589). -/
def declareFault (d : Device) (cause : Nat) : Device :=
  if d.duet.role = .active then setRole (setPin (sendDuet d 0x11 false (leBytes 1 cause)) false) .syncing
  else setPin d false

/-! ## Reservation marks (R255-R259, R579-R581) -/

/-- B of DUET_CFG. -/
def markBlock (d : Device) : Nat :=
  let k := field d 0x200000 20 16
  if 16 ≤ k ∧ k ≤ 24 then 2 ^ k else 2 ^ 20

/-- Marks are granted without waiting (R581): a SYNCING or lost peer. -/
def selfGrants (d : Device) : Bool := d.duet.selfGrant || d.duet.peerRole == .syncing

def markKeyBytes (key m : Nat) : Bytes := leBytes 4 key ++ leBytes 8 m

/-- Send a MARK for an SA (or, at 2^18 and above, an association); where the member grants marks itself it holds at
once. -/
def requestMark (d : Device) (isKn : Bool) (key m : Nat) : Device :=
  let seq := d.duet.txSeq
  let wire := if isKn then 2 ^ 18 + key else key
  let d := count (sendDuet d 0x30 true (markKeyBytes wire m)) (devCtr 49)
  let get := fun (t : Tbl Mark) => Tbl.getD t key { mark := 0, pend := none }
  let upd := fun (t : Tbl Mark) =>
    Tbl.put t key (if selfGrants d then { mark := m, pend := none } else { get t with pend := some (m, seq) })
  if isKn then { d with duet := { d.duet with knMarks := upd d.duet.knMarks } }
  else { d with duet := { d.duet with marks := upd d.duet.marks } }

def saMark (d : Device) (sa : Nat) : Mark := Tbl.getD d.duet.marks sa { mark := 0, pend := none }

/-- A transmit SA whose next PN is `next` may assign it: the member is not ACTIVE, or the mark lies above it. -/
def underMark (d : Device) (sa next : Nat) : Bool := d.duet.role != .active || next < (saMark d sa).mark

/-- Request the next mark at half a block of headroom (R579). -/
def topMark (d : Device) (sa next maxPn : Nat) : Device :=
  if d.duet.role = .active ∧ (saMark d sa).pend.isNone ∧ (saMark d sa).mark ≤ next + markBlock d / 2
      ∧ (saMark d sa).mark < min (next + markBlock d) (maxPn + 1) then
    requestMark d false sa (min (next + markBlock d) (maxPn + 1))
  else d

/-! ## Output digests (R582-R587) -/

def digestOf (d : Device) (key : Nat) : Digest := Tbl.getD d.duet.digests key {}
def setDigest (d : Device) (key : Nat) (x : Digest) : Device :=
  { d with duet := { d.duet with digests := Tbl.setD d.duet.digests key {} x } }

/-- The reference of a frame: crc64 of its first 64 bytes and its 16-bit length (R584). -/
def frameRef (data : Bytes) : W64 := crc64 (slice data 0 64 ++ beBytes 2 (data.length + 4))

/-- A disagreement begins: comparison stops until both proof runs have their outcome (R586). -/
def beginDisagree (d : Device) : Device :=
  if d.duet.disagree.isSome then d
  else { d with duet := { d.duet with disagree := some { started := d.clock, own := none, peer := none } } }

def digestMismatch (d : Device) (kind index window : Nat) : Device :=
  beginDisagree (emit (count d (devCtr 53)) .duet 0x07 (leBytes 1 kind ++ leBytes 2 index ++ leBytes 8 window))

/-- Runs of at most `n` elements, `f` bounding their number. -/
def chunks {α : Type} (n : Nat) : Nat → List α → List (List α)
  | 0, _ => []
  | f + 1, l => if l.isEmpty then [] else l.take n :: chunks n f (l.drop n)

/-- An SA of a transmit SC. -/
def isTxSa (d : Device) (i : Nat) : Bool :=
  match Tbl.get? d.ms.scs (i / 4) with | some c => !c.rx | none => false

/-- PN_RESYNC for the transmit SAs among these, from the last frame of each in the histories (R585, R587), at most 128 triples a
message. -/
def sendResync (d : Device) (sas : List Nat) : Device :=
  let seen := d.duet.history.flatMap Prod.snd
  let triples := (sas.filter (isTxSa d)).filterMap (fun sa => (seen.filter (fun x => x.sa == sa)).getLast?)
  (chunks 128 triples.length triples).foldl (fun d l =>
    sendDuet d 0x32 false (l.flatMap (fun x => leBytes 4 x.sa ++ leBytes 8 x.pn ++ leBytes 8 x.ref.toNat))) d

/-- Compare two closed windows (R585). -/
def compareWindow (d : Device) (own peer : Closed) : Device :=
  if d.duet.disagree.isSome then d
  else if own.void || peer.void then
    let d := count d (devCtr 52)
    if d.duet.role = .active then
      let d := sendResync d own.sas
      if own.kind = 0 then
        { d with duet := { d.duet with anchorNext := own.index :: d.duet.anchorNext.filter (· != own.index) } }
      else d
    else d
  else
    let d := count d (devCtr 51)
    if own.sum = peer.sum then d
    else
      let d := sendDuet d 0x52 false (leBytes 1 own.kind ++ leBytes 2 own.index ++ leBytes 8 own.window)
      digestMismatch d own.kind own.index own.window

def sameWindow (a b : Closed) : Bool := a.kind == b.kind && a.index == b.index && a.window == b.window

/-- The ACTIVE member takes a port whose earlier windows have closed here without a DIGEST of the peer's as unanchored there, and sends
it a new ANCHOR (R584; DESIGN CHOICE, log 76: no message says that a port is unanchored). -/
def unanchored (d : Device) (c : Closed) : Bool :=
  d.duet.role == .active && c.kind == 0
    && d.duet.ownClosed.any (fun x => x.kind == 0 && x.index == c.index && decide (x.window < c.window))

/-- A window has closed here: send its DIGEST and compare it if the peer's is here (R585). -/
def closeWindow (d : Device) (c : Closed) : Device :=
  let d := sendDuet d 0x50 false
    (leBytes 1 c.kind ++ leBytes 2 c.index ++ leBytes 8 c.window ++ leBytes 8 c.sum.toNat ++ [if c.void then 1#8 else 0#8])
  match d.duet.peerClosed.find? (sameWindow c) with
  | some q =>
    compareWindow { d with duet := { d.duet with peerClosed := d.duet.peerClosed.filter (fun x => !sameWindow c x) } } c q
  | none =>
    if unanchored d c then
      { d with duet := { d.duet with ownClosed := d.duet.ownClosed.filter (fun x => x.kind != 0 || x.index != c.index)
                                     anchorNext := c.index :: d.duet.anchorNext.filter (· != c.index) } }
    else { d with duet := { d.duet with ownClosed := d.duet.ownClosed ++ [c] } }

/-- The window a frame that passes stage 2 on port `p` joins; with it the frame enters the history (R582, R584). -/
def joinWindow (d : Device) (p no : Nat) (data : Bytes) : Device × Option Nat :=
  if !shadow d then (d, none)
  else
    let ref := frameRef data
    let old := (Tbl.getD d.duet.history p []).filter (fun x => d.clock ≤ x.at_ + 8000)
    let h := old ++ [{ ref := ref, sa := 2 ^ 18, pn := 0, at_ := d.clock, no := no, val := none }]
    let d := { d with duet := { d.duet with history := Tbl.put d.duet.history p h } }
    let d :=
      if d.duet.anchorNext.contains p ∧ d.duet.role = .active then
        let g := digestOf d p
        let d := { d with duet := { d.duet with anchorNext := d.duet.anchorNext.filter (· != p) } }
        let d := setDigest d p { anchored := true, window := g.window + 1, arrived := 0, opened := [] }
        sendDuet d 0x51 false (leBytes 1 p ++ leBytes 8 ref.toNat ++ leBytes 8 (g.window + 1))
      else d
    let g := digestOf d p
    if g.anchored then
      let n := g.arrived + 1
      (setDigest d p (if n = 4096 then { g with window := g.window + 1, arrived := 0 } else { g with arrived := n }),
        some g.window)
    else (d, none)

/-- A frame's tuple adds to its window; a local-cause drop voids it (R582, R583). -/
def addTuple (d : Device) (p no : Nat) (win : Option Nat) (tuple : Bytes) (sa : Option Nat) (pn : Nat)
    (localDrop : Bool) : Device :=
  if !shadow d then d
  else
    let v := crc64 (fit 28 tuple)
    let h := (Tbl.getD d.duet.history p []).map (fun x =>
      if x.no = no then { x with val := some v, sa := sa.getD (2 ^ 18), pn := pn } else x)
    let d := { d with duet := { d.duet with history := Tbl.put d.duet.history p h } }
    match win with
    | none => d
    | some w =>
      let g := digestOf d p
      let x := Tbl.getD g.opened w {}
      let x : Window := { sum := x.sum + v, valued := x.valued + 1, void := x.void || localDrop
                          sas := match sa with
                            | some s => if x.sas.contains s then x.sas else x.sas ++ [s]
                            | none => x.sas }
      if x.valued = 4096 then
        closeWindow (setDigest d p { g with opened := Tbl.del g.opened w })
          { kind := 0, index := p, window := w, sum := x.sum, void := x.void, sas := x.sas }
      else setDigest d p { g with opened := Tbl.put g.opened w x }

/-- The current window of a stream becomes void (R245, R314). -/
def voidCurrent (d : Device) (key : Nat) : Device :=
  let g := digestOf d key
  if g.anchored then
    setDigest d key { g with opened := Tbl.put g.opened g.window { Tbl.getD g.opened g.window {} with void := true } }
  else d

/-- Mark window `w` void, whether it has been opened or not. -/
def voidNumber (d : Device) (key w : Nat) : Device :=
  let g := digestOf d key
  if g.anchored then setDigest d key { g with opened := Tbl.put g.opened w { Tbl.getD g.opened w {} with void := true } } else d

/-- A superframe's tuple: windows of 2,048 superframe numbers (R582). -/
def addKnTuple (d : Device) (a sfn : Nat) (tuple : Bytes) : Device :=
  if !shadow d then d
  else
    let g := digestOf d (128 + a)
    if !g.anchored then d
    else
      let w := sfn / 2048
      let x := Tbl.getD g.opened w {}
      let x := { x with sum := x.sum + crc64 (fit 28 tuple), valued := x.valued + 1 }
      if sfn % 2048 = 2047 then
        closeWindow (setDigest d (128 + a) { g with window := w + 1, opened := Tbl.del g.opened w })
          { kind := 1, index := a, window := w, sum := x.sum, void := x.void, sas := [] }
      else setDigest d (128 + a) { g with opened := Tbl.put g.opened w x }

/-! ## Presses out of service (R133, R589) -/

/-- Fewer than 20 presses here while the standby has 20: the active declares a fault. -/
def pressFloor (d : Device) : Device :=
  if d.duet.role = .active ∧ pressesIn d < 20 ∧ 20 ≤ bits d.duet.peerHealth 28 24 then declareFault d 2 else d

end Sys2Proof.Machine
end

