-- ==== Sys2Proof/Machine/MemLines.lean ====
section
/-!
DEFINITION. The lines of protected memory (12): their layout, counters, cipher and tags, and the caches of counter lines, tree
nodes and tag lines.
-/
namespace Sys2Proof.Machine

/-! ## Layout (R522, R530) -/

/-- GiB of data region, tree levels above the counter lines, and roots used (Table 12-1). -/
def dataGib (d : Device) : Nat := if d.mem.density = 1 then 12 else if d.mem.density = 2 then 24 else 48
def topLevel (d : Device) : Nat := if d.mem.density = 1 then 6 else 7
def rootsUsed (d : Device) : Nat := if d.mem.density = 1 then 12 else if d.mem.density = 2 then 3 else 6

/-- Data lines, and where the regions behind them start, as line numbers (Table 12-2). -/
def dataLines (d : Device) : Nat := dataGib d * 2 ^ 24
def lineTags (d : Device) : Nat := dataLines d
def groupTags (d : Device) : Nat := dataLines d / 8 * 9
def groupLines (d : Device) : Nat := dataLines d / 8 * 9 + dataLines d / 512
def treeLines (d : Device) : Nat := dataLines d / 8 * 9 + dataLines d / 512 * 9

def ctxLine (sa k : Nat) : Nat := 2 * sa + k
def recLine (r : Nat) : Nat := 0x80000 + r
def statLine (sa k : Nat) : Nat := 0xC0000 + 2 * sa + k
def firmwareLine : Nat := 0x140000

/-- The channel of a line (R527). -/
def channelOf (line : Nat) : Nat := line / 64 % 4

/-! ## Counters (R535) -/

def group (d : Device) (g : Nat) : Group := Tbl.getD d.mem.groups g {}
def setGroup (d : Device) (g : Nat) (x : Group) : Device :=
  { d with mem := { d.mem with groups := Tbl.setD d.mem.groups g {} x } }

/-- A line has been written since power-up (R533). -/
def lineWritten (d : Device) (line : Nat) : Bool :=
  let x := group d (line / 64)
  x.major != 0 || Tbl.getD x.minors (line % 64) 0 != 0

/-! ## Cipher and tags (R532) -/

/-- The counter block, most significant bit first: j (2 bits), domain (2), line (36), major (56), 0 (25), minor (7). -/
def memBlock (dom a major minor j : Nat) : Bytes :=
  beBytes 16 (j % 4 * 2 ^ 126 + dom % 4 * 2 ^ 124 + a % 2 ^ 36 * 2 ^ 88 + major % 2 ^ 56 * 2 ^ 32 + minor % 2 ^ 7)

def memAes (d : Device) (block : Bytes) : Bytes := fit 16 (Config.aesBlock (d.mem.memKey.getD []) block)

/-- A data line exclusive-or its keystream: enciphers and deciphers. -/
def lineCrypt (d : Device) (a major minor : Nat) (data : Bytes) : Bytes :=
  (List.range 4).flatMap (fun j => xorBytes (slice data (16 * j) 16) (memAes d (memBlock 0 a major minor j)))

/-- The leftmost 64 bits of GHASH over content and line number, exclusive-or the block of the domain: 1 for a data line under its
counter, 2 for a counter line or node under its parent's version of it. -/
def lineTag (d : Device) (dom a major minor : Nat) (content : Bytes) : Bytes :=
  (xorBytes (fit 16 (Config.ghash (memAes d (zeros 16)) (wholeBlocks content ++ beBytes 16 a)))
    (memAes d (memBlock dom a major minor 0))).take 8

/-- What the device holds at a data line: an SA's context in two lines, a key record with its check, half a statistics record.
The places of a context's and a record's fields are the model's (log 61). Other lines are firmware's, zero here. -/
def plainLine (d : Device) (line : Nat) : Bytes :=
  if line < 0x80000 then
    match Tbl.get? d.ms.sas (line / 2) with
    | some x =>
      fit 64 (if line % 2 = 0 then leBytes 1 x.suite ++ beBytes 4 x.ssci.toNat ++ fit 12 x.salt
        else leBytes 9 x.pn ++ leBytes 8 x.lowest)
    | none => zeros 64
  else if line < 0xC0000 then
    let r := keyRec d (line - 0x80000)
    fit 64 (leBytes 1 r.type ++ leBytes 1 r.key.length ++ r.key ++ beBytes 2 0x80 ++ beBytes 4 r.gen.toNat
      ++ beBytes 4 r.check.toNat)
  else if line < firmwareLine then
    let k := 8 * (line - 0xC0000)
    (List.range 8).flatMap (fun i => leBytes 8 (Tbl.getD d.ms.stats (k + i) 0#64).toNat)
  else zeros 64

/-- Counter of a line: major and minor. -/
def lineCounter (d : Device) (line : Nat) : Nat × Nat :=
  ((group d (line / 64)).major, Tbl.getD (group d (line / 64)).minors (line % 64) 0)

/-- What DDR4 holds at a line: where nothing is listed, zeros enciphered under the line's counter in a data line that has been
written, and in a counter line or node what R539 writes there, each with its tag. -/
def storedLine (d : Device) (line : Nat) : Stored :=
  match Tbl.get? d.mem.dram line with
  | some x => x
  | none =>
    let x := zeros (if line < treeLines d then 64 else 56)
    if line < lineTags d then
      let c := lineCounter d line
      let data := lineCrypt d line c.1 c.2 x
      { data := data, tag := lineTag d 1 line c.1 c.2 data }
    else { data := x, tag := lineTag d 2 line 0 0 x }

/-- The plaintext of a data line as DDR4 holds it; zeros where nothing has been written (R533). -/
def openLine (d : Device) (line : Nat) : Bytes :=
  if lineWritten d line then lineCrypt d line (lineCounter d line).1 (lineCounter d line).2 (storedLine d line).data
  else zeros 64

/-- Store a data line under its counter. -/
def sealLine (d : Device) (line : Nat) (plain : Bytes) : Device :=
  let c := lineCounter d line
  let data := lineCrypt d line c.1 c.2 plain
  { d with mem := { d.mem with dram := Tbl.put d.mem.dram line { data := data, tag := lineTag d 1 line c.1 c.2 data } } }

/-! ## Counter lines and tree nodes (R534, R535, R538, R539) -/

def ctrKey (level node : Nat) : Nat := 2 ^ 24 * level + node

/-- Line number of a counter line (level 0) or tree node. -/
def nodeLine (d : Device) (level node : Nat) : Nat :=
  if level = 0 then groupLines d + node
  else treeLines d + ((List.range (level - 1)).map (fun l => dataLines d / 512 / 8 ^ l)).sum + node

/-- The version of a counter line or node that its parent, or for the top level a root register, holds. -/
def versionOf (d : Device) (level node : Nat) : Nat :=
  if level = topLevel d then Tbl.getD d.mem.roots node 0 else Tbl.getD d.mem.versions (ctrKey level node) 0

def bumpVersion (d : Device) (level node : Nat) : Device :=
  let v := versionOf d level node + 1
  { d with mem := if level = topLevel d then { d.mem with roots := Tbl.put d.mem.roots node v }
      else { d.mem with versions := Tbl.put d.mem.versions (ctrKey level node) v } }

/-- A counter line: major in bits [511:456], minor m in bits [14 + 7m:8 + 7m], 0 in bits [7:0]; a node: the versions of its eight
children. -/
def nodeContent (d : Device) (level node : Nat) : Bytes :=
  if level = 0 then
    let x := group d node
    beBytes 64 (x.major * 2 ^ 456 + ((List.range 64).map (fun m => Tbl.getD x.minors m 0 * 2 ^ (8 + 7 * m))).sum)
  else (List.range 8).flatMap (fun i => beBytes 7 (versionOf d (level - 1) (8 * node + i)))

/-- Store a counter line or node, in the clear, with its tag under its version. -/
def storeNode (d : Device) (level node : Nat) : Device :=
  let a := nodeLine d level node
  let x := nodeContent d level node
  let tag := lineTag d 2 a (versionOf d level node) 0 x
  { d with mem := { d.mem with dram := Tbl.put d.mem.dram a { data := x, tag := tag } } }

/-- Lines that a cache of counter lines and nodes, and of tag lines, holds: 2 MiB and 1 MiB. -/
def ctrLines : Nat := 32768
def tagLines : Nat := 16384

/-- The line that holds the tag of a data line, or of counter line `g`. -/
def tagLine (d : Device) (line : Nat) : Nat := lineTags d + line / 8
def groupTagLine (d : Device) (g : Nat) : Nat := groupTags d + g / 8

/-- The line that leaves a full cache, not among the `new` brought in last: the spec names no replacement (log 61). -/
def leaving (d : Device) (l : List Nat) (new : Nat) : Nat :=
  let n := l.length - new
  (l[Config.cacheVictim d.mem.evictions n % n]?).getD 0

/-- A tag line is used: read where it is not on die; a changed one that leaves is written. -/
def touchTag (d : Device) (line : Nat) (write : Bool) : Device :=
  let d := if write && !d.mem.tagDirty.contains line then { d with mem := { d.mem with tagDirty := d.mem.tagDirty ++ [line] } }
    else d
  if d.mem.tagCache.contains line then d
  else
    let d := count { d with mem := { d.mem with tagCache := d.mem.tagCache ++ [line] } } (unitCtr 3 (channelOf line))
    if d.mem.tagCache.length ≤ tagLines then d
    else
      let v := leaving d d.mem.tagCache 1
      let changed := d.mem.tagDirty.contains v
      let d := { d with mem := { d.mem with
        tagCache := d.mem.tagCache.filter (· != v), tagDirty := d.mem.tagDirty.filter (· != v)
        evictions := d.mem.evictions + 1 } }
      if changed then count d (unitCtr 4 (channelOf v)) else d

/-- A counter line or node on die has changed. -/
def markDirty (d : Device) (level node : Nat) : Device :=
  if d.mem.ctrDirty.contains (ctrKey level node) then d
  else { d with mem := { d.mem with ctrDirty := d.mem.ctrDirty ++ [ctrKey level node] } }

/-- Read one counter line or node into the cache. -/
def insertNode (d : Device) (level node : Nat) : Device :=
  if d.mem.ctrCache.contains (ctrKey level node) then d
  else
    let d := count (count d (devCtr 38)) (unitCtr 3 (channelOf (nodeLine d level node)))
    let d := { d with mem := { d.mem with ctrCache := d.mem.ctrCache ++ [ctrKey level node] } }
    if level = 0 then touchTag d (groupTagLine d node) false else d

/-- Write a changed counter line or node back: its version in its parent, or its root register, increments, and with it the
parent has changed. -/
def writeNodeBack (d : Device) (level node : Nat) : Device :=
  let d := storeNode (bumpVersion d level node) level node
  let d := count d (unitCtr 4 (channelOf (nodeLine d level node)))
  let d := if level = 0 then touchTag d (groupTagLine d node) true else d
  if level = topLevel d then d else markDirty (insertNode d (level + 1) (node / 8)) (level + 1) (node / 8)

/-- Lines leave the cache until it holds no more than its size; `fuel` bounds the write-backs. -/
def fitNodes : Nat → Device → Device
  | 0, d => d
  | fuel + 1, d =>
    let l := d.mem.ctrCache
    if l.length ≤ ctrLines then d
    else
      let k := leaving d l 16
      let changed := d.mem.ctrDirty.contains k
      let d := { d with mem := { d.mem with
        ctrCache := l.filter (· != k), ctrDirty := d.mem.ctrDirty.filter (· != k), evictions := d.mem.evictions + 1 } }
      fitNodes fuel (if changed then writeNodeBack d (k / 2 ^ 24) (k % 2 ^ 24) else d)

/-- Bring a counter line or node on die, its parents first where they are not. -/
def loadNode : Nat → Device → Nat → Nat → Device
  | 0, d, _, _ => d
  | fuel + 1, d, level, node =>
    if d.mem.ctrCache.contains (ctrKey level node) then d
    else
      let d := if level = topLevel d then d else loadNode fuel d (level + 1) (node / 8)
      fitNodes (2 * ctrLines) (insertNode d level node)

/-- The level and index of a tree node that a line holds. -/
def nodeAt : Nat → Nat → Nat → Nat → Option (Nat × Nat)
  | 0, _, _, _ => none
  | f + 1, level, off, size => if off < size then some (level, off) else nodeAt f (level + 1) (off - size) (size / 8)

/-- The counter line (level 0) or tree node that a line holds. -/
def nodeOf (d : Device) (line : Nat) : Option (Nat × Nat) :=
  if line < groupLines d then none
  else if line < treeLines d then some (0, line - groupLines d)
  else nodeAt (topLevel d) 1 (line - treeLines d) (dataLines d / 512)

/-- Lines of channel `c` below line `n`. -/
def linesBelow (c n : Nat) : Nat := n / 256 * 64 + min 64 (n % 256 - 64 * c)

/-- Lines that a pass of the patrol reads in channel `c`: the data lines that have been written, and every line behind them. -/
def patrolled (d : Device) (c : Nat) : Nat :=
  let nodes := ((List.range (topLevel d)).map (fun l => dataLines d / 512 / 8 ^ l)).sum
  let data := (d.mem.groups.filter (fun e => e.1 % 4 == c)).map (fun e => if e.2.major != 0 then 64 else e.2.minors.length)
  data.sum + (linesBelow c (treeLines d + nodes) - linesBelow c (lineTags d))

/-! ## Checks (R533, R538, R545) -/

/-- What DDR4 holds for a line passes its check: a data line by its tag under its counter, none before its first write; a counter
line or node by its tag under its parent's version, and trusted while it is on die. -/
def lineChecks (d : Device) (line : Nat) (data tag : Bytes) : Bool :=
  if line < lineTags d then
    let c := lineCounter d line
    !lineWritten d line || lineTag d 1 line c.1 c.2 data == tag
  else
    match nodeOf d line with
    | some (l, n) => d.mem.ctrCache.contains (ctrKey l n) || lineTag d 2 line (versionOf d l n) 0 data == tag
    | none => true

end Sys2Proof.Machine
end

