-- ==== Sys2Proof/Machine/MemBase.lean ====
section
/-!
DEFINITION. Protected memory (12): reads, writes and re-encryption, poison and quarantine, and what taking an SA or an
association out of service does.
-/
namespace Sys2Proof.Machine

/-! ## Lines under nodes (R542) -/

/-- A node of a level covers a data line: level 0 is a counter line. -/
def nodeCovers (level node line : Nat) : Bool := line / (64 * 8 ^ level) == node
/-- The root above a data line. -/
def rootOf (d : Device) (line : Nat) : Nat := line / (64 * 8 ^ topLevel d)

/-- A data line lies under quarantine (R542, R543). -/
def quarantined (d : Device) (line : Nat) : Bool :=
  d.mem.quar.any (fun q => nodeCovers q.level q.node line) || d.mem.rootQuar.contains (rootOf d line)

def poisoned (d : Device) (line : Nat) : Bool := d.mem.poison.contains line

/-- A write of the line reaches DDR4: none does under quarantine or in a frozen group (R537, R542). -/
def writable (d : Device) (line : Nat) : Bool := !quarantined d line && !d.mem.frozen.contains (line / 64)

/-- A read of the line succeeds. -/
def lineGood (d : Device) (line : Nat) : Bool := !quarantined d line && !poisoned d line

/-! ## Out of service (R126, R346) -/

def assocRecords (a : Nat) : List Nat := upFrom (196608 + 4 * a) 4

/-- Take an SA out of service. -/
def saOut (d : Device) (sa : Nat) : Device :=
  { d with ms := { d.ms with sas := Tbl.modify d.ms.sas sa (fun x => { x with oos := true }) } }

/-- The SA's key record has failed its check (R456, R458): `by_` as in SLOT_BAD. -/
def recordBad (d : Device) (i by_ : Nat) : Device :=
  saOut (emit (count d (devCtr 28)) .key 0x02 (leBytes 4 i ++ [0#8] ++ leBytes 4 i ++ leBytes 1 by_)) i

/-- Take an association out of service: its records are erased, its turn is cancelled, its outputs send AIS. -/
def assocOut (d : Device) (a cause : Nat) : Device :=
  match Tbl.get? d.kn.assocs a with
  | some x =>
    if x.oos then d
    else
      let d := (assocRecords a).foldl eraseRec d
      let x := { x with oos := true, txCur := none, txNext := none, rxCur := none, rxNext := none, turn := none
                        rxTurn := none, output := false, outputDue := none }
      let d := { d with kn := { d.kn with assocs := Tbl.put d.kn.assocs a x } }
      emit (count d (devCtr 10)) .framer 0x43 (leBytes 2 a ++ leBytes 1 cause ++ leBytes 4 x.peer)
  | none => d

/-- The installed SAs and the associations whose context or key record lies in lines satisfying `p`. -/
def sasIn (d : Device) (p : Nat → Bool) : List Nat :=
  (d.ms.sas.map Prod.fst).filter (fun i => p (ctxLine i 0) || p (ctxLine i 1) || p (recLine i))
def assocsIn (d : Device) (p : Nat → Bool) : List Nat :=
  (d.kn.assocs.map Prod.fst).filter (fun a => (assocRecords a).any (fun r => p (recLine r)))

def outAll (d : Device) (p : Nat → Bool) : Device :=
  let d := (sasIn d p).foldl saOut d
  (assocsIn d p).foldl (fun d a => assocOut d a 2) d

/-! ## Reads and writes (R533-R538) -/

/-- Read a line: counted where it reaches DRAM (R533). -/
def readLine (d : Device) (line : Nat) : Device :=
  let d := loadNode 9 d 0 (line / 64)
  if lineWritten d line then count (touchTag d (tagLine d line) false) (unitCtr 3 (channelOf line)) else d

/-- The group takes the next major: its lines are read and written back, every minor 0 (R536). -/
def reencrypt (d : Device) (g major : Nat) : Device :=
  let plain := ((d.mem.dram.map Prod.fst).filter (fun n => n < lineTags d && n / 64 == g)).map (fun n => (n, openLine d n))
  let d := setGroup d g { major := major, minors := [] }
  let d := { d with mem := { d.mem with majorHwm := max d.mem.majorHwm major } }
  let d := count (count (count d (devCtr 39)) (unitCtr 3 (g % 4)) 64) (unitCtr 4 (g % 4)) 64
  plain.foldl (fun d e => sealLine d e.1 e.2) d

/-- A group whose major would pass 2^56 - 1 is frozen (R537). -/
def freeze (d : Device) (g : Nat) : Device :=
  let d := emit { d with mem := { d.mem with frozen := g :: d.mem.frozen } } .memory 0x06 (leBytes 4 g)
  outAll d (fun n => n / 64 == g)

/-- A write of the line would pass its group's last major (R537). -/
def freezes (d : Device) (line : Nat) : Bool :=
  let x := group d (line / 64)
  127 ≤ Tbl.getD x.minors (line % 64) 0 && 2 ^ 56 ≤ x.major + 1

/-- A write of the line now is not discarded. -/
def takesWrite (d : Device) (line : Nat) : Bool := writable d line && !freezes d line

/-- Write a line whole with what the device holds there. Its minor counter increments; at 127 its group is re-encrypted under
the next major; past the last major the group is frozen and the write discarded. Poison clears. -/
def writeLine (d : Device) (line : Nat) : Device :=
  let g := line / 64
  if !writable d line then d
  else if freezes d line then freeze d g
  else
    let d := markDirty (loadNode 9 d 0 g) 0 g
    let d := touchTag { d with mem := { d.mem with poison := d.mem.poison.filter (· != line) } } (tagLine d line) true
    let d := count d (unitCtr 4 (channelOf line))
    let x := group d g
    let m := Tbl.getD x.minors (line % 64) 0
    if m < 127 then sealLine (setGroup d g { x with minors := Tbl.put x.minors (line % 64) (m + 1) }) line (plainLine d line)
    else
      let d := reencrypt d g (x.major + 1)
      sealLine (setGroup d g { major := x.major + 1, minors := [(line % 64, 1)] }) line (plainLine d line)

def writeLines (d : Device) (l : List Nat) : Device := l.foldl writeLine d

/-- Erase a data-plane key record and its line. -/
def eraseRecord (d : Device) (r : Nat) : Device := writeLine (eraseRec d r) (recLine r)

/-! ## Poison and quarantine (R541-R543) -/

/-- MEM_QUARANTINE's ranges: first and number of a region's objects, `per` lines each, among lines `lo` to `hi`. -/
def rangeBytes (lo hi start size per : Nat) : Bytes :=
  let a := max lo start
  let b := min hi (start + size)
  if a < b then leBytes 4 ((a - start) / per) ++ leBytes 4 ((b - a + per - 1) / per) else zeros 8

/-- The root's subtree is quarantined, its list entries are freed, and MEM_ESCALATED is written. -/
def escalate (d : Device) (line : Nat) : Device :=
  let r := rootOf d line
  let beneath := fun (q : Quar) => q.node * (64 * 8 ^ q.level) / (64 * 8 ^ topLevel d) == r
  let freed := (d.mem.quar.filter beneath).length + (d.mem.poison.filter (fun n => rootOf d n == r)).length
  let d := { d with mem := { d.mem with quar := d.mem.quar.filter (fun q => !beneath q)
                                        poison := d.mem.poison.filter (fun n => rootOf d n != r)
                                        rootQuar := r :: d.mem.rootQuar.filter (· != r) } }
  outAll (emit d .memory 0x04 (leBytes 1 r ++ leBytes 2 freed)) (fun n => rootOf d n == r)

/-- Everything beneath a node lies under quarantine already. -/
def covered (d : Device) (level node : Nat) : Bool :=
  d.mem.quar.any (fun q => level ≤ q.level && node / 8 ^ (q.level - level) == q.node)
    || d.mem.rootQuar.contains (rootOf d (node * (64 * 8 ^ level)))

/-- Quarantine a counter line (level 0) or node. -/
def quarantine (d : Device) (level node : Nat) : Device :=
  let lo := node * (64 * 8 ^ level)
  if covered d level node then d
  else if d.mem.quar.length ≥ 256 then escalate d lo
  else
    let hi := lo + 64 * 8 ^ level
    let d := count { d with mem := { d.mem with quar := d.mem.quar ++ [{ level := level, node := node }] } } (devCtr 41)
    let d := emit d .memory 0x03
      (leBytes 1 level ++ leBytes 4 node ++ leBytes 8 (64 * lo) ++ leBytes 8 (64 * (hi - lo))
        ++ rangeBytes lo hi 0 0x80000 2 ++ rangeBytes lo hi 0x80000 0x40000 1 ++ rangeBytes lo hi 0xC0000 0x80000 2)
    outAll d (fun n => nodeCovers level node n)

/-- Region code and index of a data line in MEM_POISON. -/
def regionOf (line : Nat) : Nat × Nat :=
  if line < 0x80000 then (0, line / 2)
  else if line < 0xC0000 then (1, line - 0x80000)
  else if line < firmwareLine then (2, (line - 0xC0000) / 2)
  else (3, 0xFFFFFFFF)

/-- The poison list takes these lines: each stands in it, or has room (R541). -/
def poisonRoom (d : Device) (lines : List Nat) : Bool :=
  let new := lines.filter (fun n => !d.mem.poison.contains n)
  new == [] || d.mem.poison.length + new.length ≤ 1024

def listPoison (d : Device) (line : Nat) : Device :=
  { d with mem := { d.mem with poison := line :: d.mem.poison.filter (· != line) } }

/-- Firmware rebuilds the route copy from the entries with good parity; it stages no samples in State (R541). -/
def rebuildCopy (d : Device) : Device :=
  { d with cls := { d.cls with tcam := Tbl.mapVals d.cls.tcam (fun _ e => { e with lost := e.lost || e.badParity }) } }

/-- Poison a data line with the effect on its region; a statistics line is written as zero. -/
def poisonData (d : Device) (line : Nat) : Device :=
  if quarantined d line then d
  else if line ≥ 0xC0000 ∧ line < firmwareLine then
    let sa := (line - 0xC0000) / 2
    let lo := 16 * sa + 8 * (line % 2)
    writeLine { d with ms := { d.ms with stats := Tbl.keep d.ms.stats (fun k _ => k < lo || lo + 8 ≤ k) } } line
  else if line ≥ firmwareLine then writeLine (rebuildCopy d) line
  else outAll (listPoison d line) (· == line)

/-- An uncorrectable error or a tag mismatch in a data line; one that finds its list full is escalated (R543). -/
def poisonLine (d : Device) (line : Nat) : Device :=
  if quarantined d line then d
  else if !poisonRoom d [line] then escalate d line
  else
    let r := regionOf line
    poisonData (emit (count d (devCtr 40)) .memory 0x02 (leBytes 8 (64 * line) ++ leBytes 1 r.1 ++ leBytes 4 r.2)) line

/-- An uncorrectable tag line poisons the data lines it covers. -/
def poisonCovered (d : Device) (line : Nat) : Device :=
  let ls := (upFrom (8 * (line - lineTags d)) 8).filter (fun n => !quarantined d n)
  if ls = [] then d
  else if !poisonRoom d ls then escalate d (8 * (line - lineTags d))
  else
    let d := emit (count d (devCtr 40) ls.length) .memory 0x02 (leBytes 8 (64 * line) ++ leBytes 1 4 ++ leBytes 4 0xFFFFFFFF)
    ls.foldl poisonData d

/-- Table 12-3, the uncorrectable column. -/
def uncorrectable (d : Device) (line : Nat) : Device :=
  let d := count d (unitCtr 6 (channelOf line))
  if line < lineTags d then poisonLine d line
  else if line < groupTags d then poisonCovered d line
  else if line < groupLines d then
    (upFrom (8 * (line - groupTags d)) 8).foldl (fun d g => quarantine d 0 g) d
  else match nodeOf d line with
    | some (level, node) => quarantine d level node
    | none => d

/-- Correctable errors per channel as they stand now: last full hour, and this hour. -/
def ceHours (d : Device) : Tbl Nat × Tbl Nat × Nat :=
  let hour := 3600 * 1000 * msTicks
  let n := (d.clock - d.mem.ceHourStart) / hour
  if n = 0 then (d.mem.ceHour, d.mem.ceNow, d.mem.ceHourStart)
  else (if n = 1 then d.mem.ceNow else [], [], d.mem.ceHourStart + n * hour)

def rollCe (d : Device) : Device :=
  let r := ceHours d
  { d with mem := { d.mem with ceHour := r.1, ceNow := r.2.1, ceHourStart := r.2.2 } }

/-- A corrected error: counted and written back, and MEM_CE beyond the threshold of the hour, at most once a second (R540, R555). -/
def corrected (d : Device) (line : Nat) : Device :=
  let c := channelOf line
  let d := rollCe (count (count d (unitCtr 5 c)) (unitCtr 4 c))
  let now := Tbl.getD d.mem.ceNow c 0 + 1
  let d := { d with mem := { d.mem with ceNow := Tbl.put d.mem.ceNow c now } }
  let p := Tbl.getD d.mem.cePending c (0, 0)
  let th := field d 0x1E0000 15 0
  if now > th ∧ (p.2 = 0 ∨ d.clock + 1 ≥ p.2 + 1000 * msTicks) then
    emit { d with mem := { d.mem with cePending := Tbl.put d.mem.cePending c (0, d.clock + 1) } } .memory 0x01
      (leBytes 1 c ++ leBytes 4 (p.1 + 1))
  else { d with mem := { d.mem with cePending := Tbl.put d.mem.cePending c (p.1 + 1, p.2) } }

end Sys2Proof.Machine
end

