-- ==== Sys2Proof/Machine/Frames.lean ====
section
/-!
DEFINITION. Ethernet frames as the parser sees them: tags, the SecTAG, IP addresses (R172, R175, R178-R184, R194,
R359, R365). A frame is its bytes from the destination address to the last byte before the FCS.
-/
namespace Sys2Proof.Machine

/-- Frame length from destination address to FCS inclusive (R144). -/
def frameLen (data : Bytes) : Nat := data.length + 4

def msPort (d : Device) (p : Nat) : W32 := reg d (0x141000 + 4 * p)

/-- TPIDs that count as tags on a Line port (Table 4-8). -/
def lineTpid (d : Device) (p t : Nat) : Bool :=
  let c := msPort d p
  (t == 0x8100 && bit c 8) || (t == 0x88A8 && bit c 9) || (t == 0x9100 && bit c 10)
    || (t == field d 0x141400 15 0 && bit c 11)

/-- TPIDs the parser recognises on a port (R359). -/
def tpidOk (d : Device) (p t : Nat) : Bool :=
  if isLine d p then lineTpid d p t else t == 0x8100 || t == 0x88A8

/-- The tags at an offset, at most `n`: TPID and TCI. -/
def tagsAt (ok : Nat → Bool) (data : Bytes) : Nat → Nat → List (Nat × Nat)
  | _, 0 => []
  | off, n + 1 =>
    if off + 4 ≤ data.length ∧ ok (beField data off 2) then
      (beField data off 2, beField data (off + 2) 2) :: tagsAt ok data (off + 4) n
    else []

/-- The tags of a frame, and the offset and value of the EtherType behind them. -/
def frameTags (d : Device) (p : Nat) (data : Bytes) : List (Nat × Nat) := tagsAt (tpidOk d p) data 12 2
def etherOff (d : Device) (p : Nat) (data : Bytes) : Nat := 12 + 4 * (frameTags d p data).length
def etherType (d : Device) (p : Nat) (data : Bytes) : Nat := beField data (etherOff d p data) 2

/-- VLAN ID of the first tag of TPID 0x8100 or 0x88A8 (R172). -/
def outerVlan (tags : List (Nat × Nat)) : Option Nat :=
  (tags.find? (fun t => t.1 == 0x8100 || t.1 == 0x88A8)).map (fun t => t.2 % 4096)

/-- The EtherType is that of a valid bypass entry (R175). -/
def bypassType (d : Device) (t : Nat) : Bool :=
  (List.range 8).any (fun i =>
    let e := reg d (0x141200 + 4 * i)
    bit e 31 && bits e 15 0 == t)

/-! ## The SecTAG (Table 4-2, R194) -/

structure SecTag where
  /-- offset of its EtherType, and its length with it -/
  off : Nat
  len : Nat
  tci : Byte
  sl : Nat
  pn : Nat
  sci : W64
  deriving DecidableEq, Repr

def SecTag.v (t : SecTag) : Bool := t.tci.getLsbD 7
def SecTag.es (t : SecTag) : Bool := t.tci.getLsbD 6
def SecTag.sc (t : SecTag) : Bool := t.tci.getLsbD 5
def SecTag.scb (t : SecTag) : Bool := t.tci.getLsbD 4
def SecTag.e (t : SecTag) : Bool := t.tci.getLsbD 3
def SecTag.c (t : SecTag) : Bool := t.tci.getLsbD 2
def SecTag.an (t : SecTag) : Nat := t.tci.toNat % 4

/-- The SecTAG of a frame on a Line port, if it has one. -/
def secTag? (d : Device) (p : Nat) (data : Bytes) : Option SecTag :=
  let off := etherOff d p data
  if beField data off 2 = 0x88E5 then
    let tci := byteAt data (off + 2)
    some { off := off, len := if tci.getLsbD 5 then 16 else 8, tci := tci, sl := (byteAt data (off + 3)).toNat
           pn := beField data (off + 4) 4, sci := BitVec.ofNat 64 (beField data (off + 8) 8) }
  else none

/-- Start and length of the secure data, where the frame holds it and its ICV. -/
def secureSpan (t : SecTag) (data : Bytes) : Option (Nat × Nat) :=
  let lo := t.off + t.len
  let n := if t.sl = 0 then data.length - lo - 16 else t.sl
  if lo + n + 16 ≤ data.length then some (lo, n) else none

/-- The conditions of R194 that need no suite. -/
def malformed (t : SecTag) (data : Bytes) : Bool :=
  t.v || (t.es && t.sc) || (t.sc && t.scb) || (!t.e && t.c) || 48 ≤ t.sl
    || (match secureSpan t data with
        | none => true
        | some (lo, n) =>
          if t.sl = 0 then n < 48 else lo + n + 16 != data.length && frameLen data != 64)

/-- Confidentiality offset of a CONF code (R182). -/
def confOffset (conf : Nat) : Nat := if conf = 2 then 30 else if conf = 3 then 50 else 0

/-! ## IP (R359, R365, R396) -/

/-- The destination address in bytes that start behind the source address, where it ends within `limit` bytes: the
family is 6, and the address as a number. -/
def ipDest (ok : Nat → Bool) (body : Bytes) (limit : Nat) : Option (Bool × Nat) :=
  let off := 4 * (tagsAt ok body 0 2).length
  let t := beField body off 2
  if t = 0x0800 ∧ off + 22 ≤ min limit body.length then some (false, beField body (off + 18) 4)
  else if t = 0x86DD ∧ off + 42 ≤ min limit body.length then some (true, beField body (off + 26) 16)
  else none

/-- The DSCP of an IP packet, under the same conditions. -/
def ipDscp (ok : Nat → Bool) (body : Bytes) (limit : Nat) : Option Nat :=
  let off := 4 * (tagsAt ok body 0 2).length
  match ipDest ok body limit with
  | some (false, _) => some ((byteAt body (off + 3)).toNat / 4)
  | some (true, _) => some (beField body (off + 2) 2 / 2 ^ 6 % 64)
  | none => none

/-! ## PTP messages (R660) -/

/-- Offset of the PTP message in a frame, whether it is an event message, and the offset of its UDP header under IPv4
(`some (off, false)`) or IPv6 (`some (off, true)`). -/
structure PtpAt where
  off : Nat
  event : Bool
  udp : Option (Nat × Bool)
  deriving DecidableEq, Repr

/-- The PTP message of a frame in the clear: EtherType 0x88F7 behind at most two tags, or UDP port 319 or 320. -/
def ptpAt (ok : Nat → Bool) (data : Bytes) : Option PtpAt :=
  let off := 12 + 4 * (tagsAt ok data 12 2).length
  let t := beField data off 2
  let ev := fun (o : Nat) => decide ((byteAt data o).toNat % 16 ≤ 3)
  if t = 0x88F7 then some { off := off + 2, event := ev (off + 2), udp := none }
  else
    let ip := off + 2
    let v6 := t == 0x86DD
    let u := if v6 then ip + 40 else ip + 4 * ((byteAt data ip).toNat % 16)
    let isUdp := if v6 then byteAt data (ip + 6) == 17#8 else t == 0x0800 && byteAt data (ip + 9) == 17#8
    let port := beField data (u + 2) 2
    if isUdp && (port == 319 || port == 320) then
      some { off := u + 8, event := port == 319 && ev (u + 8), udp := some (u, v6) }
    else none

/-- Replace bytes of a frame. -/
def patch (data : Bytes) (off : Nat) (bs : Bytes) : Bytes := data.take off ++ bs ++ data.drop (off + bs.length)

/-- The ones'-complement checksum after the bytes `old` became `new` (RFC 1624); both start at an even offset of the
datagram. -/
def checksumUpdate (sum : Nat) (old new : Bytes) : Nat :=
  let words := fun (b : Bytes) => (List.range (b.length / 2)).map (fun i => beField b (2 * i) 2)
  let fold := fun (x : Nat) => let y := x % 65536 + x / 65536; y % 65536 + y / 65536
  let acc := ((words old).map (fun x => 65535 - x)).sum + (words new).sum + (65535 - sum)
  65535 - fold (fold acc)

/-- Add to the correctionField, in 2^-16 ns, and mend the UDP checksum (R665). -/
def addCorrection (m : PtpAt) (data : Bytes) (c : Int) : Bytes :=
  let old := slice data (m.off + 8) 8
  let new := beBytes 8 (((beNat old : Int) + c) % 2 ^ 64).toNat
  let out := patch data (m.off + 8) new
  match m.udp with
  | some (u, false) => patch out (u + 6) [0#8, 0#8]
  | some (u, true) => patch out (u + 6) (beBytes 2 (checksumUpdate (beField data (u + 6) 2) old new))
  | none => out

/-! ## Addresses -/

/-- A frame's source and destination addresses as numbers; the group bit. -/
def destMac (data : Bytes) : Nat := beField data 0 6
def srcMac (data : Bytes) : Nat := beField data 6 6
def groupBit (mac : Nat) : Bool := mac / 2 ^ 40 % 2 == 1

end Sys2Proof.Machine
end

