-- ==== Sys2Proof/Machine/Forward.lean ====
section
/-!
DEFINITION. The forwarding tables (08): routes in the TCAM, the MAC table, the received-SCI table, and their commands.
-/
namespace Sys2Proof.Machine

/-- CLS_EPOCH advances at a commit (R393). -/
def bumpEpoch (d : Device) : Device := { d with cls := { d.cls with epoch := (d.cls.epoch + 1) % 2 ^ 16 } }

/-- A rate-limited event: at most once per millisecond, with the occurrences since the last (R161, R402). -/
def limited (d : Device) (l : Limited) : Limited × Option Nat :=
  if l.at_ = 0 ∨ d.clock + 1 ≥ l.at_ + msTicks then ({ count := 0, at_ := d.clock + 1 }, some (l.count + 1))
  else ({ l with count := l.count + 1 }, none)

/-- SecY `s` exists on port `p`. -/
def secyOn (d : Device) (s p : Nat) : Bool :=
  match Tbl.get? d.ms.secys s with
  | some x => x.port == p
  | none => false

/-! ## TCAM (R366-R379) -/

def famBits (v6 : Bool) : Nat := if v6 then 128 else 32

/-- The routes of one family with prefix length `b`. -/
def bandSize (d : Device) (v6 : Bool) (b : Nat) : Nat :=
  (d.cls.tcam.filter (fun e => e.2.route.v6 == v6 && e.2.route.len == b)).length
def famCount (d : Device) (v6 : Bool) : Nat := (d.cls.tcam.filter (fun e => e.2.route.v6 == v6)).length
def tcamFree (d : Device) : Nat := 65536 - famCount d false - 2 * famCount d true

/-- Routes of a family with prefix lengths up to `b`, and from `b` on. -/
def upToBand (d : Device) (v6 : Bool) (b : Nat) : Nat :=
  (d.cls.tcam.filter (fun e => e.2.route.v6 == v6 && e.2.route.len ≤ b)).length
def fromBand (d : Device) (v6 : Bool) (b : Nat) : Nat :=
  (d.cls.tcam.filter (fun e => e.2.route.v6 == v6 && b ≤ e.2.route.len)).length

/-- The two ends of band `b`: the entry nearest the free region and the entry farthest from it. -/
def nearEnd (d : Device) (v6 : Bool) (b : Nat) : Nat :=
  if v6 then 2 * (fromBand d true b - 1) else 65536 - upToBand d false b
def farEnd (d : Device) (v6 : Bool) (b : Nat) : Nat :=
  if v6 then 2 * fromBand d true (b + 1) else 65535 - (upToBand d false b - bandSize d false b)

/-- The entry or pair next to the used entries of a family. -/
def freeEdge (d : Device) (v6 : Bool) : Nat :=
  if v6 then 2 * famCount d true else 65535 - famCount d false

/-- Bands between band `L` and the free region that hold routes, nearest the free region first. -/
def bandsToward (d : Device) (v6 : Bool) (l : Nat) : List Nat :=
  let bs := if v6 then upFrom 0 l else (upFrom (l + 1) (32 - l)).reverse
  bs.filter (fun b => bandSize d v6 b != 0)

/-- A move writes the copy from the Caller's table where the entry is disabled (R378). -/
def moveEnt (t : Tbl TcamEnt) (src dst : Nat) : Tbl TcamEnt :=
  match Tbl.get? t src with
  | some e =>
    let e := if e.disabled && !e.lost then { route := e.route } else e
    Tbl.del (Tbl.put t dst e) src
  | none => t

/-- R369: each non-empty band on the way moves its entry farthest from the free region into the hole. -/
def openHole (ends : List Nat) (t : Tbl TcamEnt) (hole : Nat) : Tbl TcamEnt × Nat :=
  ends.foldl (fun acc e => (moveEnt acc.1 e acc.2, e)) (t, hole)

/-- R370: each entry nearest the free region moves into the hole before it; moves to the place itself do not count. -/
def closeHole (ends : List Nat) (t : Tbl TcamEnt) (hole : Nat) : Tbl TcamEnt × Nat :=
  ends.foldl (fun acc e => if e = acc.2 then acc else (moveEnt acc.1 e acc.2, e)) (t, hole)

def sameRoute (a b : Route) : Bool := a.table == b.table && a.v6 == b.v6 && a.len == b.len && a.pre == b.pre

def findRoute (d : Device) (r : Route) : Option Nat := Tbl.findKey? d.cls.tcam (fun _ e => sameRoute e.route r)

def setTcam (d : Device) (t : Tbl TcamEnt) : Device := { d with cls := { d.cls with tcam := t } }

/-- A route matches an address of its family. -/
def routeHits (r : Route) (table : Nat) (v6 : Bool) (addr : Nat) : Bool :=
  let w := famBits v6 - r.len
  r.table == table && r.v6 == v6 && r.pre / 2 ^ w == addr / 2 ^ w

/-- The key of a search or of a route: the table above the address. -/
def tcamKey (v6 : Bool) (table addr : Nat) : BitVec 160 := BitVec.ofNat 160 (table * 2 ^ famBits v6 + addr)

/-- The mask of a route: the table and the prefix count. -/
def tcamMask (r : Route) : BitVec 160 := BitVec.ofNat 160 (2 ^ (famBits r.v6 + 8) - 2 ^ (famBits r.v6 - r.len))

/-- An entry matches as its stored key and mask dictate (R377). -/
def entHits (e : TcamEnt) (table : Nat) (v6 : Bool) (addr : Nat) : Bool :=
  if e.keyFlip = 0#160 ∧ e.maskFlip = 0#160 then routeHits e.route table v6 addr
  else e.route.v6 == v6
    && ((tcamKey v6 e.route.table e.route.pre ^^^ e.keyFlip ^^^ tcamKey v6 table addr) &&& (tcamMask e.route ^^^ e.maskFlip)) == 0#160

/-- The lowest matching entry (R367). -/
def searchTcam (d : Device) (table : Nat) (v6 : Bool) (addr : Nat) : Option (Nat × TcamEnt) :=
  d.cls.tcam.find? (fun e => entHits e.2 table v6 addr)

/-- Disable an entry found with bad parity (R377): `by_` 0 search, 1 scrub. -/
def disableEnt (d : Device) (i by_ : Nat) : Device :=
  match Tbl.get? d.cls.tcam i with
  | some e =>
    if e.disabled then d
    else
      let d := setTcam d (Tbl.put d.cls.tcam i { e with badParity := true, disabled := true })
      emit d .forward 0x01 (leBytes 2 i ++ leBytes 1 e.route.table ++ leBytes 1 (if e.route.v6 then 6 else 4)
        ++ leBytes 1 e.route.len ++ leBytes 1 by_)
  | none => d

/-- The entry, or the pair's even entry, at an index. -/
def entryAt (d : Device) (i : Nat) : Nat :=
  if Tbl.has d.cls.tcam i then i
  else match Tbl.get? d.cls.tcam (i - 1) with
    | some e => if e.route.v6 then i - 1 else i
    | none => i

/-- An upset has hit an entry: its parity is bad from then on. -/
def upsetEnt (d : Device) (x : TcamUpset) : Device :=
  setTcam d (Tbl.modify d.cls.tcam (entryAt d x.entry) (fun e => { e with badParity := true, keyFlip := e.keyFlip ^^^ x.key
                                                                          maskFlip := e.maskFlip ^^^ x.mask }))

/-- The scrub checks every entry (R375): those just hit and those hit before. -/
def scrubTcam (d : Device) (hit : List TcamUpset) : Device :=
  let d := hit.foldl upsetEnt d
  ((d.cls.tcam.filter (fun e => e.2.badParity)).map Prod.fst).foldl (fun d i => disableEnt d i 1) d

/-- TCAM_SCRUB (R375, R377): `bad` are the entries that upsets have hit. -/
def execTcamScrub (bad : List TcamUpset) (s : State) : Host.Outcome State Fault Refusal := s.withDev (scrubTcam s.dev bad)

def repairEnt (d : Device) (i : Nat) : Device :=
  match Tbl.get? d.cls.tcam i with
  | some e =>
    if e.disabled && !e.lost && bit (reg d 0x101004) 31 then
      let d := setTcam d (Tbl.put d.cls.tcam i { route := e.route })
      emit (count d (devCtr 12)) .forward 0x02 (leBytes 2 i)
    else d
  | none => d

/-- TCAM_REPAIRED (R378). -/
def execTcamRepaired (entry : Fin 65536) (s : State) : Host.Outcome State Fault Refusal :=
  s.withDev (repairEnt s.dev (entryAt s.dev entry))

/-! ## ROUTE_ADD and ROUTE_DEL (R369-R374) -/

def routeOf (desc : Bytes) : Route :=
  let v6 := leField desc 21 1 == 6
  { table := leField desc 20 1, v6 := v6, len := leField desc 22 1
    pre := if v6 then beField desc 32 16 else beField desc 32 4
    port := leField desc 24 1, secy := leField desc 26 2 % 1024, policer := leField desc 28 2 }

def policerReserved (n : Nat) : Bool := 0x4000 ≤ n && n ≤ 0xFFFE

def familyBad (desc : Bytes) : Nat × Bool := (21, leField desc 21 1 != 4 && leField desc 21 1 != 6)
def v4Tail (desc : Bytes) : List (Nat × Bool) := if leField desc 21 1 = 4 then zeroFrom desc 36 47 else []

/-- Reserved bits and values of ROUTE_ADD; SECY must be 0 for a Client port (Table 8-2). -/
def routeAddOwn (d : Device) (desc : Bytes) : List (Nat × Bool) :=
  [familyBad desc] ++ zeroFrom desc 23 23 ++ zeroFrom desc 25 25
    ++ [(26, isClient d (leField desc 24 1) && leField desc 26 2 % 1024 != 0), zeroBits desc 27 0xFC,
        (28, policerReserved (leField desc 28 2))] ++ zeroFrom desc 30 31 ++ v4Tail desc ++ zeroFrom desc 48 63

/-- What R373 and R390 find wrong with a named port and SecY. -/
inductive ResultFault where
  | badPort | badSecy
  deriving DecidableEq, Repr

/-- The first fault of a named result's port and SecY (R373, R390); a port of the wrong personality has been turned away
before (R103). -/
def resultStatus (d : Device) (p s : Nat) : Option ResultFault :=
  if (portCfg d p).isNone then some .badPort
  else if isLine d p && !secyOn d s p then some .badSecy
  else none

/-- Its completion: BAD_INDEX names the field at `po` or `so` (Table 2-5). -/
def resultFail (d : Device) (po so : Nat) : ResultFault → Verdict
  | .badPort => failAt d .badIndex po
  | .badSecy => failAt d .badIndex so

/-- STANDBY and SYNCING members turn mirrored commands away. -/
def roleStale (d : Device) : Bool := d.duet.role == .standby || d.duet.role == .syncing

def routeResult (d : Device) (i moves : Nat) (rewritten : Bool) : Bytes :=
  leBytes 2 i ++ leBytes 1 moves ++ [if rewritten then 1#8 else 0#8] ++ leBytes 2 d.cls.epoch

def addRoute (d : Device) (r : Route) : Device × Bytes :=
  match findRoute d r with
  | some i =>
    let d := bumpEpoch (setTcam d (Tbl.put d.cls.tcam i { route := r }))
    (d, routeResult d i 0 true)
  | none =>
    let bs := bandsToward d r.v6 r.len
    let x := openHole (bs.map (farEnd d r.v6)) d.cls.tcam (freeEdge d r.v6)
    let d := count (bumpEpoch (setTcam d (Tbl.put x.1 x.2 { route := r }))) (devCtr 13) bs.length
    (d, routeResult d x.2 bs.length false)

def routeAddBody (_ : Origin) (desc _buf : Bytes) (d : Device) : Verdict :=
  let r := routeOf desc
  if r.len > famBits r.v6 then failAt d .badField 22
  else if r.pre % 2 ^ (famBits r.v6 - r.len) ≠ 0 then failAt d .badField 32
  else match resultStatus d r.port r.secy with
    | some x => resultFail d 24 26 x
    | none =>
      if (findRoute d r).isNone ∧ tcamFree d < (if r.v6 then 2 else 1) then fail d .noRoom
      else if roleStale d then fail d .roleStale
      else
        let x := addRoute d r
        .done x.1 x.2 none

/-- ROUTE_ADD (R369, R371-R374). -/
def execRouteAdd (r : Fin 64) (s : State) : Host.Outcome State Fault Refusal :=
  s.withDev (runCommand 0x0200 r anyRight (routeAddOwn s.dev) routeAddBody [] s.dev)

def routeDelOwn (desc : Bytes) : List (Nat × Bool) :=
  [familyBad desc] ++ zeroFrom desc 23 31 ++ v4Tail desc ++ zeroFrom desc 48 63

/-- Entries nearest the free region of the route's band and of the bands behind it, in the order they move. -/
def closeEnds (d : Device) (r : Route) : List Nat :=
  (r.len :: (bandsToward d r.v6 r.len).reverse).map (nearEnd d r.v6)

def delRoute (d : Device) (r : Route) (i : Nat) : Device × Bytes :=
  let ends := closeEnds d r
  let moves := if ends.head? = some i then ends.length - 1 else ends.length
  let x := closeHole ends (Tbl.del d.cls.tcam i) i
  let d := count (bumpEpoch (setTcam d x.1)) (devCtr 13) moves
  (d, routeResult d i moves false)

def routeDelBody (_ : Origin) (desc _buf : Bytes) (d : Device) : Verdict :=
  let r := routeOf desc
  match findRoute d r with
  | none => failAt d .badIndex 20
  | some i =>
    if roleStale d then fail d .roleStale
    else
      let x := delRoute d r i
      .done x.1 x.2 none

/-- ROUTE_DEL (R370, R373, R374). -/
def execRouteDel (r : Fin 64) (s : State) : Host.Outcome State Fault Refusal :=
  s.withDev (runCommand 0x0201 r anyRight routeDelOwn routeDelBody [] s.dev)

/-! ## MAC table (R380-R391) -/

/-- The candidate position of a key in bank `w` (R380), as a key of the table. -/
def macSlot (w domain mac : Nat) : Nat :=
  let c := ((beBytes 2 domain ++ beBytes 6 mac).foldl crcByte (0xFFFFFFFF#32 ^^^ w32 w)) ^^^ 0xFFFFFFFF#32
  32768 * w + c.toNat % 32768

def macCandidates (domain mac : Nat) : List Nat := (List.range 4).map (fun w => macSlot w domain mac)

def macFind (d : Device) (domain mac : Nat) : Option (Nat × MacEnt) :=
  d.cls.mac.find? (fun e => e.2.domain == domain && e.2.mac == mac)

def setMac (d : Device) (k : Nat) (e : MacEnt) : Device := { d with cls := { d.cls with mac := Tbl.put d.cls.mac k e } }
def delMac (d : Device) (k : Nat) : Device := { d with cls := { d.cls with mac := Tbl.del d.cls.mac k } }

/-- The dynamic entries among a key's candidates. -/
def dynamicCandidates (d : Device) (domain mac : Nat) : List (Nat × MacEnt) :=
  (macCandidates domain mac).filterMap (fun k =>
    match Tbl.get? d.cls.mac k with
    | some e => if e.static then none else some (k, e)
    | none => none)

/-- The entry last seen first, the lowest bank on a tie. -/
def oldest : List (Nat × MacEnt) → Option (Nat × MacEnt)
  | [] => none
  | e :: l =>
    match oldest l with
    | some o => if o.2.seen < e.2.seen then some o else some e
    | none => some e

/-- The victim of an eviction (R383, R399). -/
def victim (d : Device) (domain mac : Nat) : Option (Nat × MacEnt) :=
  let l := dynamicCandidates d domain mac
  if bit (reg d 0x101000) 31 || d.duet.role != .solo then oldest l
  else l[Config.evictPick (counter d (devCtr 16)).toNat l.length % max 1 l.length]?

/-- Make room for a new key: a free candidate, lowest bank first, or an eviction; the place, and whether a dynamic entry
was evicted. -/
def macPlace (d : Device) (domain mac : Nat) : Option (Device × Nat × Bool) :=
  match (macCandidates domain mac).find? (fun k => !Tbl.has d.cls.mac k) with
  | some k => some (d, k, false)
  | none =>
    match victim d domain mac with
    | some (k, e) =>
      let d := count d (devCtr 16)
      if bit (reg d 0x101000) 30 then
        let x := limited d d.cls.evicted
        let d := { d with cls := { d.cls with evicted := x.1 } }
        match x.2 with
        | some n => some (emit d .forward 0x03 (leBytes 2 e.domain ++ beBytes 6 e.mac ++ leBytes 4 n), k, true)
        | none => some (d, k, true)
      else some (d, k, true)
    | none => none

/-- All four candidates are static (R384). -/
def learnFail (d : Device) (domain mac : Nat) : Device :=
  let d := count d (devCtr 17)
  let x := limited d d.cls.failed
  let d := { d with cls := { d.cls with failed := x.1 } }
  match x.2 with
  | some n => emit d .forward 0x04 (leBytes 2 domain ++ beBytes 6 mac ++ leBytes 4 n)
  | none => d

/-- The new addresses of the second that ends now, by tick. -/
def learnedNow (d : Device) : Tbl Nat := Tbl.keep d.cls.learned (fun t _ => decide (d.clock < t + 1000 * msTicks))

/-- Another new address is within the learning rate (R385). -/
def mayLearn (d : Device) : Bool := ((learnedNow d).map Prod.snd).sum < 10 ^ 8

/-- A new address has been learned. -/
def noteLearned (d : Device) : Device :=
  { d with cls := { d.cls with learned := Tbl.modifyD (learnedNow d) d.clock 0 (· + 1) } }

/-- Learn, refresh or move a source address (R381-R385). -/
def learn (d : Device) (domain mac port secy : Nat) : Device :=
  if groupBit mac then d
  else match macFind d domain mac with
    | some (k, e) =>
      if e.static then
        if e.port = port ∧ e.secy = secy then d else count d (devCtr 15)
      else if e.port = port ∧ e.secy = secy then setMac d k { e with seen := d.clock }
      else count (setMac d k { e with seen := d.clock, port := port, secy := secy }) (devCtr 14)
    | none =>
      if mayLearn d then
        match macPlace d domain mac with
        | some (d, k, _) =>
          setMac (noteLearned d) k { domain := domain, mac := mac, port := port, secy := secy, policer := 0xFFFF, static := false
                                     seen := d.clock }
        | none => learnFail d domain mac
      else count d (devCtr 18)

/-- Remove an entry whose SRAM word is uncorrectable (R388). -/
def macUncorrectable (d : Device) (k : Nat) : Device :=
  emit (count (delMac d k) (devCtr 21)) .forward 0x05 (leBytes 1 (k / 32768) ++ leBytes 2 (k % 32768))

/-- AGE_TIME in seconds (Table 8-8). -/
def ageTime (d : Device) : Nat :=
  let n := field d 0x101000 19 0
  if n = 0 then 0 else if n < 10 then 10 else if n > 1000000 then 1000000 else n

/-- The tick that a pass of the ageing judges by: now, or, where the Duet role is not SOLO, the last boundary of whole AGE_TIME
/ 8 intervals of time base 0 (R399); that base's rate is taken as 2 ns a tick since then (DESIGN CHOICE, log 91). -/
def ageTick (d : Device) : Nat :=
  if d.duet.role = .solo then d.clock
  else d.clock - (tbase d 0).value / 2 ^ 64 % (ageTime d * 125000000) / 2

def macAge (d : Device) : Device :=
  let n := ageTime d
  let old := fun (e : MacEnt) => !e.static && e.seen + n * 1000 * msTicks ≤ ageTick d
  if n = 0 then d
  else
    let gone := (d.cls.mac.filter (fun e => old e.2)).length
    count { d with cls := { d.cls with mac := Tbl.keep d.cls.mac (fun _ e => !old e) } } (devCtr 19) gone

/-- What the ECC of the tables found while they were read (R375, R388). -/
def tableEcc (d : Device) : TableEcc → Device
  | .clean => d
  | .macCorrected => count d (devCtr 20)
  | .macBad e => if Tbl.has d.cls.mac e then macUncorrectable d e else d
  | .tcamBad x => upsetEnt d x

/-- MAC_AGEING (R387, R388): `bad` is what the ECC of the words shows that the pass reads. -/
def execMacAgeing (bad : List TableEcc) (s : State) : Host.Outcome State Fault Refusal :=
  s.withDev (bad.foldl tableEcc (macAge s.dev))

/-- Reserved bits and values of MAC_ADD; SECY is reserved unless PORT is a Line port (Table 8-4). -/
def macAddOwn (d : Device) (desc : Bytes) : List (Nat × Bool) :=
  [zeroBits desc 21 0xF0] ++ zeroFrom desc 23 23 ++ (if isLine d (leField desc 22 1) then [] else zeroFrom desc 24 25)
    ++ [(26, policerReserved (leField desc 26 2))] ++ zeroFrom desc 34 63

def macAddBody (_ : Origin) (desc _buf : Bytes) (d : Device) : Verdict :=
  let domain := leField desc 20 2
  let p := leField desc 22 1
  let sy := leField desc 24 2 % 1024
  let mac := beField desc 28 6
  let e : MacEnt := { domain := domain, mac := mac, port := p, secy := sy, policer := leField desc 26 2, static := true
                      seen := d.clock }
  match resultStatus d p sy with
  | some x => resultFail d 22 24 x
  | none =>
    match macFind d domain mac with
    | some (k, _) => .done (bumpEpoch (setMac d k e)) (zeros 16) none
    | none =>
      match macPlace d domain mac with
      | some (d, k, ev) => .done (bumpEpoch (setMac d k e)) (fit 16 [if ev then 1#8 else 0#8]) none
      | none => fail d .noRoom

/-- MAC_ADD (R390). -/
def execMacAdd (r : Fin 64) (s : State) : Host.Outcome State Fault Refusal :=
  s.withDev (runCommand 0x0202 r anyRight (macAddOwn s.dev) macAddBody [] s.dev)

def macDelOwn (desc : Bytes) : List (Nat × Bool) :=
  [zeroBits desc 21 0xF0] ++ zeroFrom desc 22 27 ++ zeroFrom desc 34 63

def macDelBody (_ : Origin) (desc _buf : Bytes) (d : Device) : Verdict :=
  match macFind d (leField desc 20 2) (beField desc 28 6) with
  | some (k, _) => .done (bumpEpoch (delMac d k)) (zeros 16) none
  | none => failAt d .badIndex 20

/-- MAC_DEL (R391). -/
def execMacDel (r : Fin 64) (s : State) : Host.Outcome State Fault Refusal :=
  s.withDev (runCommand 0x0203 r anyRight macDelOwn macDelBody [] s.dev)

/-- Reserved bits of MAC_FLUSH. Table 8-4 marks no bit of DOMAIN and SECY reserved, and what SCOPE does not select is ignored
(R769). -/
def macFlushOwn (desc : Bytes) : List (Nat × Bool) :=
  [zeroBits desc 20 0xF0] ++ zeroFrom desc 21 21 ++ zeroFrom desc 23 23 ++ zeroFrom desc 28 63

/-- An entry matches the criteria of SCOPE (R391). -/
def flushes (desc : Bytes) (e : MacEnt) : Bool :=
  let sc := byteAt desc 20
  (!e.static || sc.getLsbD 3) && (!sc.getLsbD 0 || e.port == leField desc 22 1)
    && (!sc.getLsbD 1 || e.domain == leField desc 24 2 % 4096) && (!sc.getLsbD 2 || e.secy == leField desc 26 2 % 1024)

def macFlushBody (_ : Origin) (desc _buf : Bytes) (d : Device) : Verdict :=
  let n := (d.cls.mac.filter (fun e => flushes desc e.2)).length
  let d := bumpEpoch { d with cls := { d.cls with mac := Tbl.keep d.cls.mac (fun _ e => !flushes desc e) } }
  .done d (fit 16 (leBytes 4 n)) none

/-- MAC_FLUSH (R391). -/
def execMacFlush (r : Fin 64) (s : State) : Host.Outcome State Fault Refusal :=
  s.withDev (runCommand 0x0204 r anyRight macFlushOwn macFlushBody [] s.dev)

/-! ## Received-SCI table (R392) -/

def sciSlot (w port : Nat) (sci : W64) : Nat := 16384 * w + Config.sciHash w port sci % 16384
def sciCandidates (port : Nat) (sci : W64) : List Nat := (List.range 4).map (fun w => sciSlot w port sci)

def sciFind (d : Device) (port : Nat) (sci : W64) : Option SciEnt :=
  (d.cls.sci.map Prod.snd).find? (fun e => e.port == port && e.sci == sci)

/-- A free place for an entry: a candidate, or one freed by moving its holder to another of its candidates, and so on for
up to `n` moves of different entries; the table after the moves, the free place, and the moves made. -/
def sciRoom : Nat → List Nat → Tbl SciEnt → List Nat → Option (Tbl SciEnt × Nat × Nat)
  | n, seen, t, cs =>
    match cs.find? (fun k => !Tbl.has t k) with
    | some k => some (t, k, 0)
    | none =>
      match n with
      | 0 => none
      | n + 1 => (cs.filter (fun k => !seen.contains k)).findSome? (fun k =>
          match Tbl.get? t k with
          | some e =>
            match sciRoom n (k :: seen) t ((sciCandidates e.port e.sci).filter (fun c => c != k)) with
            | some (t, k', m) => some (Tbl.del (Tbl.put t k' e) k, k, m + 1)
            | none => none
          | none => none)

/-- Place a receive SC's SCI, moving at most 8 entries (R392). -/
def sciPlace (d : Device) (port : Nat) (sci : W64) (sc : Nat) : Option Device :=
  match (upFrom 0 9).findSome? (fun n => sciRoom n [] d.cls.sci (sciCandidates port sci)) with
  | some (t, k, m) =>
    some (count { d with cls := { d.cls with sci := Tbl.put t k { port := port, sci := sci, sc := sc } } } (devCtr 22) m)
  | none => none

def sciRemove (d : Device) (sc : Nat) : Device :=
  { d with cls := { d.cls with sci := Tbl.keep d.cls.sci (fun _ e => e.sc != sc) } }

end Sys2Proof.Machine
end

