-- ==== Sys2Proof/Machine/MacSec.lean ====
section
/-!
DEFINITION. MACsec objects (04): SecYs, SCs and SAs with their commands, the SA context cache (R122-R126) and the
statistics (R217-R221).
-/
namespace Sys2Proof.Machine

/-! ## Suites and objects (R162-R170, R186) -/

def xpn (suite : Nat) : Bool := 2 ≤ suite
def aes256 (suite : Nat) : Bool := suite % 2 == 1
def maxPn (suite : Nat) : Nat := if xpn suite then 2 ^ 64 - 1 else 2 ^ 32 - 1
def suiteKeyLen (suite : Nat) : Nat := if aes256 suite then 32 else 16

def secy (d : Device) (s : Nat) : Option SecY := Tbl.get? d.ms.secys s
def scOf (d : Device) (c : Nat) : Option Sc := Tbl.get? d.ms.scs c
def saOf (d : Device) (i : Nat) : Option Sa := Tbl.get? d.ms.sas i
def setSa (d : Device) (i : Nat) (x : Sa) : Device := { d with ms := { d.ms with sas := Tbl.put d.ms.sas i x } }
def setSc (d : Device) (c : Nat) (x : Sc) : Device := { d with ms := { d.ms with scs := Tbl.put d.ms.scs c x } }

/-- An SA is installed: it exists and no SA_DELETE has taken it out (R250). -/
def installed (d : Device) (i : Nat) : Bool :=
  match saOf d i with
  | some x => !x.deleting
  | none => false

def scHasSa (d : Device) (c : Nat) : Bool := (upFrom (4 * c) 4).any (installed d)

def rxScs (d : Device) (s : Nat) : List Nat :=
  (d.ms.scs.filter (fun e => e.2.secy == s && e.2.rx)).map Prod.fst
def txSc (d : Device) (s : Nat) : Option Nat := Tbl.findKey? d.ms.scs (fun _ x => x.secy == s && !x.rx)

/-- Suite of an SC: its SecY's. -/
def scSuite (d : Device) (c : Nat) : Nat :=
  match (scOf d c).bind (fun x => secy d x.secy) with
  | some s => s.suite
  | none => 0

/-- The PN threshold in force (R186, R216). -/
def threshold (d : Device) (s suite : Nat) : Nat :=
  let t := Tbl.getD d.ms.thresholds s 0
  if t ≠ 0 then t else if xpn suite then 2 ^ 62 else 0xC0000000

/-! ## The fixed-latency class (R122, R132, R148) -/

def flCfg (d : Device) (p : Nat) : W32 := reg d (0x140300 + 4 * p)
def flEnabled (d : Device) (p : Nat) : Bool := bit (flCfg d p) 31
def flSecy (d : Device) (p : Nat) : Nat := bits (flCfg d p) 9 0
def flPress (d : Device) (p : Nat) : Nat := bits (flCfg d p) 28 24
def flActive (d : Device) (p : Nat) : Bool := d.prs.flActive.contains p

/-- Ports in service whose FL_SECY is `s`. -/
def flPortsOf (d : Device) (s : Nat) : List Nat := d.prs.flActive.filter (fun p => flSecy d p == s)

/-- The SecY of an SA. -/
def saSecy (d : Device) (i : Nat) : Option Nat := (scOf d (i / 4)).map Sc.secy

/-- The SA's context is pinned: it belongs to a fixed-latency SecY. -/
def pinned (d : Device) (i : Nat) : Bool :=
  match saSecy d i with
  | some s => !(flPortsOf d s).isEmpty
  | none => false

def cacheSet (i : Nat) : Nat := i % 2048

/-- SAs of the SecYs in `ss`, in one cache set, and of a press named by FL_PRESS; one that is being deleted stays pinned until it
is erased. -/
def pinnedInSet (d : Device) (ss : List Nat) (set : Nat) : Nat :=
  (d.ms.sas.filter (fun e => cacheSet e.1 == set
    && (match saSecy d e.1 with | some s => ss.contains s | none => false))).length
def pinnedOnPress (d : Device) (ps : List Nat) (m : Nat) : Nat :=
  (d.ms.sas.filter (fun e => (match saSecy d e.1 with | some s => ps.any (fun p => flSecy d p == s && flPress d p == m) | none => false))).length

/-- An SA_INSTALL would pin a ninth context in its set or a seventeenth key on its press (R122, R132). -/
def pinFull (d : Device) (i : Nat) : Bool :=
  match saSecy d i with
  | some s =>
    let ports := flPortsOf d s
    let ss := d.prs.flActive.map (flSecy d)
    !ports.isEmpty && (pinnedInSet d ss (cacheSet i) ≥ 8
      || ports.any (fun p => pinnedOnPress d d.prs.flActive (flPress d p) ≥ 16))
  | none => false

/-! ## Statistics (R217, R221) -/

def inCache (d : Device) (i : Nat) : Bool := (Tbl.getD d.prs.cache (cacheSet i) []).contains i || pinned d i

def bumpStat (t : Tbl W64) (k n : Nat) : Tbl W64 := Tbl.setD t k 0#64 (Tbl.getD t k 0#64 + BitVec.ofNat 64 n)

/-- Add to what a statistics line holds; a line that takes no writes loses it (R537, R542). -/
def addToLine (d : Device) (line : Nat) (l : List (Nat × W64)) : Device :=
  if l = [] then d
  else writeLine (if takesWrite d line
    then { d with ms := { d.ms with stats := l.foldl (fun t e => bumpStat t e.1 e.2.toNat) d.ms.stats } } else d) line

/-- Add to a statistic of an SA: on die while its context is cached, in DDR4 otherwise. -/
def addStat (d : Device) (i word n : Nat) : Device :=
  if inCache d i then { d with ms := { d.ms with acc := bumpStat d.ms.acc (16 * i + word) n } }
  else addToLine d (statLine i (word / 8)) [(16 * i + word, BitVec.ofNat 64 n)]

/-- Write an SA's accumulators to DDR4, each of its two lines at most once. -/
def flushStats (d : Device) (i : Nat) : Device :=
  let mine := d.ms.acc.filter (fun e => e.1 / 16 == i)
  let d := { d with ms := { d.ms with acc := d.ms.acc.filter (fun e => e.1 / 16 != i) } }
  (List.range 2).foldl (fun d k => addToLine d (statLine i k) (mine.filter (fun e => e.1 % 16 / 8 == k))) d

/-- STATS_WRITEBACK (R217). -/
def execStatsWriteback (s : State) : Host.Outcome State Fault Refusal :=
  let d := s.dev
  s.withDev (((d.ms.acc.map (fun e => e.1 / 16)).eraseDups).foldl flushStats d)

def statValue (d : Device) (k : Nat) : W64 := Tbl.getD d.ms.stats k 0#64 + Tbl.getD d.ms.acc k 0#64

/-- A context line, key record line or statistics line of the SA is under quarantine (R546). -/
def saQuarantined (d : Device) (i : Nat) : Bool :=
  [ctxLine i 0, ctxLine i 1, recLine i, statLine i 0, statLine i 1].any (quarantined d)

/-- STATE of Table 4-12. -/
def saState (d : Device) (i : Nat) (c : Sc) : Nat :=
  let x := saOf d i
  let f := fun (p : Sa → Bool) => match x with | some y => p y | none => false
  (if c.rx then 1 else 0) + (if installed d i then 2 else 0)
    + (if c.encAn == some (i % 4) && !c.rx then 4 else 0) + (if f Sa.exhausted then 8 else 0)
    + (if f Sa.nearSent then 16 else 0) + (if f Sa.oos || saQuarantined d i then 32 else 0)

/-- Word `k` of an SA's record. -/
def statWord (d : Device) (i : Nat) (c : Sc) (k : Nat) : Nat :=
  if k = 15 then saState d i c
  else if saQuarantined d i then 0
  else if c.rx then
    if k ≤ 10 then (statValue d (16 * i + k)).toNat
    else match saOf d i with
      | some x => if k = 11 then x.pn else if k = 12 then x.lowest else 0
      | none => 0
  else if k ≤ 4 then (statValue d (16 * i + k)).toNat
  else match saOf d i with
    | some x => if k = 5 then x.pn else 0
    | none => 0

def statRecord (d : Device) (i : Nat) : Bytes :=
  match scOf d (i / 4) with
  | some c => (List.range 16).flatMap (fun k => leBytes 8 (statWord d i c k))
  | none => zeros 128

def statsOwn (desc : Bytes) : List (Nat × Bool) := [zeroBits desc 22 0xFC] ++ zeroFrom desc 23 23 ++ zeroFrom desc 28 63

/-- The lines of the records read, through the protection unit (R528); none under quarantine. -/
def readStats (d : Device) (first n : Nat) : Device :=
  ((upFrom (statLine first 0) (2 * n)).filter (fun l => !quarantined d l)).foldl readLine d

def statsBody (o : Origin) (desc _buf : Bytes) (d : Device) : Verdict :=
  let first := leField desc 20 3
  let n := leField desc 24 4
  if o.bufLen ≠ 128 * n then failAt d .lengthError 16
  else if n = 0 ∨ n > 4096 then failAt d .badField 24
  else if first + n > 262144 then failAt d .badIndex 20
  else .done (readStats d first n) (fit 16 (leBytes 4 n)) (some ((upFrom first n).flatMap (statRecord d)))

/-- STATS_READ (R218-R221, R546). -/
def execStatsRead (r : Fin 64) (s : State) : Host.Outcome State Fault Refusal :=
  s.withDev (runCommand 0x0013 r anyRight statsOwn statsBody [] s.dev)

/-! ## SECY_SET and SECY_DEL (R201-R204) -/

def secyOf (desc : Bytes) : SecY :=
  let tx := leField desc 24 1
  let rx := leField desc 25 1
  { port := leField desc 22 1, suite := leField desc 23 1, protect := tx % 2 == 1, tagMode := bitsNat tx 2 1
    conf := bitsNat tx 4 3, validate := rx % 4, replay := bitsNat rx 2 2 == 1, implicitRx := bitsNat rx 3 3 == 1
    cls := leField desc 26 1, clearTags := leField desc 27 1, window := leField desc 28 4
    txVlan := leField desc 32 2 }

def secyOwn (desc : Bytes) : List (Nat × Bool) :=
  [zeroBits desc 21 0xFC, (23, leField desc 23 1 > 3),
   (24, leField desc 24 1 ≥ 32 || bitsNat (leField desc 24 1) 2 1 == 3),
   (25, leField desc 25 1 ≥ 16 || leField desc 25 1 % 4 == 3), (26, leField desc 26 1 > 7),
   (27, leField desc 27 1 > 2), (28, leField desc 28 4 > 2 ^ 30), zeroBits desc 33 0xF0] ++ zeroFrom desc 34 63

/-- The fields that an existing SecY with SCs may not change. -/
def fixedDiffers (a b : SecY) : Bool := a.port != b.port || a.suite != b.suite || a.tagMode != b.tagMode

/-- SecYs of a port other than `s`. -/
def companions (d : Device) (s p : Nat) : List (Nat × SecY) :=
  d.ms.secys.filter (fun e => e.1 != s && e.2.port == p)

/-- IMPLICIT_RX taken up or given up moves the receive SC's SCI out of or into the hash table (R170). -/
def rehash (d : Device) (s : Nat) (old new : SecY) : Option Device :=
  match rxScs d s with
  | c :: _ =>
    if new.implicitRx && !old.implicitRx then some (sciRemove d c)
    else if old.implicitRx && !new.implicitRx then
      match scOf d c with
      | some x => sciPlace d new.port x.sci c
      | none => some d
    else some d
  | [] => some d

def putSecy (d : Device) (s : Nat) (x : SecY) : Device := { d with ms := { d.ms with secys := Tbl.put d.ms.secys s x } }

/-- SECY_SET's conditions. ROLE_STALE comes after all others here, in SECY_DEL and in SC_DEL (DESIGN CHOICE, log 91: R770
orders it for SA_INSTALL, and no rule for these). -/
def secySetBody (_ : Origin) (desc _buf : Bytes) (d : Device) : Verdict :=
  let s := leField desc 20 2
  let x := secyOf desc
  let others := companions d s x.port
  if !isLine d x.port then failAt d .badField 22
  else if x.implicitRx && (others.any (fun e => e.2.implicitRx) || (rxScs d s).length > 1) then failAt d .badField 25
  else if isLink d x.port && others.any (fun e => e.2.txVlan == x.txVlan) then failAt d .badField 32
  else match secy d s with
    | some old =>
      if Tbl.any d.ms.scs (fun _ c => c.secy == s) && fixedDiffers old x then fail d .busyReferenced
      else if old.port ≠ x.port ∧ others.length ≥ 64 then fail d .noRoom
      else match rehash d s old x with
        | some e => if roleStale d then fail d .roleStale else .done (putSecy e s x) (zeros 16) none
        | none => fail d .noRoom
    | none =>
      if others.length ≥ 64 then fail d .noRoom
      else if roleStale d then fail d .roleStale
      else .done (putSecy d s x) (zeros 16) none

/-- SECY_SET (R201-R203). -/
def execSecySet (r : Fin 64) (s : State) : Host.Outcome State Fault Refusal :=
  s.withDev (runCommand 0x0100 r anyRight secyOwn secySetBody [] s.dev)

def secyDelOwn (desc : Bytes) : List (Nat × Bool) := zeroFrom desc 22 63

def secyDelBody (_ : Origin) (desc _buf : Bytes) (d : Device) : Verdict :=
  let s := leField desc 20 2
  if (secy d s).isNone then failAt d .badIndex 20
  else if Tbl.any d.ms.scs (fun _ c => c.secy == s) || !(flPortsOf d s).isEmpty then fail d .busyReferenced
  else if roleStale d then fail d .roleStale
  else .done { d with ms := { d.ms with secys := Tbl.del d.ms.secys s } } (zeros 16) none

/-- SECY_DEL (R204). -/
def execSecyDel (r : Fin 64) (s : State) : Host.Outcome State Fault Refusal :=
  s.withDev (runCommand 0x0101 r anyRight secyDelOwn secyDelBody [] s.dev)

/-! ## SC_SET and SC_DEL (R205-R207) -/

/-- Reserved bits of SC_SET. Bits 15 to 10 of SECY are neither of the field nor marked reserved: they are ignored (DESIGN CHOICE, log
91). -/
def scOwn (desc : Bytes) : List (Nat × Bool) :=
  [(24, decide (leField desc 24 1 > 1))] ++ zeroFrom desc 25 27 ++ zeroFrom desc 36 63

/-- A second transmit SC, a second receive SC of an implicit SecY, or an SCI that a receive SC of the port holds (R206);
the first offending offset. -/
def scClash (d : Device) (c s : Nat) (y : SecY) (rx : Bool) (sci : W64) : Option Nat :=
  let others := d.ms.scs.filter (fun e => e.1 != c)
  if !rx && others.any (fun e => e.2.secy == s && !e.2.rx) then some 24
  else if rx && y.implicitRx && others.any (fun e => e.2.secy == s && e.2.rx) then some 24
  else if rx && others.any (fun e => e.2.rx && e.2.sci == sci
      && (match secy d e.2.secy with | some z => z.port == y.port | none => false)) then some 28
  else none

/-- The association that excludes an SC (R322). -/
def scExcluded (d : Device) (c : Nat) : Bool := 49152 ≤ c && Tbl.has d.kn.assocs (c - 49152)

/-- SC_SET's conditions. An absent SECY is judged ahead of an installed SA, and ROLE_STALE after all others (DESIGN CHOICE, log 91:
the spec gives no order). -/
def scSetBody (_ : Origin) (desc _buf : Bytes) (d : Device) : Verdict :=
  let c := leField desc 20 2
  let s := leField desc 22 2 % 1024
  let rx := leField desc 24 1 == 1
  let sci := BitVec.ofNat 64 (beField desc 28 8)
  match secy d s with
  | none => failAt d .badIndex 22
  | some y =>
    if scExcluded d c || scHasSa d c then fail d .busyReferenced
    else match scOf d c with
      | some old =>
        if old.secy ≠ s then failAt d .badField 22
        else if old.rx ≠ rx then failAt d .badField 24
        else match scClash d c s y rx sci with
          | some off => failAt d .badField off
          | none =>
            match (if rx && !y.implicitRx then sciPlace (sciRemove d c) y.port sci c else some d) with
            | some e =>
              if roleStale d then fail d .roleStale
              else .done (bumpEpoch (setSc e c { old with sci := sci })) (zeros 16) none
            | none => fail d .noRoom
      | none =>
        match scClash d c s y rx sci with
        | some off => failAt d .badField off
        | none =>
          match (if rx && !y.implicitRx then sciPlace d y.port sci c else some d) with
          | some e =>
            if roleStale d then fail d .roleStale
            else .done (bumpEpoch (setSc e c { secy := s, rx := rx, sci := sci })) (zeros 16) none
          | none => fail d .noRoom

/-- SC_SET (R205, R206). -/
def execScSet (r : Fin 64) (s : State) : Host.Outcome State Fault Refusal :=
  s.withDev (runCommand 0x0102 r anyRight scOwn scSetBody [] s.dev)

/-- The SC goes; a deletion whose frames still hold one of its SAs keeps what they use of it (R250). -/
def removeSc (d : Device) (c : Nat) : Device :=
  let was := (scOf d c).bind (fun x => (secy d x.secy).map (fun y => (x, y)))
  let keep := fun (x : Deletion) => if x.sa / 4 = c ∧ x.was.isNone then { x with was := was } else x
  let d := sciRemove d c
  { d with ms := { d.ms with scs := Tbl.del d.ms.scs c, cuts := Tbl.keep d.ms.cuts (fun k _ => k / 128 != c)
                             deletions := d.ms.deletions.map keep } }

def scDelBody (_ : Origin) (desc _buf : Bytes) (d : Device) : Verdict :=
  let c := leField desc 20 2
  if (scOf d c).isNone then failAt d .badIndex 20
  else if scHasSa d c then fail d .busyReferenced
  else if roleStale d then fail d .roleStale
  else .done (bumpEpoch (removeSc d c)) (zeros 16) none

/-- SC_DEL (R207). -/
def execScDel (r : Fin 64) (s : State) : Host.Outcome State Fault Refusal :=
  s.withDev (runCommand 0x0103 r anyRight (fun desc => zeroFrom desc 22 63) scDelBody [] s.dev)

/-! ## Context cache (R122-R125, R160) -/

/-- SA_FETCH_WAIT counts the core cycles (8 to 3 ticks) in which a fetch waits beyond 1,536 outstanding. -/
def setFetching (d : Device) (l : List Nat) : Device :=
  let d := { d with prs := { d.prs with fetching := l } }
  match d.prs.waitSince with
  | some t =>
    if l.length ≤ 1536 then count { d with prs := { d.prs with waitSince := none } } (devCtr 1) ((d.clock - t) * 8 / 3)
    else d
  | none => if l.length > 1536 then { d with prs := { d.prs with waitSince := some d.clock } } else d

/-- Start the one fetch of an SA's context, unless it is out or the context is here. -/
def startFetch (d : Device) (i : Nat) : Device :=
  if inCache d i || d.prs.fetching.contains i then d else count (setFetching d (d.prs.fetching ++ [i])) (devCtr 0)

/-- A frame with a forme waits for the SA's context. -/
def contextWanted (d : Device) (i : Nat) : Bool :=
  Tbl.any d.prs.formes (fun _ x => x.stage == .wait && x.w.sa == some i)

/-- Evict a context: its statistics, and its PN line if changed, are written to DDR4. -/
def writeBack (d : Device) (i : Nat) : Device :=
  let d := flushStats d i
  match saOf d i with
  | some x => if x.dirty then writeLine (setSa d i { x with dirty := false }) (ctxLine i 1) else d
  | none => d

/-- Victims are written back; one that a frame still waits for is read again. -/
def evictSas (d : Device) (l : List Nat) : Device :=
  let d := l.foldl writeBack d
  (l.filter (contextWanted d)).foldl startFetch d

/-- A hit moves the context to the front of its set. -/
def touchSa (d : Device) (i : Nat) : Device :=
  let front := fun (l : List Nat) => if l.contains i then i :: l.filter (· != i) else l
  { d with prs := { d.prs with cache := Tbl.modifyD d.prs.cache (cacheSet i) [] front } }

/-- A set holds 16 entries with its pinned ones, which are never the victim. -/
def fitSet (d : Device) (set : Nat) (l : List Nat) : Device :=
  let l := l.filter (fun i => !pinned d i)
  let ways := 16 - pinnedInSet d (d.prs.flActive.map (flSecy d)) set
  evictSas { d with prs := { d.prs with cache := Tbl.setD d.prs.cache set [] (l.take ways) } } (l.drop ways)

/-- A fetched context enters its set. -/
def fillSa (d : Device) (i : Nat) : Device :=
  if pinned d i then d
  else fitSet d (cacheSet i) (i :: (Tbl.getD d.prs.cache (cacheSet i) []).filter (· != i))

/-- A press keeps 64 keys with its pinned ones. -/
def fitKeys (d : Device) (m : Nat) (x : Press) : Press :=
  let isPinned := fun i => d.prs.flActive.any (fun p => some (flSecy d p) == saSecy d i && flPress d p == m)
  { x with keys := (x.keys.filter (fun i => !isPinned i)).take (64 - pinnedOnPress d d.prs.flActive m) }

/-- After a context or a key has been pinned, the caches hold no more than their size (R122, R132). -/
def fitCaches (d : Device) : Device :=
  let d := d.prs.cache.foldl (fun d e => fitSet d e.1 e.2) d
  { d with prs := { d.prs with presses := Tbl.mapVals d.prs.presses (fitKeys d) } }

/-! ## Keys from slots (R209, R210, R770, R354) -/

/-- Steps 5 to 7 of R770: the key that KIND and KEY_SLOT, at `off` in the descriptor, give, `len` bytes. -/
def slotKey (d : Device) (fn kind slotNo off len : Nat) (buf : Bytes) : Device × Except (Status × Bytes) Bytes :=
  let s := slot d slotNo
  if !slotInRange d fn slotNo || s.state == 0 then (d, .error (.badIndex, leBytes 2 off))
  else if !hasAttr s.attr (if kind = 0 then aUNWRAP else aDATAPLANE) then (d, .error (plain .keyAttrDenied))
  else if kind = 0 ∧ s.type = 0 ∧ len = 32 then (d, .error (plain .keyAttrDenied))
  else
    let r := goodAndFresh d slotNo
    match r.2 with
    | some st => (r.1, .error (plain st))
    | none =>
      if kind = 0 then
        match unwrapKey 0 len s.key buf with
        | some k => (r.1, .ok k)
        | none => (r.1, .error (plain .inputRejected))
      else if s.key.length = len then (r.1, .ok s.key)
      else (r.1, .error (.badField, leBytes 2 off))

/-! ## SA_INSTALL (R208-R214, R770) -/

def saOwn (desc : Bytes) : List (Nat × Bool) :=
  [zeroBits desc 22 0xFC] ++ zeroFrom desc 23 23
    ++ [(24, decide (leField desc 24 1 > 1)), (25, leField desc 24 1 == 0 && decide (leField desc 25 1 > 1))] ++ zeroFrom desc 52 63

/-- Step 3 of R770. -/
def suiteBad (suite op : Nat) (desc : Bytes) : Option Nat :=
  let pn := leField desc 28 8
  if pn = 0 ∨ pn > maxPn suite then some 28
  else if op = 0 ∧ !xpn suite then
    if beField desc 36 4 ≠ 0 then some 36 else if beField desc 40 12 ≠ 0 then some 40 else none
  else none

/-- OP 1: raise the PN, or the two receive values (R213). -/
def raisePn (d : Device) (i pn : Nat) (rx : Bool) : Device × Bool :=
  match saOf d i with
  | some x =>
    let y := { x with pn := max x.pn pn, lowest := if rx then max x.lowest pn else x.lowest }
    if y = x then (d, false)
    else
      let d := setSa d i { y with dirty := true }
      (if rx then d else topMark d i y.pn (maxPn y.suite), true)
  | none => (d, false)

/-- The commit of OP 0: key record, context, cleared statistics and, on an ACTIVE member, the first reservation block
(R211, R259). Where a frozen group takes none of it, the SA is out of service (R537). -/
def installSa (d : Device) (i suite pn : Nat) (rx : Bool) (desc key : Bytes) : Device :=
  let x : Sa := { suite := suite, salt := slice desc 40 12, ssci := BitVec.ofNat 32 (beField desc 36 4), pn := pn
                  lowest := if rx then pn else 0 }
  let d := setSa (writeRec d i (if aes256 suite then 1 else 0) key) i x
  let clear := fun (t : Tbl W64) => Tbl.keep t (fun k _ => k / 16 != i)
  let d := { d with ms := { d.ms with stats := clear d.ms.stats, acc := clear d.ms.acc }
                    duet := { d.duet with marks := Tbl.del d.duet.marks i } }
  let d := writeLines d [recLine i, ctxLine i 0, ctxLine i 1, statLine i 0, statLine i 1]
  let d := if pinned d i then fitCaches d else d
  if [recLine i, ctxLine i 0, ctxLine i 1].all (writable d) then d else saOut d i

def saInstallBody (o : Origin) (desc buf : Bytes) (d : Device) : Verdict :=
  let i := leField desc 20 3
  let op := leField desc 24 1
  let pn := leField desc 28 8
  match scOf d (i / 4) with
  | none => failAt d .badIndex 20
  | some c =>
    let suite := scSuite d (i / 4)
    if op = 1 ∧ !installed d i then failAt d .badIndex 20
    else if saQuarantined d i ∨ (op = 0 ∧ (saOf d i).isSome) then fail d .busyReferenced
    else match suiteBad suite op desc with
      | some off => failAt d .badField off
      | none =>
        if op = 1 then
          if roleStale d then fail d .roleStale
          else
            let r := raisePn d i pn c.rx
            .done r.1 (fit 16 [if r.2 then 1#8 else 0#8]) none
        else
          let kind := leField desc 25 1
          if o.bufLen ≠ (if kind = 0 then suiteKeyLen suite + 8 else 0) then failAt d .lengthError 16
          else
            let r := slotKey d o.fn kind (leField desc 26 2) 26 (suiteKeyLen suite) buf
            match r.2 with
            | .error (st, res) => .fail r.1 st (fit 16 res)
            | .ok key =>
              if pinFull d i || recFull d i then fail r.1 .noRoom
              else if roleStale d then fail r.1 .roleStale
              else .done (installSa r.1 i suite pn c.rx desc key) (zeros 16) none

/-- A transmit SA that an ACTIVE member has just installed asks for its first block, after the MIRROR of its SA_INSTALL, so
that the standby has the SA when the MARK comes (R256, R259, R579). -/
def firstMarks (d : Device) : Device :=
  if d.duet.role = .active then
    let new := d.ms.sas.filter (fun e => !e.2.deleting && !Tbl.has d.duet.marks e.1
      && (match scOf d (e.1 / 4) with | some c => !c.rx | none => false))
    new.foldl (fun d e => requestMark d false e.1 (min (e.2.pn + markBlock d) (maxPn e.2.suite + 1))) d
  else d

/-- SA_INSTALL (R208-R214, R770). -/
def execSaInstall (r : Fin 64) (buf : Bytes) (s : State) : Host.Outcome State Fault Refusal :=
  s.withDev (firstMarks (runCommand 0x0104 r anyRight saOwn saInstallBody buf s.dev))

/-! ## Erasing an SA (R252, R546, R549) -/

/-- Remove an SA from both caches. -/
def uncacheSa (d : Device) (i : Nat) : Device :=
  { d with prs := { d.prs with
      cache := Tbl.modifyD d.prs.cache (cacheSet i) [] (fun l => l.filter (· != i))
      presses := Tbl.mapVals d.prs.presses (fun _ x => { x with keys := x.keys.filter (· != i) }) } }

/-- The SA goes: context, record and cached keys; statistics remain. What lies under quarantine waits for its rebuild. -/
def eraseSa (d : Device) (i : Nat) : Device :=
  let d := uncacheSa (flushStats d i) i
  let d := { d with ms := { d.ms with sas := Tbl.del d.ms.sas i }
                    duet := { d.duet with marks := Tbl.del d.duet.marks i }
                    mem := if saQuarantined d i then { d.mem with eraseLater := d.mem.eraseLater ++ [i] } else d.mem }
  writeLines (eraseRecord d i) [ctxLine i 0, ctxLine i 1]

/-- Forget an encoding AN that names the SA (R250). -/
def unencode (d : Device) (i : Nat) : Device :=
  match scOf d (i / 4) with
  | some c => if c.encAn = some (i % 4) then setSc d (i / 4) { c with encAn := none } else d
  | none => d

/-! ## The PN threshold register (R216) -/

/-- A write of PRS_SECY_PN_THRESH_HI[n]: the threshold of both halves takes effect (R216). -/
def writeThresh (d : Device) (n : Nat) (val : W32) : Device :=
  let d := setReg d (0x142004 + 8 * n) val
  let t := (reg d (0x142000 + 8 * n)).toNat + 2 ^ 32 * val.toNat
  { d with ms := { d.ms with thresholds := Tbl.setD d.ms.thresholds n 0 t } }

/-- PRS_SECY_PN_THRESH_HI_WRITE (R216). -/
def execPrsSecyPnThreshHiWrite (s : Fin 1024) (val : W32) (st : State) : Host.Outcome State Fault Refusal :=
  st.withDev (writeThresh st.dev s val)

end Sys2Proof.Machine
end

