-- ==== Sys2Proof/Machine/FramePath.lean ====
section
/-!
DEFINITION. The frame path's shared operations (03, 09, 17): formes, frame memory, the Galley's queues as places a frame
leaves, drops, and sampling.
-/
namespace Sys2Proof.Machine

/-! ## Formes (R116-R121) -/

def forme? (d : Device) (f : Nat) : Option Forme := Tbl.get? d.prs.formes f
def setForme (d : Device) (f : Nat) (x : Forme) : Device :=
  { d with prs := { d.prs with formes := Tbl.put d.prs.formes f x } }
def removeForme (d : Device) (f : Nat) : Device :=
  { d with prs := { d.prs with formes := Tbl.del d.prs.formes f } }

def fifoOf (d : Device) (p : Nat) : List Work := Tbl.getD d.prs.fifo p []
def setFifo (d : Device) (p : Nat) (l : List Work) : Device :=
  { d with prs := { d.prs with fifo := Tbl.setD d.prs.fifo p [] l } }

/-- Bytes of a frame that have arrived by now at its port's counted rate; a frame classified whole has arrived. -/
def arrivedBytes (d : Device) (w : Work) : Nat :=
  if w.whole then frameLen w.data
  else min (frameLen w.data) ((d.clock - w.arrival) * 2 * portRate d w.ing / 8000)

/-- Its last byte has passed stage 2. -/
def arrivedWhole (d : Device) (w : Work) : Bool := arrivedBytes d w == frameLen w.data

/-- Clock at which the last byte of a frame has passed stage 2. -/
def arrivalEnd (d : Device) (w : Work) : Nat :=
  if w.whole then d.clock else w.arrival + (4000 * frameLen w.data + portRate d w.ing - 1) / max 1 (portRate d w.ing)

/-- Cells a frame occupies (R118). -/
def cellsOf (len : Nat) : Nat := (len + 255) / 256

/-- Length of a forme's frame as it leaves, FCS included. -/
def outLen (x : Forme) : Nat := frameLen (if x.out = [] then x.w.data else x.out)

/-- All its cells are written: it has arrived, and its press has finished. -/
def cellsWritten (d : Device) (x : Forme) : Bool := arrivedWhole d x.w && x.done

/-- Bytes of the leaving frame that are behind the press: what has arrived, with the SecTAG that was put in front of it or without the
one taken out; an ICV comes last. -/
def pressedBytes (d : Device) (x : Forme) : Nat :=
  let n := frameLen x.w.data
  let a := arrivedBytes d x.w
  if cellsWritten d x then outLen x
  else if n < outLen x then min (a + (outLen x - n - 16)) (outLen x - 16)
  else if outLen x < n then min (a - (match secTag? d x.w.ing x.w.data with | some t => t.len | none => 0)) (outLen x)
  else a

/-- Frame-memory cells of a frame: those whose bytes no Galley cell has taken yet (R118, R403). -/
def heldCells (d : Device) (x : Forme) : Nat :=
  if x.queue.isSome then (if cellsWritten d x then 0 else cellsOf (frameLen x.w.data) - pressedBytes d x / 256)
  else cellsOf (frameLen x.w.data)

/-- Frame-memory cells in use. -/
def memoryCells (d : Device) : Nat := (d.prs.formes.map (fun e => heldCells d e.2)).sum

def ordinaryFormes (d : Device) : Nat := (d.prs.formes.filter (fun e => e.1 < 16128)).length

/-- Key of an order flow (R135). -/
def flowKey (w : Work) : Nat := (w.ing * 8 + w.cls) * 128 + w.eg
def sameFlow (a b : Work) : Bool := a.ing == b.ing && a.cls == b.cls && a.eg == b.eg

/-- The forme holds its SA until the reorder unit releases it (R251), or, in the fixed-latency class, until its press is done
with it. -/
def holdsSa (x : Forme) (i : Nat) : Bool :=
  x.w.sa == some i && (x.stage == .wait || x.stage == .press || (x.w.fl && !x.settled))
def saHeld (d : Device) (i : Nat) : Bool :=
  Tbl.any d.prs.formes (fun _ x => holdsSa x i) || Tbl.any d.prs.fifo (fun _ l => l.any (fun w => w.sa == some i))

/-! ## Sampling (R727, R728) -/

/-- One step of the sampling LFSR (taps 32, 22, 2, 1). -/
def lfsrStep (x : W32) : W32 :=
  let b := x.getLsbD 31 ^^ x.getLsbD 21 ^^ x.getLsbD 1 ^^ x.getLsbD 0
  (x <<< 1) ||| (if b then 1#32 else 0#32)

def sampleRate (d : Device) : Nat :=
  let k := field d 0x230010 4 0
  if 8 ≤ k ∧ k ≤ 24 then k else 16

/-- A frame that passes stage 2: it advances the LFSR where sampling covers its direction, and is sampled when the low
bits are 0. -/
def sampleFrame (d : Device) (dec : Bool) : Device × Bool :=
  let dir := field d 0x230010 30 29
  if bit (reg d 0x230010) 31 && (dir == 0 || dir == 3 || (dir == 1 && !dec) || (dir == 2 && dec)) then
    let x := lfsrStep d.rcd.lfsr
    ({ d with rcd := { d.rcd with lfsr := x } }, x.toNat % 2 ^ sampleRate d == 0)
  else (d, false)

/-- STAGE_TIME of a sampled frame at entry to stage `k`. -/
def stampedAt (t : Nat) (w : Work) (k : Nat) : Work :=
  if w.sampled then { w with times := w.times.set (k - 2) (w32 t) } else w
def stamped (d : Device) (w : Work) (k : Nat) : Work := stampedAt d.clock w k

def noTimes : List W32 := List.replicate 9 0#32

/-- The sample record (Table 17-7). OUTCOME: 0 sent, 1 dropped, 2 stomped, 3 evicted, 4 flushed. -/
def sampleBytes (d : Device) (w : Work) (press len pn seq outcome stage : Nat) : Bytes :=
  leBytes 2 1 ++ leBytes 1 ((if w.dec then 1 else 0) + (if w.fl then 2 else 0) + 4 * w.action) ++ leBytes 1 w.cls
    ++ leBytes 1 w.ing ++ leBytes 1 w.eg ++ leBytes 1 press ++ leBytes 1 outcome ++ leBytes 4 (w.sa.getD 0)
    ++ leBytes 2 w.epoch ++ leBytes 2 len ++ leBytes 8 pn ++ leBytes 8 (w.arrival % 2 ^ 56)
    ++ w.times.flatMap (fun t => leBytes 4 t.toNat) ++ leBytes 1 stage ++ [0#8] ++ leBytes 2 seq
    ++ leBytes 4 d.rcd.powerCycles.toNat

def sampleWork (d : Device) (w : Work) (outcome stage : Nat) : Device :=
  if w.sampled then count (sendSample d (fit 128 (sampleBytes d w 0 0 0 0 outcome stage))) (devCtr 59) else d

def sampleForme (d : Device) (x : Forme) (outcome stage : Nat) : Device :=
  if x.w.sampled then
    count (sendSample d (fit 128 (sampleBytes d x.w (x.press.getD 0) (if stage = 0 then outLen x else 0) x.pn
      (x.seq % 2 ^ 16) outcome stage))) (devCtr 59)
  else d

/-! ## Digest values of frames (R582, R583) -/

def clearTuple (w : Work) : Bytes := [0x02#8] ++ beBytes 1 w.eg ++ beBytes 1 w.action

/-- The value of a frame that no press has ciphered or validated. -/
def valueClear (d : Device) (w : Work) (localDrop : Bool) : Device :=
  addTuple d w.ing w.no w.win (clearTuple w) none 0 localDrop

/-- A window that already has the frame's value becomes void. -/
def voidWindow (d : Device) (p : Nat) (win : Option Nat) : Device :=
  match win with
  | some w =>
    let g := digestOf d p
    setDigest d p { g with opened := Tbl.modify g.opened w (fun x => { x with void := true }) }
  | none => d

/-! ## Leaving the Galley's queues (R404, R426, R428) -/

def queueOf (d : Device) (q : Nat) : List Nat := Tbl.getD d.gal.queues q []

/-- Take a forme out of its Galley queue; an emptied queue loses its deficit. -/
def unqueue (d : Device) (f : Nat) (x : Forme) : Device :=
  match x.queue with
  | some q =>
    let l := (queueOf d q).filter (· != f)
    let g := { d.gal with queues := Tbl.setD d.gal.queues q [] l }
    let g := if l = [] then
        { g with deficit := Tbl.setD g.deficit q 0 0 }
      else g
    { d with gal := g }
  | none => { d with prs := { d.prs with staged := Tbl.modifyD d.prs.staged x.w.eg [] (fun l => l.filter (· != f)) } }

/-- Free the Galley cells a frame was written to. -/
def freeCells (d : Device) (x : Forme) : Device :=
  let used := x.banks.foldl (fun t b => Tbl.setD t b 0 (Tbl.getD t b 0 - 1)) d.gal.bankUsed
  { d with gal := { d.gal with bankUsed := used } }

/-! ## Map changes (R425) -/

def pairInGalley (d : Device) (eg ing : Nat) : Bool :=
  Tbl.any d.prs.formes (fun _ x => x.queue.isSome && x.w.eg == eg && x.w.ing == ing)

def pairKey (eg ing : Nat) : Nat := 128 * eg + ing

/-- A map change takes effect, and its QUEUE_SET commits. -/
def commitRemap (d : Device) (r : Remap) : Device :=
  let k := pairKey r.eg r.ing
  let map := match r.group with
    | some g => Tbl.put d.gal.map k g
    | none => Tbl.del d.gal.map k
  let d := { d with gal := { d.gal with map := map, remaps := d.gal.remaps.erase r } }
  match r.origin with
  | some o => mirrorThenPost d 0x0212 r.desc [] (dueOf d o .ok (zeros 16) false)
  | none => d

/-- The pair's map changes take effect in the order of their commands: behind the first, none of its frames is left in a group. -/
def commitPair (d : Device) (eg ing : Nat) : Device :=
  (d.gal.remaps.filter (fun r => r.eg == eg && r.ing == ing)).foldl commitRemap d

/-- Map changes whose old group no longer holds the pair's frames take effect. -/
def settleRemaps (d : Device) : Device :=
  (d.gal.remaps.filter (fun r => !pairInGalley d r.eg r.ing)).foldl commitRemap d

/-! ## The ingress FIFO (R113, R118, R119) -/

/-- Length without SecTAG and ICV, which R144 limits on a Line port. -/
def plainLen (d : Device) (w : Work) : Nat :=
  match (if w.dec then secTag? d w.ing w.data else none) with
  | some t => frameLen w.data - t.len - 16
  | none => frameLen w.data

/-- A frame that exceeds its limit is counted (R146). -/
def tooLongDrop (d : Device) (w : Work) : Device :=
  let d := count d (portCtr 1 w.ing)
  match (if w.dec then none else w.secy) with
  | some s => count d (secyCtr 2 s)
  | none => d

/-- A frame is counted where it is beyond its limit (R146). -/
def judgeLength (d : Device) (w : Work) : Device := if plainLen d w > 16383 then tooLongDrop d w else d

/-- A classified frame without a forme is dropped at a stage; one that is still arriving has its length judged (R146). -/
def dropWork (d : Device) (w : Work) (stage : Nat) (localDrop : Bool) : Device :=
  sampleWork (valueClear (if w.whole then d else judgeLength d w) w localDrop) w 1 stage

/-- A frame that is dropped before the length of a whole frame has been judged. -/
def dropNew (d : Device) (w : Work) (stage : Nat) (localDrop : Bool) : Device :=
  dropWork (if w.whole then judgeLength d w else d) w stage localDrop

/-- FIFO size in bytes: 1 µs at the counted rate, rounded up to 64. -/
def fifoSize (d : Device) (p : Nat) : Nat := (portRate d p / 8 + 63) / 64 * 64

/-- Bytes that a FIFO holds; a frame that the device starts itself passes none. -/
def fifoHeld (d : Device) (p : Nat) : Nat := (((fifoOf d p).filter (fun w => !w.agent)).map (arrivedBytes d)).sum

/-- Formes and cells are free for an ordinary frame that needs `cells`. -/
def roomFor (d : Device) (cells : Nat) : Bool := ordinaryFormes d < 16128 && memoryCells d + cells ≤ 32768

/-- An ordinary frame can take a forme and its cells (R118). -/
def canAllocate (d : Device) (w : Work) : Bool := roomFor d (cellsOf (frameLen w.data))

/-- INGRESS_OVERRUN, at most once a millisecond (R161). -/
def countOverrun (d : Device) (p : Nat) : Device :=
  let d := count d (portCtr 0 p)
  let x := limited d (Tbl.getD d.prs.overruns p {})
  let d := { d with prs := { d.prs with overruns := Tbl.put d.prs.overruns p x.1 } }
  match x.2 with
  | some n => emit d .forward 0x31 (leBytes 1 p ++ leBytes 4 n)
  | none => d

/-- The frame whose bytes arrive last overflows a full FIFO: it is dropped whole. One that was here whole when it found the FIFO
empty has overflowed nothing: it moves on as it arrives. -/
def settleFifo (d : Device) (p : Nat) : Device :=
  match (fifoOf d p).getLast? with
  | some w =>
    if fifoHeld d p > fifoSize d p ∧ !w.agent ∧ !(w.whole && (fifoOf d p).length == 1) then
      countOverrun (dropWork (setFifo d p (fifoOf d p).dropLast) w 2 true) p
    else d
  | none => d

/-- Allocation stops for a frame that finds no forme or too few cells (R119). -/
def stopAlloc (d : Device) (w : Work) : Device :=
  if d.prs.stop.isSome then d
  else { d with prs := { d.prs with stop := some { since := d.clock, cells := cellsOf (frameLen w.data) } } }

/-- Allocation resumes once there is room again. FORME_EMPTY counts the core cycles (8 to 3 ticks) of the stop, and what
overflowed meanwhile is dropped. -/
def resumeAlloc (d : Device) : Device :=
  match d.prs.stop with
  | some x =>
    if roomFor d x.cells then
      let d := (d.prs.fifo.map Prod.fst).foldl settleFifo d
      count { d with prs := { d.prs with stop := none } } (devCtr 2) ((d.clock - x.since) * 8 / 3)
    else d
  | none => d

/-! ## The end of a forme (R121) -/

/-- A byte of the frame has left: a fixed-latency frame's first one leaves at its launch time (R150). -/
def hasLeft (d : Device) (x : Forme) : Bool := x.stage == .sending && (!x.w.fl || decide (x.launch.getD 0 ≤ d.clock))

/-- A fixed-latency frame enters stage 10 at its launch time, if it is still there then. -/
def launched (d : Device) (x : Forme) : Forme :=
  if x.w.fl && hasLeft d x then { x with w := stampedAt (x.launch.getD 0) x.w 10 } else x

/-- A forme and its cells are released, with its sample record. -/
def endForme (d : Device) (f : Nat) (x : Forme) (outcome stage : Nat) : Device :=
  let d := freeCells (unqueue d f x) x
  let d := { d with prs := { d.prs with tx := Tbl.keep d.prs.tx (fun _ g => g != f) } }
  resumeAlloc (settleRemaps (removeForme (sampleForme d (launched d x) outcome stage) f))

/-- Stage at which a forme now stands. -/
def stageNo (x : Forme) : Nat :=
  match x.stage with
  | .wait => 6 | .press => (if x.done then 8 else 7) | .queued => 9 | .sending => 10

/-- A frame with a forme is dropped, and counted if it is still arriving and beyond its limit (R146). Its digest value is added
if it has none; a local cause voids its window. -/
def dropOnly (d : Device) (f : Nat) (x : Forme) (outcome : Nat) (localDrop : Bool) : Device :=
  let d := if x.w.whole then d else judgeLength d x.w
  let d := if x.settled then (if localDrop then voidWindow d x.w.ing x.w.win else d) else valueClear d x.w localDrop
  endForme d f x outcome (stageNo x)

/-- What the last byte shows of a frame that was classified before it was here: true for a length beyond the limit, false
for a bad FCS (R139, R146). -/
def lateFault (d : Device) (w : Work) : Option Bool :=
  if w.whole || !arrivedWhole d w then none
  else if plainLen d w > 16383 then some true
  else if w.badFcs then some false
  else none

/-- The bytes of a forme's frame up to its limit. -/
def cutOut (d : Device) (x : Forme) : Bytes := x.out.take (x.out.length - (plainLen d x.w - 16383))

/-! ## Launch and transmission -/

/-- A frame leaves its port: counted, and visible outside where the port is not muted (R772). -/
def transmit (d : Device) (p : Nat) (data : Bytes) (stomped : Bool) : Device :=
  if muted d then count d (devCtr 60)
  else send (count (count d (portCtr 51 p)) (portCtr 53 p) (frameLen data)) (.frame p data stomped)

/-! ## Frames of one SA in dispatch order (R127) -/

/-- Frames of an SA that wait for dispatch: in FIFOs, or with a forme at stages 5 and 6. -/
def waitingFor (d : Device) (i : Nat) : Bool :=
  Tbl.any d.prs.formes (fun _ x => x.stage == .wait && x.w.sa == some i)
    || Tbl.any d.prs.fifo (fun _ l => l.any (fun w => w.sa == some i))

end Sys2Proof.Machine
end

