-- ==== Sys2Proof/Machine/Outcomes.lean ====
section
/-!
DEFINITION. The outcomes of received frames (Table 4-3, R193-R200), and the frames that are dropped: a frame of a receive SA
that goes lets those behind it take theirs (R135, R199).
-/
namespace Sys2Proof.Machine

/-! ## What a port's registers say of a received frame -/

def clsCfg (d : Device) (p : Nat) : W32 := reg d (0x100000 + 4 * p)
def domainOf (d : Device) (p : Nat) (data : Bytes) : Nat :=
  if bit (clsCfg d p) 27 then (outerVlan (frameTags d p data)).getD (bits (clsCfg d p) 11 0)
  else bits (clsCfg d p) 11 0

/-- A frame teaches its source address under its port, a Client frame at its lookup, a Line frame when it is delivered (R381). In
LINK a Client frame's lookup is that of its SecY (DEDUCED, log 91). -/
def teach (d : Device) (p : Nat) (data : Bytes) (s : Nat) : Device :=
  if bit (clsCfg d p) 28 then learn d (domainOf d p data) (srcMac data) p s else d

/-- Port time-stamp on its base, in quarters of a nanosecond (R659). -/
def portCfgTime (d : Device) (p : Nat) : W32 := reg d (0x220400 + 4 * p)

/-- PTP MODE of a port: 3 is treated as 0. -/
def ptpMode (d : Device) (p : Nat) : Nat := let m := bits (portCfgTime d p) 31 30; if m = 3 then 0 else m
def ptpBase (d : Device) (p : Nat) : Nat := bits (portCfgTime d p) 29 28

/-- A frame in the clear that the port hands to the PTP agent instead of forwarding it (R661). -/
def forAgent (d : Device) (p : Nat) (data : Bytes) : Bool := ptpMode d p == 2 && (ptpAt (tpidOk d p) data).isSome

/-! ## Outcomes (R193-R200) -/

/-- The frame without its SecTAG and ICV: clear tags stay, padding goes (R193, R194). One that is then shorter than 64 bytes is not
padded (DESIGN CHOICE, log 91: the spec does not say). -/
def stripped (d : Device) (w : Work) (plain : Bytes) : Bytes :=
  match secTag? d w.ing w.data with
  | some t => w.data.take t.off ++ plain
  | none => w.data

/-- The secure data of a received frame as it stands on the wire. -/
def secureData (d : Device) (w : Work) : Bytes :=
  match secTag? d w.ing w.data with
  | some t => match secureSpan t w.data with
    | some (lo, n) => slice w.data lo n
    | none => []
  | none => []

/-- CT_STOMP, at most once a millisecond. -/
def countStomp (d : Device) (p i pn : Nat) : Device :=
  let d := addStat (count d (portCtr 3 p)) i 10 1
  let x := limited d (Tbl.getD d.prs.stomps p {})
  let d := { d with prs := { d.prs with stomps := Tbl.put d.prs.stomps p x.1 } }
  match x.2 with
  | some n => emit d .macsec 0x30 (leBytes 1 p ++ leBytes 4 i ++ leBytes 8 pn ++ leBytes 4 n)
  | none => d

/-- A received frame is discarded: dropped, or stomped where it is leaving. -/
def discardRx (d : Device) (f i : Nat) (x : Forme) : Device :=
  if hasLeft d x then countStomp (setForme d f { x with stomped := true }) x.w.ing i x.pn
  else dropOnly d f x 1 false

/-- A received frame is delivered: to the agent where it is PTP on an AGENT port, else on its way. -/
def deliverRx (d : Device) (f : Nat) (x : Forme) : Device :=
  if forAgent d x.w.ing x.out && x.stage != .sending then dropOnly d f x 0 false else setForme d f x

/-- The outcome of Table 4-3 from step 7 on: step, statistic, delivered. -/
def rxOutcome (y : SecY) (a : Sa) (c icvOk : Bool) (pn : Nat) : Nat × Nat × Bool :=
  if y.validate = 0 then (7, 5, true)
  else if !icvOk then (if y.validate = 2 ∨ c then (8, 2, false) else (8, 1, true))
  else if pn < a.lowest then (if y.replay then (9, 7, false) else (10, 6, true))
  else (11, 0, true)

/-- The receive SA after a frame (R198, R200). -/
def rxUpdate (y : SecY) (a : Sa) (step pn : Nat) : Sa :=
  if 9 ≤ step then
    let next := if a.pn ≤ pn then pn + 1 else a.pn
    { a with pn := next, lowest := max a.lowest (next - y.window), seen := a.seen || step == 11, dirty := true }
  else a

/-- A finished receive frame takes its outcome. -/
def settleFrame (d : Device) (f i : Nat) (x : Forme) : Device :=
  match saOf d i, x.rules, secTag? d x.w.ing x.w.data with
  | some a, some y, some t =>
    let r := rxOutcome y a t.c x.icvOk x.pn
    let d := addStat d i r.2.1 1
    let d := if 8 ≤ r.1 then addStat d i (if t.e then 9 else 8) (secureData d x.w).length else d
    let d := setSa d i (rxUpdate y a r.1 x.pn)
    let d := if r.1 = 11 ∧ !a.seen then
        emit d .macsec 0x03 (leBytes 2 (x.w.secy.getD 0) ++ leBytes 4 i ++ leBytes 8 x.pn)
      else d
    let d := if r.1 = 10 ∨ r.1 = 11 then teach d x.w.ing x.w.data (x.w.secy.getD 0) else d
    let tuple := [0x01#8] ++ beBytes 3 i ++ beBytes 8 x.pn ++ beBytes 1 r.1
    let d := addTuple d x.w.ing x.w.no x.w.win tuple (some i) x.pn false
    let x := { x with settled := true, step := r.1 }
    if r.2.2 then deliverRx d f x else discardRx d f i x
  | _, _, _ => dropOnly d f x 1 false

/-- The earliest dispatched frame of a receive SA whose outcome has not been taken. -/
def firstUnsettled (d : Device) (i : Nat) : Option (Nat × Forme) :=
  (d.prs.formes.filter (fun e => e.2.w.sa == some i && e.2.w.dec && e.2.press.isSome && !e.2.settled)).foldl
    (fun best e => match best with
      | some b => if e.2.w.no < b.2.w.no then some e else some b
      | none => some e) none

/-- Outcomes are taken in dispatch order (R199). -/
def settleSa (i : Nat) : Nat → Device → Device
  | 0, d => d
  | n + 1, d =>
    match firstUnsettled d i with
    | some (f, x) => if x.done then settleSa i n (settleFrame d f i x) else d
    | none => d

/-- A frame that is gone lets the frames behind it in its receive SA take their outcomes. -/
def settleAfter (x : Forme) (d : Device) : Device :=
  match x.w.sa with
  | some i => if x.w.dec then settleSa i (d.prs.formes.length + 1) d else d
  | none => d

/-! ## Drops (R121, R135, R139, R146) -/

/-- A frame with a forme is dropped. -/
def dropForme (d : Device) (f : Nat) (x : Forme) (outcome : Nat) (localDrop : Bool) : Device :=
  settleAfter x (dropOnly d f x outcome localDrop)

/-- Such a frame is stomped where it is leaving, else dropped (R139, R146); the port is then free for the next express
frame. -/
def endBad (d : Device) (f : Nat) (x : Forme) (tooLong : Bool) : Device :=
  let d := if tooLong then tooLongDrop d x.w else d
  if hasLeft d x then
    let d := if tooLong ∨ x.w.dec then d else count d (portCtr 2 x.w.ing)
    setForme d f { x with stomped := true, out := if tooLong then cutOut d x else x.out, w := { x.w with whole := true } }
  else
    let d := if x.w.fl then { d with prs := { d.prs with flBusy := Tbl.put d.prs.flBusy x.w.eg d.clock } } else d
    dropForme d f { x with w := { x.w with whole := true } } 1 false

/-- A frame is judged once its last byte is here. -/
def judgeArrived (d : Device) (f : Nat) : Device :=
  match forme? d f with
  | some x => match lateFault d x.w with
    | some long => endBad d f x long
    | none => d
  | none => d

/-- The frames of `p` are dropped, each followed by what its drop counts. -/
def dropWhere (d : Device) (p : Forme → Bool) (outcome : Nat) (localDrop : Bool) (each : Device → Forme → Device) :
    Device :=
  ((d.prs.formes.filter (fun e => p e.2)).map Prod.fst).foldl
    (fun d f => match forme? d f with
      | some x => each (dropForme d f x outcome localDrop) x
      | none => d) d

end Sys2Proof.Machine
end

