-- ==== Sys2Proof/Machine/Turns.lean ====
section
/-!
DEFINITION. Key turns and SA deletion (05): SA_ENABLE_TX, turn groups, scheduled turns, turns on a Duet, and the drain
fence.
-/
namespace Sys2Proof.Machine

/-! ## Frames that wait for dispatch -/

/-- Change the classified frames that have not been dispatched. -/
def mapWaiting (d : Device) (g : Work → Work) : Device :=
  { d with prs := { d.prs with
      fifo := Tbl.mapVals d.prs.fifo (fun _ l => l.map g)
      formes := Tbl.mapVals d.prs.formes (fun _ x => if x.stage = .wait then { x with w := g x.w } else x) } }

def waitingWorks (d : Device) : List Work :=
  d.prs.fifo.flatMap Prod.snd ++ (d.prs.formes.filter (fun e => e.2.stage == .wait)).map (fun e => e.2.w)

/-- Give the waiting frames of SC `c` that satisfy `p` another AN; its context is fetched where a frame with a forme now waits
for it. -/
def retarget (d : Device) (c an : Nat) (p : Work → Bool) : Device :=
  let i := 4 * c + an
  let d := mapWaiting d (fun w => if w.sa.map (· / 4) = some c ∧ !w.dec ∧ p w then { w with sa := some i } else w)
  if contextWanted d i && installed d i then startFetch d i else d

/-! ## Turn cuts (R243, R244) -/

def cutKey (c p : Nat) : Nat := 128 * c + p
def cutsOf (d : Device) (c : Nat) : List (Nat × Nat) :=
  (d.ms.cuts.filter (fun e => e.1 / 128 == c)).map (fun e => (e.1 % 128, e.2))

/-- A frame of a transmit SC that has not been dispatched. -/
def ofSc (c : Nat) (w : Work) : Bool := w.sa.map (· / 4) == some c && !w.dec

/-- Frames of the SC and a port among the waiting ones. -/
def waitingFrom (d : Device) (c p : Nat) (q : Work → Bool) : Nat :=
  ((waitingWorks d).filter (fun w => ofSc c w && w.ing == p && q w)).length

/-- The ACTIVE member sends the cut of an SC; its counts start again, with the waiting frames of `new`, which are on the new SA
already and are not listed. -/
def sendCut (d : Device) (c : Nat) (new : Work → Bool) : Device :=
  let moved := fun (p : Nat) => waitingFrom d c p new
  let kept := (cutsOf d c).filterMap (fun e => if moved e.1 = 0 then none else some (cutKey c e.1, moved e.1))
  let l := (cutsOf d c).map (fun e => (e.1, e.2 - moved e.1))
  let d := if d.duet.role = .active ∧ peerPresent d then
      sendDuet d 0x41 false (leBytes 2 c ++ leBytes 1 l.length ++ l.flatMap (fun e => leBytes 1 e.1 ++ leBytes 4 e.2))
    else d
  { d with ms := { d.ms with cuts := kept.foldl (fun t e => Tbl.put t e.1 e.2) (Tbl.keep d.ms.cuts (fun k _ => k / 128 != c)) } }

/-- The encoding AN changes in classification; an SC that was armed to it is disarmed (R228). An SA that has been deleted since the
command was accepted is none (R250; DESIGN CHOICE, log 92: the spec does not say what its switch then does). -/
def setEncoding (d : Device) (c an : Nat) : Device :=
  match scOf d c with
  | some x => setSc d c { x with encAn := if installed d (4 * c + an) then some an else none
                                 armed := if x.armed = some an then none else x.armed }
  | none => d

/-- The switch moment of R227: the frames of the new SA wait until the old SA's frames are dispatched. The previous encoding
AN is that of this moment (R229). -/
def switchMoment (d : Device) (sw : TxSwitch) : Device :=
  let sw := { sw with oldAn := (scOf d sw.sc).bind Sc.encAn }
  let d := sendCut (setEncoding d sw.sc sw.an) sw.sc (fun _ => false)
  { d with ms := { d.ms with switches := d.ms.switches ++ [{ sw with start := d.prs.nextNo }] } }

/-- A frame waits behind a switch that has not committed (R227), or behind a hold (R244). -/
def fenced (d : Device) (w : Work) : Bool :=
  match w.sa with
  | some i =>
    !w.dec && (d.ms.switches.any (fun s => 4 * s.sc + s.an == i && s.start ≤ w.no)
      || d.ms.holds.any (fun h => h.sc == i / 4))
  | none => false

/-! ## SA_ENABLE_TX (R225-R229, R242) -/

def saIndexOwn (desc : Bytes) : List (Nat × Bool) := [zeroBits desc 22 0xFC] ++ zeroFrom desc 23 63

def turnPending (d : Device) (c : Sc) : Bool :=
  match c.group with
  | some g => Tbl.has d.ms.turns g
  | none => false

def nextPnOf (d : Device) (i : Nat) : Nat := match saOf d i with | some x => x.pn | none => 0

def enableResult (d : Device) (changed : Bool) (old : Option Nat) (i : Nat) : Bytes :=
  [if changed then 1#8 else 0#8] ++ leBytes 1 (old.getD 0xFF) ++ zeros 6 ++ leBytes 8 (nextPnOf d i)

def enableBody (o : Origin) (desc _buf : Bytes) (d : Device) : Verdict :=
  let i := leField desc 20 3
  match scOf d (i / 4), saOf d i with
  | some c, some x =>
    if !installed d i then failAt d .badIndex 20
    else if c.rx || x.exhausted then failAt d .badField 20
    else if turnPending d c && c.armed.isSome && c.armed != some (i % 4) then fail d .busyReferenced
    else if roleStale d then fail d .roleStale
    else if c.encAn = some (i % 4) then .done d (enableResult d false c.encAn i) none
    else
      let sw : TxSwitch := { origin := some o, sc := i / 4, oldAn := c.encAn, an := i % 4, start := 0 }
      let d := enterInflight d o 0x0105
      if d.duet.role = .active ∧ peerPresent d then
        let t : Intent := { seq := d.duet.txSeq, sent := d.clock, switch := sw }
        let d := sendDuet d 0x40 true (leBytes 2 (i / 4) ++ leBytes 1 (i % 4))
        .accept { d with ms := { d.ms with intents := d.ms.intents ++ [t] } }
      else .accept (switchMoment d sw)
  | _, _ => failAt d .badIndex 20

/-- SA_ENABLE_TX (R225-R229): accepted at the switch moment, or at its turn intent on an ACTIVE member with a peer. -/
def execSaEnableTx (r : Fin 64) (s : State) : Host.Outcome State Fault Refusal :=
  s.withDev (runCommand 0x0105 r anyRight saIndexOwn enableBody [] s.dev)

/-- Turn intents whose acknowledgement has come, or will not come, reach their switch moment. -/
def releaseIntents (d : Device) (p : Intent → Bool) : Device :=
  let l := d.ms.intents.filter p
  l.foldl (fun d t => switchMoment d t.switch) { d with ms := { d.ms with intents := d.ms.intents.filter (fun t => !p t) } }

/-- Every frame classified onto the old SA before the switch moment has been dispatched. -/
def oldGone (d : Device) (s : TxSwitch) : Bool :=
  match s.oldAn with
  | some a => !(waitingWorks d).any (fun w => w.sa == some (4 * s.sc + a) && w.no < s.start)
  | none => true

def commitSwitch (d : Device) (c : Nat) : Device :=
  match d.ms.switches.find? (fun s => s.sc == c) with
  | some s =>
    if oldGone d s then
      let d := { d with ms := { d.ms with switches := d.ms.switches.erase s } }
      match s.origin with
      | some o => finish d o .ok (enableResult d (s.oldAn != some s.an) s.oldAn (4 * c + s.an))
      | none => d
    else d
  | none => d

/-- SA_ENABLE_TX_COMMIT (R227, R229). -/
def execSaEnableTxCommit (sc : Fin 65536) (s : State) : Host.Outcome State Fault Refusal :=
  s.withDev (commitSwitch s.dev sc)

/-! ## TURN_GROUP_SET (R230-R232) -/

def groupOwn (desc : Bytes) : List (Nat × Bool) :=
  [zeroBits desc 23 0xF0, (24, decide (leField desc 24 1 > 2)),
   (25, leField desc 24 1 == 0 && decide (leField desc 25 1 > 3))] ++ zeroFrom desc 26 63

/-- A non-exhausted SA is installed at the index. -/
def turnReady (d : Device) (i : Nat) : Bool :=
  match saOf d i with
  | some x => !x.deleting && !x.exhausted
  | none => false

def groupBody (_ : Origin) (desc _buf : Bytes) (d : Device) : Verdict :=
  let c := leField desc 20 2
  let g := leField desc 22 2
  let op := leField desc 24 1
  let an := leField desc 25 1
  match scOf d c with
  | none => failAt d .badIndex 20
  | some x =>
    if op ≠ 0 ∧ x.group ≠ some g then failAt d .badIndex 22
    else if op = 0 ∧ !turnReady d (4 * c + an) then failAt d .badIndex 25
    else if x.rx then failAt d .badField 20
    else if op = 0 ∧ x.encAn = some an then failAt d .badField 25
    else if (x.group.isSome ∧ x.group ≠ some g) ∨ Tbl.has d.ms.turns g then fail d .busyReferenced
    else if roleStale d then fail d .roleStale
    else
      let y := if op = 0 then { x with group := some g, armed := some an }
        else if op = 1 then { x with armed := none }
        else { x with group := none, armed := none }
      .done (setSc d c y) (zeros 16) none

/-- TURN_GROUP_SET (R231, R232). -/
def execTurnGroupSet (r : Fin 64) (s : State) : Host.Outcome State Fault Refusal :=
  s.withDev (runCommand 0x0108 r anyRight groupOwn groupBody [] s.dev)

/-! ## Turns (R235-R239) -/

def members (d : Device) (g : Nat) : List (Nat × Sc) := d.ms.scs.filter (fun e => e.2.group == some g)
def armedMembers (d : Device) (g : Nat) : List (Nat × Sc) := (members d g).filter (fun e => e.2.armed.isSome)

/-- One armed member at the turn: it is skipped (R238), or switches by ARRIVAL at `tick` (R237), or with the fence of
R227 when the turn is late. The Bool says that it switched. -/
def turnMember (d : Device) (g c an : Nat) (old : Option Nat) (tick : Nat) (late : Bool) : Device × Bool :=
  if turnReady d (4 * c + an) then
    if late then (switchMoment d { origin := none, sc := c, oldAn := old, an := an, start := 0 }, true)
    else if d.ms.holds.any (fun h => h.sc == c && h.scheduled) then
      let hold := fun (h : Hold) => if h.sc = c ∧ h.scheduled then { h with tick := some tick } else h
      ({ d with ms := { d.ms with holds := d.ms.holds.map hold } }, true)
    else (sendCut (setEncoding (retarget d c an (fun w => tick ≤ w.arrival)) c an) c (fun w => tick ≤ w.arrival), true)
  else
    let reason := if installed d (4 * c + an) then 0 else 1
    (emit (count d (devCtr 5)) .macsec 0x11 (leBytes 2 g ++ leBytes 2 c ++ leBytes 1 reason), false)

def turnGroup (d : Device) (g tick : Nat) (late : Bool) : Device :=
  let r := (armedMembers d g).foldl (fun (acc : Device × Nat × Nat) e =>
    let x := turnMember acc.1 g e.1 (e.2.armed.getD 0) e.2.encAn tick late
    (x.1, acc.2.1 + (if x.2 then 1 else 0), acc.2.2 + (if x.2 then 0 else 1))) (d, 0, 0)
  let d := r.1
  let disarm := fun (_ : Nat) (x : Sc) => if x.group = some g then { x with armed := none } else x
  let d := { d with ms := { d.ms with scs := Tbl.mapVals d.ms.scs disarm, turns := Tbl.del d.ms.turns g
                                      lastGroup := some g } }
  emit (count d (devCtr (if late then 4 else 3))) .macsec 0x10
    (leBytes 2 g ++ leBytes 2 r.2.1 ++ leBytes 2 r.2.2 ++ leBytes 8 tick)

def scheduleOwn (desc : Bytes) : List (Nat × Bool) :=
  [zeroBits desc 21 0xF0, (22, leField desc 23 1 == 0 && decide (leField desc 22 1 > 3)),
   (23, decide (leField desc 23 1 > 1)),
   (30, leField desc 23 1 == 0 && decide (leField desc 30 4 > 999999999))] ++ zeroFrom desc 34 63

def scheduleBody (_ : Origin) (desc _buf : Bytes) (d : Device) : Verdict :=
  let g := leField desc 20 2
  let b := leField desc 22 1
  let t := leField desc 24 6 * 10 ^ 9 + leField desc 30 4
  let now := (tbase d b).value
  if leField desc 23 1 = 1 then
    if roleStale d then fail d .roleStale
    else match Tbl.get? d.ms.turns g with
      | none => .done d (zeros 16) none
      | some x =>
        if x.tick.isSome then .done d (fit 16 [2#8]) none
        else .done { d with ms := { d.ms with turns := Tbl.del d.ms.turns g } } (fit 16 [1#8]) none
  else if (armedMembers d g).isEmpty then failAt d .badIndex 20
  else if Tbl.has d.ms.turns g then fail d .busyReferenced
  else if t * nsUnit > now + 10 ^ 15 * nsUnit then failAt d .badField 24
  else if roleStale d then fail d .roleStale
  else if t * nsUnit ≤ now then
    if bit (reg d 0x144000) 31 then failAt d .badField 24
    else .done (turnGroup d g d.clock true) (fit 16 [1#8]) none
  else .done { d with ms := { d.ms with turns := Tbl.put d.ms.turns g { base := b, at_ := t } } } (zeros 16) none

/-- KEY_TURN_SCHEDULE (R233-R235, R240). -/
def execKeyTurnSchedule (r : Fin 64) (s : State) : Host.Outcome State Fault Refusal :=
  s.withDev (runCommand 0x0107 r anyRight scheduleOwn scheduleBody [] s.dev)

/-- Ticks until a base that runs reads at or after `ns`, less `early` ns. -/
def ticksUntil (d : Device) (b ns early : Nat) : Nat := ticksTo (tbase d b) (ns - early)

/-- Fix the turn tick once the base is 1 µs before T (R236). -/
def fixTick (d : Device) (g : Nat) : Device :=
  match Tbl.get? d.ms.turns g with
  | some x =>
    if x.tick.isNone && d.time.running then
      let d := elapse d (ticksUntil d x.base x.at_ 1000)
      let tick := d.clock + max 1 (ticksUntil d x.base x.at_ 0)
      { d with ms := { d.ms with turns := Tbl.put d.ms.turns g { x with tick := some tick } } }
    else d
  | none => d

/-- TURN_TICK_FIX (R236). -/
def execTurnTickFix (group : Fin 4096) (s : State) : Host.Outcome State Fault Refusal := s.withDev (fixTick s.dev group)

def turnTick (d : Device) (g : Nat) : Device :=
  match (Tbl.get? d.ms.turns g).bind Turn.tick with
  | some tick => turnGroup (elapseTo d tick) g tick false
  | none => d

/-- TURN_TICK (R237-R239). -/
def execTurnTick (group : Fin 4096) (s : State) : Host.Outcome State Fault Refusal := s.withDev (turnTick s.dev group)

/-! ## A SHADOW standby's holds (R244-R247) -/

def shadowStandby (d : Device) : Bool := shadow d && d.duet.role == .standby

def beginHold (d : Device) (c an : Nat) (scheduled : Bool) : Device :=
  if shadowStandby d && !d.ms.holds.any (fun h => h.sc == c && h.scheduled) then
    let h : Hold := { sc := c, an := an, since := d.clock, scheduled := scheduled }
    { d with ms := { d.ms with holds := d.ms.holds ++ [h] } }
  else d

def startHolds (d : Device) (g : Nat) : Device :=
  match Tbl.get? d.ms.turns g with
  | some x =>
    if shadowStandby d && d.time.running then
      let d := elapse d (ticksUntil d x.base x.at_ 20000)
      (armedMembers d g).foldl (fun d e => beginHold d e.1 (e.2.armed.getD 0) true) d
    else d
  | none => d

/-- STANDBY_TURN_HOLD_START (R244). -/
def execStandbyTurnHoldStart (group : Fin 4096) (s : State) : Host.Outcome State Fault Refusal :=
  s.withDev (startHolds s.dev group)

def dropHold (d : Device) (h : Hold) : Device := { d with ms := { d.ms with holds := d.ms.holds.erase h } }

/-- The number of a frame after a cut that lists `n`: those up to it are counted no more. -/
def renumber (c p n : Nat) (w : Work) : Work := if ofSc c w ∧ w.ing = p then { w with cut := w.cut - n } else w

/-- Place one port's frames: those numbered beyond the cut's count take the new SA (R244). Where the cut counts frames that are yet
to come, as many of the port's next ones will take the old AN. -/
def placePort (d : Device) (c an p n : Nat) : Device :=
  let total := Tbl.getD d.ms.cuts (cutKey c p) 0
  let d := mapWaiting (retarget d c an (fun w => w.ing == p && decide (n < w.cut))) (renumber c p n)
  let owed := match (scOf d c).bind Sc.encAn with
    | some old => if total < n then Tbl.modifyD d.ms.owed (cutKey c p) [] (· ++ [(old, n - total)]) else d.ms.owed
    | none => d.ms.owed
  { d with ms := { d.ms with owed := owed, cuts := Tbl.setD d.ms.cuts (cutKey c p) 0 (total - n) } }

/-- The bulk mirror's cut: the counts of the SC start here as they have at the ACTIVE member. -/
def restartCuts (d : Device) (c : Nat) : Device :=
  let d := mapWaiting d (fun w => if ofSc c w then { w with cut := 0 } else w)
  { d with ms := { d.ms with cuts := Tbl.keep d.ms.cuts (fun k _ => k / 128 != c)
                             owed := Tbl.keep d.ms.owed (fun k _ => k / 128 != c) } }

/-- A turn cut arrives for the oldest hold of the SC: the held frames take their sides, and the encoding AN changes. A later
hold of the SC goes on. -/
def applyCut (d : Device) (c : Nat) (cuts : List (Nat × Nat)) : Device :=
  let hold := d.ms.holds.find? (fun h => h.sc == c)
  match (match hold with | some h => some h.an | none => (scOf d c).bind Sc.armed) with
  | some a =>
    let ports := ((cutsOf d c).map Prod.fst ++ cuts.map Prod.fst).eraseDups
    let d := if d.duet.role = .syncing then restartCuts d c
      else ports.foldl (fun d p => placePort d c a p (((cuts.find? (fun e => e.1 == p)).map Prod.snd).getD 0)) d
    let d := setEncoding d c a
    match hold with
    | some h => dropHold d h
    | none => d
  | none => d

/-- No cut has come in SHADOW_HOLD_US (R245): placement by the own turn tick, or by the start of the hold where the turn
was commanded. -/
def holdUs (d : Device) : Nat :=
  let n := field d 0x144000 15 0
  if 50 ≤ n ∧ n ≤ 1000 then n else 200

/-- A hold ends by a tick of the member's own: frames that arrived from then on take the new AN. -/
def placeHeld (d : Device) (h : Hold) (t : Nat) : Device :=
  dropHold (setEncoding (retarget d h.sc h.an (fun w => t ≤ w.arrival)) h.sc h.an) h

def placeByTick (d : Device) (c : Nat) : Device :=
  match d.ms.holds.find? (fun h => h.sc == c) with
  | some h =>
    let d := elapseTo d (h.since + holdUs d * usTicks)
    let n := ((waitingWorks d).filter (ofSc c)).length
    let ports := (cutsOf d c).map Prod.fst
    let d := placeHeld d h (h.tick.getD h.since)
    let d := ports.foldl (fun d p => voidCurrent d p) d
    emit (restartCuts d c) .macsec 0x12
      (leBytes 2 c ++ leBytes 4 n)
  | none => d

/-- SHADOW_HOLD_TIMEOUT (R245). -/
def execShadowHoldTimeout (sc : Fin 65536) (s : State) : Host.Outcome State Fault Refusal :=
  s.withDev (placeByTick s.dev sc)

/-- A new ACTIVE performs the intents it holds at once (R247): its frames use the new AN. A scheduled turn is no intent: it
comes at its own tick, by which the frames are placed where it has passed. -/
def performHolds (d : Device) : Device :=
  let d := { d with ms := { d.ms with owed := [] } }
  d.ms.holds.foldl (fun d h =>
    if !h.scheduled then placeHeld d h 0
    else match h.tick with
      | some t => placeHeld d h t
      | none => dropHold d h) d

/-! ## SA_DELETE (R248-R254) -/

def saDeleteOwn (desc : Bytes) : List (Nat × Bool) :=
  [zeroBits desc 22 0xFC] ++ zeroFrom desc 23 23 ++ [zeroBits desc 24 0xFE] ++ zeroFrom desc 25 63

/-- The SA ceases to be installed and its drain fence stands (R250). -/
def beginDelete (d : Device) (i : Nat) (desc : Bytes) (o : Option Origin) : Device :=
  match saOf d i with
  | some x =>
    let d := unencode (setSa d i { x with deleting := true }) i
    let del : Deletion := { origin := o, desc := desc, sa := i, started := d.clock, held := saHeld d i }
    { d with ms := { d.ms with deletions := d.ms.deletions ++ [del] } }
  | none => d

def saDeleteBody (o : Origin) (desc _buf : Bytes) (d : Device) : Verdict :=
  let i := leField desc 20 3
  match scOf d (i / 4), saOf d i with
  | some c, some x =>
    if !installed d i then failAt d .badIndex 20
    else if turnPending d c && c.armed == some (i % 4) then fail d .busyReferenced
    else if !c.rx && c.encAn == some (i % 4) && !x.exhausted && !(byteAt desc 24).getLsbD 0 then
      fail d .busyReferenced
    else if recFull d i then fail d .noRoom
    else if roleStale d then fail d .roleStale
    else .accept (beginDelete (enterInflight d o 0x0106) i desc (some o))
  | _, _ => failAt d .badIndex 20

/-- SA_DELETE (R248-R250). -/
def execSaDelete (r : Fin 64) (s : State) : Host.Outcome State Fault Refusal :=
  s.withDev (runCommand 0x0106 r anyRight saDeleteOwn saDeleteBody [] s.dev)

def deleteResult (d : Device) (x : Deletion) : Bytes :=
  let rx := match (match x.was with | some e => some e.1 | none => scOf d (x.sa / 4)) with | some c => c.rx | none => false
  let v := match saOf d x.sa with | some a => if rx then a.pn else a.lastPn | none => 0
  leBytes 8 v ++ leBytes 4 (if x.held then min 0xFFFFFFFF (2 * (d.clock - x.started)) else 0)

/-- The fence has cleared: the SA is erased, then its deletion completes (R252, R254). -/
def finishDelete (d : Device) (x : Deletion) : Device :=
  let res := deleteResult d x
  let d := eraseSa { d with ms := { d.ms with deletions := d.ms.deletions.filter (fun y => y.sa != x.sa) } } x.sa
  match x.origin with
  | some o => mirrorThenPost d 0x0106 x.desc [] (dueOf d o .ok res false)
  | none => d

def fenceClear (d : Device) (i : Nat) : Device :=
  match d.ms.deletions.find? (fun x => x.sa == i) with
  | some x => if saHeld d i then d else finishDelete d x
  | none => d

/-- DRAIN_FENCE_CLEAR (R251, R252, R254). -/
def execDrainFenceClear (sa : Fin 262144) (s : State) : Host.Outcome State Fault Refusal :=
  s.withDev (fenceClear s.dev sa)

/-- Every frame that still holds the SA is dropped, a local cause (R253, R583). -/
def dropHolders (d : Device) (i : Nat) : Device :=
  let d := dropWhere d (fun x => holdsSa x i) 1 true (fun d _ => count d (devCtr 7))
  d.prs.fifo.foldl (fun d e =>
    let gone := e.2.filter (fun w => w.sa == some i)
    let d := setFifo d e.1 ((fifoOf d e.1).filter (fun w => w.sa != some i))
    gone.foldl (fun d w => count (dropWork d w 4 true) (devCtr 7)) d) d

def drainTimeout (d : Device) (i : Nat) : Device :=
  match d.ms.deletions.find? (fun x => x.sa == i) with
  | some x =>
    let d := elapseTo d (x.started + 10 * msTicks)
    finishDelete (if saHeld d i then dropHolders d i else d) x
  | none => d

/-- DRAIN_TIMEOUT (R253). -/
def execDrainTimeout (sa : Fin 262144) (s : State) : Host.Outcome State Fault Refusal :=
  s.withDev (drainTimeout s.dev sa)

end Sys2Proof.Machine
end

