-- ==== Sys2Proof/Machine/Framing.lean ====
section
/-!
DEFINITION. Line framing (06): the slot index space, the frame search, defects with their consequent actions, and trace
identifiers. A stream's bit positions count from the start of its hunting.
-/
namespace Sys2Proof.Machine

/-! ## Ports and slots (R300, R301) -/

/-- VC-3-equivalent slots of a port type. -/
def typeSlots : Nat → Nat
  | 0x10 => 3 | 0x11 => 12 | 0x12 => 48 | 0x13 => 192 | _ => 0

def portSlots (d : Device) (p : Nat) : Nat :=
  match portCfg d p with
  | some c => typeSlots c.type
  | none => 0

def slotBase (d : Device) (p : Nat) : Nat := ((List.range p).map (portSlots d)).sum
def slotTotal (d : Device) : Nat := slotBase d 128

/-- The port that holds a slot index. -/
def slotPort (d : Device) (i : Nat) : Option Nat :=
  (List.range 128).find? (fun p => slotBase d p ≤ i && i < slotBase d p + portSlots d p)

def isSdh (d : Device) (p : Nat) : Bool := match portCfg d p with | some c => sdhType c.type | none => false
def isOtn (d : Device) (p : Nat) : Bool := match portCfg d p with | some c => otnType c.type | none => false
def isOtu4 (d : Device) (p : Nat) : Bool := match portCfg d p with | some c => c.type == 0x22 | none => false

/-- The largest container SIZE of a port type: AU-4 on an STM-1, AU-4-4c, -16c and -64c from STM-4, STM-16 and STM-64 on
(Table 6-1). -/
def maxSize : Nat → Nat
  | 0x10 => 1 | 0x11 => 2 | 0x12 => 3 | 0x13 => 4 | _ => 0

/-- Slots of a container SIZE (Table 6-6). -/
def sizeSlots : Nat → Nat
  | 0 => 1 | 1 => 3 | 2 => 12 | 3 => 48 | _ => 192

/-- The SIZE of the container that the pointer interpreter has found to start at a slot index (R301); the TSI never assumes
one. -/
def structAt? (d : Device) (i : Nat) : Option Nat := Tbl.get? d.frm.structs i

/-- The received container of port `p` that holds a slot index: its first slot index and its SIZE. -/
def containerOf (d : Device) (p i : Nat) : Option (Nat × Nat) :=
  let b := slotBase d p
  if b ≤ i ∧ i < b + portSlots d p then
    (upFrom b (i - b + 1)).findSome? (fun j => match structAt? d j with
      | some k => if i < j + sizeSlots k then some (j, k) else none
      | none => none)
  else none

/-- A slot index of port `p` is the first of a received container. -/
def containerStart (d : Device) (p i : Nat) : Bool := (containerOf d p i).any (fun c => c.1 == i)

/-- A pointer word is a concatenation indication: 1001 SS11 1111 1111 (G.707). -/
def concatenated (w : BitVec 16) : Bool := w &&& 0xF3FF#16 == 0x93FF#16

/-- The SIZE that the pointers from a slot on show: a container takes the slots behind its first whose pointers are
concatenation indications (R301). -/
def detectSize (words : List (BitVec 16)) : Option Nat :=
  match words with
  | w :: rest =>
    if concatenated w then none
    else (List.range 5).find? (fun k => sizeSlots k == (rest.takeWhile concatenated).length + 1)
  | [] => none
/-! ## Frame search (R278-R282, Table 6-2) -/

def frameBits (d : Device) (p : Nat) : Nat :=
  match portCfg d p with
  | some c => if c.type = 0x10 then 19440 else if c.type = 0x11 then 77760 else if c.type = 0x12 then 311040
      else if c.type = 0x13 then 1244160 else 130560
  | none => 0

/-- A received frame-alignment word is errored if any bit differs from F6 F6 F6 28 28 28, or, on an OTU4 lane, any of the
first 40 (R278). -/
def wordErrored (lane : Nat) (w : BitVec 48) : Bool :=
  if lane = 0 then w != 0xF6F6F6282828#48 else w >>> 8 != 0xF6F6F62828#48

/-- The search between two commands: the frame boundary once found, the trackers, and the candidates dropped, replaced and
discarded. -/
structure Hunt where
  found : Option Nat := none
  trackers : List Tracker := []
  dropped : Nat := 0
  replaced : Nat := 0
  discarded : Nat := 0
  deriving DecidableEq, Repr

/-- The oldest tracker without a confirmation. -/
def oldestFree : List Tracker → Option Tracker
  | [] => none
  | t :: l =>
    match oldestFree l with
    | some u => if t.conf = 0 ∧ t.born < u.born then some t else some u
    | none => if t.conf = 0 then some t else none

/-- A new candidate at position `b` (R281). -/
def newCandidate (len b : Nat) (h : Hunt) : Hunt :=
  let t : Tracker := { conf := 0, next := b + len, born := b }
  if h.trackers.length < 4 then { h with trackers := h.trackers ++ [t] }
  else match oldestFree h.trackers with
    | some o => { h with trackers := h.trackers.erase o ++ [t], replaced := h.replaced + 1 }
    | none => { h with discarded := h.discarded + 1 }

/-- Trackers whose check lies before position `b` did not find the pattern there, and are dropped (R280). -/
def dropBefore (h : Hunt) (b : Nat) : Hunt :=
  let live := h.trackers.filter (fun t => b ≤ t.next)
  { h with trackers := live, dropped := h.dropped + (h.trackers.length - live.length) }

/-- A word ends at position `b`: where it is the pattern, a tracker due there is confirmed, and otherwise `b` is a new
candidate. -/
def huntAt (len lane : Nat) (h : Hunt) (e : Nat × BitVec 48) : Hunt :=
  let b := e.1
  if h.found.isSome then h
  else if wordErrored lane e.2 then dropBefore h (b + 1)
  else
    let h := dropBefore h b
    match h.trackers.find? (fun t => t.next == b) with
    | some t =>
      if t.conf = 1 then { h with found := some b, trackers := [] }
      else
        let step := fun (u : Tracker) => if u = t then { u with conf := 1, next := b + len } else u
        { h with trackers := h.trackers.map step }
    | none => newCandidate len b h

def streamKey (p lane : Nat) : Nat := 128 * lane + p
def stream (d : Device) (p lane : Nat) : Stream := Tbl.getD d.frm.streams (streamKey p lane) {}
def setStream (d : Device) (p lane : Nat) (x : Stream) : Device :=
  { d with frm := { d.frm with streams := Tbl.setD d.frm.streams (streamKey p lane) {} x } }

/-! ## Defects (R287, R318) -/

def frmCfg (d : Device) (p : Nat) : W32 := reg d (0xC0000 + 0x40 * p)
def portDefects (d : Device) (p : Nat) : W32 := Tbl.getD d.frm.defects p 1#32
def hasDefect (d : Device) (p code : Nat) : Bool := bit (portDefects d p) code
def pathDefects (d : Device) (i : Nat) : W32 := Tbl.getD d.frm.path i 0#32
def hasPath (d : Device) (i code : Nat) : Bool := bit (pathDefects d i) (code - 32)

def edges (d : Device) (raised : Bool) : Tbl Edge := if raised then d.frm.rises else d.frm.falls
def setEdge (d : Device) (raised : Bool) (key : Nat) (x : Edge) : Device :=
  let t := Tbl.put (edges d raised) key x
  { d with frm := if raised then { d.frm with rises := t } else { d.frm with falls := t } }

/-- 10 ms have passed since the last record of this defect. -/
def edgeDue (d : Device) (x : Edge) : Bool := x.at_ == 0 || decide (d.clock + 1 ≥ x.at_ + 10 * msTicks)

/-- Write the record of a defect's transitions. -/
def writeEdge (d : Device) (raised : Bool) (key : Nat) (x : Edge) : Device :=
  emit (setEdge d raised key { x with count := 0, at_ := d.clock + 1 }) .framer (if raised then 1 else 2)
    (leBytes 1 x.port ++ leBytes 2 x.slot ++ leBytes 1 x.code ++ leBytes 2 x.count)

/-- One transition of a defect: a record at most every 10 ms, with the transitions since the last. -/
def edgeEvent (d : Device) (key p slotNo code : Nat) (raised : Bool) : Device :=
  let x := Tbl.getD (edges d raised) key {}
  let x := { x with count := x.count + 1, port := p, slot := slotNo, code := code }
  if edgeDue d x then writeEdge d raised key x else setEdge d raised key x

/-- Transitions that came within 10 ms of a record are recorded when these are over (R318). -/
def flushEdges (d : Device) : Device :=
  let flush := fun (d : Device) (raised : Bool) =>
    ((edges d raised).filter (fun e => e.2.count != 0 && edgeDue d e.2)).foldl (fun d e => writeEdge d raised e.1 e.2) d
  flush (flush d true) false

/-- Set or clear a port defect; a rise is latched in FRM_LATCH. -/
def setDefect (d : Device) (p code : Nat) (v : Bool) : Device :=
  if hasDefect d p code = v then d
  else
    let m := mask code code
    let w := (portDefects d p &&& ~~~m) ||| (if v then m else 0#32)
    let d := { d with frm := { d.frm with defects := Tbl.setD d.frm.defects p 1#32 w } }
    let d := if v then setBits d (0xC0008 + 0x40 * p) m m else d
    edgeEvent d (128 * code + p) p 0xFFFF code v

def setPath (d : Device) (p i code : Nat) (v : Bool) : Device :=
  if hasPath d i code = v then d
  else
    let m := mask (code - 32) (code - 32)
    let w := (pathDefects d i &&& ~~~m) ||| (if v then m else 0#32)
    let d := { d with frm := { d.frm with path := Tbl.setD d.frm.path i 0#32 w } }
    edgeEvent d (2 ^ 14 + 64 * i + code) p i code v

/-! ## Consequent actions (R288-R290, R295, Table 6-4) -/

def timAis (d : Device) (p : Nat) : Bool := isLine d p || bit (frmCfg d p) 31

/-- A port defect whose action is AIS on everything derived from the port. -/
def portAis (d : Device) (p : Nat) : Bool :=
  [0, 2, 3, 4, 6, 13].any (hasDefect d p) || (timAis d p && [5, 10].any (hasDefect d p))

/-- A path defect whose action is AIS on its container; a Client input passes unequipped on. -/
def pathAis (d : Device) (p i : Nat) : Bool :=
  [32, 33, 35].any (hasPath d i) || (timAis d p && hasPath d i 34) || (isLine d p && hasPath d i 36)

/-- Decryption is withheld on an association's Line-side input (R289). -/
def withholds (d : Device) (x : Assoc) : Bool := portAis d x.port || (isSdh d x.port && pathAis d x.port x.slot)

def pathsOf (d : Device) (p : Nat) : List Nat := upFrom (slotBase d p) (portSlots d p)

/-- A connection entry's fields (Table 6-6). -/
def conKind (e : W32) : Nat := bits e 31 30
def conSize (e : W32) : Nat := bits e 29 27
def conPort (e : W32) : Nat := bits e 26 20
def conSlot (e : W32) : Nat := bits e 7 0
def conSource (d : Device) (e : W32) : Nat := slotBase d (conPort e) + conSlot e

def activePage (d : Device) : Tbl W32 := if d.frm.active then d.frm.page1 else d.frm.page0
def standbyPage (d : Device) : Tbl W32 := if d.frm.active then d.frm.page0 else d.frm.page1

/-- The page an egress port uses: the standby one once the port has changed in a switch (R311). -/
def pageOf (d : Device) (p : Nat) : Tbl W32 :=
  match d.frm.switch with
  | some x => if x.changed.contains p then standbyPage d else activePage d
  | none => activePage d

/-- The entry in use for a destination slot index. -/
def connection (d : Device) (i : Nat) : W32 :=
  match slotPort d i with
  | some p => Tbl.getD (pageOf d p) i 0#32
  | none => 0#32

/-- Destination slots that either page connects. -/
def destinations (d : Device) : List Nat := ((activePage d ++ standbyPage d).map Prod.fst).eraseDups

/-- The container of a connection's source outputs AIS: under its own or its port's defects, or while no structure is found
for it (R288, R301). -/
def sourceAis (d : Device) (e : W32) : Bool :=
  portAis d (conPort e) || (match containerOf d (conPort e) (conSource d e) with
    | some c => pathAis d (conPort e) c.1
    | none => true)

/-- A destination slot index outputs AIS because of what it is connected to. -/
def slotAis (d : Device) (i : Nat) : Bool :=
  let e := connection d i
  conKind e == 2 || (conKind e == 1 && (sourceAis d e || hasPath d i 40))

/-- The directions of an association are in service (R323). -/
def txInService (x : Assoc) : Bool := x.txOn && x.txCur.isSome && !x.oos && !x.starved && x.deleting.isNone
def rxInService (x : Assoc) : Bool := x.rxOn && x.rxCur.isSome && !x.oos && !x.starved && x.deleting.isNone

/-- An association delivers what the container at slot `i` of a Line port carries. -/
def deliveredFrom (d : Device) (p i : Nat) : Bool :=
  Tbl.any d.kn.assocs (fun _ x => x.port == p && x.slot == i && rxInService x && !x.withheld && x.output)

/-- A connected container is AIS at its destination: for the defects of its source, its structure, or, from a Line port, because
no association delivers it (R288, R290, R304). -/
def containerAis (d : Device) (i : Nat) : Bool :=
  let e := connection d i
  slotAis d i || (isLine d (conPort e) && (match containerOf d (conPort e) (conSource d e) with
    | some c => !deliveredFrom d (conPort e) c.1
    | none => true))

/-- An output carries AIS that is derived from this port: its partner's ODUk, or a container sourced from it. -/
def aisOut (d : Device) (p : Nat) : Bool :=
  if isSdh d p then
    (destinations d).any (fun i => conKind (connection d i) == 1 && conPort (connection d i) == p && containerAis d i)
  else isOtn d p && (portAis d p || (isLine d p && !deliveredFrom d p 0))

/-- AIS_OUT follows what the associations of a Line port deliver. -/
def settleOutputs (d : Device) : Device :=
  ((d.boot.profile.ports.map Prod.fst).filter (fun p => isSdh d p || isOtn d p)).foldl
    (fun d p => setDefect d p 16 (aisOut d p)) d

/-- Decryption is withheld on the port or on one of its paths under the trace rules (R287, R295). -/
def traceWithheld (d : Device) (p : Nat) : Bool :=
  isLine d p && ([5, 10].any (hasDefect d p) || (pathsOf d p).any (fun i => hasPath d i 34))

/-- Superframes that began before withholding ends at this clock, of which the last row came at `x.rxAt`: the one being
received, and the one behind it where that has begun too. The tag ends `tag` ticks into a superframe of `period` ticks. -/
def begunBefore (now period tag : Nat) (x : Assoc) : Nat :=
  let t := now - x.rxAt + tag
  if period ≤ t ∧ t < 2 * period then 2 else 1

/-- The withheld state of an association: it sends AIS at once, and starts again in ACQUIRE with the first superframe that
starts afterwards (R289, R295, R336). -/
def applyWithheld (now period tag : Nat) (x : Assoc) (v : Bool) : Assoc :=
  if x.withheld = v then x
  else if v then { x with withheld := true, output := false, outputDue := none, cut := none }
  else { x with withheld := false, rxState := 0, pred := none, failRun := 0, passRun := 0
                skip := begunBefore now period tag x }

/-- Ticks of a superframe period and of its part up to the last tag byte: 4 of 64 frames, or 8 of 16 (R324-R327). -/
def superframeTicks (d : Device) (p : Nat) : Nat × Nat :=
  match portCfg d p with
  | some c =>
    if c.type = 0x20 then (64 * 12191 / 2, 4 * 12191 / 2) else if c.type = 0x21 then (64 * 11766 / 2, 4 * 11766 / 2)
    else if c.type = 0x22 then (64 * 1168 / 2, 4 * 1168 / 2) else (1000000, 500000)
  | none => (1000000, 500000)

/-- Recompute WITHHELD, AIS_OUT and the associations of a port after its defects have changed. -/
def settleLine (d : Device) (p : Nat) : Device :=
  let t := superframeTicks d p
  let upd := fun (_ : Nat) (x : Assoc) => if x.port = p then applyWithheld d.clock t.1 t.2 x (withholds d x) else x
  let d := { d with kn := { d.kn with assocs := Tbl.mapVals d.kn.assocs upd } }
  setDefect (setDefect d p 15 (traceWithheld d p)) p 16 (aisOut d p)

/-- The structure that a destination's container finds at its source, where it is not what the entry says (R304): another
container covers the source slot, or starts elsewhere. -/
def sizeDiffers (d : Device) (e : W32) : Option Nat :=
  if conKind e = 1 then
    match containerOf d (conPort e) (conSource d e) with
    | some c => if c = (conSource d e, conSize e) then none else some c.2
    | none => none
  else none

/-- Check the destination container whose first slot index is `i`. -/
def checkSize (d : Device) (i : Nat) : Device :=
  match slotPort d i with
  | some p =>
    let e := connection d i
    let found := if (i - slotBase d p) % sizeSlots (conSize e) = 0 then sizeDiffers d e else none
    let rises := found.isSome && !hasPath d i 40
    let d := setPath d p i 40 found.isSome
    if rises then emit d .tsi 0x02 (leBytes 2 i ++ leBytes 1 (conSize e) ++ leBytes 1 (found.getD 0)) else d
  | none => d

/-- Check every destination container that is connected, or still shows a wrong structure. -/
def checkSizes (d : Device) : Device :=
  ((destinations d ++ (d.frm.path.filter (fun e => bit e.2 8)).map Prod.fst).eraseDups).foldl checkSize d

/-- The SDH ports, for a settlement after a page change. -/
def settleAll (d : Device) : Device := (d.boot.profile.ports.map Prod.fst).foldl settleLine d

/-! ## Traces (R291-R296) -/

def traceKey (kind i : Nat) : Nat := 16384 * kind + i
/-- An entry that nothing has committed: a TTI's format is the only one of its kind (Table 6-5). -/
def freshTrace (kind : Nat) : Trace := if kind ≤ 1 then {} else { format := 2, sentFormat := 2 }
def trace (d : Device) (kind i : Nat) : Trace := Tbl.getD d.frm.traces (traceKey kind i) (freshTrace kind)
def setTrace (d : Device) (kind i : Nat) (x : Trace) : Device :=
  { d with frm := { d.frm with traces := Tbl.setD d.frm.traces (traceKey kind i) (freshTrace kind) x } }

def traceMask (x : Trace) : Nat := x.maskLo.toNat + 2 ^ 32 * x.maskHi.toNat

/-- TIM of an entry (R293, R294); FORMAT 0 compares bytes 1-15. -/
def tim (x : Trace) : Bool :=
  let range := if x.format = 0 then upFrom 1 15 else List.range 64
  traceMask x != 0 && (match x.accepted with
    | none => true
    | some a => range.any (fun i => traceMask x / 2 ^ i % 2 == 1 && byteAt a i != byteAt x.expected i))

/-- The port and the code of a trace's TIM; none where the port has no such trace. -/
def tracePort (d : Device) (kind i : Nat) : Option (Nat × Nat) :=
  match kind with
  | 0 => if isSdh d i then some (i, 5) else none
  | 1 => (slotPort d i).map (fun p => (p, 34))
  | 2 => if isOtn d i then some (i, 5) else none
  | _ => if isOtn d i then some (i, 10) else none

/-- A J1 entry at another slot of a concatenated container is ignored (R291). -/
def traceUsed (d : Device) (p i : Nat) : Bool := (containerOf d p i).all (fun c => c.1 == i)

/-- Re-evaluate the TIM of an entry, and what follows from it. -/
def evalTim (d : Device) (kind i : Nat) : Device :=
  match tracePort d kind i with
  | some (p, code) =>
    let v := tim (trace d kind i)
    settleLine (if code = 34 then setPath d p i 34 (v && traceUsed d p i) else setDefect d p code v) p
  | none => d

/-- HP-PLM, HP-UNEQ and OPU-PLM from the labels received (Table 6-12, Table 6-9). -/
def evalLabel (d : Device) (p : Nat) : Device :=
  match Tbl.get? d.frm.portLabel p with
  | some l => if isOtn d p then settleLine (setDefect d p 13 (l != bits (frmCfg d p) 15 8)) p else d
  | none => d

def evalPathLabel (d : Device) (p i : Nat) : Device :=
  match Tbl.get? d.frm.pathLabel i with
  | some l =>
    let d := setPath d p i 36 (l == 0)
    settleLine (setPath d p i 35 (l != 0 && l != (trace d 1 i).expC2 && traceUsed d p i)) p
  | none => d

/-- Forget an accepted trace (R292). -/
def clearTrace (d : Device) (kind i : Nat) : Device :=
  if Tbl.has d.frm.traces (traceKey kind i) then
    evalTim (setTrace d kind i { trace d kind i with accepted := none, last := [], run := 0 }) kind i
  else d

def clearTraces (d : Device) (p : Nat) : Device :=
  let d := [0, 2, 3].foldl (fun d k => if (tracePort d k p).isSome then clearTrace d k p else d) d
  (pathsOf d p).foldl (fun d i => clearTrace d 1 i) d

/-- One bit of CRC-7, polynomial x^7 + x^3 + 1. -/
def crc7Step (c : Nat) (b : Bool) : Nat :=
  let top := (c / 64 % 2 == 1) != b
  (2 * c % 128) ^^^ (if top then 0x09 else 0)

def crc7Byte (c : Nat) (b : Byte) : Nat := (List.range 8).foldl (fun c i => crc7Step c (b.getLsbD (7 - i))) c

/-- Byte 0 of a FORMAT 0 message: the start marker and the CRC-7 of the message with those bits zero. -/
def startByte (msg : Bytes) : Byte :=
  0x80#8 ||| BitVec.ofNat 8 (((0x80#8 :: slice msg 1 15)).foldl crc7Byte 0)

/-- A message counts as a reception. -/
def crcOk (x : Trace) (msg : Bytes) : Bool := x.format != 0 || byteAt msg 0 == startByte msg

/-- No trace is received under the defects that clear it. -/
def traceBlocked (d : Device) (kind p i : Nat) : Bool :=
  hasDefect d p 0 || hasDefect d p 2 || (kind == 1 && [32, 33].any (hasPath d i))
    || ((kind == 2 || kind == 3) && hasDefect d p 3)

def receiveTrace (d : Device) (kind i : Nat) (msg : Bytes) : Device :=
  match tracePort d kind i with
  | some (p, _) =>
    let x := trace d kind i
    let msg := fit 64 (if x.format = 0 then msg.take 16 else msg)
    if traceBlocked d kind p i || !crcOk x msg then d
    else
      let run := if x.last = msg then x.run + 1 else 1
      let fresh := run ≥ 3 ∧ x.accepted ≠ some msg
      let d := setTrace d kind i { x with last := msg, run := min 3 run, accepted := if run ≥ 3 then some msg else x.accepted }
      let d := if fresh then emit d .framer 0x03 (leBytes 1 p ++ leBytes 1 kind ++ leBytes 2 i ++ msg) else d
      evalTim d kind i
  | none => d

/-- TRACE_RECEPTION (R292, R294). -/
def execTraceReception (kind : Fin 4) (index : Fin 12288) (trace : Bytes) (s : State) :
    Host.Outcome State Fault Refusal := s.withDev (receiveTrace s.dev kind index trace)

/-! ### The trace view (Tables 6-12, 6-13) -/

def selKind (d : Device) : Nat := field d 0xC4000 31 30
def selTx (d : Device) : Bool := bit (reg d 0xC4000) 29
def selIndex (d : Device) : Nat := field d 0xC4000 13 0

/-- Load the selected entry into the view. -/
def selectTrace (d : Device) (val : W32) : Device :=
  let d := plainWrite d 0xC4000 val
  let x := trace d (selKind d) (selIndex d)
  let text := if selTx d then x.sent else x.expected
  let d := setBits d 0xC4004 (mask 15 8 ||| mask 1 0)
    (place 15 8 x.expC2 ||| place 1 0 (if selTx d then x.sentFormat else x.format))
  let d := setReg (setReg d 0xC4008 x.maskLo) 0xC400C x.maskHi
  (List.range 16).foldl (fun d i => setReg d (0xC4040 + 4 * i) (w32 (leField text (4 * i) 4))) d

/-- FRM_TR_SEL_WRITE (R316). -/
def execFrmTrSelWrite (val : W32) (s : State) : Host.Outcome State Fault Refusal := s.withDev (selectTrace s.dev val)

def viewText (d : Device) : Bytes := (List.range 16).flatMap (fun i => leBytes 4 (reg d (0xC4040 + 4 * i)).toNat)

/-- The formats of a kind, and its entries (Table 6-5). -/
def formatOk (kind format : Nat) : Bool := if kind ≤ 1 then format ≤ 1 else format == 2
def traceExists (kind i : Nat) : Bool := if kind = 1 then i < 12288 else i < 128

/-- Write FRM_TR_CTL, and commit the view where COMMIT is 1 (R296). -/
def commitTrace (d : Device) (val : W32) : Device :=
  let d := plainWrite d 0xC4004 val
  let kind := selKind d
  let i := selIndex d
  let fmt := bits val 1 0
  if !bit val 31 then d
  else if !formatOk kind fmt || !traceExists kind i then { d with frm := { d.frm with trErr := true } }
  else
    let x := trace d kind i
    let text := viewText d
    let y : Trace :=
      if selTx d then
        { x with sent := if fmt = 0 then startByte text :: text.drop 1 else text, sentFormat := fmt }
      else { x with expected := text, format := fmt, expC2 := bits val 15 8, maskLo := reg d 0xC4008
                    maskHi := reg d 0xC400C }
    let d := setTrace { d with frm := { d.frm with trErr := false } } kind i y
    let d := evalTim d kind i
    match tracePort d kind i with
    | some (p, _) => if kind = 1 then evalPathLabel d p i else d
    | none => d

/-- TRACE_COMMIT (R296). -/
def execTraceCommit (val : W32) (s : State) : Host.Outcome State Fault Refusal := s.withDev (commitTrace s.dev val)

/-! ## Framing rows (R282, R283, R285, R286) -/

/-- Lane 0 of an OTU4 port is its reassembled stream, hunted only while LOL is clear. -/
def laneValid (d : Device) (p lane : Nat) : Bool :=
  (isSdh d p && lane == 0) || (isOtn d p && (if lane = 0 then !(isOtu4 d p && hasDefect d p 4) else isOtu4 d p))

/-- The logical lane that a marker names (G.709: the marker modulo 20). -/
def markedLane (marker : Nat) : Nat := marker % 20

/-- The physical lane that carries logical stream `l`: OTL4.4 has five of the twenty on each of four (R285). -/
def physicalLane (d : Device) (p l : Nat) : Nat :=
  (match portCfg d p with | some c => c.firstLane | none => 0) + (l - 1) / 5

/-- Lag of logical stream `l`, and the largest lag of the port's streams, in ns. -/
def laneLag (d : Device) (p l : Nat) : Nat := ((Tbl.getD d.frm.skews p [])[l - 1]?).getD 0
def maxLag (d : Device) (p : Nat) : Nat := ((upFrom 1 20).map (laneLag d p)).foldl max 0
def skew (d : Device) (p : Nat) : Nat := maxLag d p - ((upFrom 1 20).map (laneLag d p)).foldl min (maxLag d p)

/-- LOL of an OTU4 port: a logical lane is out of frame, two lanes carry one marker, or the skew exceeds 180 ns (R286). -/
def lolNow (d : Device) (p : Nat) : Bool :=
  let lanes := (upFrom 1 20).map (stream d p)
  let marks := lanes.map (fun x => markedLane x.marker)
  lanes.any (fun x => !x.inFrame) || marks.eraseDups.length < 20 || skew d p > 180

/-- The deskewed lanes in the order in which their markers reassemble them: each stream is delayed to the latest one. -/
def deskewed (d : Device) (p : Nat) : List (Nat × Nat × Nat) :=
  (List.range 20).filterMap (fun m => ((upFrom 1 20).find? (fun l => markedLane (stream d p l).marker == m)).map
    (fun l => (physicalLane d p l, l, maxLag d p - laneLag d p l)))

def evalLol (d : Device) (p : Nat) : Device :=
  if isOtu4 d p then
    let t := if lolNow d p then Tbl.del d.frm.deskew p else Tbl.put d.frm.deskew p (deskewed d p)
    settleLine (setDefect { d with frm := { d.frm with deskew := t } } p 4 (lolNow d p)) p
  else d

/-- A stream has its frame: an OTU4 lane is identified by the marker behind the pattern (R285). -/
def becomeInFrame (d : Device) (p lane : Nat) (word : BitVec 48) : Device :=
  let d := setStream d p lane { inFrame := true, since := d.clock, marker := word.toNat % 256 }
  if lane = 0 then setDefect d p 1 false else evalLol d p

def huntStream (d : Device) (p lane : Nat) (words : List (Nat × BitVec 48)) : Device :=
  let x := stream d p lane
  if !laneValid d p lane || x.inFrame then d
  else
    let words := (sortNats (words.map Prod.fst).eraseDups).filterMap (fun b => words.find? (fun e => e.1 == b))
    let h := words.foldl (huntAt (frameBits d p) lane) { trackers := x.trackers }
    let d := count (count (count d (portCtr 15 p) h.dropped) (portCtr 16 p) h.replaced) (portCtr 17 p) h.discarded
    match h.found.bind (fun b => words.find? (fun e => e.1 == b)) with
    | some e => becomeInFrame d p lane e.2
    | none => setStream d p lane { x with trackers := h.trackers }

/-- IN_FRAME (R278-R282): `words` are received words with the bit positions at which they end; at a position that is not
named no pattern ends. -/
def execInFrame (p : Fin 128) (lane : Fin 21) (words : List (Nat × BitVec 48)) (s : State) :
    Host.Outcome State Fault Refusal := s.withDev (huntStream s.dev p lane words)

/-- The stream is out of frame, and hunted again from the next bit. -/
def outOfFrame (d : Device) (p lane : Nat) : Device :=
  let d := setStream d p lane { since := d.clock }
  if lane = 0 then setDefect d p 1 true else evalLol d p

/-- Consecutive errored words after a further one. -/
def erroredRun (lane n : Nat) (w : BitVec 48) : Nat := if n ≥ 4 then n else if wordErrored lane w then n + 1 else 0

def watchFrame (d : Device) (p lane : Nat) (words : List (BitVec 48)) : Device :=
  let x := stream d p lane
  if !x.inFrame then d
  else
    let n := words.foldl (erroredRun lane) x.errored
    if n ≥ 4 then outOfFrame d p lane else setStream d p lane { x with errored := n }

/-- OOF (R283, R286): the next frame-alignment words of a stream in frame; the fourth errored one in a row takes it out. -/
def execOof (p : Fin 128) (seen : LaneWords) (s : State) : Host.Outcome State Fault Refusal :=
  s.withDev (watchFrame s.dev p seen.lane seen.words)

def lofTimer (d : Device) (p : Nat) : Device :=
  let x := stream d p 0
  if x.inFrame then settleLine (setDefect (elapseTo d (x.since + 3 * msTicks)) p 2 false) p
  else if hasDefect d p 1 then
    clearTraces (settleLine (setDefect (elapseTo d (x.since + 3 * msTicks)) p 2 true) p) p
  else d

/-- LOF_TIMER (R283): 3 ms out of frame raise LOF, 3 ms in frame clear it. -/
def execLofTimer (p : Fin 128) (s : State) : Host.Outcome State Fault Refusal := s.withDev (lofTimer s.dev p)

/-! ## Forward error correction (R298, R299) -/

/-- FEC_MODE of an OTN port: 3 is treated as 1. -/
def fecMode (d : Device) (p : Nat) : Nat := let m := bits (frmCfg d p) 30 29; if m = 3 then 1 else m

/-- Bits in which two words differ. -/
def bitErrors (a b : Bytes) : Nat :=
  ((List.range (max a.length b.length)).map (fun i => popCount ((byteAt a i ^^^ byteAt b i).toNat))).sum
where
  /-- One bits of a byte. -/
  popCount (n : Nat) : Nat := ((List.range 8).filter (n.testBit ·)).length

/-- One received codeword: what is delivered, the corrected or detected bits, and whether it is uncorrectable. -/
def fecWord (mode : Nat) (w : Bytes) : Bytes × Nat × Bool :=
  if mode = 0 then (w, 0, false)
  else match Config.rsDecode w with
    | some c => (if mode = 1 then c else w, bitErrors w c, false)
    | none => (w, 0, true)

/-- Received codewords go through the decoder; FEC_CORR and FEC_UNCORR count. -/
def fecReceive (d : Device) (p : Nat) (words : List Bytes) : Device :=
  let r := words.map (fecWord (fecMode d p))
  let bad := (r.filter (fun x => x.2.2)).length
  let d := count (count d (portCtr 22 p) (r.map (fun x => x.2.1)).sum) (portCtr 23 p) bad
  { d with frm := { d.frm with
      fecOut := Tbl.put d.frm.fecOut p (r.map Prod.fst)
      uncorrAt := if bad = 0 then d.frm.uncorrAt else Tbl.put d.frm.uncorrAt p d.clock } }

/-- FEC-UNCORR is present while a codeword of the last 10 ms was uncorrectable. -/
def fecUncorr (d : Device) (p : Nat) : Bool :=
  match Tbl.get? d.frm.uncorrAt p with
  | some t => decide (d.clock < t + 10 * msTicks)
  | none => false

/-- The codewords of a change of FEC-UNCORR; one that clears comes 10 ms after the last uncorrectable codeword. -/
def fecChange (d : Device) (p : Nat) (raised : Bool) (words : List Bytes) : Device :=
  let d := fecReceive d p words
  let d := match Tbl.get? d.frm.uncorrAt p with
    | some t => if raised then d else elapseTo d (t + 10 * msTicks)
    | none => d
  setDefect d p 14 (fecUncorr d p)

/-! ## Errored blocks (R287, R317) -/

/-- EXC_EXP and DEG_EXP: reserved values are treated as 3 and as 6. -/
def excExp (d : Device) (p : Nat) : Nat := let n := bits (frmCfg d p) 23 20; if 3 ≤ n ∧ n ≤ 5 then n else 3
def degExp (d : Device) (p : Nat) : Nat := let n := bits (frmCfg d p) 27 24; if 5 ≤ n ∧ n ≤ 9 then n else 6

/-- The threshold exponent of an excessive-error or degraded-signal defect. -/
def thresholdExp (d : Device) (p code : Nat) : Option Nat :=
  if code = 8 ∨ code = 38 then some (excExp d p) else if code = 9 ∨ code = 12 ∨ code = 39 then some (degExp d p) else none

/-- Count the errored blocks that are seen: path monitoring of OTN and the paths of SDH go to PATH_BIP_NEAR and PATH_BIP_FAR. Those of
the near end go back under `key`: the port, 16,384 and the port for PM, 128 and the slot index for a path (R288). -/
def countBip (d : Device) (p key : Nat) (path : Bool) (seen : LineSeen) : Device :=
  let k := if path then 20 else 18
  let d := count (count d (portCtr k p) seen.near) (portCtr (k + 1) p) seen.far
  { d with frm := { d.frm with sendBack := Tbl.setD d.frm.sendBack key 0 (Tbl.getD d.frm.sendBack key 0 + seen.near) } }

/-- A defect as its detection leaves it: by its threshold, or as the standard's rules find it. -/
def detected (d : Device) (p code : Nat) (raised : Bool) (seen : LineSeen) : Bool :=
  match thresholdExp d p code with
  | some n => Config.berExceeds n seen.near seen.blocks
  | none => raised

/-! ## Other defects (R288) -/

/-- Codes whose detection the outside decides, by kind of port (Table 6-3). -/
def sdhCodes : List Nat := [0, 6, 7, 8, 9]
def otnCodes : List Nat := [0, 3, 4, 6, 7, 8, 9, 11, 12, 13, 14]
def pathCodes : List Nat := [32, 33, 35, 36, 37, 38, 39, 40]

/-- A candidate that a stream drops as its signal ends is a false one (R280). -/
def dropTrackers (d : Device) (p lane : Nat) : Device := count d (portCtr 15 p) (stream d p lane).trackers.length

/-- A stream is lost at LOS, and hunted again as out of frame when it ends. An OOF that stands already goes on, and its 3 ms with it
(R283). -/
def losChange (d : Device) (p : Nat) (raised : Bool) : Device :=
  let lost := fun (l : Nat) => ({ since := if hasDefect d p 1 then (stream d p l).since else d.clock } : Stream)
  let lanes := (List.range 21).filter (fun l => laneValid d p l || (isOtu4 d p && l == 0))
  let d := lanes.foldl (fun e l => setStream (dropTrackers e p l) p l (lost l)) d
  let d := (portLanes d p).foldl (fun d n => setCdr d n (!raised)) d
  evalLol (if raised then clearTraces d p else setDefect d p 1 true) p

/-- Code 4 brings the skew between an OTU4 port's lanes as it is now (R286). -/
def skewChange (d : Device) (p : Nat) (lags : List Nat) : Device :=
  evalLol { d with frm := { d.frm with skews := Tbl.put d.frm.skews p lags } } p

def portDefectChange (d : Device) (p code : Nat) (raised : Bool) (seen : LineSeen) : Device :=
  if code = 13 then
    evalLabel { d with frm := { d.frm with portLabel := Tbl.put d.frm.portLabel p seen.label.toNat } } p
  else if code = 4 then skewChange d p seen.skews
  else if code = 14 then fecChange d p raised seen.codewords
  else
    let pm := isOtn d p && (code == 11 || code == 12)
    let d := countBip d p (if pm then 16384 + p else p) pm seen
    let v := detected d p code raised seen
    if hasDefect d p code = v ∨ (code = 0 ∧ !v ∧ !(pllLocked d p && portsRun d)) then d
    else
      let d := setDefect d p code v
      let d := if code = 0 then losChange d p v
        else if code = 3 ∧ v then [2, 3].foldl (fun d k => clearTrace d k p) d else d
      settleLine d p

/-- The traces and labels of a port's paths are judged again: an entry counts only at the first slot of its container (R291). -/
def reviewPaths (d : Device) (p : Nat) : Device :=
  let mine := fun (i : Nat) => slotPort d i == some p
  let kept := ((d.frm.traces.map Prod.fst).filter (fun k => k / 16384 == 1)).map (· % 16384)
  let d := (kept.filter mine).foldl (fun d i => evalTim d 1 i) d
  ((d.frm.pathLabel.map Prod.fst).filter mine).foldl (fun d i => evalPathLabel d p i) d

/-- The pointer interpreter reports the container that starts at a slot index: one that the port's type carries, at a multiple
of its size (R273, R301). -/
def setStructure (d : Device) (p i : Nat) (words : List (BitVec 16)) : Device :=
  let ok := (detectSize words).filter (fun k => k ≤ maxSize (match portCfg d p with | some c => c.type | none => 0)
    && (i - slotBase d p) % sizeSlots k == 0 && i - slotBase d p + sizeSlots k ≤ portSlots d p)
  let inside := fun (j : Nat) => match ok with | some k => i < j && j < i + sizeSlots k | none => false
  let t := Tbl.keep d.frm.structs (fun j _ => !inside j)
  let t := match ok with | some k => Tbl.put t i k | none => Tbl.del t i
  reviewPaths (settleAll (checkSizes { d with frm := { d.frm with structs := t } })) p

def pathDefectChange (d : Device) (p i code : Nat) (raised : Bool) (seen : LineSeen) : Device :=
  if code = 35 ∨ code = 36 then
    evalPathLabel { d with frm := { d.frm with pathLabel := Tbl.put d.frm.pathLabel i seen.label.toNat } } p i
  else if code = 40 then setStructure d p i seen.pointers
  else
    let d := countBip d p (128 + i) true seen
    let v := detected d p code raised seen
    let d := setPath d p i code v
    let d := if v && (code == 32 || code == 33) then clearTrace d 1 i else d
    settleLine d p

/-- A defect of a port, or of its path at a slot, as its standard detects it from what the receiver has seen. -/
def defectChange (d : Device) (p slotNo code : Nat) (raised : Bool) (seen : LineSeen) : Device :=
  if (isSdh d p && sdhCodes.contains code) || (isOtn d p && otnCodes.contains code) then
    portDefectChange d p code raised seen
  else if isSdh d p && pathCodes.contains code && slotNo < portSlots d p then
    pathDefectChange d p (slotBase d p + slotNo) code raised seen
  else d

/-- DEFECT_CHANGE (R287, R288, R298-R301, R317). -/
def execDefectChange (p : Fin 128) (slot : Fin 192) (defect : Fin 64) (raised : Bool) (seen : LineSeen) (s : State) :
    Host.Outcome State Fault Refusal := s.withDev (defectChange s.dev p slot defect raised seen)

def acceptKBytes (d : Device) (p : Nat) (k1 k2 : Byte) : Device :=
  let v := 256 * k1.toNat + k2.toNat
  if isSdh d p && Tbl.getD d.frm.kbytes p 0 != v then
    emit { d with frm := { d.frm with kbytes := Tbl.setD d.frm.kbytes p 0 v } } .framer 0x04
      (leBytes 1 p ++ [k1, k2])
  else d

/-- KBYTES_ACCEPTED (R318, Table 6-11). -/
def execKbytesAccepted (p : Fin 128) (k1 k2 : Byte) (s : State) : Host.Outcome State Fault Refusal :=
  s.withDev (acceptKBytes s.dev p k1 k2)

end Sys2Proof.Machine
end

