-- ==== Sys2Proof/Machine/Galley.lean ====
section
/-!
DEFINITION. The Galley (09): admission and push-out, queues and schedulers, shapers and policers, and their commands.
-/
namespace Sys2Proof.Machine

/-! ## Configuration and occupancy (R403-R408, R423-R425) -/

/-- The profile's scheduler family is the virtual-time one. -/
def vtFamily (d : Device) : Bool := d.boot.profile.family == 1

def galCfg (d : Device) (p : Nat) : W32 := reg d (0x180100 + 4 * p)
def holdMs (d : Device) (p : Nat) : Nat := min 1000 (bits (galCfg d p) 30 21)
def maxAgeMs (d : Device) (p : Nat) : Nat := min 1000 (bits (galCfg d p) 20 11)
def mtuCells (d : Device) (p : Nat) : Nat :=
  let n := bits (galCfg d p) 6 0
  if 1 ≤ n ∧ n ≤ 65 then n else 65
def shareLimit (d : Device) (p : Nat) : Nat := field d (0x180300 + 4 * p) 17 0
def yellowPct (d : Device) (p : Nat) : Nat := min 100 (field d (0x180300 + 4 * p) 31 25)
def frameLimit (d : Device) : Nat :=
  let n := field d 0x180000 13 0
  if 1024 ≤ n ∧ n ≤ 15360 then n else 12288

def galPort (d : Device) (p : Nat) : GalPort := Tbl.getD d.gal.ports p {}
def setGalPort (d : Device) (p : Nat) (x : GalPort) : Device :=
  { d with gal := { d.gal with ports := Tbl.setD d.gal.ports p {} x } }

/-- The charge, reduced to the cells used once the last cell is written (R407). -/
def chargeOf (d : Device) (x : Forme) : Nat := if cellsWritten d x then cellsOf (outLen x) else x.charge

/-- Formes that hold Galley cells, and those queued. -/
def galFormes (d : Device) : Tbl Forme := d.prs.formes.filter (fun e => e.2.queue.isSome)
def galQueued (d : Device) : Tbl Forme := (galFormes d).filter (fun e => e.2.stage == .queued)

def cellSum (d : Device) (l : Tbl Forme) : Nat := (l.map (fun e => chargeOf d e.2)).sum
def galFree (d : Device) : Nat := 262144 - cellSum d (galFormes d)
def portQueued (d : Device) (p : Nat) : Tbl Forme := (galQueued d).filter (fun e => e.2.w.eg == p)
def portCells (d : Device) (p : Nat) : Nat := cellSum d (portQueued d p)

/-- The egress port of a group; groups 0-127 are their ports' default groups. -/
def groupPort (d : Device) (g : Nat) : Option Nat :=
  if g < 128 then some g else (Tbl.getD d.gal.groups g {}).port

/-- The queue of a frame (R423, R424). -/
def queueFor (d : Device) (w : Work) : Nat :=
  if vtFamily d then 8 * (Tbl.getD d.gal.map (pairKey w.eg w.ing) w.eg) + w.cls else 8 * w.eg + w.cls

/-! ## Admission and push-out (R408-R415) -/

def shareOk (d : Device) (p charge : Nat) : Bool := portCells d p + charge ≤ shareLimit d p
def roomOk (d : Device) (charge : Nat) : Bool := charge ≤ galFree d && (galFormes d).length < frameLimit d
def yellowOk (d : Device) (w : Work) (charge : Nat) : Bool :=
  !w.yellow || (portCells d w.eg + charge) * 100 ≤ shareLimit d w.eg * yellowPct d w.eg

/-- The charge of R407 for a frame that leaves with length `len`. -/
def chargeFor (d : Device) (w : Work) (len : Nat) : Nat := if arrivedWhole d w then cellsOf len else mtuCells d w.eg

/-- A queued frame whose last cell is written (R411). -/
def evictables (d : Device) : Tbl Forme := (galQueued d).filter (fun e => cellsWritten d e.2)

def queueCells (d : Device) (q : Nat) : Nat := cellSum d ((galQueued d).filter (fun e => e.2.queue == some q))

/-- The longest queue; ties go to the lower class, then to the lower queue number. -/
def longest (d : Device) : List Nat → Option Nat
  | [] => none
  | q :: l =>
    match longest d l with
    | some r =>
      let a := queueCells d q
      let b := queueCells d r
      if a > b ∨ (a = b ∧ (q % 8 < r % 8 ∨ (q % 8 = r % 8 ∧ q < r))) then some q else some r
    | none => some q

def queuesOf (l : Tbl Forme) : List Nat := (l.filterMap (fun e => e.2.queue)).eraseDups

/-- The evictable frame nearest the tail of a queue. -/
def tailOf (d : Device) (q : Nat) (l : Tbl Forme) : Option Nat :=
  (queueOf d q).reverse.find? (fun f => Tbl.has l f)

/-- The steps of R412 for a frame of class `c` for port `p`. -/
def pushOutPick (d : Device) (p c : Nat) (share : Bool) : Option Nat :=
  let lower := (evictables d).filter (fun e => e.2.w.cls < c)
  match longest d (queuesOf (lower.filter (fun e => e.2.w.eg == p))) with
  | some q => tailOf d q lower
  | none =>
    if share then
      let k := (lower.map (fun e => e.2.w.cls)).foldl min 8
      match longest d (queuesOf (lower.filter (fun e => e.2.w.cls == k))) with
      | some q => tailOf d q lower
      | none => none
    else none

def pushOut (d : Device) (f : Nat) : Device :=
  match forme? d f with
  | some x => count (dropForme d f x 3 false) (queueCtr 1 x.w.eg x.w.cls)
  | none => d

/-- What admission decides. -/
inductive Admission where
  | admitted | yellowDrop | tailDrop
  deriving DecidableEq, Repr

/-- Evict until R408 holds or no candidate remains (R409, R412). -/
def makeRoom (w : Work) (charge : Nat) : Nat → Device → Device × Admission
  | 0, d => (d, .tailDrop)
  | n + 1, d =>
    if shareOk d w.eg charge && roomOk d charge then
      (d, if yellowOk d w charge then .admitted else .yellowDrop)
    else
      match pushOutPick d w.eg w.cls (shareOk d w.eg charge) with
      | some f => makeRoom w charge n (pushOut d f)
      | none => (d, .tailDrop)

def countRefusal (d : Device) (w : Work) (a : Admission) : Device :=
  if a = .yellowDrop then count d (portCtr 35 w.eg) else count d (queueCtr 0 w.eg w.cls)

/-! ### The test at stage 4 (R415, R756) -/

/-- Press work queued, in core cycles. -/
def queuedWork (d : Device) : Nat :=
  ((d.prs.formes.filter (fun e => e.2.press.isSome && !e.2.done)).map (fun e => e.2.cycles)).sum

/-- The profile's Line-side sum in Mbit/s. -/
def lineSum (d : Device) : Nat :=
  ((d.boot.profile.ports.filter (fun e => e.2.line)).map (fun e => typeRate e.2.type)).sum

def commitClass (d : Device) : Nat := field d 0x20004 26 24

/-- Roll the limiter's 100 µs window. -/
def rollWindow (d : Device) : Device :=
  let n := (d.clock - d.pwr.capAt) / (100 * usTicks)
  if n = 0 then d
  else { d with pwr := { d.pwr with capBytes := 0, capLast := if n = 1 then d.pwr.capBytes else 0
                                    capAt := d.pwr.capAt + n * (100 * usTicks) } }

/-- The cap in bytes per window: LIMIT_PCT of the Line-side sum for 100 µs. -/
def capLimit (d : Device) : Nat := d.pwr.limitPct * lineSum d / 8

/-- The limiter passes a frame of length `len`, and counts it in its window. -/
def limiterTest (d : Device) (w : Work) (len : Nat) : Device × Bool :=
  if w.cls < commitClass d then
    let d := rollWindow d
    if d.pwr.step = 5 ∧ d.pwr.capBytes + len > capLimit d then (d, false)
    else ({ d with pwr := { d.pwr with capBytes := d.pwr.capBytes + len } }, true)
  else (d, true)

/-- An encrypt frame with an AGGREGATE group at stage 4; the Bool says that it passes. `len` is its length as it will
leave. -/
def firstTest (d : Device) (w : Work) (len : Nat) : Device × Bool :=
  let ch := chargeFor d w len
  let base := shareOk d w.eg ch && roomOk d ch
  if !(base && yellowOk d w ch) && (pushOutPick d w.eg w.cls (shareOk d w.eg ch && !roomOk d ch)).isNone then
    (countRefusal d w (if base then .yellowDrop else .tailDrop), false)
  else if queuedWork d > 8192 * pressesIn d ∧ w.cls < d.prs.shed then (countRefusal d w .tailDrop, false)
  else
    let r := limiterTest d w len
    (if r.2 then r.1 else count r.1 (devCtr2 0), r.2)

/-- The shed class becomes 1 when the queued work first exceeds the threshold. -/
def startShed (d : Device) : Device :=
  if d.prs.shed = 0 ∧ queuedWork d > 8192 * pressesIn d then { d with prs := { d.prs with shed := 1 } } else d

def shedUpdate (d : Device) : Device :=
  let w := queuedWork d
  let shed := if w > 8192 * pressesIn d then min 7 (d.prs.shed + 1)
    else if w < 4096 * pressesIn d then d.prs.shed - 1 else d.prs.shed
  { d with prs := { d.prs with shed := shed } }

/-- SHED_CLASS_UPDATE (R415). -/
def execShedClassUpdate (s : State) : Host.Outcome State Fault Refusal := s.withDev (shedUpdate s.dev)

/-! ## WF2Q+ arithmetic (R428) -/

def Frac.norm (a : Frac) : Frac :=
  let g := Nat.gcd a.num a.den
  if g ≤ 1 then a else { num := a.num / g, den := a.den / g }
def Frac.plus (a b : Frac) : Frac := Frac.norm { num := a.num * b.den + b.num * a.den, den := a.den * b.den }
def Frac.le (a b : Frac) : Bool := a.num * b.den ≤ b.num * a.den
def Frac.max (a b : Frac) : Frac := if a.le b then b else a
def Frac.least : List Frac → Option Frac
  | [] => none
  | a :: l =>
    match Frac.least l with
    | some b => some (if a.le b then a else b)
    | none => some a

/-- A child of a WF2Q+ parent: index, weight, times, length of its head, and whether it may be served now. -/
structure Child where
  index : Nat
  weight : Nat
  node : Node
  head : Nat
  ready : Bool
  deriving DecidableEq, Repr

/-- V of the parent. Where all its backlogged children start later, which no send could ever change, it is raised to the least of
their starts (DESIGN CHOICE, log 66). -/
def virtualNow (v : Frac) (l : List Child) : Frac :=
  if l.any (fun c => c.node.start.le v) then v
  else match Frac.least (l.map (fun c => c.node.start)) with
    | some m => Frac.max v m
    | none => v

/-- Among servable children that have started, the smallest finish; on a tie the lowest index (the list rises). -/
def earliest : List Child → Option Child
  | [] => none
  | c :: l =>
    match earliest l with
    | some e => if c.node.finish.le e.node.finish then some c else some e
    | none => some c

def wf2qPick (v : Frac) (l : List Child) : Option Child :=
  earliest (l.filter (fun c => c.ready && c.node.start.le (virtualNow v l)))

/-- A waking child starts now, never in the past. -/
def wake (v : Frac) (n : Node) (len weight : Nat) : Node :=
  let s := Frac.max v n.finish
  { start := s, finish := s.plus { num := len, den := max 1 weight } }

/-- V after a child of weight `w` sent `len` bytes, over the children still backlogged. -/
def virtualAfter (v : Frac) (len w : Nat) (l : List Child) : Frac :=
  let sum := (l.map Child.weight).sum
  let a := v.plus { num := len, den := max 1 (if l = [] then w else sum) }
  match Frac.least (l.map (fun c => c.node.start)) with
  | some m => Frac.max a m
  | none => a

/-- A child that has sent and stays backlogged. -/
def reload (n : Node) (len weight : Nat) : Node :=
  { start := n.finish, finish := n.finish.plus { num := len, den := max 1 weight } }

/-! ## Shapers (R427, R429) -/

def shaperKey (level i : Nat) : Nat := 65536 * level + i
def shaperOpen (d : Device) (level i : Nat) : Bool :=
  let x := Tbl.getD d.gal.shapers (shaperKey level i) {}
  x.cfg.rate == 0 || x.bucket > 0

def shaperSpend (d : Device) (level i len : Nat) : Device :=
  let spend := fun (x : Shaper) =>
    if x.cfg.rate = 0 then x
    else { x with bucket := x.bucket - 8000 * ((len + (if x.cfg.overhead then 20 else 0) : Nat) : Int) }
  { d with gal := { d.gal with shapers := Tbl.modifyD d.gal.shapers (shaperKey level i) {} spend } }

/-- One refill: the parameters of R434 take effect, and the bucket gains RATE for 1 µs up to BURST. -/
def shaperRefill (x : Shaper) : Shaper :=
  let c := x.next.getD x.cfg
  let full : Int := 8000 * (c.burst : Int)
  let fresh := x.next.isSome && x.cfg.rate == 0 && c.rate != 0
  { cfg := c, bucket := if fresh then full else min full (x.bucket + (c.rate : Int)), next := none }

/-- SHAPER_REFILL (R429, R434). -/
def execShaperRefill (s : State) : Host.Outcome State Fault Refusal :=
  let d := s.dev
  s.withDev { d with gal := { d.gal with shapers := Tbl.mapVals d.gal.shapers (fun _ x => shaperRefill x) } }

/-! ## The queues and their heads (R416, R426) -/

def queueCfg (d : Device) (q : Nat) : QueueCfg := Tbl.getD d.gal.cfg q {}
def groupWeight (d : Device) (g : Nat) : Nat := (Tbl.getD d.gal.groups g {}).weight

/-- R416. A decrypt frame is checked first, unless it is forwarded cut-through. -/
def galEligible (d : Device) (x : Forme) : Bool :=
  let through := !x.w.dec || (isLine d x.w.ing && bit (reg d (0x140100 + 4 * x.w.ing)) 31)
  (cellsWritten d x && (x.settled || through))
    || (portRate d x.w.eg ≤ portRate d x.w.ing && 4 ≤ pressedBytes d x / 256 && through)

def headOf (d : Device) (q : Nat) : Option (Nat × Forme) :=
  match queueOf d q with
  | f :: _ => (forme? d f).map (fun x => (f, x))
  | [] => none

def headLen (d : Device) (q : Nat) : Nat :=
  match headOf d q with
  | some (_, x) => outLen x
  | none => 0

/-- The queue's head may leave, as far as the queue decides. -/
def queueReady (d : Device) (q : Nat) : Bool :=
  shaperOpen d 0 q && (match headOf d q with | some (_, x) => galEligible d x | none => false)

/-- The strict-priority queue of highest class that is ready, among the eight queues from `q0` on. -/
def strictPick (d : Device) (q0 : Nat) : Option Nat :=
  ((List.range 8).reverse.map (fun c => q0 + c)).find? (fun q => (queueCfg d q).strict && queueReady d q)

def weightedReady (d : Device) (q : Nat) : Bool := !(queueCfg d q).strict && queueReady d q

/-! ## The token family (R426) -/

/-- Deficit round robin at port `p`: from class `k`, which has had its quantum or not. -/
def drrPick (d : Device) (p : Nat) : Nat → Tbl Nat → Nat → Bool → Option (Nat × Tbl Nat × Nat × Bool)
  | 0, _, _, _ => none
  | n + 1, t, k, had =>
    let q := 8 * p + k
    if weightedReady d q then
      let t := if had then t else Tbl.setD t q 0 (Tbl.getD t q 0 + 256 * (queueCfg d q).weight)
      if headLen d q ≤ Tbl.getD t q 0 then some (q, Tbl.setD t q 0 (Tbl.getD t q 0 - headLen d q), k, true)
      else drrPick d p n t ((k + 1) % 8) false
    else drrPick d p n t ((k + 1) % 8) false

def tokenPick (d : Device) (p : Nat) : Option (Device × Nat) :=
  match strictPick d (8 * p) with
  | some q => some (d, q)
  | none =>
    let (k, had) := Tbl.getD d.gal.drr p (0, false)
    match drrPick d p 560 d.gal.deficit k had with
    | some (q, t, k, had) =>
      some ({ d with gal := { d.gal with deficit := t, drr := Tbl.put d.gal.drr p (k, had) } }, q)
    | none => none

/-! ## The virtual-time family (R428) -/

/-- The weighted queues of a group that hold frames. -/
def queueChildren (d : Device) (g : Nat) : List Child :=
  ((List.range 8).map (fun c => 8 * g + c)).filterMap (fun q =>
    if (queueCfg d q).strict || queueOf d q == [] then none
    else some { index := q, weight := (queueCfg d q).weight, node := Tbl.getD d.gal.queueNode q {}
                head := headLen d q, ready := queueReady d q })

/-- The queue a group serves next. -/
def groupPick (d : Device) (g : Nat) : Option Nat :=
  match strictPick d (8 * g) with
  | some q => some q
  | none => (wf2qPick (Tbl.getD d.gal.vGroup g {}) (queueChildren d g)).map Child.index

def groupBusy (d : Device) (g : Nat) : Bool := (List.range 8).any (fun c => queueOf d (8 * g + c) != [])

/-- The head a group would send: that of the queue it serves next, or of its highest class that holds frames. -/
def groupHead (d : Device) (g : Nat) : Nat :=
  match groupPick d g with
  | some q => headLen d q
  | none =>
    match ((List.range 8).reverse.map (fun c => 8 * g + c)).find? (fun q => queueOf d q != []) with
    | some q => headLen d q
    | none => 0

/-- The groups of a port that hold frames, in rising order. -/
def busyGroups (d : Device) (p : Nat) : List Nat :=
  sortNats ((queuesOf (portQueued d p)).map (· / 8)).eraseDups

def groupChildren (d : Device) (p : Nat) : List Child :=
  (busyGroups d p).map (fun g =>
    { index := g, weight := groupWeight d g, node := Tbl.getD d.gal.groupNode g {}, head := groupHead d g
      ready := shaperOpen d 1 g && (groupPick d g).isSome })

def vtPick (d : Device) (p : Nat) : Option (Device × Nat) :=
  let groups := groupChildren d p
  match wf2qPick (Tbl.getD d.gal.vPort p {}) groups with
  | some c =>
    match groupPick d c.index with
    | some q =>
      let vg := virtualNow (Tbl.getD d.gal.vGroup c.index {}) (queueChildren d c.index)
      let vp := virtualNow (Tbl.getD d.gal.vPort p {}) groups
      some ({ d with gal := { d.gal with vGroup := Tbl.setD d.gal.vGroup c.index {} vg
                                         vPort := Tbl.setD d.gal.vPort p {} vp } }, q)
    | none => none
  | none => none

/-- The virtual times after queue `q` of a group sent `len` bytes; the frame has left its queue. -/
def vtAfter (d : Device) (p q len : Nat) : Device :=
  let g := q / 8
  let d :=
    if (queueCfg d q).strict then d
    else
      let v := virtualAfter (Tbl.getD d.gal.vGroup g {}) len (queueCfg d q).weight (queueChildren d g)
      let n := Tbl.getD d.gal.queueNode q {}
      let n' := if queueOf d q = [] then n else reload n (headLen d q) (queueCfg d q).weight
      { d with gal := { d.gal with vGroup := Tbl.setD d.gal.vGroup g {} v
                                   queueNode := Tbl.setD d.gal.queueNode q {} n' } }
  let v := virtualAfter (Tbl.getD d.gal.vPort p {}) len (groupWeight d g) (groupChildren d p)
  let n := Tbl.getD d.gal.groupNode g {}
  let n' := if groupBusy d g then reload n (groupHead d g) (groupWeight d g) else n
  { d with gal := { d.gal with vPort := Tbl.setD d.gal.vPort p {} v, groupNode := Tbl.setD d.gal.groupNode g {} n' } }

/-- Nodes that become backlogged as a frame of length `len` enters queue `q` of port `p`. -/
def vtWake (d : Device) (p q len : Nat) : Device :=
  let g := q / 8
  let wasBusy := groupBusy d g
  let qn := if queueOf d q = [] then
      wake (Tbl.getD d.gal.vGroup g {}) (Tbl.getD d.gal.queueNode q {}) len (queueCfg d q).weight
    else Tbl.getD d.gal.queueNode q {}
  let gn := if wasBusy then Tbl.getD d.gal.groupNode g {}
    else wake (Tbl.getD d.gal.vPort p {}) (Tbl.getD d.gal.groupNode g {}) len (groupWeight d g)
  { d with gal := { d.gal with queueNode := Tbl.setD d.gal.queueNode q {} qn
                               groupNode := Tbl.setD d.gal.groupNode g {} gn } }

/-! ## Entering the Galley (R403, R404, R421) -/

/-- The bank of a cell: the first with a free cell from (b + k) mod 16 on. -/
def bankFor (used : Tbl Nat) (b : Nat) : Nat :=
  (((List.range 16).map (fun i => (b + i) % 16)).find? (fun n => Tbl.getD used n 0 < 16384)).getD (b % 16)

def takeBanks (b : Nat) : Nat → Nat → Tbl Nat → List Nat × Tbl Nat
  | 0, _, used => ([], used)
  | n + 1, k, used =>
    let bank := bankFor used (b + k)
    let r := takeBanks b n (k + 1) (Tbl.setD used bank 0 (Tbl.getD used bank 0 + 1))
    (bank :: r.1, r.2)

/-- Put an admitted frame at the tail of its queue. -/
def enqueue (d : Device) (f : Nat) (x : Forme) (charge : Nat) : Device :=
  let q := queueFor d x.w
  let d := if vtFamily d then vtWake d x.w.eg q (outLen x) else d
  let r := takeBanks d.gal.bankPtr (cellsOf (outLen x)) 0 d.gal.bankUsed
  let g := { d.gal with bankPtr := (d.gal.bankPtr + 1) % 16, bankUsed := r.2
                        queues := Tbl.put d.gal.queues q (queueOf d q ++ [f]) }
  setForme { d with gal := g } f { x with stage := .queued, queue := some q, charge := charge, banks := r.1 }

/-- Stage 9 in AGGREGATE. -/
def enterGalley (d : Device) (f : Nat) (x : Forme) : Device :=
  if (galPort d x.w.eg).dropping then count (dropForme d f x 1 false) (portCtr 39 x.w.eg)
  else
    let ch := chargeFor d x.w (outLen x)
    let r := makeRoom x.w ch (d.prs.formes.length + 1) d
    if r.2 = .admitted then enqueue r.1 f x ch else countRefusal (dropForme r.1 f x 1 false) x.w r.2

/-! ## Dequeue (R406, R416, R417) -/

/-- A frame starts leaving its port; shapers and virtual times are charged for it. -/
def startSend (d : Device) (p q f : Nat) (x : Forme) : Device :=
  let d := unqueue d f x
  let d := setForme d f { x with stage := .sending, w := stamped d x.w 10 }
  let d := { d with prs := { d.prs with tx := Tbl.put d.prs.tx p f } }
  let d := shaperSpend (shaperSpend d 0 q (outLen x)) 2 p (outLen x)
  if vtFamily d then vtAfter (shaperSpend d 1 (q / 8) (outLen x)) p q (outLen x) else d

def uncorrectableEvent (d : Device) (bank cell action q : Nat) : Device :=
  emit d .galley 0x04 (leBytes 1 bank ++ leBytes 2 cell ++ leBytes 1 action ++ leBytes 2 q)

/-- Flush a queue whose link memory is bad. -/
def flushQueue (d : Device) (q : Nat) : Device :=
  (queueOf d q).foldl (fun d f =>
    match forme? d f with
    | some x => count (dropForme d f x 1 false) (devCtr 24)
    | none => d) d

/-- The selected frame as the ECC of its cells lets it go. -/
def sendWithEcc (d : Device) (p q f : Nat) (x : Forme) : GalleyEcc → Device
  | .clean => startSend d p q f x
  | .corrected => startSend (count d (devCtr 23)) p q f x
  | .badCell bank cell left =>
    let d := count d (devCtr 24)
    if left then uncorrectableEvent (startSend d p q f { x with stomped := true }) bank cell 1 q
    else uncorrectableEvent (dropForme d f x 1 false) bank cell 0 q
  | .badLink bank cell => uncorrectableEvent (flushQueue d q) bank cell 2 q

def tooOld (d : Device) (p : Nat) (x : Forme) : Bool :=
  maxAgeMs d p != 0 && x.w.arrival + maxAgeMs d p * msTicks < d.clock

def schedulerPick (d : Device) (p : Nat) : Option (Device × Nat) :=
  if !shaperOpen d 2 p then none else if vtFamily d then vtPick d p else tokenPick d p

/-- Select until a frame is young enough and not bad; `n` bounds the frames discarded. -/
def serve (p : Nat) (ecc : GalleyEcc) : Nat → Device → Device
  | 0, d => d
  | n + 1, d =>
    match schedulerPick d p with
    | some (e, q) =>
      match headOf e q with
      | some (f, x) =>
        if tooOld d p x then serve p ecc n (count (dropForme d f x 1 false) (portCtr 36 p))
        else match lateFault d x.w with
          | some long => serve p ecc n (endBad d f x long)
          | none => sendWithEcc e p q f x ecc
      | none => d
    | none => d

/-- A frame that started now could still be on the wire at the launch time of a staged message (R663). -/
def launchNear (d : Device) (p : Nat) : Bool :=
  (Tbl.getD d.prs.staged p []).any (fun f => match (forme? d f).bind Forme.launch with
    | some l => decide (l < d.clock + 4000 * 16435 / max 1 (portRate d p))
    | none => false)

def dequeue (d : Device) (p : Nat) (ecc : GalleyEcc) : Device :=
  if linkUp d p && isAggregate d p && !Tbl.has d.prs.tx p && !launchNear d p then serve p ecc (d.prs.formes.length + 1) d
  else d

/-- GALLEY_DEQUEUE (R406, R416, R417, R426-R429): the scheduler of port `p` selects an eligible frame. -/
def execGalleyDequeue (p : Fin 128) (ecc : GalleyEcc) (s : State) : Host.Outcome State Fault Refusal :=
  s.withDev (dequeue s.dev p ecc)

/-! ## Holds (R419-R422) -/

/-- Drop every frame queued for a port. -/
def flushPort (d : Device) (p outcome ctr : Nat) : Device :=
  (portQueued d p).foldl (fun d e =>
    match forme? d e.1 with
    | some x => count (dropForme d e.1 x outcome false) (portCtr ctr p)
    | none => d) d

/-- The hold ends with the link down. -/
def endHold (d : Device) (p : Nat) : Device :=
  let n := (portQueued d p).length
  let d := flushPort d p 4 38
  let d := setGalPort d p { galPort d p with holding := false, dropping := true }
  emit d .galley 0x03 (leBytes 1 p ++ leBytes 4 n)

def holdExpiry (d : Device) (p : Nat) : Device :=
  if (galPort d p).holding then endHold (elapseTo d ((galPort d p).downAt + holdMs d p * msTicks)) p else d

/-- GALLEY_HOLD_EXPIRY (R421). -/
def execGalleyHoldExpiry (p : Fin 128) (s : State) : Host.Outcome State Fault Refusal := s.withDev (holdExpiry s.dev p)

/-! ## Policers (R430-R434) -/

inductive Colour where
  | green | yellow | red
  deriving DecidableEq, Repr

/-- RFC 2698 and RFC 4115: the colour, and whether the frame is taken from each bucket. `enough b` says that bucket `b` passes it. -/
def colourOf (x : Policer) (input : Colour) (enough : Int → Bool) : Colour × Bool × Bool :=
  let input := if x.cfg.aware then input else .green
  if x.cfg.mode = 1 then
    if input = .red ∨ !enough x.te then (.red, false, false)
    else if input = .yellow ∨ !enough x.tc then (.yellow, false, true)
    else (.green, true, true)
  else
    if input = .green ∧ enough x.tc then (.green, true, false)
    else if input ≠ .red ∧ enough x.te then (.yellow, false, true)
    else (.red, false, false)

/-- Take `len` bytes from a policer's buckets. -/
def deduct (x : Policer) (len : Nat) (tc te : Bool) : Policer :=
  let b : Int := 31250 * (len : Int)
  { x with tc := if tc then x.tc - b else x.tc, te := if te then x.te - b else x.te }

def policer (d : Device) (n : Nat) : Policer := Tbl.getD d.gal.policers n {}
def setPolicer (d : Device) (n : Nat) (x : Policer) : Device :=
  { d with gal := { d.gal with policers := Tbl.setD d.gal.policers n {} x } }

/-- The deductions of frames whose last byte has passed stage 2 by now (R432). -/
def settleMeters (d : Device) : Device :=
  let now := d.gal.metered.filter (fun m => m.at_ ≤ d.clock)
  let d := now.foldl (fun d m => setPolicer d m.policer (deduct (policer d m.policer) m.len m.tc m.te)) d
  { d with gal := { d.gal with metered := d.gal.metered.filter (fun m => d.clock < m.at_) } }

/-- Meter a frame of `len` bytes whose last byte passes stage 2 at clock `ends`: one that is here is tested against its length and
deducted now, any other against 0 and deducted then (R432). A disabled policer passes the input colour. -/
def meter (d : Device) (n len ends : Nat) (input : Colour) : Device × Colour :=
  let d := settleMeters d
  let x := policer d n
  if x.cfg.mode = 0 then (d, input)
  else
    let whole := ends ≤ d.clock
    let r := colourOf x input (fun t => if whole then t ≥ 31250 * (len : Int) else t > 0)
    let m : MeterDue := { policer := n, len := len, at_ := ends, tc := r.2.1, te := r.2.2 }
    (settleMeters { d with gal := { d.gal with metered := d.gal.metered ++ (if r.1 = .red then [] else [m]) } }, r.1)

/-- One refill; under RFC 4115 with COUPLED the committed overflow goes to the excess bucket. -/
def policerRefill (x : Policer) : Policer :=
  let c := x.next.getD x.cfg
  let fullC : Int := 31250 * (c.cbs : Int)
  let fullE : Int := 31250 * (c.pbs : Int)
  if x.next.isSome && x.cfg.mode == 0 && c.mode != 0 then { cfg := c, tc := fullC, te := fullE, next := none }
  else
    let tc := min fullC x.tc + (c.cir : Int)
    let spill := if c.mode = 2 ∧ c.coupled then max 0 (tc - fullC) else 0
    { cfg := c, tc := min fullC tc, te := min fullE (min fullE x.te + (c.pir : Int) + spill), next := none }

/-- POLICER_REFILL (R431, R434). -/
def execPolicerRefill (s : State) : Host.Outcome State Fault Refusal :=
  let d := settleMeters s.dev
  s.withDev { d with gal := { d.gal with policers := Tbl.mapVals d.gal.policers (fun _ x => policerRefill x) } }

/-! ## POLICER_SET and SHAPER_SET (R435-R437) -/

def maxRate : Nat := 1600000000
def maxBurst : Nat := 16777216

/-- Reserved bits and values of POLICER_SET; COUPLED is ignored outside MODE 2 (R769). -/
def policerOwn (desc : Bytes) : List (Nat × Bool) :=
  [zeroBits desc 21 0xC0, (22, decide (leField desc 22 1 > 2)), zeroBits desc 23 0xFC] ++ zeroFrom desc 40 63

/-- The first field that R436 turns away; under MODE 0 none is read. -/
def policerRange (desc : Bytes) : Option Nat :=
  let mode := leField desc 22 1
  if mode = 0 then none
  else firstBad
    [(24, decide (leField desc 24 4 > maxRate)), (28, decide (leField desc 28 4 > maxBurst)),
     (32, decide (leField desc 32 4 > maxRate) || (mode == 1 && decide (leField desc 32 4 < leField desc 24 4))),
     (36, decide (leField desc 36 4 > maxBurst))]

def policerBody (_ : Origin) (desc _buf : Bytes) (d : Device) : Verdict :=
  let n := leField desc 20 2
  let mode := leField desc 22 1
  let c : PolicerCfg :=
    if mode = 0 then { aware := (byteAt desc 23).getLsbD 0 }
    else { mode := mode, aware := (byteAt desc 23).getLsbD 0, coupled := mode == 2 && (byteAt desc 23).getLsbD 1
           cir := leField desc 24 4, cbs := leField desc 28 4, pir := leField desc 32 4, pbs := leField desc 36 4 }
  match policerRange desc with
  | some off => failAt d .badField off
  | none =>
    if roleStale d then fail d .roleStale
    else .done (setPolicer d n { policer d n with next := some c }) (zeros 16) none

/-- POLICER_SET (R434-R436). -/
def execPolicerSet (r : Fin 64) (s : State) : Host.Outcome State Fault Refusal :=
  s.withDev (runCommand 0x0210 r anyRight policerOwn policerBody [] s.dev)

def shaperOwn (desc : Bytes) : List (Nat × Bool) :=
  [(20, decide (leField desc 20 1 > 2)), (21, decide (leField desc 21 1 > 1))] ++ zeroFrom desc 32 63

/-- INDEX lies in the level's range of the profile's family. -/
def levelRange (d : Device) (level : Nat) : Nat :=
  if level = 0 then (if vtFamily d then 16384 else 1024) else if level = 1 then 2048 else 128

def shaperBody (_ : Origin) (desc _buf : Bytes) (d : Device) : Verdict :=
  let level := leField desc 20 1
  let i := leField desc 22 2
  let c : ShaperCfg := { overhead := leField desc 21 1 == 1, rate := leField desc 24 4, burst := leField desc 28 4 }
  if level = 1 ∧ !vtFamily d then failAt d .badField 20
  else if c.rate > maxRate then failAt d .badField 24
  else if c.burst > maxBurst then failAt d .badField 28
  else if i ≥ levelRange d level then failAt d .badIndex 22
  else if roleStale d then fail d .roleStale
  else
    let k := shaperKey level i
    let x := Tbl.getD d.gal.shapers k {}
    .done { d with gal := { d.gal with shapers := Tbl.put d.gal.shapers k { x with next := some c } } } (zeros 16) none

/-- SHAPER_SET (R434, R437). -/
def execShaperSet (r : Fin 64) (s : State) : Host.Outcome State Fault Refusal :=
  s.withDev (runCommand 0x0211 r anyRight shaperOwn shaperBody [] s.dev)

/-! ## QUEUE_SET (R438, R439, R425) -/

def queueOwn (desc : Bytes) : List (Nat × Bool) :=
  let ob := leField desc 20 1
  [(20, decide (ob > 2)), (21, if ob = 0 then decide (leField desc 21 1 > 1) else byteAt desc 21 != 0#8),
   (28, ob != 0 && decide (leField desc 28 1 > 1))] ++ zeroFrom desc 29 63

/-- OBJECT 0. -/
def setQueue (d : Device) (desc : Bytes) : Verdict :=
  let q := leField desc 22 2
  let strict := leField desc 21 1 == 1
  let w := leField desc 26 2
  if q ≥ levelRange d 0 then failAt d .badIndex 22
  else if !strict && (w == 0 || (!vtFamily d && decide (w > 255))) then failAt d .badField 26
  else if roleStale d then fail d .roleStale
  else
    let c : QueueCfg := { strict := strict, weight := if strict then (queueCfg d q).weight else w }
    .done { d with gal := { d.gal with cfg := Tbl.setD d.gal.cfg q {} c } } (zeros 16) none

/-- OBJECT 1: bind or unbind a group. -/
def setGroupBinding (d : Device) (desc : Bytes) : Verdict :=
  let g := leField desc 22 2
  let p := leField desc 24 1
  let bind := leField desc 28 1 == 0
  let w := leField desc 26 2
  if !vtFamily d then failAt d .badField 20
  else if g ≥ 2048 then failAt d .badIndex 22
  else if bind && w == 0 then failAt d .badField 26
  else if g < 128 ∧ p ≠ g then failAt d .badField 24
  else if g < 128 ∧ !bind then failAt d .badField 28
  else if bind && (match groupPort d g with | some n => n != p | none => false) then fail d .busyReferenced
  else if !bind && (groupBusy d g || Tbl.any d.gal.map (fun _ h => h == g)) then fail d .busyReferenced
  else if roleStale d then fail d .roleStale
  else
    let c : GroupCfg := if bind then { port := if g < 128 then none else some p, weight := w } else {}
    .done { d with gal := { d.gal with groups := Tbl.setD d.gal.groups g {} c } } (zeros 16) none

/-- OBJECT 2: map a pair of ports to a group, at once or when the old group holds none of the pair's frames; behind a change that
waits. -/
def setMap (d : Device) (o : Option Origin) (desc : Bytes) : Verdict :=
  let g := leField desc 22 2
  let p := leField desc 24 1
  let i := leField desc 25 1
  let r : Remap := { origin := o, desc := desc, eg := p, ing := i
                     group := if leField desc 28 1 = 0 then some g else none
                     started := match o with | some o => o.fetched | none => d.clock }
  let old := Tbl.getD d.gal.map (pairKey p i) p
  if !vtFamily d then failAt d .badField 20
  else if g ≥ 2048 then failAt d .badIndex 22
  else if groupPort d g ≠ some p then failAt d .badField 22
  else if !((isClient d p && isLine d i) || (isLine d p && isClient d i)) then failAt d .badField 24
  else if roleStale d then fail d .roleStale
  else if (r.group.getD p ≠ old ∧ pairInGalley d p i) ∨ d.gal.remaps.any (fun y => y.eg == p && y.ing == i) then
    let d := match o with | some o => enterInflight d o 0x0212 | none => d
    .accept { d with gal := { d.gal with remaps := d.gal.remaps ++ [r] } }
  else .done (commitRemap d { r with origin := none }) (zeros 16) none

def queueSetBody (o : Origin) (desc _buf : Bytes) (d : Device) : Verdict :=
  match leField desc 20 1 with
  | 0 => setQueue d desc
  | 1 => setGroupBinding d desc
  | _ => setMap d (some o) desc

/-- QUEUE_SET (R438, R439). -/
def execQueueSet (r : Fin 64) (s : State) : Host.Outcome State Fault Refusal :=
  s.withDev (runCommand 0x0212 r anyRight queueOwn queueSetBody [] s.dev)

/-- A pair's arriving frames wait ahead of the Galley while its map change waits (R425). -/
def remapping (d : Device) (w : Work) : Bool := d.gal.remaps.any (fun r => r.eg == w.eg && r.ing == w.ing)

def remapTimeout (d : Device) (ing eg : Nat) : Device :=
  match d.gal.remaps.find? (fun r => r.eg == eg && r.ing == ing) with
  | some r =>
    let d := elapseTo d (r.started + 100 * msTicks)
    let d := dropWhere d (fun x => x.queue.isSome && x.stage == .queued && x.w.eg == eg && x.w.ing == ing) 1 false (fun d _ => count d (devCtr 25))
    commitPair d eg ing
  | none => d

/-- QUEUE_REMAP_TIMEOUT (R425). -/
def execQueueRemapTimeout (ingress egress : Fin 128) (s : State) : Host.Outcome State Fault Refusal :=
  s.withDev (remapTimeout s.dev ingress egress)

end Sys2Proof.Machine
end

