-- ==== Sys2Proof/Machine/Tsi.lean ====
section
/-!
DEFINITION. The time-slot interchange (06): connection pages, TSI_PAGE_WRITE and TSI_SWITCH with its boundary and the page
change of each egress port.
-/
namespace Sys2Proof.Machine

/-! ## TSI_PAGE_WRITE (R306, R307) -/

def pageOwn (desc : Bytes) : List (Nat × Bool) :=
  [(20, decide (leField desc 20 1 > 1))] ++ zeroFrom desc 21 21 ++ [zeroBits desc 23 0xC0] ++ zeroFrom desc 26 63

/-- A reserved value of a connection entry. -/
def entryBad (e : W32) : Bool := conKind e == 3 || decide (conSize e > 4) || bits e 19 8 != 0

def entryOfBuf (buf : Bytes) (k : Nat) : W32 := w32 (leField buf (4 * k) 4)

/-- Position of the first entry with a reserved value. -/
def firstBadEntry (buf : Bytes) (n : Nat) : Option Nat := (List.range n).find? (fun k => entryBad (entryOfBuf buf k))

def writePage (t : Tbl W32) (first n : Nat) (buf : Bytes) : Tbl W32 :=
  (List.range n).foldl (fun t k => Tbl.setD t (first + k) 0#32 (entryOfBuf buf k)) t

def storePage (d : Device) (page first n : Nat) (buf : Bytes) : Device :=
  { d with frm := if page = 0 then { d.frm with page0 := writePage d.frm.page0 first n buf }
    else { d.frm with page1 := writePage d.frm.page1 first n buf } }

/-- A TSI_SWITCH is between acceptance and completion, which waits for the mirror on an ACTIVE member (R307, R314). -/
def switchPending (d : Device) : Bool := d.frm.switch.isSome || d.hif.inflight.any (fun x => x.opcode == 0x0281)

/-- The checks of R307. COUNT 0 with BUF_LEN 0, to which the list gives no status, completes OK and writes nothing (DESIGN CHOICE,
log 93). -/
def pageBody (o : Origin) (desc buf : Bytes) (d : Device) : Verdict :=
  let page := leField desc 20 1
  let first := leField desc 22 2
  let n := leField desc 24 2
  if o.bufLen ≠ 4 * n then failAt d .lengthError 16
  else if (page == 1) = d.frm.active then failAt d .badField 20
  else if first + n > slotTotal d then failAt d .badIndex 22
  else match firstBadEntry buf n with
    | some k => .fail d .badField (fit 16 (leBytes 2 8 ++ leBytes 2 k))
    | none =>
      if switchPending d then fail d .busyReferenced
      else if roleStale d then fail d .roleStale
      else .done (storePage d page first n buf) (zeros 16) none

/-- TSI_PAGE_WRITE (R306, R307). -/
def execTsiPageWrite (r : Fin 64) (buf : Bytes) (s : State) : Host.Outcome State Fault Refusal :=
  s.withDev (runCommand 0x0280 r anyRight pageOwn pageBody buf s.dev)

/-! ## Consistency (R303) -/

/-- Entry `i` of a page satisfies R303; `i` lies at slot `s` of port `p`. -/
def entryConsistent (d : Device) (t : Tbl W32) (i p : Nat) (e : W32) : Bool :=
  let n := sizeSlots (conSize e)
  let s := i - slotBase d p
  let lead := i - s % n
  let h := Tbl.getD t lead 0#32
  isSdh d (conPort e) && isLine d (conPort e) != isLine d p && conSlot e < portSlots d (conPort e)
    && conKind h == 1 && conSize h == conSize e && conPort h == conPort e && conSlot h % n == 0
    && conSlot e == conSlot h + s % n && s - s % n + n ≤ portSlots d p

/-- A container holds all its slots: the entries behind its first continue it. -/
def containerWhole (t : Tbl W32) (i : Nat) (e : W32) : Bool :=
  (List.range (sizeSlots (conSize e))).all (fun k =>
    let x := Tbl.getD t (i + k) 0#32
    conKind x == 1 && conSize x == conSize e && conPort x == conPort e && conSlot x == conSlot e + k)

/-- The first destination index whose entry is inconsistent. -/
def firstInconsistent (d : Device) (t : Tbl W32) : Option Nat :=
  (t.find? (fun x => conKind x.2 == 1 && (match slotPort d x.1 with
    | some p =>
      !entryConsistent d t x.1 p x.2
        || ((x.1 - slotBase d p) % sizeSlots (conSize x.2) == 0 && !containerWhole t x.1 x.2)
    | none => true))).map Prod.fst

/-! ## TSI_SWITCH (R308-R314) -/

def switchOwn (desc : Bytes) : List (Nat × Bool) := [zeroBits desc 21 0xFE] ++ zeroFrom desc 22 63

def switchBody (o : Origin) (desc _buf : Bytes) (d : Device) : Verdict :=
  let p := leField desc 20 1
  if !isSdh d p then failAt d .badIndex 20
  else match firstInconsistent d (standbyPage d) with
    | some i => .fail d .badField (fit 16 (leBytes 2 0 ++ leBytes 2 i))
    | none =>
      if roleStale d then fail d .roleStale
      else if switchPending d then .wait
      else
        let x : TsiSwitch := { origin := some o, refPort := p, copyBack := (byteAt desc 21).getLsbD 0
                               accepted := d.clock, internal := !(stream d p 0).inFrame }
        let d := enterInflight d o 0x0281
        .accept { d with frm := { d.frm with switch := some x } }

/-- TSI_SWITCH (R308, R309). -/
def execTsiSwitch (r : Fin 64) (s : State) : Host.Outcome State Fault Refusal :=
  s.withDev (runCommand 0x0281 r anyRight switchOwn switchBody [] s.dev)

/-- The internal frame timing ticks every 125 µs. -/
def nextFrameTick (d : Device) : Nat := (d.clock / 62500 + 1) * 62500

def referenceBoundary (d : Device) : Device :=
  match d.frm.switch with
  | some x =>
    if x.boundary.isNone then
      let int := x.internal || !(stream d x.refPort 0).inFrame
      let d := if int then elapseTo d (nextFrameTick d) else d
      { d with frm := { d.frm with switch := some { x with boundary := some d.clock, internal := int } } }
    else d
  | none => d

/-- TSI_REFERENCE_BOUNDARY (R310). -/
def execTsiReferenceBoundary (s : State) : Host.Outcome State Fault Refusal := s.withDev (referenceBoundary s.dev)

def sdhPorts (d : Device) : List Nat := (d.boot.profile.ports.map Prod.fst).filter (isSdh d)

/-- The slots from an association's first on that a container of the entry's SIZE takes. -/
def tributary (x : Assoc) (e : W32) : List Nat := upFrom x.slot (sizeSlots (conSize e))

/-- The switch changes the association's tributary, as a destination or as a source. -/
def switchTouches (d : Device) (old new : Tbl W32) (x : Assoc) : Bool :=
  isSdh d x.port && (((old ++ new).map Prod.fst).eraseDups).any (fun i =>
    let a := Tbl.getD old i 0#32
    let b := Tbl.getD new i 0#32
    let sent := tributary x (Tbl.getD old x.slot 0#32) ++ tributary x (Tbl.getD new x.slot 0#32)
    let feeds := fun (e : W32) => conKind e == 1 && (tributary x e).contains (conSource d e)
    a != b && (sent.contains i || feeds a || feeds b))

/-- Both directions' current output-digest windows of an association are void (R314). -/
def voidAssoc (d : Device) (a : Nat) (x : Assoc) : Device :=
  let received := (x.pred.getD (x.last.getD x.sfn)) / 2048
  voidNumber (voidNumber d (128 + a) (x.sfn / 2048)) (128 + a) received

/-- Mirrored commands that waited for a switch follow in their order, up to the next switch (R314, R578). -/
def drainLater (d : Device) : List TsiLater → Device
  | .page page first n buf :: l => drainLater (storePage d page first n buf) l
  | .switch x :: l =>
    let x := { x with accepted := d.clock, internal := !(stream d x.refPort 0).inFrame }
    { d with frm := { d.frm with switch := some x, later := l } }
  | [] => { d with frm := { d.frm with later := [] } }

/-- Every egress port has changed (R312). -/
def finishSwitch (d : Device) (x : TsiSwitch) : Device :=
  let old := activePage d
  let new := standbyPage d
  let hit := d.kn.assocs.filter (fun e => switchTouches d old new e.2)
  let d := hit.foldl (fun d e => voidAssoc d e.1 e.2) d
  let page := !d.frm.active
  let frm := { d.frm with active := page, switch := none }
  let frm := if x.copyBack then { frm with page0 := new, page1 := new } else frm
  let d := settleAll (checkSizes (count { d with frm := frm } (devCtr 9)))
  let at_ := x.boundary.getD 0
  let timing : Bytes := [if x.internal then 1#8 else 0#8]
  let d := emit d .tsi 0x01 (leBytes 1 (if page then 1 else 0) ++ leBytes 1 x.refPort ++ timing ++ leBytes 8 at_)
  let d := drainLater d d.frm.later
  match x.origin with
  | some o =>
    let res := leBytes 1 (if page then 1 else 0) ++ timing ++ zeros 6 ++ leBytes 8 at_
    let desc := fit 64 (leBytes 2 0x0281 ++ zeros 18 ++ leBytes 1 x.refPort ++ [if x.copyBack then 1#8 else 0#8])
    mirrorThenPost d 0x0281 desc [] (dueOf d o .ok res false)
  | none => d

/-- An egress port takes its entries from the new page from this frame on: its connections, their structure checks and AIS
follow (R311, R304, R288). -/
def portChanges (d : Device) (p : Nat) : Device :=
  match d.frm.switch with
  | some x =>
    if x.boundary.isSome && isSdh d p && !x.changed.contains p then
      let x := { x with changed := x.changed ++ [p] }
      let d := settleAll (checkSizes { d with frm := { d.frm with switch := some x } })
      if (sdhPorts d).all (fun q => x.changed.contains q) then finishSwitch d x else d
    else d
  | none => d

/-- TSI_PORT_PAGE_CHANGE (R311, R312, R314). -/
def execTsiPortPageChange (p : Fin 128) (s : State) : Host.Outcome State Fault Refusal := s.withDev (portChanges s.dev p)

end Sys2Proof.Machine
end

