-- ==== Sys2Proof/Machine/Overhead.lean ====
section
/-!
DEFINITION. What layer-one outputs send (06, R324-R326): OTN frames with the overhead that the device regenerates and their
FEC bytes, SDH containers with their section and path overhead, and AIS. Byte places that the rules do not give are those of
G.709 and G.707 (log 88).
-/
namespace Sys2Proof.Machine

/-! ## What goes back to the far end (R288) -/

/-- A receiver's defects that its own transmit direction reports: SM and PM BDI, MS-RDI, HP-RDI. -/
def smBdi (d : Device) (p : Nat) : Bool := [0, 2, 3, 4, 5].any (hasDefect d p)
def pmBdi (d : Device) (p : Nat) : Bool := [0, 2, 3, 4, 5, 6, 10].any (hasDefect d p)
def msRdi (d : Device) (p : Nat) : Bool := [0, 2, 5, 6].any (hasDefect d p)
def hpRdi (d : Device) (p i : Nat) : Bool := msRdi d p || [32, 33, 34, 36].any (hasPath d i)

/-- Errored blocks that frame `k` returns, at most `m` a frame, and what is left behind `n` frames. -/
def backIn (d : Device) (key m k : Nat) : Nat := min m (Tbl.getD d.frm.sendBack key 0 - m * k)
def returned (d : Device) (key n : Nat) : Device :=
  { d with frm := { d.frm with sendBack := Tbl.setD d.frm.sendBack key 0 (Tbl.getD d.frm.sendBack key 0 - n) } }

/-- The byte of a transmitted trace in frame `t` (R291). -/
def sentByte (d : Device) (kind i t : Nat) : Byte :=
  let x := trace d kind i
  byteAt x.sent (t % (if kind ≤ 1 && x.sentFormat == 0 then 16 else 64))

def bip8 (b : Bytes) : Byte := b.foldl (· ^^^ ·) 0#8

/-! ## OTN (R274, R275, R298, R324, R325) -/

/-- The FEC bytes of a row of 3,824 bytes: 16 interleaved codewords of 239 information bytes, zero in mode 0. -/
def fecBytes (mode : Nat) (row : Bytes) : Bytes :=
  if mode = 0 then zeros 256
  else
    let par := (List.range 16).map (fun j =>
      Config.rsParity ((List.range 239).map (fun i => byteAt row (16 * i + j))))
    (List.range 16).flatMap (fun i => par.map (fun w => byteAt w i))

/-- The payload type sent in PSI[0]: the one received on the partner, whose payload is carried. -/
def sentPt (d : Device) (p : Nat) : Nat :=
  (((partner d p).bind (Tbl.get? d.frm.portLabel))).getD (bits (frmCfg d p) 15 8)

/-- Columns 15 to 3,824 of frame `k` of superframe `n`: Knadra's bytes at rows 1-3 of column 15 and row 4 of column 16, PSI at
row 4 of column 15, and the payload. -/
def opuRows (d : Device) (p n : Nat) (fields payload : Bytes) (k : Nat) : List Bytes :=
  (List.range 4).map (fun r =>
    let kn := byteAt fields (4 * k + r)
    let psi := if (64 * n + k) % 256 = 0 then BitVec.ofNat 8 (sentPt d p) else 0#8
    (if r = 3 then [psi, kn] else [kn, 0#8]) ++ slice payload (15232 * k + 3808 * r) 3808)

/-- SM or PM: TTI, BIP-8, then BEI, BDI and the low three bits. -/
def monitoring (tti bip : Byte) (bei : Nat) (bdi : Bool) (low : Nat) : Bytes :=
  [tti, bip, BitVec.ofNat 8 (16 * bei + (if bdi then 8 else 0) + low)]

/-- Columns 1 to 14 of row `r`: frame alignment, MFAS, SM, PM with status "normal path signal", GCC1 and GCC2; TCM1 to TCM6,
GCC0 and APS/PCC are zero. -/
def overheadRow (d : Device) (p n : Nat) (carried : Bytes) (bip : Byte) (k r : Nat) : Bytes :=
  let mfas := (64 * n + k) % 256
  if r = 0 then
    [0xF6#8, 0xF6#8, 0xF6#8, 0x28#8, 0x28#8, 0x28#8, BitVec.ofNat 8 mfas]
      ++ monitoring (sentByte d 2 p mfas) bip (backIn d p 8 k) (smBdi d p) 0 ++ zeros 4
  else if r = 2 then zeros 9 ++ monitoring (sentByte d 3 p mfas) bip (backIn d (16384 + p) 8 k) (pmBdi d p) 1 ++ zeros 2
  else if r = 3 then slice carried (4 * k) 4 ++ zeros 10
  else zeros 14

/-- The 64 frames of superframe `n` on OTN port `p`: `fields` are Knadra's 256 bytes, `carried` holds GCC1 and GCC2 of every
frame. The BIP-8 of a frame goes out two frames later. -/
def otnFrames (d : Device) (p n : Nat) (fields carried payload : Bytes) : Device × List Bytes :=
  let rows := (List.range 64).map (opuRows d p n fields payload)
  let bips := fit 2 (Tbl.getD d.frm.bips p []) ++ rows.map (fun l => bip8 l.flatten)
  let frame := fun (k : Nat) => (List.range 4).flatMap (fun r =>
    let row := overheadRow d p n carried (byteAt bips k) k r ++ ((rows[k]?).getD [])[r]?.getD []
    row ++ fecBytes (fecMode d p) row)
  let e := { d with frm := { d.frm with bips := Tbl.put d.frm.bips p (bips.drop 64) } }
  (returned (returned e p 512) (16384 + p) 512, (List.range 64).map frame)

/-! ## SDH (R276, R326) -/

/-- Payload bytes of a container in one frame (Table 7-3). -/
def frameBytes : Nat → Nat
  | 0 => 756 | 1 => 2340 | 2 => 9360 | 3 => 37440 | _ => 149760

/-- K1 and K2 as sent (Table 6-11). -/
def sentK (d : Device) (p : Nat) : Bytes :=
  let w := reg d (0xC0010 + 0x40 * p)
  let k2 := bits w 23 16
  let low := if muted d then 7 else if msRdi d p then 6 else k2 % 8
  [BitVec.ofNat 8 (bits w 31 24), BitVec.ofNat 8 (k2 / 8 * 8 + low)]

/-- J0, K1, K2 and M1 of frame `t`, the `k`th of its superframe. -/
def sectionBytes (d : Device) (p t k : Nat) : Bytes :=
  [sentByte d 0 p t] ++ sentK d p ++ [BitVec.ofNat 8 (backIn d p 255 k)]

/-- B1, and the three bytes of B2 per STM-1, of frame `t`. -/
def sectionParity (d : Device) (p t : Nat) : Bytes := fit (1 + portSlots d p) (Config.sectionParity p d.clock t)

/-- The AU pointer of an output container in frame `t`: H1, H2 and H3 as the pointer processor regenerates them, and a concatenation
indication for every further slot (R276). -/
def pointerBytes (d : Device) (p i size t : Nat) : Bytes :=
  beBytes 3 (Config.auPointer (128 * i + p) d.clock t) ++ (List.range (sizeSlots size - 1)).flatMap (fun _ => [0x9B#8, 0xFF#8])

/-- The C2 of the container at a destination slot index: the label of its source. -/
def sentC2 (d : Device) (i : Nat) : Byte :=
  let e := connection d i
  if conKind e = 1 then BitVec.ofNat 8 (Tbl.getD d.frm.pathLabel (conSource d e) 0) else 0#8

/-- One container frame: J1, B3 of the frame before, C2, G1, F2, H4, F3, K3 and N1, then the payload; F2 and F3 carry
Knadra's bytes, H4 and K3 pass through the TSI. -/
def pathFrame (d : Device) (p i t k len : Nat) (fields carried payload : Bytes) (b3 : Byte) : Bytes :=
  let g1 := BitVec.ofNat 8 (16 * backIn d (128 + i) 8 k + (if hpRdi d p i then 8 else 0))
  [sentByte d 1 i t, b3, sentC2 d i, g1, byteAt fields (2 * k), byteAt carried (2 * k), byteAt fields (2 * k + 1),
   byteAt carried (2 * k + 1), 0#8] ++ slice payload (len * k) len

/-- The 16 frames of superframe `n` of the container of SIZE `size` at slot index `i` of port `p`; `carried` holds H4 and K3 of
every frame. Behind the payload stand the parity of the section, B1 and B2, and the pointer bytes. -/
def sdhFrames (d : Device) (p i size n : Nat) (fields carried payload : Bytes) : Device × List Bytes :=
  let step := fun (acc : Byte × List Bytes) (k : Nat) =>
    let t := 16 * n + k
    let vc := pathFrame d p i t k (frameBytes size) fields carried payload acc.1
    (bip8 vc, acc.2 ++ [sectionBytes d p t k ++ vc ++ sectionParity d p t ++ pointerBytes d p i size t])
  let r := (List.range 16).foldl step (byteAt (Tbl.getD d.frm.bips (128 + i) []) 0, [])
  let e := { d with frm := { d.frm with bips := Tbl.put d.frm.bips (128 + i) [r.1] } }
  (returned (returned e p 4080) (128 + i) 128, r.2)

/-! ## Outputs (R288, R290, R557) -/

/-- AIS on an OTN port's ODUk, or on the container at slot index `i` of an SDH port. -/
def sendAis (d : Device) (p i : Nat) : Device := send d (.ais p i (if isSdh d p then sentK d p else []))

/-- The SIZE of the container at a destination slot index: its entry's. -/
def outSize (d : Device) (i : Nat) : Nat := conSize (connection d i)

/-- The outputs of a port: its ODUk, or the slot indices at which the entries in use start a container. -/
def portOutputs (d : Device) (p : Nat) : List (Nat × Nat) :=
  if isOtn d p then [(p, 0)]
  else ((pathsOf d p).filter (fun i => (i - slotBase d p) % sizeSlots (outSize d i) == 0)).map (fun i => (p, i))

/-- The outputs of all Line ports, or of all Client ports. -/
def sideOutputs (d : Device) (line : Bool) : List (Nat × Nat) :=
  ((d.boot.profile.ports.map Prod.fst).filter (fun p => isLine d p == line)).flatMap (portOutputs d)

/-- The frames from number `lo` up to `hi` of a superframe go out; a muted member sends AIS in their place. -/
def sendFrames (d : Device) (p i n lo hi : Nat) (fields carried payload : Bytes) : Device :=
  let r := if isSdh d p then sdhFrames d p i (outSize d i) n fields carried payload
    else otnFrames d p n fields carried payload
  if muted d then sendAis d p i else send r.1 (.frames p i ((r.2.take hi).drop lo))

end Sys2Proof.Machine
end

