-- ==== Sys2Proof/Machine/Knadra.lean ====
section
/-!
DEFINITION. Knadra (07) and its turns (05): associations, press capacity, superframes sent and received, and the commands.
-/
namespace Sys2Proof.Machine

def assoc? (d : Device) (a : Nat) : Option Assoc := Tbl.get? d.kn.assocs a
def setAssoc (d : Device) (a : Nat) (x : Assoc) : Device :=
  { d with kn := { d.kn with assocs := Tbl.put d.kn.assocs a x } }

/-! ## Signals (Table 7-3, Table 6-2) -/

/-- Payload bytes in a frame of the container that a direction carries: the one sent is its connection's; the one received is what the
pointers show, and nothing where they show none (R301). -/
def txFrame (d : Device) (x : Assoc) : Nat := frameBytes (outSize d x.slot)
def rxFrame (d : Device) (x : Assoc) : Nat := match structAt? d x.slot with | some k => frameBytes k | none => 0

/-- Blocks of a signal and the time they take in ns; an SDH container has `bytes` a frame. -/
def signalRate (d : Device) (x : Assoc) (bytes : Nat) : Nat × Nat :=
  match portCfg d x.port with
  | some c =>
    if c.type = 0x20 then (952, 12191) else if c.type = 0x21 then (952, 11766) else if c.type = 0x22 then (952, 1168)
    else (bytes, 2000000)
  | none => (0, 1)

/-- An OTN frame in ns. -/
def frameNs (d : Device) (x : Assoc) : Nat := (signalRate d x 0).2

/-- Superframe period in ns. -/
def superframeNs (d : Device) (x : Assoc) : Nat :=
  if isSdh d x.port then 2000000 else 64 * frameNs d x

/-- Frames of a superframe, and its payload in bytes (Table 7-3). -/
def superframeFrames (d : Device) (x : Assoc) : Nat := if isSdh d x.port then 16 else 64
def txPayload (d : Device) (x : Assoc) : Nat := if isSdh d x.port then 16 * txFrame d x else 974848
def rxPayload (d : Device) (x : Assoc) : Nat := if isSdh d x.port then 16 * rxFrame d x else 974848

def fieldBytes (d : Device) (x : Assoc) : Nat := if isSdh d x.port then 32 else 256
def indexMod (d : Device) (p : Nat) : Nat := if isSdh d p then 128 else 256

/-! ## Records (R321) -/

/-- The record of a direction: 0 transmit, 1 receive; current or next (R321). -/
def knRecord (a : Nat) (x : Assoc) (dir target : Nat) : Nat :=
  196608 + 4 * a + 2 * dir + ((if dir = 0 then x.txSel else x.rxSel) + target) % 2

/-- Enter ACQUIRE (R336). -/
def acquire (x : Assoc) : Assoc :=
  { x with rxState := 0, pred := none, failRun := 0, passRun := 0, output := false, outputDue := none, cut := none }

/-! ## Press capacity (R348, R349) -/

/-- A common scale of the signals' times. -/
def rateScale : Nat := 12191 * 11766 * 1168 * 2000000

/-- Blocks per `rateScale` ns of an association's enabled directions. -/
def assocLoad (d : Device) (x : Assoc) : Nat :=
  let load := fun (on : Bool) (bytes : Nat) =>
    let r := signalRate d x bytes
    if on then r.1 * (rateScale / r.2) else 0
  load x.txOn (txFrame d x) + load x.rxOn (rxFrame d x)

/-- The associations that fit, in ascending order: 4/3 block per ns and press in service. -/
def fitting (cap : Nat) : Nat → List (Nat × Nat) → List Nat
  | _, [] => []
  | used, (a, load) :: l => if used + load ≤ cap then a :: fitting cap (used + load) l else []

/-- An association loses its cycles, or has them back. -/
def starve (d : Device) (a : Nat) (x : Assoc) (v : Bool) : Device :=
  if x.starved = v then d
  else if v then
    let d := setAssoc d a { acquire x with starved := true }
    emit (count d (devCtr 10)) .framer 0x43 (leBytes 2 a ++ [3#8] ++ leBytes 4 x.peer)
  else setAssoc d a { acquire x with starved := false }

/-- Fit the associations to the presses in service. -/
def knCapacity (d : Device) : Device :=
  let users := d.kn.assocs.filter (fun e => !e.2.oos)
  let cap := pressesIn d * 4 * rateScale / 3
  let ok := fitting cap 0 (users.map (fun e => (e.1, assocLoad d e.2)))
  users.reverse.foldl (fun d e => starve d e.1 e.2 (!ok.contains e.1)) d

/-! ## Cipher (R328-R333) -/

/-- The IV for member `m` and superframe `n`. -/
def knIv (salt : Bytes) (m n : Nat) : Bytes := xorBytes salt (beBytes 4 m ++ beBytes 8 n)

/-- The announcement carried in superframe `n` (R329): COUNTDOWN, 0 where there is none. -/
def countdown (turn : Option Nat) (n : Nat) : Nat :=
  match turn with
  | some s => if n < s ∧ s ≤ n + 8 then s - n else 0
  | none => 0

/-- The fields of superframe `n` (Tables 7-1 and 7-2). -/
def knFields (sdh : Bool) (tagPrev : Bytes) (key cd member n : Nat) : Bytes :=
  if sdh then
    fit 16 tagPrev ++ leBytes 1 (key % 128 + (if cd = 0 then 0 else 128)) ++ beBytes 3 (member % 2 ^ 18)
      ++ beBytes 4 n ++ leBytes 1 cd ++ zeros 5 ++ [0x5C#8, 0xA3#8]
  else
    fit 16 tagPrev ++ leBytes 1 key ++ leBytes 1 (cd + (if cd = 0 then 0 else 128)) ++ beBytes 3 (member % 2 ^ 18)
      ++ beBytes 8 n ++ zeros 227

/-! ## Record integrity (R458) -/

/-- A record is loaded through the protection unit (R456, R528). -/
def loadRecord (d : Device) (rec_ : Nat) : Device := if quarantined d (recLine rec_) then d else readLine d (recLine rec_)

/-- RECORD_BAD for a record that an association uses. -/
def knRecordBad (d : Device) (a rec_ by_ : Nat) : Device :=
  let d := emit (count d (devCtr 28)) .key 0x02 (leBytes 4 rec_ ++ [1#8] ++ leBytes 4 a ++ leBytes 1 by_)
  assocOut d a 1

/-! ## Transmit (R334, R263, R264, R580) -/

/-- The ACTIVE member keeps its superframe mark ahead, and sends nothing at or above it. -/
def knMark (d : Device) (a n : Nat) : Device × Bool :=
  if d.duet.role = .active then
    let m := Tbl.getD d.duet.knMarks a { mark := 0, pend := none }
    let d := if m.pend.isNone ∧ m.mark ≤ n + 128 then requestMark d true a (n + 256) else d
    (d, n < (Tbl.getD d.duet.knMarks a { mark := 0, pend := none }).mark)
  else (d, true)

/-- Superframe S has been sent: the old record is erased and the next one is current. -/
def turnSent (d : Device) (a s : Nat) (x : Assoc) : Device :=
  let d := eraseRecord d (knRecord a x 0 0)
  let idx := x.txNext.getD 0
  let d := setAssoc d a { x with txSel := 1 - x.txSel, txCur := x.txNext, txNext := none, turn := none }
  emit (count d (devCtr 8)) .framer 0x60 (leBytes 2 a ++ leBytes 8 s ++ leBytes 1 idx)

/-- The number advances; a turn at this superframe ends, and changed FLAGS apply from the next one (R352). -/
def superframeEnd (d : Device) (a n : Nat) (x : Assoc) : Device :=
  let y := { x with sfn := min (2 ^ 64 - 1) (n + 1), began := d.clock, txOn := x.txPend.getD x.txOn, txPend := none }
  let d := match y.turn with
    | some s => if s ≤ n then turnSent d a s y else setAssoc d a y
    | none => setAssoc d a y
  if x.txPend.isSome then knCapacity d else d

/-- The source of an association's Line-side output has AIS (R288): the partner's ODUk, or the container that the page in use
connects. -/
def sourceHasAis (d : Device) (x : Assoc) : Bool :=
  if isSdh d x.port then slotAis d x.slot else (partner d x.port).any (portAis d)

/-- A superframe period of the Line output is sent as AIS. -/
def sendAisPeriod (d : Device) (a n : Nat) (x : Assoc) : Device :=
  superframeEnd (sendAis (addKnTuple d a n ([0x10#8] ++ beBytes 2 a ++ beBytes 8 n)) x.port x.slot) a n x

/-- Superframe `n` in service, under the current or, at and after S, the next record. -/
def sendCiphered (d : Device) (a n target : Nat) (payload carried : Bytes) (x : Assoc) : Device :=
  let key := (keyRec d (knRecord a x 0 target)).key
  let idx := (if target = 1 then x.txNext else x.txCur).getD 0
  let own := memberInUse d
  let fields := knFields (isSdh d x.port) (if x.sent then x.tagPrev else zeroTag) idx (countdown x.turn n) own n
  let iv := knIv x.salt own n
  let payload := payload.take (txPayload d x)
  let ct := fit payload.length (gcmCrypt key iv payload)
  let tag := fit 16 (gcmTag key iv (fields.drop 16) ct)
  let d := addKnTuple d a n ([0x10#8] ++ beBytes 2 a ++ beBytes 8 n ++ tag)
  let d := sendFrames (if muted d then d else send d (.superframe a fields ct tag)) x.port x.slot n 0 64 fields carried ct
  superframeEnd d a n { x with tagPrev := tag, sent := true }

/-- A period of the Line-side outputs that have no association: AIS (R290). The row of a number that no association has stands for it
(DESIGN CHOICE, log 93). -/
def sendUnbound (d : Device) : Device :=
  let bound := fun (o : Nat × Nat) => Tbl.any d.kn.assocs (fun _ x => x.port == o.1 && (x.slot == o.2 || isOtn d o.1))
  if !d.glb.awake || d.pwr.holding then d
  else ((sideOutputs d true).filter (fun o => !bound o)).foldl (fun d o => sendAis d o.1 o.2) d

/-- A superframe period of the Line output. A data path that is idle, or a port without power, has none (R39, R760). -/
def sendSuperframe (d : Device) (a : Nat) (payload carried : Bytes) : Device :=
  match assoc? d a with
  | none => sendUnbound d
  | some x =>
    if !d.glb.awake || d.pwr.holding then d
    else
      let n := x.sfn
      let r := knMark d a n
      let target := if x.turn.any (fun s => s ≤ n) then 1 else 0
      let rec_ := knRecord a x 0 target
      if !pathRuns d || !txInService x || !r.2 || n = 2 ^ 64 - 1 || sourceHasAis d x then sendAisPeriod r.1 a n x
      else
        let d := loadRecord r.1 rec_
        if recGood d rec_ then sendCiphered d a n target payload carried x
        else
          let e := knRecordBad d a rec_ 0
          match assoc? e a with
          | some y => sendAisPeriod e a n y
          | none => d

/-- KN_SUPERFRAME_TX (R334, R263, R264): a superframe period of the Line output, with the plaintext of its frames. -/
def execKnSuperframeTx (a : Fin 16384) (sent : ClientFrames) (s : State) : Host.Outcome State Fault Refusal :=
  s.withDev (sendSuperframe s.dev a sent.payload sent.carried)

/-! ## Receive (R327, R336-R343, R266-R268) -/

def rxMember (sdh : Bool) (f : Bytes) : Nat := beField f (if sdh then 17 else 18) 3
def rxKeyIndex (sdh : Bool) (f : Bytes) : Nat := if sdh then (byteAt f 16).toNat % 128 else (byteAt f 16).toNat
def rxCountdown (sdh : Bool) (f : Bytes) : Nat :=
  let ann := if sdh then (byteAt f 16).getLsbD 7 else (byteAt f 17).getLsbD 7
  let cd := (byteAt f (if sdh then 24 else 17)).toNat % 16
  if ann && 1 ≤ cd && cd ≤ 8 then cd else 0

/-- The received superframe number (R336). -/
def rxSfn (sdh : Bool) (x : Assoc) (f : Bytes) : Nat :=
  if sdh then
    let last := x.last.getD (x.rxHi * 2 ^ 32)
    let lo := beField f 20 4
    (last / 2 ^ 32 + (if lo < last % 2 ^ 32 then 1 else 0)) * 2 ^ 32 + lo
  else beField f 21 8

/-- The overhead of the received frame whose counter is `n` modulo `m`. -/
def frameAt (frames : List (Byte × Bytes)) (m n : Nat) : Bytes :=
  ((frames.find? (fun e => e.1.toNat % m == n)).map Prod.snd).getD []

/-- Knadra's bytes of a received superframe: on OTN in frames MFAS[5:0] = 0 to 63 at rows 1-3 of column 15 and row 4 of column
16 of the eight OPU overhead bytes, row by row; on SDH in F2 and F3 of the nine path overhead bytes, from the phase of
superframe lock on (R324-R327). -/
def rxFields (sdh : Bool) (phase : Nat) (frames : List (Byte × Bytes)) : Bytes :=
  if sdh then
    (List.range 32).map (fun i => byteAt (frameAt frames 16 ((phase + i / 2) % 16)) (if i % 2 = 0 then 4 else 6))
  else (List.range 256).map (fun i => byteAt (frameAt frames 64 (i / 4)) (([0, 2, 4, 7][i % 4]?).getD 0))

/-- What the partner or the TSI passes on: GCC1 and GCC2 behind the OPU overhead, H4 and K3 of the path overhead. -/
def rxCarried (sdh : Bool) (phase : Nat) (frames : List (Byte × Bytes)) : Bytes :=
  if sdh then
    (List.range 16).flatMap (fun k => let f := frameAt frames 16 ((phase + k) % 16); [byteAt f 5, byteAt f 7])
  else (List.range 64).flatMap (fun k => slice (frameAt frames 64 k) 8 4)

/-- The sync pair stands in the last frame of a superframe that starts at frame phase `ph`. -/
def pairAt (frames : List (Byte × Bytes)) (ph : Nat) : Bool :=
  let f := frameAt frames 16 ((ph + 15) % 16)
  byteAt f 4 == 0x5C#8 && byteAt f 6 == 0xA3#8

/-- Superframe lock of an SDH direction; the Bool says that the superframe is checked. Without lock every frame phase is
hunted; lock loss only stops the output (R327, R336, R341). -/
def superframeLock (d : Device) (a : Nat) (x : Assoc) (frames : List (Byte × Bytes)) : Device × Assoc × Bool :=
  if x.locked then
    if pairAt frames x.phase then (d, { x with syncBad := 0 }, true)
    else if x.syncBad = 3 then
      let x := { x with locked := false, syncBad := 0, syncAt := [], output := false, outputDue := none, cut := none }
      (emit (count d (portCtr 28 x.port)) .framer 0x44 (leBytes 2 a ++ [0#8]), x, false)
    else (d, { x with syncBad := x.syncBad + 1 }, true)
  else
    let found := (List.range 16).filter (pairAt frames)
    match found.find? x.syncAt.contains with
    | some ph =>
      let x := { acquire x with locked := true, phase := ph, syncAt := [], syncBad := 0 }
      (emit d .framer 0x44 (leBytes 2 a ++ [1#8]), x, false)
    | none => (d, { x with syncAt := found }, false)

/-- The tag verifies under a record. -/
def tagOk (d : Device) (x : Assoc) (rec_ pred : Nat) (f ct tag : Bytes) : Bool :=
  fit 16 (gcmTag (keyRec d rec_).key (knIv x.salt x.peer pred) (f.drop 16) ct) == fit 16 tag

/-- What the checks of R337 give: the cause of failure, if any. -/
def superframeCause (d : Device) (x : Assoc) (rec_ idx pred : Nat) (f ct tag : Bytes) : Option Nat :=
  let sdh := isSdh d x.port
  if rxMember sdh f ≠ x.peer then some 2
  else if rxKeyIndex sdh f ≠ idx then some 1
  else if x.rxState = 1 ∧ rxSfn sdh x f ≠ pred then some 3
  else if !tagOk d x rec_ pred f ct tag then some 0
  else none

/-- Move the receive direction to its next record. The old one is erased after KN_TURN_MISSED too, where R268 names no erasure
(DESIGN CHOICE, log 92). -/
def rxTurn (d : Device) (a : Nat) (x : Assoc) : Device × Assoc :=
  let d := eraseRecord d (knRecord a x 1 0)
  let x := { x with rxSel := 1 - x.rxSel, rxCur := x.rxNext, rxNext := none, rxTurn := none, rxDecided := false }
  (setAssoc d a x, x)

/-- S, or the first superframe behind it whose tag verifies, ends the turn: the old record goes, with KN_TURN_FOLLOWED. What the receiver
does where S's own tag fails the spec does not say: it goes on under the next record and keeps the old one until then (DESIGN
CHOICE, log 92). -/
def followTurn (d : Device) (a : Nat) (x : Assoc) : Device × Assoc :=
  let r := rxTurn d a x
  (emit r.1 .framer 0x61 (leBytes 2 a ++ leBytes 8 (x.rxTurn.getD 0) ++ leBytes 1 (x.rxNext.getD 0)), r.2)

/-- The announcement in a superframe whose tag has verified: S, and the index of the next key (R266, R330). -/
def takeAnnouncement (d : Device) (pred : Nat) (f : Bytes) (x : Assoc) : Assoc :=
  let sdh := isSdh d x.port
  let cd := rxCountdown sdh f
  if cd = 0 then x
  else { x with rxTurn := some (pred + cd), rxIndex := (rxKeyIndex sdh f + 1) % indexMod d x.port, rxDecided := false }

/-- Ns from the first frame of a superframe to the last byte of the tag it carries, which stands in row 4 of frame 3, or at the start
of row 7 of frame 7; and from there to the end of that frame. -/
def tagTimes (d : Device) (x : Assoc) : Nat × Nat :=
  if isSdh d x.port then (958333, 41667)
  else
    let t := frameNs d x
    let rest := t * 4064 / 16320
    (4 * t - rest, rest)

/-- Tick at which the first frame of superframe `s` began, where superframe `cur` has just brought its last tag byte. -/
def firstFrame (d : Device) (x : Assoc) (cur s : Nat) : Nat :=
  d.clock - ((tagTimes d x).1 + (cur - s) * superframeNs d x) / 2

/-- A turn is decided at the first frame of its superframe S; here `n` has begun, and `cur` brings its tag now. Where the next record
is not the announced one, or was installed after that frame, the receiver stays on its current key (R267, R342). -/
def decideTurn (d : Device) (a n cur : Nat) (x : Assoc) : Device × Assoc :=
  match x.rxTurn with
  | some s =>
    if x.rxDecided || n < s then (d, x)
    else if x.rxNext = some x.rxIndex ∧ x.rxNextAt ≤ firstFrame d x cur s then (d, { x with rxDecided := true })
    else
      (emit d .framer 0x62 (leBytes 2 a ++ leBytes 8 s ++ leBytes 1 x.rxIndex), { x with rxTurn := none })
  | none => (d, x)

/-- Frames of the superframe being received up to the first frame boundary that starts at least 2 µs after the last tag byte,
and the ns until then. -/
def boundaryAfter (d : Device) (x : Assoc) : Nat × Nat :=
  let rest := (tagTimes d x).2
  if isSdh d x.port then (8, rest)
  else
    let t := frameNs d x
    let k := (2000 - rest + t - 1) / t
    (4 + k, rest + k * t)

/-- The output changes at that boundary (R339). -/
def changeOutput (d : Device) (x : Assoc) (v : Bool) : Assoc :=
  { x with outputDue := some (d.clock + ((boundaryAfter d x).2 + 1) / 2, v) }

/-- A change whose boundary has come, within the superframe being received. -/
def outputNow (d : Device) (x : Assoc) : Assoc :=
  match x.outputDue with
  | some (_, v) => { x with output := v, outputDue := none, cut := some ((boundaryAfter d x).1, v) }
  | none => x

/-! ### Delivery (R274, R276, R288, R290, R340) -/

/-- The Client-side outputs of an association: its partner, or the containers that the pages in use connect to a slot of its
container. -/
def clientOutputs (d : Device) (x : Assoc) : List (Nat × Nat) :=
  if isSdh d x.port then
    (destinations d).filterMap (fun i =>
      let e := connection d i
      let feeds := conSource d e == x.slot || (containerOf d x.port (conSource d e)).any (fun c => c.1 == x.slot)
      match slotPort d i with
      | some q => if conKind e = 1 ∧ feeds ∧ (portOutputs d q).contains (q, i) then some (q, i) else none
      | none => none)
  else ((partner d x.port).map (fun q => [(q, 0)])).getD []

/-- A period of the Client-side outputs that no association feeds: unequipped where the page says so, with C2 and payload zero, and
AIS otherwise (R290, R302, R304). The row of a number that no association has stands for it (DESIGN CHOICE, log 93). -/
def deliverUnfed (d : Device) : Device :=
  let fed := d.kn.assocs.flatMap (fun e => clientOutputs d e.2)
  if !pathRuns d then d
  else ((sideOutputs d false).filter (fun o => !fed.contains o)).foldl (fun d o =>
    if isSdh d o.1 && conKind (connection d o.2) == 0 then sendFrames d o.1 o.2 (d.clock / 1000000) 0 16 [] [] []
    else if isSdh d o.1 || isOtn d o.1 then sendAis d o.1 o.2 else d) d

/-- A superframe's Client-side outputs carry AIS; KN_AIS_SF counts it in ACQUIRE and AUTH_FAIL. -/
def aisSuperframe (d : Device) (a : Nat) (x : Assoc) : Device :=
  let d := if rxInService x && !x.withheld && x.rxState != 1 then count d (portCtr 26 x.port) else d
  (clientOutputs d x).foldl (fun d o => sendAis d o.1 o.2) (setAssoc d a { x with cut := none })

/-- The frames of a superframe that are delivered: those before the output stopped, or from where it resumed. -/
def deliveredFrames (d : Device) (x : Assoc) : Nat × Nat :=
  match x.cut with
  | some (f, false) => (0, f)
  | some (f, true) => (f, superframeFrames d x)
  | none => if x.output then (0, superframeFrames d x) else (0, 0)

/-- Deciphered frames go out as they arrive, before their tag is checked; the others, and an output under AIS of its own, carry
AIS. -/
def deliverClear (d : Device) (a n : Nat) (carried plain : Bytes) (x : Assoc) : Device :=
  let r := deliveredFrames d x
  let size := rxPayload d x / superframeFrames d x
  let part := (plain.take (size * r.2)).drop (size * r.1)
  let d := if r.1 < r.2 && !muted d then send d (.clear a part) else d
  (clientOutputs d x).foldl (fun d o =>
    let ais := if isSdh d o.1 then slotAis d o.2 else portAis d x.port
    let d := if r.1 < r.2 && !ais then sendFrames d o.1 o.2 n r.1 r.2 [] carried plain else d
    if ais || r.2 - r.1 < superframeFrames d x then sendAis d o.1 o.2 else d) d

def superframePass (d : Device) (a pred : Nat) (f : Bytes) (turned : Bool) (x : Assoc) : Device :=
  let sdh := isSdh d x.port
  let r := if turned then followTurn (count d (portCtr 24 x.port)) a x else (count d (portCtr 24 x.port), x)
  let d := r.1
  let x := takeAnnouncement d pred f { r.2 with last := some pred, passRun := r.2.passRun + 1, failRun := 0 }
  if x.rxState ≠ 1 ∧ x.passRun ≥ x.mGood then
    let prev := x.rxState
    let d := setAssoc d a (changeOutput d { x with rxState := 1, passRun := 0, pred := some (pred + 1) } true)
    emit d .framer 0x41 (leBytes 2 a ++ leBytes 8 pred ++ leBytes 1 prev)
  else
    setAssoc d a { x with pred := some (if x.rxState = 1 then pred + 1 else rxSfn sdh x f + 1) }

/-- KN_SF_FAIL, at most once per association per 10 ms. -/
def failEvent (d : Device) (a pred cause : Nat) (x : Assoc) : Device × Assoc :=
  if x.sfFail.at_ = 0 ∨ d.clock + 1 ≥ x.sfFail.at_ + 10 * msTicks then
    (emit d .framer 0x42 (leBytes 2 a ++ leBytes 8 pred ++ leBytes 1 cause ++ leBytes 4 (x.sfFail.count + 1)),
      { x with sfFail := { count := 0, at_ := d.clock + 1 } })
  else (d, { x with sfFail := { x.sfFail with count := x.sfFail.count + 1 } })

/-- A failing superframe that verifies under the next record (R268). -/
def missedTurn (d : Device) (x : Assoc) (a pred : Nat) (turned : Bool) (f ct tag : Bytes) : Bool :=
  !turned && x.rxNext.isSome && tagOk d x (knRecord a x 1 1) pred f ct tag

/-- A failing superframe. A turn ends and an announcement counts wherever the tag verifies, under either record (R266).
KN_TURN_MISSED names as superframe of recovery the failing one, whose tag has passed under the next record (DESIGN CHOICE, log 92:
R272 does not say which). -/
def superframeFail (d : Device) (a pred cause : Nat) (f ct tag : Bytes) (turned : Bool) (x : Assoc) : Device :=
  let missed := missedTurn d x a pred turned f ct tag
  let recv := rxSfn (isSdh d x.port) x f
  let r := failEvent (count d (portCtr 25 x.port)) a pred cause
    { x with passRun := 0, failRun := min 15 (x.failRun + 1), fails := min (2 ^ 32 - 1) (x.fails + 1) }
  let d := r.1
  let x := r.2
  let entry := x.rxState = 1 ∧ x.failRun ≥ x.nFail
  let x := if entry then changeOutput d { x with rxState := 2 } false else x
  let x := { x with pred := some (if x.rxState = 1 then pred + 1 else recv + 1) }
  let d := if entry then
      emit (count d (portCtr 27 x.port)) .framer 0x40 (leBytes 2 a ++ leBytes 8 pred ++ leBytes 1 cause) else d
  if missed then
    let r := rxTurn d a x
    emit (setAssoc r.1 a (takeAnnouncement d pred f r.2)) .framer 0x63
      (leBytes 2 a ++ leBytes 8 pred ++ leBytes 1 (x.rxNext.getD 0))
  else if cause ≠ 0 ∧ tagOk d x (knRecord a x 1 (if turned then 1 else 0)) pred f ct tag then
    let r := if turned then followTurn d a x else (d, x)
    setAssoc r.1 a (takeAnnouncement r.1 pred f r.2)
  else setAssoc d a x

/-- The superframe behind the judged one has begun, and with it perhaps a turn. -/
def turnBegins (d : Device) (a : Nat) : Device :=
  match assoc? d a with
  | some x => let r := decideTurn d a (x.pred.getD 0) (x.pred.getD 0) x; setAssoc r.1 a r.2
  | none => d

/-- Decipher and judge one superframe whose number is predicted. -/
def judgeSuperframe (d : Device) (a pred : Nat) (x : Assoc) (f carried ct tag : Bytes) : Device :=
  let r := decideTurn d a pred (pred + 1) x
  let d := r.1
  let x := r.2
  let turned := x.rxDecided && x.rxTurn.any (fun s => s ≤ pred)
  let rec_ := knRecord a x 1 (if turned then 1 else 0)
  let d := loadRecord d rec_
  if !recGood d rec_ then aisSuperframe (knRecordBad (setAssoc d a x) a rec_ 0) a x
  else
    let idx := (if turned then x.rxNext else x.rxCur).getD 0
    let cause := superframeCause d x rec_ idx pred f ct tag
    let plain := fit ct.length (gcmCrypt (keyRec d rec_).key (knIv x.salt x.peer pred) ct)
    let d := deliverClear d a pred carried plain x
    let d := if x.rxState = 1 then d else count d (portCtr 26 x.port)
    let n := rxSfn (isSdh d x.port) x f
    let d := addKnTuple d a n ([0x11#8] ++ beBytes 2 a ++ beBytes 8 n ++ [if cause.isNone then 1#8 else 0#8])
    let x := { x with cut := none }
    turnBegins (match cause with
      | none => superframePass d a pred f turned x
      | some c => superframeFail d a pred c f ct tag turned x) a

/-- Changed FLAGS and LIMITS apply from the superframe that has begun, where they were commanded before it did; a receive direction
that they enable starts in ACQUIRE (R352). -/
def applyRxPend (d : Device) (a : Nat) : Device :=
  match assoc? d a with
  | some x =>
    match x.rxPend with
    | some (on, n, m) =>
      if firstFrame d x 0 0 < x.rxPendAt then d
      else
      let y := { x with rxOn := on, nFail := n, mGood := m, rxPend := none }
      let y := if on && !x.rxOn then acquire y
        else if on then y else { y with output := false, outputDue := none, cut := none }
      knCapacity (setAssoc d a y)
    | none => d
  | none => d

/-- One received superframe. A withheld one, one that began before withholding ended, and one without superframe lock are
neither deciphered nor checked (R289, R295, R341). -/
def receiveSuperframe (d : Device) (a : Nat) (frames : List (Byte × Bytes)) (payload tag : Bytes) : Device :=
  match assoc? d a with
  | none => deliverUnfed d
  | some x =>
    if !pathRuns d then d
    else
      let sdh := isSdh d x.port
      let y := { outputNow d x with skip := x.skip - 1, rxAt := d.clock }
      let r := if sdh then superframeLock d a y frames else (d, y, true)
      let d := r.1
      let y := r.2.1
      let f := rxFields sdh y.phase frames
      applyRxPend (
        if !rxInService y || y.withheld || x.skip ≠ 0 || !r.2.2 then aisSuperframe d a y
        else match y.pred with
          | some n =>
            judgeSuperframe d a n y f (rxCarried sdh y.phase frames) (payload.take (rxPayload d y)) tag
          | none => aisSuperframe d a { y with pred := some (rxSfn sdh y f + 1) }) a

/-- KN_SUPERFRAME_RX (R324-R327, R336-R343): the last tag byte for a superframe has arrived. `frames` are the overhead bytes of
its frames with the MFAS, or with a free-running count of the container's frames; `payload` is as received. -/
def execKnSuperframeRx (a : Fin 16384) (frames : List (Byte × Bytes)) (payload tag : Bytes) (s : State) :
    Host.Outcome State Fault Refusal :=
  s.withDev (receiveSuperframe s.dev a frames payload tag)

def outputChange (d : Device) (a : Nat) : Device :=
  match assoc? d a with
  | some x =>
    match x.outputDue with
    | some (t, _) => setAssoc (elapseTo d t) a (outputNow d x)
    | none => d
  | none => d

/-- KN_OUTPUT_CHANGE (R339). -/
def execKnOutputChange (a : Fin 16384) (s : State) : Host.Outcome State Fault Refusal := s.withDev (outputChange s.dev a)

/-! ## KN_ASSOC_SET (R351, R352) -/

def assocNo (desc : Bytes) : Nat := leField desc 20 2 % 2 ^ 14

/-- On an OTN port SLOT and RX_SFN_HI are reserved (Table 7-5). -/
def assocOwn (d : Device) (desc : Bytes) : List (Nat × Bool) :=
  let otn := isOtn d (leField desc 22 1)
  [zeroBits desc 21 0xC0, zeroBits desc 23 0xFC] ++ (if otn then zeroFrom desc 24 25 else []) ++ zeroFrom desc 27 27
    ++ [zeroBits desc 30 0xFC] ++ zeroFrom desc 31 31 ++ (if otn then zeroFrom desc 40 43 else []) ++ zeroFrom desc 56 63

def limitOr (n dflt : Nat) : Nat := if n = 0 then dflt else n

def assocOf (desc : Bytes) : Assoc :=
  { port := leField desc 22 1, slot := leField desc 24 2, txOn := (byteAt desc 23).getLsbD 0
    rxOn := (byteAt desc 23).getLsbD 1, nFail := limitOr (leField desc 26 1 % 16) 3
    mGood := limitOr (leField desc 26 1 / 16) 2, peer := leField desc 28 4 % 2 ^ 18, txStart := leField desc 32 8
    rxHi := leField desc 40 4, salt := slice desc 44 12, sfn := leField desc 32 8 }

/-- A field other than FLAGS or LIMITS differs. -/
def assocDiffers (a b : Assoc) : Bool :=
  a.port != b.port || a.slot != b.slot || a.peer != b.peer || a.txStart != b.txStart || a.rxHi != b.rxHi || a.salt != b.salt

/-- FLAGS and LIMITS of an existing association change from the next superframe of each direction (R352). -/
def changeAssoc (now : Nat) (old x : Assoc) : Assoc :=
  { old with txPend := some x.txOn, rxPend := some (x.rxOn, x.nFail, x.mGood), rxPendAt := now }

/-- What KN_ASSOC_SET leaves: a changed association, or a new one. -/
def storeAssoc (d : Device) (a : Nat) (x : Assoc) : Device :=
  match assoc? d a with
  | some old => setAssoc d a (changeAssoc d.clock old x)
  | none => knCapacity (setAssoc d a { x with withheld := withholds d x, began := d.clock })

def assocBody (_ : Origin) (desc _buf : Bytes) (d : Device) : Verdict :=
  let a := assocNo desc
  let x := assocOf desc
  if !isLine d x.port then failAt d .badField 22
  else if (if isSdh d x.port then !containerStart d x.port x.slot else x.slot != 0) then failAt d .badField 24
  else if d.svc.revoked.contains x.peer then failAt d .badField 28
  else if Tbl.any d.kn.assocs (fun b y => b != a && y.port == x.port && y.slot == x.slot) then fail d .busyReferenced
  else if (scOf d (49152 + a)).isSome then fail d .busyReferenced
  else if (assoc? d a).any (fun old => old.deleting.isSome || assocDiffers old x) then fail d .busyReferenced
  else if roleStale d then fail d .roleStale
  else .done (storeAssoc d a x) (zeros 16) none

/-- KN_ASSOC_SET (R351, R352). -/
def execKnAssocSet (r : Fin 64) (s : State) : Host.Outcome State Fault Refusal :=
  s.withDev (runCommand 0x0180 r anyRight (assocOwn s.dev) assocBody [] s.dev)

/-! ## KN_ASSOC_DEL (R355) -/

def assocDelOwn (desc : Bytes) : List (Nat × Bool) := [zeroBits desc 21 0xC0] ++ zeroFrom desc 22 63

def assocDelBody (o : Origin) (desc _buf : Bytes) (d : Device) : Verdict :=
  let a := assocNo desc
  match assoc? d a with
  | none => failAt d .badIndex 20
  | some x =>
    if x.deleting.isSome then failAt d .badIndex 20
    else if (assocRecords a).any (fun i => (keyRec d i).present && recFull d i) then fail d .noRoom
    else if roleStale d then fail d .roleStale
    else
      let d := enterInflight d o 0x0181
      .accept (setAssoc d a { x with deleting := some (o, d.clock), turn := none, rxTurn := none, output := false
                                     outputDue := none })

/-- KN_ASSOC_DEL (R355): accepted; both outputs send AIS and a pending turn is cancelled. -/
def execKnAssocDel (r : Fin 64) (s : State) : Host.Outcome State Fault Refusal :=
  s.withDev (runCommand 0x0181 r anyRight assocDelOwn assocDelBody [] s.dev)

/-- The four records are erased, and the association is gone. -/
def removeAssoc (d : Device) (a : Nat) : Device :=
  let d := (assocRecords a).foldl eraseRecord d
  let d := { d with kn := { d.kn with assocs := Tbl.del d.kn.assocs a }
                    duet := { d.duet with knMarks := Tbl.del d.duet.knMarks a
                                          digests := Tbl.del d.duet.digests (128 + a) } }
  knCapacity d

def assocDelDone (d : Device) (a : Nat) : Device :=
  match (assoc? d a).bind Assoc.deleting with
  | some (o, _) =>
    let d := removeAssoc d a
    mirrorThenPost d 0x0181 (fit 64 (leBytes 2 0x0181 ++ zeros 18 ++ leBytes 2 a)) [] (dueOf d o .ok (zeros 16) false)
  | none => d

/-- KN_ASSOC_DEL_DONE (R355). -/
def execKnAssocDelDone (a : Fin 16384) (s : State) : Host.Outcome State Fault Refusal := s.withDev (assocDelDone s.dev a)

/-! ## KN_KEY_INSTALL (R353, R354) -/

def knKeyOwn (desc : Bytes) : List (Nat × Bool) :=
  [zeroBits desc 21 0xC0, (22, decide (leField desc 22 1 > 1)), (23, decide (leField desc 23 1 > 1)), 
   (26, decide (leField desc 26 1 > 1))] ++ zeroFrom desc 28 63

def curOf (x : Assoc) (dir : Nat) : Option Nat := if dir = 0 then x.txCur else x.rxCur
def nextOf (x : Assoc) (dir : Nat) : Option Nat := if dir = 0 then x.txNext else x.rxNext

/-- The record is written and held; a first receive record starts ACQUIRE. In a frozen group it is not held (R537). -/
def holdKey (d : Device) (a : Nat) (x : Assoc) (dir target idx : Nat) (key : Bytes) : Device :=
  let rec_ := knRecord a x dir target
  let d := writeLine (writeRec d rec_ 1 key) (recLine rec_)
  let next := (curOf x dir).map (fun n => (n + 1) % indexMod d x.port)
  let y := if dir = 0 then (if target = 0 then { x with txCur := some idx } else { x with txNext := next })
    else (if target = 0 then acquire { x with rxCur := some idx } else { x with rxNext := next, rxNextAt := d.clock })
  let d := setAssoc d a y
  if writable d (recLine rec_) then d else assocOut d a 2

def knKeyBody (o : Origin) (desc buf : Bytes) (d : Device) : Verdict :=
  let a := assocNo desc
  let dir := leField desc 22 1
  let kind := leField desc 23 1
  let target := leField desc 26 1
  match assoc? d a with
  | none => failAt d .badIndex 20
  | some x =>
    if quarantined d (recLine (knRecord a x dir target)) then fail d .busyReferenced
    else if x.oos || x.deleting.isSome then failAt d .badIndex 20
    else if (if target = 0 then curOf x dir else nextOf x dir).isSome then fail d .busyReferenced
    else if target = 1 ∧ (curOf x dir).isNone then failAt d .badField 26
    else if target = 0 ∧ isSdh d x.port ∧ leField desc 27 1 > 127 then failAt d .badField 27
    else if o.bufLen ≠ (if kind = 0 then 40 else 0) then failAt d .lengthError 16
    else
      let r := slotKey d o.fn kind (leField desc 24 2) 24 32 buf
      match r.2 with
      | .error (st, res) => .fail r.1 st (fit 16 res)
      | .ok key =>
        if recFull d (knRecord a x dir target) then fail r.1 .noRoom
        else if roleStale d then fail r.1 .roleStale
        else .done (holdKey r.1 a x dir target (leField desc 27 1) key) (zeros 16) none

/-- KN_KEY_INSTALL (R353, R354, R546). -/
def execKnKeyInstall (r : Fin 64) (buf : Bytes) (s : State) : Host.Outcome State Fault Refusal :=
  s.withDev (runCommand 0x0182 r anyRight knKeyOwn knKeyBody buf s.dev)

/-! ## KN_TURN_SCHEDULE (R260-R265) -/

def knTurnOwn (desc : Bytes) : List (Nat × Bool) :=
  let op := leField desc 22 1
  [zeroBits desc 21 0xC0, (22, decide (op > 2)), (23, op == 0 && decide (leField desc 23 1 > 3)),
   (30, op == 0 && decide (leField desc 30 4 > 999999999))] ++ zeroFrom desc 34 63

/-- The first superframe that starts at or after T, with the one being sent begun at `began` (R262). The base advances as its
frequency word says. -/
def firstAt (d : Device) (x : Assoc) (base t : Nat) : Nat :=
  let v := tbase d base
  let unit : Int := 2 ^ 16 * 10 ^ 9
  let rate := unit + v.freq
  let gap := ((t * nsUnit : Nat) - (v.value : Int)) * unit + 2 * ((d.clock : Int) - x.began) * rate * nsUnit
  let period := superframeNs d x * rate * nsUnit
  x.sfn + ((gap + period - 1) / period).toNat

def cancelTurn (d : Device) (a : Nat) : Verdict :=
  match assoc? d a with
  | some x =>
    match x.turn with
    | some s =>
      if x.sfn + 8 < s then .done (setAssoc d a { x with turn := none }) (fit 16 [1#8]) none
      else .done d (fit 16 [2#8]) none
    | none => .done d (zeros 16) none
  | none => .done d (zeros 16) none

def knTurnBody (_ : Origin) (desc _buf : Bytes) (d : Device) : Verdict :=
  let a := assocNo desc
  let op := leField desc 22 1
  if op = 2 then cancelTurn d a
  else match assoc? d a with
    | none => failAt d .badIndex 20
    | some x =>
      let b := leField desc 23 1 % 4
      let t := leField desc 24 6 * 10 ^ 9 + leField desc 30 4
      if x.oos || x.deleting.isSome || x.txNext.isNone then failAt d .badIndex 20
      else if x.turn.isSome then fail d .busyReferenced
      else if op = 0 ∧ t > baseNs d b + 10 ^ 15 then failAt d .badField 24
      else if roleStale d then fail d .roleStale
      else
        let s := if op = 0 then max (firstAt d x b t) (x.sfn + 9) else x.sfn + 9
        .done (setAssoc d a { x with turn := some s }) (fit 16 (leBytes 8 s)) none

/-- KN_TURN_SCHEDULE (R260-R265). -/
def execKnTurnSchedule (r : Fin 64) (s : State) : Host.Outcome State Fault Refusal :=
  s.withDev (runCommand 0x0183 r anyRight knTurnOwn knTurnBody [] s.dev)

/-! ## The view (Table 7-8) -/

def knView (x : Assoc) : KnView :=
  { status := flagAt 31 true ||| flagAt 30 (txInService x) ||| flagAt 29 (rxInService x)
      ||| flagAt 28 (x.oos || x.starved) ||| place 27 26 x.rxState ||| flagAt 25 x.turn.isSome
      ||| flagAt 24 x.txNext.isSome ||| flagAt 23 x.rxNext.isSome ||| place 19 16 (min 15 x.failRun)
      ||| place 15 8 (x.txCur.getD 0) ||| place 7 0 (x.rxCur.getD 0)
    sfn := BitVec.ofNat 64 (x.last.getD 0)
    fails := w32 x.fails }

def selectAssoc (d : Device) (val : W32) : Device :=
  let d := plainWrite d 0xC8004 val
  let v := match assoc? d (bits val 13 0) with | some x => knView x | none => {}
  { d with kn := { d.kn with view := v } }

/-- FRM_KN_SEL_WRITE (R356). -/
def execFrmKnSelWrite (val : W32) (s : State) : Host.Outcome State Fault Refusal := s.withDev (selectAssoc s.dev val)

end Sys2Proof.Machine
end

