-- ==== Sys2Proof/Machine/Presses.lean ====
section
/-!
DEFINITION. Presses in and out of service, the checks of the fixed-latency class, and stopping the data path (R133, R134,
R152, R156, R618, R700).
-/
namespace Sys2Proof.Machine

/-! ## The fixed-latency class on a port (R148, R156) -/

/-- The Line port of a port's pair. -/
def pairLine (d : Device) (p : Nat) : Nat := if isLine d p then p else (partner d p).getD p

/-- The class is in service on the port's pair. -/
def flInService (d : Device) (p : Nat) : Bool :=
  flActive d p && (match partner d p with | some q => flActive d q | none => false)

/-- Pinning the port's SecY would put a ninth context in a set or a seventeenth key on its press, beside what the ports that
passed the check pin. -/
def pinsTooMuch (d : Device) (p : Nat) : Bool :=
  let ports := p :: d.prs.flPassed.filter (· != p)
  let ss := ports.map (flSecy d)
  let mine := d.ms.sas.filter (fun e => saSecy d e.1 == some (flSecy d p))
  mine.any (fun e => decide (pinnedInSet d ss (cacheSet e.1) > 8))
    || decide (pinnedOnPress d ports (flPress d p) > 16)

/-- The reason of FL_CLASS_OFF for a port that fails a check at the seal: the first of 0, 1, 2, 3 and 5 that applies, where
several do (DESIGN CHOICE, log 86: R156 gives no order). -/
def flReason (d : Device) (p : Nat) : Option Nat :=
  match partner d p with
  | none => some 0
  | some q =>
    if !(d.glb.mode == .link || d.glb.mode == .mixed) || !isLink d p || !isEth d p || portRate d p > 100000 then some 0
    else if flSecy d p ≠ flSecy d q ∨ flPress d p ≠ flPress d q then some 1
    else if !pressIn d (flPress d p) then some 2
    else
      match secy d (flSecy d p) with
      | none => some 3
      | some s => if s.port ≠ pairLine d p then some 3 else if pinsTooMuch d p then some 5 else none

def flOff (d : Device) (p reason : Nat) : Device := emit d .macsec 0x34 (leBytes 1 p ++ leBytes 1 reason)

/-- Both links of the pair are up, so that the clause 99 verify exchange has run, or the pair runs no MAC Merge (R152,
R153). -/
def mergeRun (d : Device) (p : Nat) : Bool :=
  portRate d p == 1000 || (linkUp d p && (match partner d p with | some q => linkUp d q | none => false))

/-- The exchange has passed on both links. -/
def mergeVerified (d : Device) (p : Nat) : Bool :=
  let ok := fun q => (Tbl.getD d.lane.ports q {}).merge
  portRate d p == 1000 || (ok p && (match partner d p with | some q => ok q | none => false))

/-- A port that passed the seal's checks enters the class, unless verification failed or its pinning has become too much
since; its contexts and keys are pinned (R122, R132, R152). -/
def flEnter (d : Device) (p : Nat) : Device :=
  if d.prs.flPassed.contains p ∧ !flActive d p ∧ pressIn d (flPress d p) ∧ mergeRun d p then
    if !mergeVerified d p then flOff d p 4
    else if pinsTooMuch d p then flOff d p 5
    else fitCaches { d with prs := { d.prs with flActive := d.prs.flActive ++ [p] } }
  else d

/-- The checks of GLB_SEAL, port by port. -/
def flSeal (d : Device) : Device :=
  (List.range 128).foldl (fun d p =>
    if flEnabled d p then
      match flReason d p with
      | some r => flOff d p r
      | none => flEnter { d with prs := { d.prs with flPassed := d.prs.flPassed ++ [p] } } p
    else d) d

/-- The class leaves a port whose press goes out of service (reason 2, R134) or whose verification fails (reason 4, R152): its
contexts are ordinary entries of their sets. -/
def flLeave (reason : Nat) (d : Device) (p : Nat) : Device :=
  let mine := (d.ms.sas.filter (fun e => saSecy d e.1 == some (flSecy d p))).map Prod.fst
  let d := { d with prs := { d.prs with flActive := d.prs.flActive.filter (· != p) } }
  flOff (mine.foldl fillSa d) p reason

/-- The verify exchange has run at a link-up: a port in service that fails it leaves, one that waits for it may enter (R152). -/
def flVerify (d : Device) (p : Nat) : Device :=
  if flActive d p ∧ mergeRun d p ∧ !mergeVerified d p then flLeave 4 d p else flEnter d p

/-! ## Out of service and back (R133) -/

/-- A press still has work on the frame. -/
def onPress (m : Nat) (x : Forme) : Bool := x.press == some m && !x.done && x.stage != .wait

/-- A frame that a press has lost: flushed in the fixed-latency class, stomped where it is leaving, else dropped. Table 3-11
names no counter for the ordinary ones: they are counted in `pressLost` (log 55). -/
def loseFrame (d : Device) (f : Nat) (x : Forme) : Device :=
  let d := if x.w.fl then d else { d with prs := { d.prs with pressLost := d.prs.pressLost + 1 } }
  if x.w.fl then dropForme (count d (portCtr 7 x.w.ing)) f x 4 true
  else if x.stage = .sending then
    settleAfter x (setForme (voidWindow d x.w.ing x.w.win) f { x with stomped := true, done := true, settled := true })
  else dropForme d f x 1 true

/-- PRESS_OUT: 0 proof run failed, 1 DEGRADE response. -/
def pressOut (d : Device) (m cause : Nat) : Device :=
  if !pressIn d m then d
  else
    let d := { d with duet := { d.duet with faultAt := d.clock + 1 } }
    let d := setBits (setPress d m { out := true }) 0x140008 (mask m m) (mask m m)
    let d := ((d.prs.formes.filter (fun e => onPress m e.2)).map Prod.fst).foldl
      (fun d f => match forme? d f with | some x => loseFrame d f x | none => d) d
    let d := emit d .macsec 0x32 (leBytes 1 m ++ leBytes 1 cause)
    let d := (d.prs.flActive.filter (fun p => flPress d p == m)).foldl (flLeave 2) d
    knCapacity (pressFloor d)

/-- PRESS_BACK. -/
def pressBack (d : Device) (m : Nat) : Device :=
  if m < pressCount d ∧ (press d m).out then
    let d := emit (setPress d m {}) .macsec 0x33 (leBytes 1 m)
    knCapacity ((d.prs.flPassed.filter (fun p => flPress d p == m)).foldl flEnter d)
  else d

/-- A proof run of presses: which of `ms` fail goes out of service; the others return where `back` holds. -/
def judgePresses (d : Device) (ms bad : List Nat) (back : Bool) : Device :=
  ms.foldl (fun d m => if bad.contains m then pressOut d m 0 else if back then pressBack d m else d) d

/-! ## The data path stops (R618, R620, R700) -/

/-- Every frame in flight is discarded and counted in STOP_DROPPED, muted output of superframes is left to their next
boundary. -/
def stopTraffic (d : Device) : Device :=
  let d := dropWhere d (fun _ => true) 4 false (fun d _ => count d (devCtr 61))
  let d := d.prs.fifo.foldl (fun d e => e.2.foldl (fun d w => count (dropWork d w 4 false) (devCtr 61)) d) d
  let d := setFetching d []
  { d with prs := { d.prs with fifo := [], waiting := [], flBusy := [], tx := [] } }

/-- No lane group carries a port: PROVISION and LOCKED (R17, R55). What the profile states of its mode stays,
and so does the duet link (R739). -/
def portsOff (d : Device) : Device :=
  { d with boot := { d.boot with profile := { d.boot.profile with ports := [], groups := List.replicate 8 0 } }
           lane := { prbsReads := d.lane.prbsReads, dlState := d.lane.dlState, dlForwarded := d.lane.dlForwarded
                     dlLocked := d.lane.dlLocked }
           glb := { d.glb with groupPll := 0#8 } }

end Sys2Proof.Machine
end

