-- ==== Sys2Proof/Machine/Tamper.lean ====
section
/-!
DEFINITION. Tamper sources, filters, responses, zeroisation and the battery domain (14).
-/
namespace Sys2Proof.Machine

/-! ## Sources (Table 14-1) -/

def defaultSensor (s : Nat) : Sensor :=
  if s ≤ 4 then { response := 3, n := 2, w := 62 }
  else if s = 5 ∨ s = 16 then { response := 3, n := 1, w := 1 }
  else if s = 8 then { response := 2, n := 4, w := 1000 }
  else if 10 ≤ s ∧ s ≤ 13 then { response := 2, n := 8, w := 20000 }
  else { response := 2, n := 1, w := 1 }

/-- The response and filter in force. -/
def sensor (d : Device) (s : Nat) : Sensor := (d.tmp.sensors[s]?).getD (defaultSensor s)

def source (d : Device) (s : Nat) : TSource := Tbl.getD d.tmp.sources s {}
def setSource (d : Device) (s : Nat) (x : TSource) : Device :=
  { d with tmp := { d.tmp with sources := Tbl.setD d.tmp.sources s {} x } }

def battSource (s : Nat) : Bool := s ≤ 5

/-- W in ticks. -/
def windowTicks (d : Device) (s : Nat) : Nat := (sensor d s).w * usTicks

/-- A detection of the source counts as an event: its monitor is armed and unmasked (R606, R607, R529). A reading of 0 of a
glitch detector is an undervoltage. -/
def sourceArmed (d : Device) (f : Fuses) (s reading : Nat) : Bool :=
  (battSource s || d.tmp.mainPower)
    && !(s == 4 && (d.tmp.pwrfail || !d.tmp.mainPower))
    && !((s == 6 || s == 7) && d.tmp.pwrfail && reading == 0)
    && !(s == 9 && !d.tmp.clockArmed)
    && !(s == 16 && !f.debugKill)
    && s != 5

/-- The source has a block of its own that DEGRADE takes out. -/
def degradable (s : Nat) : Bool := (10 ≤ s && s ≤ 13) || s == 15

/-- The response an alarm of the source has now (R613, R625). -/
def effective (d : Device) (s : Nat) : Nat :=
  let r := (sensor d s).response
  if !d.boot.ended && (!d.boot.profileOk || 2 ≤ r) then 3
  else if r = 1 ∧ !degradable s then 2
  else r

/-! ## Clearing (R610, R617) -/

/-- A raised alarm without an event for W clears; while the device waits for a new identity, the end of the last ZEROISE
source's alarm starts the wait of R621. -/
def clearAlarm (d : Device) (s : Nat) : Device :=
  let x := source d s
  match x.events with
  | e :: _ =>
    if x.raised ∧ e + windowTicks d s ≤ d.clock then
      let d := emit (setSource d s { x with raised := false }) .tamper 0x03
        (leBytes 1 s ++ leBytes 4 ((d.clock - x.raisedAt) / usTicks))
      if (sensor d s).response = 3 ∧ d.tmp.zeroWait.isSome then
        { d with tmp := { d.tmp with zeroWait := some d.clock } }
      else d
    else d
  | [] => d

/-- ALARM_CLEAR (R617): W has passed since the source's last event. -/
def execAlarmClear (src : Fin 18) (s : State) : Host.Outcome State Fault Refusal :=
  let d := s.dev
  match (source d src).raised, (source d src).events with
  | true, e :: _ => s.withDev (clearAlarm (elapseTo d (e + windowTicks d src)) src)
  | _, _ => s.withDev d

/-! ## The battery domain (R630-R634) -/

/-- The 48-bit counter at 32.768 kHz. -/
def battCount (d : Device) : Nat := d.tmp.batt.ns * 32768 / 10 ^ 9 % 2 ^ 48

def setBatt (d : Device) (b : Batt) : Device := { d with tmp := { d.tmp with batt := b } }

/-- A battery-log entry (Table 14-4). -/
def logEntry (d : Device) (s kind : Nat) : W64 :=
  BitVec.ofNat 64 (s * 2 ^ 60 + kind % 16 * 2 ^ 56 + (if d.tmp.mainPower then 1 else 0) * 2 ^ 48 + battCount d)

/-- Entries 0-14 are written in order; what follows goes to entry 15, and each overwrite of it is counted. -/
def addLog (b : Batt) (e : W64) : Batt :=
  if b.log.length < 16 then { b with log := b.log ++ [e] }
  else { b with log := b.log.take 15 ++ [e], overflow := min 255 (b.overflow + 1) }

/-- The BBK is erased with the grant bound to it, and the latch set (R631, R640). -/
def eraseBbk (b : Batt) : Batt :=
  { b with bbk := none, latch := true, grant := false, everHeld := b.everHeld || b.bbk.isSome }

/-- What the battery domain does at an alarm of its own, whatever the main supplies do. -/
def battAlarm (d : Device) (s kind : Nat) : Device := setBatt d (eraseBbk (addLog d.tmp.batt (logEntry d s kind)))

/-! ## Responses (R613-R629) -/

def assertAlarm (d : Device) : Device :=
  if d.tmp.alarmN then d else send { d with tmp := { d.tmp with alarmN := true } } (.pin "ALARM_N" false)

/-- The accepted MEM_REBUILDs and REPROVISION_REQUESTs end (R628). -/
def abortOthers (d : Device) (done : Device → Origin → Device) : Device :=
  let os := d.mem.rebuilds.map (fun r => r.origin) ++ d.tmp.requests.map Prod.fst
  let quar := d.mem.quar.map (fun q => { q with rebuilding := false })
  os.foldl done { d with mem := { d.mem with rebuilds := [], quar := quar }, tmp := { d.tmp with requests := [] } }

/-- HALT (R618). -/
def haltDevice (d : Device) : Device :=
  let d := stopTraffic d
  let d := assertAlarm { d with tmp := { d.tmp with halted := true } }
  let d := declareFault d 0
  let d := abortJobs d (fun _ => true) .aborted
  abortOthers d (fun d o => finish d o .aborted (zeros 16))

/-- The stores that steps 1 to 5 of Table 14-3 erase. DDR4 is unreadable once its key is gone, so contexts, key records
and statistics go with it. -/
def eraseSecrets (d : Device) : Device :=
  { d with
    tmp := { d.tmp with batt := eraseBbk d.tmp.batt, identity := false, eraseVerified := true }
    mem := { d.mem with memKey := none }
    prs := { d.prs with cache := [], fetching := [], waitSince := none, presses := Tbl.mapVals d.prs.presses (fun _ x => { x with keys := [] }) }
    ms := { d.ms with sas := [], stats := [], acc := [] }
    key := { d.key with slots := [], records := [], tree := none, view := {} }
    svc := { d.svc with curves := [], drbgReady := false }
    rcd := { d.rcd with journalReady := false }
    boot := { d.boot with enrolled := false, ended := true }
    duet := { d.duet with linkKey := none, pairKey := none, confirmed := false, takeover := none } }

/-- A completion of an aborted job is posted if the host interface is up. -/
def zeroDone (d : Device) (o : Origin) : Device :=
  if d.hif.linkUp then finish d o .abortedZeroise (zeros 16) else dropInflight d o

/-- Key-store commands and jobs whose completion waits for a MIRROR_ACK are in progress, and end (R469, R510). -/
def zeroKeyWaits (d : Device) : Device :=
  let mine := fun (w : MirrorWait) => d.hif.inflight.any (fun x => x.origin == w.due.origin && x.opcode / 256 == 3)
  let l := d.duet.waits.filter mine
  l.foldl (fun d w => zeroDone d w.due.origin)
    { d with duet := { d.duet with waits := d.duet.waits.filter (fun w => !mine w) } }

/-- Every accepted job ends with its operands erased (R510, R628). -/
def zeroJobs (d : Device) : Device :=
  let d := zeroKeyWaits d
  let js := allJobs d
  let d := js.foldl (fun d j => zeroDone d j.origin) (removeJobs d (fun _ => true))
  let d := abortOthers d zeroDone
  let d := match d.duet.pairing with
    | some p => zeroDone { d with duet := { d.duet with pairing := none } } p.origin
    | none => d
  match d.boot.restart with
  | some x => zeroDone { d with boot := { d.boot with restart := none } } x.origin
  | none => d

/-- ZEROISE (R620, Table 14-3): the mode becomes LOCKED and the role SOLO (R30). -/
def zeroise (d : Device) (s : Nat) : Device :=
  let d := setRole (assertAlarm (declareFault d 0)) .solo
  let d := stopTraffic { d with glb := { d.glb with mode := .locked } }
  let d := zeroJobs (portsOff (eraseSecrets d))
  let n := (counter d (devCtr 55)).toNat
  let d := { d with tmp := { d.tmp with zeroWait := some d.clock } }
  emit (count d (devCtr 55)) .tamper 0x02 (leBytes 1 s ++ leBytes 2 0 ++ leBytes 4 (Config.eraseNs n))

/-- An alarm: source, reading, and the data line of a memory tag. -/
structure Hit where
  src : Nat
  reading : Nat
  line : Nat
  deriving DecidableEq, Repr

/-- DEGRADE takes the source's block out of service (R629, R542). -/
def degrade (d : Device) (h : Hit) : Device :=
  if h.src = 15 then
    let n := (nodeOf d h.line).getD (0, h.line / 64)
    quarantine d n.1 n.2
  else ((List.range 24).filter (fun n => n % 4 == h.src - 10)).foldl (fun d n => pressOut d n 1) d

/-- Apply a response that the alarms of one housekeeping cycle call for. -/
def applyResponse (d : Device) (r : Nat) (hs : List Hit) : Device :=
  let first := ((hs.filter (fun h => effective d h.src == r)).map (fun h => h.src)).headD 0
  let stronger := match d.tmp.applied with | some a => decide (a < r) | none => true
  if r = 3 then zeroise { d with tmp := { d.tmp with applied := some 3 } } first
  else if d.glb.mode = .locked ∨ !stronger then d
  else
    let d := { d with tmp := { d.tmp with applied := some r } }
    if r = 2 then haltDevice d
    else if r = 1 then (hs.filter (fun h => effective d h.src == 1)).foldl degrade d
    else d

/-! ## Events and alarms (R610, R615, R616) -/

/-- One event of a source: its filter, and whether an alarm is raised by it. Where the input is the alarm itself, the
N events that raised it are in the window (R610). -/
def filterEvent (d : Device) (h : Hit) (force : Bool) : Device × Bool :=
  let s := h.src
  let d := clearAlarm d s
  let x := source d s
  let known := x.events.filter (fun t => d.clock < t + windowTicks d s)
  let more := if force && !x.raised then (sensor d s).n - 1 - known.length else 0
  let d := count d (unitCtr 13 s) (more + 1)
  let evs := (List.replicate (more + 1) d.clock ++ known).take 255
  let up := !x.raised && (force || (sensor d s).n ≤ evs.length)
  let x := { x with events := evs, raised := x.raised || up, raisedAt := if up then d.clock else x.raisedAt }
  (setSource d s x, up)

/-- The ALARM record of a source. -/
def alarmRecord (d : Device) (same starting : Bool) (h : Hit) : Device :=
  let s := h.src
  let reading := if s = 8 ∨ (10 ≤ s ∧ s ≤ 13) then h.reading else if s = 15 then 64 * h.line else 0
  let d := setBits (count d (unitCtr 14 s)) 0x210004 (mask s s) (mask s s)
  emit d (if battSource s then .battery else .tamper) (if battSource s then 0x02 else 0x01)
    (leBytes 1 s ++ leBytes 1 (effective d s) ++ leBytes 1 (source d s).events.length
      ++ leBytes 1 ((if same then 1 else 0) + (if starting then 2 else 0)) ++ leBytes 4 reading)

/-- The alarms that one housekeeping cycle raises, ascending: battery-domain action, records, SEEN, the response. With the
main supplies off only the battery domain acts (R631). -/
def raiseAlarms (d : Device) (hs : List Hit) : Device :=
  if hs = [] then d
  else
    let own := fun (b : Bool) => hs.filter (fun h => battSource h.src == b)
    let starting := !d.boot.ended
    let d := (own true).foldl (fun d h => if h.src = 5 then setBatt d (eraseBbk d.tmp.batt)
      else battAlarm d h.src h.reading) d
    let rec_ := fun (d : Device) (b : Bool) =>
      (own b).foldl (fun d h => alarmRecord d (decide (1 < (own b).length)) starting h) d
    let r := (hs.map (fun h => effective d h.src)).foldl max 0
    if d.tmp.mainPower then applyResponse (rec_ (rec_ d false) true) r hs else d

/-- The events of one housekeeping cycle. -/
def tamperEvents (d : Device) (hs : List Hit) : Device :=
  let go := hs.foldl (fun (acc : Device × List Hit) h =>
    let r := filterEvent acc.1 h false
    (r.1, if r.2 then acc.2 ++ [h] else acc.2)) (d, [])
  raiseAlarms go.1 go.2

/-- The detections of a cycle in ascending source number, one per source. -/
def hitsOf (d : Device) (f : Fuses) (events : List TamperHit) : List Hit :=
  (List.range 18).filterMap (fun s =>
    match events.find? (fun e => e.source.val == s) with
    | some e =>
      if sourceArmed d f s e.reading.toNat then some { src := s, reading := e.reading.toNat, line := e.reading.toNat / 64 }
      else none
    | none => none)

/-- State of a tamper loop as its monitor sees it. -/
def setLoop (d : Device) (h : Hit) : Device :=
  if h.src < 4 then { d with tmp := { d.tmp with loops := d.tmp.loops.set h.src (h.reading % 16) } } else d

/-- What the clock frequency monitor found stands in GLB_CLK_STATUS until ROOT_PLL_LOCK: the lock lost, REFCLK off, or both
(R40, R56; log 84). -/
def clockOff (d : Device) (h : Hit) : Device :=
  if h.src = 9 then
    let found := Config.clockFault d.clock
    { d with glb := { d.glb with rootLock := d.glb.rootLock && found == .refclkOff
                                 refclkOk := d.glb.refclkOk && found == .lockLost } }
  else d

/-- TAMPER_EVENT (R610, R615): the detections of one housekeeping cycle. For sources 0-4 the reading is the KIND of
Table 14-4. -/
def execTamperEvent (events : List TamperHit) (s : State) : Host.Outcome State Fault Refusal :=
  let hs := hitsOf s.dev s.fuses events
  s.withDev (tamperEvents (hs.foldl clockOff (hs.foldl setLoop s.dev)) hs)

/-- BATTERY_ALARM (R631): an alarm of source 0-4, `afterNs` after the last command. With the main supplies off only the
battery domain acts, and CELL is no source (Table 14-1). -/
def batteryAlarm (d : Device) (s kind afterNs : Nat) : Device :=
  if d.tmp.mainPower then
    let d := elapse d (afterNs / 2)
    if s = 4 ∧ d.tmp.pwrfail then d
    else
      let h : Hit := { src := s, reading := kind, line := 0 }
      let r := filterEvent (setLoop d h) h true
      if r.2 then raiseAlarms r.1 [h] else r.1
  else
    let d := setBatt d { d.tmp.batt with ns := d.tmp.batt.ns + afterNs }
    if s = 4 then d
    else battAlarm (setLoop d { src := s, reading := kind, line := 0 }) s kind

/-- BATTERY_ALARM (R631). -/
def execBatteryAlarm (src : Fin 5) (kind : Fin 16) (afterNs : Nat) (s : State) : Host.Outcome State Fault Refusal :=
  s.withDev (batteryAlarm s.dev src kind afterNs)

/-! ## Monitors with rows of their own -/

/-- The unit named by TMP_MAG_CFG times the conversions: it runs, or has started one that is still to come (R673). -/
def magByUnit (d : Device) : Bool :=
  bit (magCfg d) 11 && ((trg d (bits (magCfg d) 10 8)).running || d.tmp.magStarted)

/-- MAG_CONVERSION (R611, R673): the sensors are converted together, at a start of the trigger unit where one times them and
else every 100 µs. -/
def magConversion (d : Device) (readings : List Nat) : Device :=
  if magByUnit d && !d.tmp.magStarted then d
  else
    let rs := (readings.take 4).zipIdx
    let read := rs.foldl (fun t e => Tbl.setD t e.2 0 e.1) d.tmp.magRead
    let start := if d.tmp.magStarted then d.tmp.magAt else d.clock + 1
    let d := { d with tmp := { d.tmp with magStarted := false, magAt := start, magRead := read } }
    if !d.tmp.mainPower then d
    else
      tamperEvents d ((rs.filter (fun e => decide (e.1 > 10 * d.tmp.thresh))).map (fun e =>
        { src := 10 + e.2, reading := e.1, line := 0 }))

def execMagConversion (readings : List (Fin 65536)) (s : State) : Host.Outcome State Fault Refusal :=
  s.withDev (magConversion s.dev (readings.map Fin.val))

/-- SHADOW_SCAN (R609): every slot whose TYPE or ATTR shadow disagrees is an event of SHADOW. -/
def execShadowScan (bad : List (Fin 1024)) (s : State) : Host.Outcome State Fault Refusal :=
  s.withDev (bad.foldl (fun d _ => tamperEvents d [{ src := 14, reading := 0, line := 0 }]) s.dev)

/-- WATCHDOG_EXPIRY (Table 14-1). -/
def execWatchdogExpiry (s : State) : Host.Outcome State Fault Refusal :=
  s.withDev (if s.dev.tmp.mainPower then tamperEvents s.dev [{ src := 17, reading := 0, line := 0 }] else s.dev)

/-- VBAT_MEASURE (R635): CELL_LOW once for each fall below 2.5 V. -/
def measureVbat (d : Device) (mv : Nat) : Device :=
  if !d.tmp.mainPower then d
  else
    let low := decide (mv < 2500)
    let fell := low && !d.tmp.cellLow
    let d := { d with tmp := { d.tmp with vbat := mv, cellLow := low } }
    if fell then emit d .battery 0x03 (leBytes 2 mv) else d

def execVbatMeasure (mv : Fin 65536) (s : State) : Host.Outcome State Fault Refusal := s.withDev (measureVbat s.dev mv)

/-- PRESS_PROOF_RETRY (R133, R629): the repeated proof run of a faulted press. -/
def proofRetry (d : Device) (m : Nat) (passes : Bool) : Device :=
  if !(press d m).out then d
  else
    let q := 10 + m % 4
    if !passes || ((source d q).raised && effective d q == 1) then setPress d m { press d m with passes := 0 }
    else if (press d m).passes + 1 < 3 then setPress d m { press d m with passes := (press d m).passes + 1 }
    else pressBack d m

def execPressProofRetry (m : Fin 24) (passes : Bool) (s : State) : Host.Outcome State Fault Refusal :=
  s.withDev (proofRetry s.dev m passes)

/-! ## A new identity (R465, R621) -/

/-- A new BBK is drawn and the tree computed from it. -/
def drawIdentity (d : Device) (f : Fuses) : Device :=
  let bbk := drbgBytes d 32
  let d := drbgRequest d 32
  let reason := if d.tmp.batt.everHeld then 1 else 0
  let t := deriveTree f.key bbk
  let d := { d with
    tmp := { d.tmp with batt := { d.tmp.batt with bbk := some bbk, everHeld := true }, identity := true }
    key := { d.key with tree := some t, identityNew := true }
    rcd := { d.rcd with journalReady := true } }
  emit d .key 0x05 (leBytes 1 reason ++ fit 65 (identityPub t))

/-- No source whose response is ZEROISE is raised. -/
def zeroQuiet (d : Device) : Bool :=
  (List.range 18).all (fun s => !((source d s).raised && effective d s == 3))

/-- IDENTITY_REDERIVE (R621, R622): 1 s after the last ZEROISE source. A stopped DRBG stays stopped until the next device
reset, and no identity comes from it (R513). -/
def execIdentityRederive (s : State) : Host.Outcome State Fault Refusal :=
  match s.dev.tmp.zeroWait with
  | some t =>
    if zeroQuiet s.dev && s.dev.svc.drbgStopped.isNone then
      let d := elapseTo s.dev (t + 1000 * msTicks)
      let d := { d with svc := { d.svc with drbgReady := true, drbgRequests := 0, reseedAt := d.clock }
                        tmp := { d.tmp with zeroWait := none } }
      s.withDev (drawIdentity d s.fuses)
    else s.withDev s.dev
  | none => s.withDev s.dev

/-! ## Re-provisioning (R638-R640) -/

/-- Bytes 0-83 of the authorisation for this device (Table 14-5). -/
def authExpected (d : Device) (f : Fuses) (t : Tree) : Bytes :=
  leBytes 2 1 ++ leBytes 2 148 ++ leBytes 4 (glbId d.glb.part) ++ leBytes 8 f.dieId.toNat ++ fit 65 (identityPub t) ++ zeros 3

/-- The first offset at which two byte strings of length `n` differ. -/
def firstDiffer (a b : Bytes) (n : Nat) : Option Nat := (List.range n).find? (fun i => byteAt a i != byteAt b i)

def reprovisionBody (f : Fuses) (o : Origin) (_ buf : Bytes) (d : Device) : Verdict :=
  if o.bufLen ≠ 148 then failAt d .lengthError 16
  else
    match d.tmp.identity, d.key.tree with
    | true, some t =>
      match firstDiffer (slice buf 0 84) (authExpected d f t) 84 with
      | some i => failAt d .badField i
      | none => .accept (enterInflight { d with tmp := { d.tmp with requests := d.tmp.requests ++ [(o, buf)] } } o 0x0030)
    | _, _ => failInternal d 4

/-- REPROVISION_REQUEST (R638, R639), acceptance. -/
def execReprovisionRequest (r : Fin 64) (buf : Bytes) (s : State) : Host.Outcome State Fault Refusal :=
  s.withDev (runCommand 0x0030 r anyRight (fun desc => zeroFrom desc 20 63) (reprovisionBody s.fuses) buf s.dev)

/-- The verification of the oldest accepted request ends (R639, R640). -/
def grantNext (d : Device) : Device :=
  match d.tmp.requests with
  | (o, buf) :: rest =>
    let d := { d with tmp := { d.tmp with requests := rest } }
    match d.boot.flash.enrolment with
    | some e =>
      let d := elapse d (96 * usTicks)
      if verifyP256 e.authority (slice buf 0 84) (slice buf 84 64) then
        finish (emit (setBatt d { d.tmp.batt with grant := true }) .tamper 0x04 [1#8]) o .ok (zeros 16)
      else finish d o .inputRejected (zeros 16)
    | none => finish (emit (setBatt d { d.tmp.batt with grant := true }) .tamper 0x04 [0#8]) o .ok (zeros 16)
  | [] => d

/-- REPROVISION_GRANTED (R640). -/
def execReprovisionGranted (s : State) : Host.Outcome State Fault Refusal := s.withDev (grantNext s.dev)

end Sys2Proof.Machine
end

