-- ==== Sys2Proof/Machine/Profile.lean ====
section
/-!
DEFINITION. The two image formats of the boot flash and the checks a supplement and a profile have to pass (R682-R687,
Tables 16-3 to 16-8).
-/
namespace Sys2Proof.Machine

/-! ## Signers (R679) -/

/-- Fuse key slot `k` is neither unused nor revoked. -/
def fuseKeyUsable (f : Fuses) (k : Nat) : Bool :=
  k < 4 && !f.revoke.getLsbD k && !allZero ((f.keyHash[k]?).getD [])

def fuseHash (f : Fuses) (k : Nat) : Bytes := (f.keyHash[k]?).getD []

/-! ## Supplements (R682, R683) -/

def suppPatches (img : Bytes) : Nat := leField img 6 2
def suppCode (img : Bytes) : Nat := leField img 20 4
def suppVersion (img : Bytes) : Nat := leField img 16 4
def suppKey (img : Bytes) : Nat := leField img 14 1
def suppRollback (img : Bytes) : Nat := leField img 15 1

/-- Reason 1 of Table 16-4. -/
def suppShapeOk (img : Bytes) : Bool :=
  slice img 0 4 == [0x54#8, 0x53#8, 0x55#8, 0x50#8] && leField img 4 2 == 1
    && decide (suppPatches img ≤ 256) && decide (suppCode img ≤ 65536) && suppCode img % 4 == 0
    && img.length == 128 + 4 * suppPatches img + suppCode img + 64 && leField img 8 4 == img.length
    && decide (suppKey img < 4) && decide (suppRollback img ≤ 64) && allZero (slice img 89 39)

/-- Reason 6 of Table 16-4. -/
def suppPatchesOk (img : Bytes) : Bool :=
  let es := (List.range (suppPatches img)).map (fun i => leField img (128 + 4 * i) 4)
  es.all (fun e => decide (e % 65536 < 256) && decide (4 * (e / 65536) < suppCode img))
    && decide ((es.map (fun e => e % 65536)).Nodup)

def signedBy (pub img : Bytes) : Bool :=
  verifyP256 pub (img.take (img.length - 64)) (slice img (img.length - 64) 64)

/-- The reason code of a supplement image, none where it passes (Table 16-4). -/
def suppReason (f : Fuses) (part : Part) (img : Bytes) : Option Nat :=
  let pub := slice img 24 65
  if !suppShapeOk img then some 1
  else if leField img 12 2 ≠ part.id then some 2
  else if !fuseKeyUsable f (suppKey img) ∨ fit 32 (Config.sha 32 pub) ≠ fuseHash f (suppKey img) then some 3
  else if suppRollback img < f.rollback then some 4
  else if !signedBy pub img then some 5
  else if !suppPatchesOk img then some 6
  else none

/-! ## Profiles (R684) -/

def profCount (img : Bytes) : Nat := leField img 19 1
def profEntry (i : Nat) : Nat := 64 + 8 * i
def profSensors (img : Bytes) : Nat := 64 + 8 * profCount img
def profGroup (img : Bytes) (g : Nat) : Nat := leField img (24 + g / 2) 1 / 16 ^ (g % 2) % 16

/-- A port-map entry with its number and its offset in the image. -/
structure MapEntry where
  off : Nat
  port : Nat
  cfg : PortCfg
  deriving DecidableEq, Repr

def profEntries (img : Bytes) : List MapEntry :=
  (List.range (profCount img)).map (fun i =>
    let e := profEntry i
    { off := e, port := leField img e 1
      cfg := { firstLane := leField img (e + 1) 1, lanes := leField img (e + 2) 1, type := leField img (e + 3) 1
               line := leField img (e + 4) 1 == 1, partner := leField img (e + 5) 1, flags := leField img (e + 6) 1 } })

def profSensor (img : Bytes) (s : Nat) : Sensor :=
  let o := profSensors img + 8 * s
  { response := leField img o 1, n := leField img (o + 1) 1, w := leField img (o + 2) 3 }

/-- The sources whose filter may be set (Table 14-1). -/
def filterable (s : Nat) : Bool := 6 ≤ s && s ≤ 13

/-- Floor of a source's response (Table 14-1). -/
def responseFloor (s : Nat) : Nat := if s ≤ 5 then 3 else if s = 14 ∨ s = 16 then 2 else 0

def profMode (img : Bytes) : Nat := leField img 16 1
def profRatio (img : Bytes) : Nat := leField img 20 1

/-- Check 1. -/
def profShape (img : Bytes) : List (Nat × Bool) :=
  let n := profCount img
  let s0 := profSensors img
  ([(0, slice img 0 4 != [0x54#8, 0x50#8, 0x52#8, 0x46#8]), (4, leField img 4 2 != 1),
    (19, decide (n > 128)),
    (6, leField img 6 2 != 288 + 8 * n || img.length != 288 + 8 * n),
    (10, decide (leField img 10 1 > 4)), (11, byteAt img 11 != 0#8), (16, decide (profMode img > 6)),
    (17, decide (leField img 17 1 > 2)), (18, decide (leField img 18 1 > 1)),
    (20, decide (profRatio img < 100) || decide (profRatio img > 200)), (21, byteAt img 21 != 0#8)] : List (Nat × Bool))
    ++ (List.range 8).map (fun g => (24 + g / 2, decide (profGroup img g > 4)))
    ++ zeroFrom img 28 47
    ++ (profEntries img).flatMap (fun e =>
      ([(e.off, decide (e.port > 127)), (e.off + 1, decide (e.cfg.firstLane > 127)),
        (e.off + 3, typeLanes e.cfg.type == 0), (e.off + 4, decide (leField img (e.off + 4) 1 > 1)),
        (e.off + 6, decide (e.cfg.flags > 1) || (e.cfg.flags == 1 && e.cfg.type != 3)),
        (e.off + 7, byteAt img (e.off + 7) != 0#8)] : List (Nat × Bool)))
    ++ (List.range 18).flatMap (fun s =>
      (s0 + 8 * s, decide ((profSensor img s).response > 3)) :: zeroFrom img (s0 + 8 * s + 5) (s0 + 8 * s + 7))
    ++ zeroFrom img (s0 + 145) (s0 + 159)

def shareLane (a b : PortCfg) : Bool := a.firstLane < b.firstLane + b.lanes && b.firstLane < a.firstLane + a.lanes

/-- Check 5, entry by entry against those before it. -/
def profOrder : List MapEntry → List MapEntry → List (Nat × Bool)
  | _, [] => []
  | before, e :: rest =>
    [(e.off, before.any (fun b => decide (e.port ≤ b.port))),
     (e.off + 1, before.any (fun b => shareLane b.cfg e.cfg)),
     (e.off + 2, e.cfg.lanes != typeLanes e.cfg.type)] ++ profOrder (before ++ [e]) rest

/-- Check 6 (R34). -/
def profAligned (es : List MapEntry) : List (Nat × Bool) :=
  es.map (fun e => (e.off + 1, e.cfg.firstLane % e.cfg.lanes != 0
    || (e.cfg.firstLane + e.cfg.lanes - 1) / 16 != e.cfg.firstLane / 16))

/-- A type that a personality allows (R771). -/
def typeAllowed (pers type : Nat) : Bool :=
  match pers with
  | 1 | 2 => ethType type
  | 3 => otnType type
  | 4 => sdhType type
  | _ => false

/-- Check 8 (R771, R18, R35). -/
def profPersonality (part : Part) (img : Bytes) (es : List MapEntry) : List (Nat × Bool) :=
  let mode := profMode img
  let carries := fun (g : Nat) => es.any (fun e => e.cfg.firstLane / 16 == g)
  if mode = 0 then
    (19, !es.isEmpty) :: (List.range 8).map (fun g => (24 + g / 2, profGroup img g != 0))
  else
    (20, mode != 2 && profRatio img != 100)
      :: (List.range 8).map (fun g =>
        let p := profGroup img g
        (24 + g / 2, (if carries g then p == 0 || (decide (mode ≤ 4) && p != mode) else p != 0)
          || (part == .lvt0800E && decide (4 ≤ g) && p != 0)))
      ++ es.map (fun e => (e.off + 3, !typeAllowed (profGroup img (e.cfg.firstLane / 16)) e.cfg.type))

/-- Running sums over the entries that `keep` takes: bad where the sum of `weight` passes `limit`. -/
def sumsPast (keep : MapEntry → Bool) (weight : MapEntry → Nat) (limit : Nat) : Nat → List MapEntry → List (Nat × Bool)
  | _, [] => []
  | acc, e :: rest =>
    if keep e then (e.off, decide (acc + weight e > limit)) :: sumsPast keep weight limit (acc + weight e) rest
    else sumsPast keep weight limit acc rest

/-- 1.6 Tbit/s, 800 Gbit/s on the LVT0800-E (R3, R35, R36), in Mbit/s. -/
def sideCap (part : Part) : Nat := if part = .lvt0800E then 800000 else 1600000

/-- Checks 9 and 10. -/
def profClient (part : Part) (img : Bytes) (es : List MapEntry) : List (Nat × Bool) :=
  sumsPast (fun e => !e.cfg.line) (fun e => 100 * typeRate e.cfg.type) (sideCap part * profRatio img) 0 es
def profLine (part : Part) (es : List MapEntry) : List (Nat × Bool) :=
  sumsPast (fun e => e.cfg.line) (fun e => typeRate e.cfg.type) (sideCap part) 0 es

/-- Check 11 (R37, R274): partners name each other. -/
def profPartners (img : Bytes) (es : List MapEntry) : List (Nat × Bool) :=
  let pers := fun (e : MapEntry) => profGroup img (e.cfg.firstLane / 16)
  es.map (fun e => (e.off + 5,
    if pers e = 1 ∨ pers e = 3 then
      !es.any (fun q => q.port == e.cfg.partner && q.cfg.partner == e.port && q.cfg.line != e.cfg.line
        && q.cfg.type == e.cfg.type && pers q == pers e)
    else e.cfg.partner != 0xFF))

/-- Check 12 (R115): pipe p serves the ports of number p mod 4. -/
def profPipes (img : Bytes) (es : List MapEntry) : List (Nat × Bool) :=
  (List.range 4).flatMap (fun k =>
    sumsPast (fun e => ethType e.cfg.type && e.port % 4 == k)
      (fun e => (if e.cfg.line then profRatio img else 100) * typeRate e.cfg.type) (800000 * profRatio img) 0 es)

/-- Check 13 (R300). -/
def profSlots (es : List MapEntry) : List (Nat × Bool) :=
  sumsPast (fun e => sdhType e.cfg.type) (fun e => typeSlots e.cfg.type) 12288 0 es

/-- Check 14 (R614, Table 14-7). -/
def profResponses (img : Bytes) : List (Nat × Bool) :=
  (List.range 18).flatMap (fun s =>
    let o := profSensors img + 8 * s
    let x := profSensor img s
    ([(o, decide (x.response < responseFloor s)),
      (o + 1, if filterable s then x.n == 0 || x.w == 0 || decide (x.w > 10000000) else x.n != 0 || x.w != 0)]
      : List (Nat × Bool)))

/-- Check 15. -/
def profRanges (img : Bytes) : List (Nat × Bool) :=
  let t := leField img (profSensors img + 144) 1
  let b := leField img 22 2
  [(profSensors img + 144, decide (t < 5) || decide (t > 120)), (22, decide (b < 50) || decide (b > 130)),
   (18, leField img 18 1 == 1 && profMode img != 2)]

/-- The authority key of the enrolment record (R689). -/
def authority (d : Device) : Option Bytes := d.boot.flash.enrolment.map (fun e => e.authority)

/-- The signer's public key, where check 3 finds one. -/
def profSigner (d : Device) (f : Fuses) (img : Bytes) : Option Bytes :=
  let k := leField img 10 1
  if k = 4 then authority d
  else if fuseKeyUsable f k then some (Config.keyOfHash (fuseHash f k))
  else none

/-- The checks of Table 16-8 behind check 4, with their codes. -/
def profLater (d : Device) (img : Bytes) : List (Nat × List (Nat × Bool)) :=
  let es := profEntries img
  [(5, profOrder [] es), (6, profAligned es),
   (7, es.map (fun e => (e.off + 1, decide (e.cfg.firstLane + e.cfg.lanes > d.glb.part.lanes)))),
   (8, profPersonality d.glb.part img es), (9, profClient d.glb.part img es), (10, profLine d.glb.part es),
   (11, profPartners img es), (12, profPipes img es), (13, profSlots es), (14, profResponses img), (15, profRanges img)]

def firstFailing : List (Nat × List (Nat × Bool)) → Option (Nat × Nat)
  | [] => none
  | (c, l) :: rest =>
    match firstBad l with
    | some off => some (c, off)
    | none => firstFailing rest

/-- The first failing check of Table 16-8 with the image offset of the offending field, none where the image passes
(R685). A supplement's public key is in it; the key of a fuse signer is the free value `Config.keyOfHash`. -/
def profileCheck (d : Device) (f : Fuses) (img : Bytes) : Option (Nat × Nat) :=
  match firstBad (profShape img) with
  | some off => some (1, off)
  | none =>
    if leField img 8 2 ≠ d.glb.part.id then some (2, 8)
    else match profSigner d f img with
      | none => some (3, 10)
      | some pub =>
        if !signedBy pub img then some (4, img.length - 64) else firstFailing (profLater d img)

/-- The bytes that the pairing digest covers (R686). -/
def pairInput (img : Bytes) : Bytes :=
  slice img 16 12 ++ (List.range (profCount img)).flatMap (fun i => slice img (profEntry i) 7)
    ++ slice img (profSensors img) 160

/-- Response and filter that a sensor section puts in force: 0 means the fixed filter of Table 14-1. -/
def takenSensor (img : Bytes) (s : Nat) : Sensor :=
  let x := profSensor img s
  if filterable s then x else { defaultSensor s with response := x.response }

/-- What an accepted image fixes. -/
def readProfile (img : Bytes) : Profile :=
  { signer := leField img 10 1, version := leField img 12 4, mode := modeOfCode (profMode img)
    style := leField img 17 1, family := leField img 18 1, oversub := profRatio img, budget := leField img 22 2
    groups := (List.range 8).map (profGroup img)
    ports := (profEntries img).foldl (fun t e => Tbl.put t e.port e.cfg) []
    sensors := (List.range 18).map (takenSensor img), thresh := leField img (profSensors img + 144) 1
    digestInput := pairInput img }

/-- The install tag of an image under the image-salt node (R687). -/
def installTag (t : Tree) (img : Bytes) : Bytes := fit 32 (Config.hmac 32 t.imageSalt (fit 32 (Config.sha 32 img)))

/-- PROFILE_REJECTED, with the code kept in BOOT_STATUS (R704, Table 16-13). -/
def profileRejected (d : Device) (index code off at_ : Nat) : Device :=
  emit { d with boot := { d.boot with profileFail := code } } .boot 0x03
    (leBytes 1 index ++ leBytes 1 code ++ leBytes 2 off ++ leBytes 1 at_)

/-- RESULT of a command that an image's check fails (R694). -/
def imageResult (code off : Nat) : Bytes := leBytes 2 8 ++ leBytes 1 code ++ [0#8] ++ leBytes 2 off

end Sys2Proof.Machine
end

