-- ==== Sys2Proof/Machine/Installs.lean ====
section
/-!
DEFINITION. The class B commands: enrolment, member certificates and the installation of images (R688-R694).
-/
namespace Sys2Proof.Machine

/-! ## Enrolment (R688-R691) -/

def certMember (cert : Bytes) : Nat := leField cert 4 4

/-- A member certificate's fields are well formed and its DIE_ID and public key are the device's (R688, Table 14-5). -/
def certIsOwn (d : Device) (f : Fuses) (cert : Bytes) : Bool :=
  match d.key.tree with
  | some t =>
    leField cert 0 2 == 1 && leField cert 2 2 == 148 && decide (certMember cert < 2 ^ 18)
      && leField cert 8 8 == f.dieId.toNat && slice cert 16 65 == fit 65 (identityPub t) && allZero (slice cert 81 3)
  | none => false

def certSigned (authority cert : Bytes) : Bool := verifyP256 authority (slice cert 0 84) (slice cert 84 64)

/-- Tag of the enrolment record under the image-salt node (R689). -/
def enrolTag (t : Tree) (authority cert : Bytes) : Bytes := fit 32 (Config.hmac 32 t.imageSalt (authority ++ cert))

/-- Write the enrolment record; an enrolment is held while there is a tree that its tag verifies under (R689). -/
def writeEnrolment (d : Device) (authority cert : Bytes) : Device :=
  let tag := match d.key.tree with | some t => enrolTag t authority cert | none => zeros 32
  { d with boot := { d.boot with enrolled := d.key.tree.isSome, flash := { d.boot.flash with
    enrolment := some { authority := authority, cert := cert, tag := tag } } } }

/-- The authority key of the buffer differs from the one recorded (R690). -/
def otherAuthority (d : Device) (a : Bytes) : Bool :=
  match d.boot.flash.enrolment with
  | some e => e.authority != a
  | none => false

def enrolBody (f : Fuses) (o : Origin) (desc buf : Bytes) (d : Device) : Verdict :=
  if o.bufLen ≠ 216 then failAt d .lengthError 16
  else if !allZero (slice buf 65 3) ∨ !certIsOwn d f (slice buf 68 148) then failAt d .badField 8
  else if f.field ∧ otherAuthority d (slice buf 0 65) then failAt d .badField 8
  else if d.boot.enrol.isSome then .wait
  else
    let e : Enrol := { origin := o, enterField := (byteAt desc 20).getLsbD 0, debugKill := (byteAt desc 20).getLsbD 1
                       buf := buf }
    .accept (enterInflight { d with boot := { d.boot with enrol := some e } } o 0x0020)

/-- DOMAIN_ENROL (R690), acceptance. -/
def execDomainEnrol (r : Fin 64) (buf : Bytes) (s : State) : Host.Outcome State Fault Refusal :=
  s.withDev (runCommand 0x0020 r anyRight (fun desc => zeroBits desc 20 0xFC :: zeroFrom desc 21 63) (enrolBody s.fuses)
    buf s.dev)

/-- FUSE_BLOWN for a fuse that changes (Table 16-13). -/
def fuseBlown (d : Device) (fuse new : Nat) (changed : Bool) : Device :=
  if changed then emit d .boot 0x06 (leBytes 1 fuse ++ leBytes 1 new) else d

/-- Blowing FIELD also blows DEBUG_KILL (R680). -/
def blowEnrol (f : Fuses) (e : Enrol) : Fuses :=
  { f with field := f.field || e.enterField, debugKill := f.debugKill || e.debugKill || e.enterField }

/-- DOMAIN_ENROL_DONE (R690): the signature takes the 96 µs of a P-256 verification; the record and the fuses follow. -/
def enrolDone (s : State) : State :=
  match s.dev.boot.enrol with
  | none => s
  | some e =>
    let d := elapse { s.dev with boot := { s.dev.boot with enrol := none } } (96 * usTicks)
    let a := slice e.buf 0 65
    let cert := slice e.buf 68 148
    if certSigned a cert then
      let f := blowEnrol s.fuses e
      let d := fuseBlown (writeEnrolment d a cert) 2 1 (f.field && !s.fuses.field)
      let d := fuseBlown d 3 1 (f.debugKill && !s.fuses.debugKill)
      let d := emit d .boot 0x07 (leBytes 4 (certMember cert))
      { s with dev := finish d e.origin .ok (zeros 16), fuses := f }
    else { s with dev := finish d e.origin .inputRejected (zeros 16) }

def execDomainEnrolDone (s : State) : Host.Outcome State Fault Refusal := .next (enrolDone s)

def certBody (f : Fuses) (o : Origin) (_ buf : Bytes) (d : Device) : Verdict :=
  match d.boot.enrolled, d.boot.flash.enrolment with
  | true, some e =>
    if o.bufLen ≠ 148 then failAt d .lengthError 16
    else if !certIsOwn d f buf ∨ certMember buf ≠ certMember e.cert then failAt d .badField 8
    else
      let d := elapse d (96 * usTicks)
      if certSigned e.authority buf then .done (writeEnrolment d e.authority buf) (zeros 16) none
      else fail d .inputRejected
  | _, _ => fail d .modeDenied

/-- CERT_INSTALL (R691). -/
def execCertInstall (r : Fin 64) (buf : Bytes) (s : State) : Host.Outcome State Fault Refusal :=
  s.withDev (runCommand 0x0021 r anyRight (fun desc => zeroFrom desc 20 63) (certBody s.fuses) buf s.dev)

/-! ## Installing images (R692-R694) -/

/-- A region with its install tag. -/
def regionFor (d : Device) (img : Bytes) : Region :=
  { image := img, tag := match d.key.tree with | some t => installTag t img | none => zeros 32 }

/-- What a region holds after a failed read-back: an image that fails every check. -/
def spoiledRegion : Region := { image := [], tag := [] }

def putSupp (d : Device) (slotNo : Nat) (x : Region) : Device :=
  { d with boot := { d.boot with flash :=
    if slotNo = 0 then { d.boot.flash with suppA := some x } else { d.boot.flash with suppB := some x } } }

def putProfile (d : Device) (i : Nat) (x : Region) : Device :=
  { d with boot := { d.boot with flash := { d.boot.flash with profiles := Tbl.put d.boot.flash.profiles i x } } }

/-- A loss of power leaves a region that an install was writing with an image that fails its checks (R694). -/
def spoilInstalls (d : Device) : Device :=
  let d := match d.boot.suppInstall with | some x => putSupp d x.index spoiledRegion | none => d
  match d.boot.profInstall with | some x => putProfile d x.index spoiledRegion | none => d

def suppOwn (desc : Bytes) : List (Nat × Bool) :=
  ([(20, decide (leField desc 20 1 > 1)), zeroBits desc 21 0xFE, zeroBits desc 22 0xF0] : List (Nat × Bool))
    ++ zeroFrom desc 23 63

/-- The longest host buffer that a command may name (R76). -/
def maxBuf : Nat := 16777216

def suppBody (f : Fuses) (o : Origin) (desc buf : Bytes) (d : Device) : Verdict :=
  let slotNo := leField desc 20 1
  let revoke := leField desc 22 1
  if o.bufLen ≠ leField buf 8 4 ∨ o.bufLen > maxBuf then failAt d .lengthError 16
  else if d.boot.suppSlot = slotNo then fail d .busyReferenced
  else
    match suppReason f d.glb.part buf with
    | some r => .fail d .badField (leBytes 2 8 ++ leBytes 1 r)
    | none =>
      if revoke / 2 ^ suppKey buf % 2 = 1 then failAt d .badField 22
      else if d.boot.suppInstall.isSome then .wait
      else
        let x : Install := { origin := o, index := slotNo, advance := (byteAt desc 21).getLsbD 0, revoke := revoke
                             image := buf }
        .accept (enterInflight { d with boot := { d.boot with suppInstall := some x } } o 0x0022)

/-- SUPPLEMENT_INSTALL (R692, R693), acceptance. -/
def execSupplementInstall (r : Fin 64) (buf : Bytes) (s : State) : Host.Outcome State Fault Refusal :=
  s.withDev (runCommand 0x0022 r anyRight suppOwn (suppBody s.fuses) buf s.dev)

/-- The fuses that ADVANCE and REVOKE blow. -/
def blowInstall (f : Fuses) (x : Install) : Fuses :=
  { f with rollback := if x.advance then max f.rollback (suppRollback x.image) else f.rollback
           revoke := f.revoke ||| BitVec.ofNat 4 x.revoke }

/-- SUPPLEMENT_INSTALL_DONE (R693). -/
def suppDone (s : State) (readBackOk : Bool) : State :=
  match s.dev.boot.suppInstall with
  | none => s
  | some x =>
    let d := { s.dev with boot := { s.dev.boot with suppInstall := none } }
    if readBackOk then
      let f := blowInstall s.fuses x
      let d := putSupp d x.index (regionFor d x.image)
      let d := emit d .boot 0x05 ([0#8] ++ leBytes 1 x.index ++ leBytes 4 (suppVersion x.image))
      let d := fuseBlown d 0 f.rollback (f.rollback != s.fuses.rollback)
      let d := fuseBlown d 1 f.revoke.toNat (f.revoke != s.fuses.revoke)
      { s with dev := finish d x.origin .ok (leBytes 1 f.rollback ++ leBytes 1 f.revoke.toNat), fuses := f }
    else { s with dev := finish (putSupp d x.index spoiledRegion) x.origin .internal (internalResult 5) }

def execSupplementInstallDone (readBackOk : Bool) (s : State) : Host.Outcome State Fault Refusal :=
  .next (suppDone s readBackOk)

/-- The profile is in use: it was accepted and the device runs in its mode. -/
def profileInUse (d : Device) (i : Nat) : Bool :=
  d.boot.profileOk && d.boot.profile.mode == d.glb.mode && d.glb.profileIdx == i

def profInstallOwn (desc : Bytes) : List (Nat × Bool) := (20, decide (leField desc 20 1 > 3)) :: zeroFrom desc 21 63

def profInstallBody (f : Fuses) (o : Origin) (desc buf : Bytes) (d : Device) : Verdict :=
  let i := leField desc 20 1
  if o.bufLen ≠ leField buf 6 2 then failAt d .lengthError 16
  else if profileInUse d i then fail d .busyReferenced
  else
    match profileCheck d f buf with
    | some (code, off) => .fail (profileRejected d i code off 2) .badField (imageResult code off)
    | none =>
      if d.boot.profInstall.isSome then .wait
      else
        let x : Install := { origin := o, index := i, advance := false, revoke := 0, image := buf }
        .accept (enterInflight { d with boot := { d.boot with profInstall := some x } } o 0x0023)

/-- PROFILE_INSTALL (R694), acceptance. -/
def execProfileInstall (r : Fin 64) (buf : Bytes) (s : State) : Host.Outcome State Fault Refusal :=
  s.withDev (runCommand 0x0023 r anyRight profInstallOwn (profInstallBody s.fuses) buf s.dev)

/-- PROFILE_INSTALL_DONE (R694). -/
def profInstallDone (d : Device) (readBackOk : Bool) : Device :=
  match d.boot.profInstall with
  | none => d
  | some x =>
    let d := { d with boot := { d.boot with profInstall := none } }
    if readBackOk then
      let d := putProfile d x.index (regionFor d x.image)
      let d := emit d .boot 0x05 ([1#8] ++ leBytes 1 x.index ++ leBytes 4 (leField x.image 12 4))
      finish d x.origin .ok (zeros 16)
    else finish (putProfile d x.index spoiledRegion) x.origin .internal (internalResult 5)

def execProfileInstallDone (readBackOk : Bool) (s : State) : Host.Outcome State Fault Refusal :=
  s.withDev (profInstallDone s.dev readBackOk)

end Sys2Proof.Machine
end

