-- ==== Sys2Proof/Machine/Classify.lean ====
section
/-!
DEFINITION. Arrival and classification of Ethernet frames: stages 1 to 3 (R111-R115, R136, R144-R149, R172-R177, R193-R195,
R359-R365, R376, R395, R396, R430-R433).
-/
namespace Sys2Proof.Machine

/-! ## The ingress FIFO (R113, R119) -/

/-- A frame that finds its FIFO empty and a forme free moves on as it arrives. -/
def passesFifo (d : Device) (w : Work) : Bool := (fifoOf d w.ing).isEmpty && d.prs.stop.isNone && canAllocate d w

/-- The frame does not fit behind what its FIFO holds. -/
def overruns (d : Device) (w : Work) : Bool := !passesFifo d w && fifoHeld d w.ing + arrivedBytes d w > fifoSize d w.ing

/-! ## Lookup results -/

/-- A classified frame goes on, or it is dropped at stage 3 after its counter has been counted. -/
inductive Judged where
  | go (w : Work)
  | drop (w : Work)
  deriving DecidableEq, Repr

/-- A forwarding result: port, SecY, and the policer it names. -/
structure Route3 where
  port : Nat
  secy : Nat
  policer : Option Nat
  deriving DecidableEq, Repr

def lookupMode (d : Device) (p : Nat) : Nat := bits (clsCfg d p) 31 30
def defaultClass (d : Device) (p : Nat) : Nat := bits (clsCfg d p) 26 24

def named (n : Nat) : Option Nat := if n = 0xFFFF then none else some n

/-- The flood target (R363). -/
def flood (d : Device) (p : Nat) : Device × Option Route3 :=
  let c := reg d (0x100200 + 4 * p)
  if bit c 31 then (count d (portCtr 33 p), some { port := bits c 30 24, secy := bits c 9 0, policer := none })
  else (count d (portCtr 34 p), none)

/-- The miss policy of a routing table (R376). -/
def missed (d : Device) (p : Nat) : Device × Option Route3 :=
  let c := reg d (0x100800 + 4 * bits (clsCfg d p) 23 16)
  (count d (portCtr 29 p),
    if bit c 31 then some { port := bits c 30 24, secy := bits c 9 0, policer := none } else none)

def bridge (d : Device) (p : Nat) (data : Bytes) : Device × Option Route3 :=
  match macFind d (domainOf d p data) (destMac data) with
  | some (_, e) => (d, some { port := e.port, secy := e.secy, policer := if e.static then named e.policer else none })
  | none => flood d p

/-- The TCAM search; a winner with bad parity is a miss (R376, R377). -/
def routeLookup (d : Device) (p : Nat) (v6 : Bool) (addr : Nat) : Device × Option Route3 :=
  match searchTcam d (bits (clsCfg d p) 23 16) v6 addr with
  | some (i, e) =>
    if e.badParity || e.disabled then missed (count (disableEnt d i 0) (devCtr 11)) p
    else (d, some { port := e.route.port, secy := e.route.secy, policer := named e.route.policer })
  | none => missed d p

/-- The lookup of an AGGREGATE port; `dest` is the IP destination where the pipe can read it. -/
def forwardLookup (d : Device) (p : Nat) (data : Bytes) (dest : Option (Bool × Nat)) : Device × Option Route3 :=
  if lookupMode d p ≠ 1 ∧ lookupMode d p ≠ 2 then (count d (portCtr 29 p), none)
  else if groupBit (destMac data) then flood d p
  else if lookupMode d p = 1 then bridge d p data
  else match dest with
    | some (v6, a) => routeLookup d p v6 a
    | none => if bit (clsCfg d p) 29 then bridge d p data else (count d (portCtr 32 p), none)

/-- A result of the ingress port's own role, or of a port outside the AGGREGATE groups, is dropped (R361, R362). -/
def checkTarget (d : Device) (p : Nat) (r : Route3) : Device × Bool :=
  if (portCfg d r.port).isSome && isLine d r.port == isLine d p then (count d (portCtr 30 p), false)
  else if !isAggregate d r.port then (count d (portCtr 31 p), false)
  else (d, true)

/-! ## SecYs of transmitted frames (R172, R173, R192, R362) -/

/-- The SecY of a LINK frame: by outer VLAN ID, else the default one; the fixed-latency SecY carries no such frame, also
while the class's press is out (R137). -/
def linkSecy (d : Device) (line : Nat) (data : Bytes) (p : Nat) : Option (Nat × SecY) :=
  let mine := d.ms.secys.filter (fun e => e.2.port == line && !(d.prs.flPassed.contains p && e.1 == flSecy d p))
  let vlan := outerVlan (frameTags d p data)
  match mine.find? (fun e => some e.2.txVlan == vlan && vlan != some 0xFFF) with
  | some e => some e
  | none => mine.find? (fun e => e.2.txVlan == 0xFFF)

/-- The encoding SA of a SecY's transmit SC, while it is installed (R250). -/
def encodingSa (d : Device) (s : Nat) : Option Nat :=
  match txSc d s with
  | some c => (((scOf d c).bind Sc.encAn).map (fun an => 4 * c + an)).filter (installed d)
  | none => none

/-- The AN that a frame of SC `c` and port `p` still owes to an earlier turn cut (R244), and the frames owed after it. -/
def oweNext (d : Device) (c p : Nat) : Option (Nat × Device) :=
  match Tbl.getD d.ms.owed (cutKey c p) [] with
  | (an, n) :: l =>
    let rest := if n ≤ 1 then l else (an, n - 1) :: l
    some (an, { d with ms := { d.ms with owed := Tbl.setD d.ms.owed (cutKey c p) [] rest } })
  | [] => none

/-- A frame classified onto SA `i` is counted for the turn cut (R243), or pays what an earlier cut is owed. -/
def countCut (d : Device) (i : Nat) (w : Work) : Device × Work :=
  if d.duet.role = .solo then (d, w)
  else match oweNext d (i / 4) w.ing with
    | some (an, e) => (e, { w with sa := some (4 * (i / 4) + an) })
    | none =>
      let n := Tbl.getD d.ms.cuts (cutKey (i / 4) w.ing) 0 + 1
      ({ d with ms := { d.ms with cuts := Tbl.put d.ms.cuts (cutKey (i / 4) w.ing) n } }, { w with cut := n })

/-- An encrypt frame of SecY `s`. -/
def encryptUnder (d : Device) (w : Work) (s : Nat) (y : SecY) : Device × Judged :=
  let sa := encodingSa d s
  let w := { w with secy := some s, cls := y.cls, sa := sa }
  match sa with
  | some i =>
    let r := countCut d i w
    (r.1, .go r.2)
  | none => if y.protect then (count d (secyCtr 1 s), .drop w) else (d, .go w)

/-! ## Policing (R395, R396, R430-R433) -/

/-- The policer a frame meets and what it needs: the named one, or the port's. -/
def policerFor (d : Device) (w : Work) (p : Option Nat) : Option Nat :=
  let c := reg d (0x100400 + 4 * w.ing)
  match (if w.action = 1 then none else p) with
  | some n => some n
  | none => if bit c 29 then some (bits c 13 0) else none

def dscpColour (d : Device) (k : Nat) : Colour :=
  match field d (0x101100 + 4 * (k / 16)) (2 * (k % 16) + 1) (2 * (k % 16)) with
  | 1 => .yellow
  | 2 => .red
  | _ => .green

def inputColour (d : Device) (w : Work) (dscp : Option Nat) : Colour :=
  match field d (0x100400 + 4 * w.ing) 31 30 with
  | 1 => match (frameTags d w.ing w.data).head? with
    | some t => if t.2 / 4096 % 2 = 1 then .yellow else .green
    | none => .green
  | 2 => match dscp with
    | some k => dscpColour d k
    | none => .green
  | _ => .green

def Colour.ctr : Colour → Nat
  | .green => 40 | .yellow => 41 | .red => 42

def police (d : Device) (w : Work) (named : Option Nat) (dscp : Option Nat) : Device × Judged :=
  let c := inputColour d w dscp
  let r := match policerFor d w named with
    | some n => meter d n (frameLen w.data) (arrivalEnd d w) c
    | none => (d, c)
  let d := count r.1 (portCtr r.2.ctr w.ing)
  if r.2 = .red then (d, .drop w) else (d, .go { w with yellow := r.2 = .yellow })

/-! ## LINK -/

/-- A frame that LINK sends on to the paired port: it meets the port's policer, as the lookup names none (R395). A
fixed-latency frame skips the pipes (R150). -/
def linkOn (d : Device) (w : Work) (dscp : Option Nat) : Device × Judged :=
  if w.fl then (d, .go w) else police d w none dscp

/-- The DSCP of a Client frame. -/
def clientDscp (d : Device) (w : Work) : Option Nat :=
  let body := w.data.drop 12
  ipDscp (tpidOk d w.ing) body body.length

/-- A Client frame in LINK. -/
def classifyLinkClient (d : Device) (w : Work) : Device × Judged :=
  let d := teach d w.ing w.data 0
  let line := (partner d w.ing).getD w.ing
  let w := { w with eg := line }
  match linkSecy d line w.data w.ing with
  | some (s, y) =>
    let e := encryptUnder d w s y
    match e.2 with
    | .go w => linkOn e.1 w (clientDscp d w)
    | .drop w => (e.1, .drop w)
  | none => (count d (portCtr 14 w.ing), .drop w)

/-! ## AGGREGATE -/

/-- Forward a frame whose lookup gave a result, and police it; a Client frame that passes in the clear needs the result's SecY
too (R362). -/
def forwarded (w : Work) (dscp : Option Nat) (r : Device × Option Route3) : Device × Judged :=
  match r.2 with
  | none => (r.1, .drop w)
  | some t =>
    let c := checkTarget r.1 w.ing t
    let w := { w with eg := t.port }
    if !c.2 then (c.1, .drop w)
    else if w.dec then police c.1 w t.policer dscp
    else match secy c.1 t.secy with
      | some y =>
        if y.port ≠ t.port then (count c.1 (portCtr 31 w.ing), .drop w)
        else if w.action = 1 then police c.1 w t.policer dscp
        else
          let e := encryptUnder c.1 w t.secy y
          match e.2 with
          | .go w => police e.1 w t.policer dscp
          | .drop w => (e.1, .drop w)
      | none => (count c.1 (portCtr 31 w.ing), .drop w)

def classifyAggClient (d : Device) (w : Work) : Device × Judged :=
  let ok := tpidOk d w.ing
  let body := w.data.drop 12
  let r := forwardLookup d w.ing w.data (ipDest ok body body.length)
  forwarded w (ipDscp ok body body.length) (teach r.1 w.ing w.data 0, r.2)

/-! ## Line ports: Table 4-3, steps 1 to 5 -/

/-- The validateFrames value that judges untagged and unknown-SCI frames (R176): 0 Disabled, 1 Check, 2 Strict. -/
def untaggedValidate (d : Device) (p : Nat) : Nat :=
  let c := msPort d p
  match secy d (bits c 25 16) with
  | some y => if bit c 31 && y.port == p then y.validate else 2
  | none => 2

/-- The receive SC of a SecTAG (R195). -/
def rxScOf (d : Device) (p : Nat) (t : SecTag) (src : Nat) : Option Nat :=
  let byImplicit := (d.ms.secys.find? (fun e => e.2.port == p && e.2.implicitRx)).bind (fun e => (rxScs d e.1).head?)
  let c := if t.sc then (sciFind d p t.sci).map (fun e => e.sc)
    else if t.es then (sciFind d p (BitVec.ofNat 64 (src * 65536 + 1))).map (fun e => e.sc)
    else if t.scb then none else byImplicit
  c.filter (fun c => match (scOf d c).bind (fun x => secy d x.secy) with | some y => y.port == p | none => false)

/-- Where a Line frame goes once Table 4-3 lets it on: the paired Client port, or what AGGREGATE forwarding finds in the
`vis` leading bytes of `body` that are in the clear. -/
def lineForward (d : Device) (w : Work) (body : Bytes) (vis : Nat) : Device × Judged :=
  if isAggregate d w.ing then
    let ok := tpidOk d w.ing
    forwarded w (ipDscp ok body vis) (forwardLookup d w.ing w.data (ipDest ok body vis))
  else linkOn d { w with eg := (partner d w.ing).getD w.ing } (ipDscp (tpidOk d w.ing) body vis)

/-- The classification of a Line frame. -/
def classifyLine (d : Device) (w : Work) : Device × Judged :=
  let p := w.ing
  match secTag? d p w.data with
  | none =>
    if bypassType d (etherType d p w.data) then
      lineForward (count d (portCtr 13 p)) { w with action := 1 } (w.data.drop 12) w.data.length
    else if untaggedValidate d p = 2 then (count d (portCtr 9 p), .drop w)
    else lineForward (count d (portCtr 8 p)) w (w.data.drop 12) w.data.length
  | some t =>
    if malformed t w.data then (count d (portCtr 10 p), .drop w)
    else
      let body := w.data.drop (t.off + t.len)
      match rxScOf d p t (srcMac w.data) with
      | none =>
        if untaggedValidate d p = 2 || t.c then (count d (portCtr 12 p), .drop w)
        else lineForward (count d (portCtr 11 p)) w body (if t.e then 0 else body.length)
      | some c =>
        match (scOf d c).bind (fun x => (secy d x.secy).map (fun y => (x.secy, y))) with
        | none => (count d (portCtr 12 p), .drop w)
        | some (s, y) =>
          let i := 4 * c + t.an
          let w := { w with secy := some s, cls := y.cls }
          if !xpn y.suite && t.pn == 0 then (count d (portCtr 10 p), .drop w)
          else
            let vis := if t.e then confOffset y.conf else body.length
            if installed d i then lineForward d { w with sa := some i } body vis
            else if y.validate = 2 || t.c then (addStat d i 3 1, .drop w)
            else lineForward (addStat d i 4 1) w body vis

/-! ## Any frame -/

/-- A Client frame: the bypass check comes first (R175, R360). -/
def classifyClient (d : Device) (w : Work) : Device × Judged :=
  let p := w.ing
  if bypassType d (etherType d p w.data) && (secTag? d p w.data).isNone then
    let d := count d (portCtr 13 p)
    let w := { w with action := 1 }
    if isAggregate d p then classifyAggClient d w
    else linkOn (teach d p w.data 0) { w with eg := (partner d p).getD p } (clientDscp d w)
  else if isAggregate d p then classifyAggClient d w
  else classifyLinkClient d w

/-- The record of a frame that has passed stage 2. -/
def newWork (d : Device) (p : Nat) (fr : FrameIn) (fl sampled : Bool) (win : Option Nat) : Work :=
  let w : Work :=
    { dec := isLine d p, fl := fl, ing := p, no := d.prs.nextNo, arrival := d.clock
      stamp := (tbase d (ptpBase d p)).value / quarterNs, data := fr.data, whole := fr.whole, badFcs := !fr.fcsOk, eg := 0
      cls := defaultClass d p, action := 0, secy := none, sa := none, epoch := d.cls.epoch, yellow := false
      sampled := sampled, win := win, times := noTimes }
  stamped d w 2

/-- Stage 2: sampling, the digest window and the classification number. -/
def enterStage2 (d : Device) (p : Nat) (fr : FrameIn) (fl : Bool) : Device × Work :=
  let s := sampleFrame d (isLine d p)
  let j := joinWindow s.1 p s.1.prs.nextNo fr.data
  let w := newWork j.1 p fr fl s.2 j.2
  ({ j.1 with prs := { j.1.prs with nextNo := j.1.prs.nextNo + 1 } }, w)

/-- A frame that classification drops. -/
def dropCounted (d : Device) (w : Work) (stage : Nat) : Device := dropNew d { w with action := 2 } stage false

/-- A PTP frame for the agent that passes in the clear is counted as such (R175, R222). -/
def toAgent (d : Device) (w : Work) : Device :=
  dropCounted (if bypassType d (etherType d w.ing w.data) then count d (portCtr 13 w.ing) else d) w 3

/-- Stages 2 and 3 of an ordinary frame; a classified frame enters its FIFO. -/
def ingressFrame (d : Device) (p : Nat) (fr : FrameIn) (ecc : TableEcc) : Device :=
  let e := enterStage2 (settleFifo d p) p fr false
  let d := e.1
  let w := stamped d e.2 3
  if overruns d w then countOverrun (dropNew (if canAllocate d ((fifoOf d p).headD w) then d else stopAlloc d w) w 2 true) p
  else if forAgent d p fr.data && (!w.dec || bypassType d (etherType d p fr.data)) then toAgent d w
  else
    let r := (if w.dec then classifyLine else classifyClient) (tableEcc d ecc) w
    match r.2 with
    | .drop w => dropCounted r.1 w 3
    | .go w =>
      if plainLen r.1 w > 16383 ∧ w.whole then dropCounted r.1 w 2
      else setFifo r.1 p (fifoOf r.1 p ++ [w])

/-- The port takes Ethernet frames now: up, in a LINK or AGGREGATE group, and the data path not stopped. -/
def takesFrames (d : Device) (p : Nat) : Bool :=
  trafficMode d && isEth d p && (isLink d p || isAggregate d p) && linkUp d p && pathRuns d

/-- The errors that a port's PCS has found are counted (R767). -/
def pcsReceive (d : Device) (p : Nat) (x : PcsErrors) : Device :=
  if x = {} then d
  else [(54, x.block), (55, x.bip), (56, x.corrected), (57, x.uncorrected), (58, x.symbols)].foldl
    (fun d e => count d (portCtr e.1 p) e.2) d

/-- Stage 1 and the checks of the PCS and the MAC: a runt is dropped, a frame that is here whole with a bad FCS too, after
its length has been judged (R146). -/
def macReceive (d : Device) (p : Nat) (fr : FrameIn) : Device × Bool :=
  let d := pcsReceive d p fr.pcs
  let n := frameLen fr.data
  if n < 64 then (count d (portCtr 48 p), false)
  else
    let d := count (count d (portCtr 50 p)) (portCtr 52 p) n
    if fr.fcsOk then (d, true)
    else
      let d := count d (portCtr 49 p)
      if !fr.whole then (d, true)
      else
        (judgeLength d (newWork d p fr false false none), false)

end Sys2Proof.Machine
end

