-- ==== Sys2Proof/Machine/Memory.lean ====
section
/-!
DEFINITION. Errors and tag mismatches of protected memory, the patrol, rebuilds, and the timed rows of the controller (12).
-/
namespace Sys2Proof.Machine

/-! ## Errors (R540, R544, R545) -/

/-- A tag mismatch: kind 0 data line, 1 counter line, 2 tree node; `by_` 0 read, 1 patrol, 2 re-encryption. The line is
poisoned, a counter line's or node's subtree quarantined, and MEMORY_TAG has an event. -/
def tagMismatch (d : Device) (line by_ : Nat) : Device :=
  let report := fun (d : Device) (kind : Nat) =>
    let d := emit d .memory 0x05 (leBytes 8 (64 * line) ++ leBytes 1 kind ++ leBytes 1 by_)
    tamperEvents d [{ src := 15, reading := 64 * line, line := line }]
  if line < lineTags d then report (poisonLine d line) 0
  else match nodeOf d line with
    | some (level, node) =>
      let d := if poisonRoom d [line] then count (listPoison d line) (devCtr 40) else escalate d (node * (64 * 8 ^ level))
      report (quarantine d level node) (if level = 0 then 1 else 2)
    | none => d

/-- What a read finds at a line. A data line that nothing has written is not read (R533). -/
def lineError (by_ : Nat) (d : Device) (e : LineError) : Device :=
  if e.line < lineTags d && !lineWritten d e.line then d
  else match e.fault with
    | .correctable => corrected d e.line
    | .uncorrectable => uncorrectable d e.line
    | .received data tag => if lineChecks d e.line data tag then d else tagMismatch d e.line by_

/-- One pass of the patrol reads every line. -/
def patrolPass (d : Device) : Device :=
  (List.range 4).foldl (fun d c => count d (unitCtr 3 c) (patrolled d c)) (count d (devCtr 44))

/-- MEM_PATROL (R540, R544): one pass of the patrol with what it finds. What re-encryption and the reads of clients whose rows carry
no findings have found since the pass before comes with it, whether or not the patrol runs (DESIGN CHOICE, log 60). -/
def execMemPatrol (found : List LineError) (s : State) : Host.Outcome State Fault Refusal :=
  let d := s.dev
  let runs := bit (reg d 0x1E0000) 31
  let seen := found.filter (fun e => runs || e.by_ != 1)
  s.withDev (if d.mem.ready then
      let d := seen.foldl (fun d e => lineError e.by_ d e) d
      if runs then patrolPass d else d
    else d)

/-! ## MEM_REBUILD (R547-R551) -/

def rebuildOwn (desc : Bytes) : List (Nat × Bool) :=
  [(20, decide (2 ≤ leField desc 20 1))] ++ zeroFrom desc 22 23 ++ zeroFrom desc 27 63

/-- The named node's quarantine entry, or the root whose bit is set. -/
def rebuildBody (o : Origin) (desc _buf : Bytes) (d : Device) : Verdict :=
  let level := leField desc 21 1
  let node := leField desc 24 3
  let start := fun (nodes : List Quar) (roots : List Nat) =>
    let quar := d.mem.quar.map (fun q => if nodes.contains q then { q with rebuilding := true } else q)
    Verdict.accept (enterInflight { d with mem := { d.mem with
      quar := quar, rebuilds := d.mem.rebuilds ++ [{ origin := o, nodes := nodes, roots := roots }] } } o 0x0320)
  if leField desc 20 1 = 1 then start d.mem.quar d.mem.rootQuar
  else
    let entry := d.mem.quar.filter (fun q => q.level == level && q.node == node)
    let root := if level = topLevel d then d.mem.rootQuar.filter (· == node) else []
    if entry = [] ∧ root = [] then failAt d .badIndex 21 else start entry root

/-- MEM_REBUILD (R547, R548), acceptance. -/
def execMemRebuild (r : Fin 64) (s : State) : Host.Outcome State Fault Refusal :=
  s.withDev (runCommand 0x0320 r anyRight rebuildOwn rebuildBody [] s.dev)

/-- Erased so far by a rebuild: data lines, SAs, associations. -/
structure Erased where
  lines : Nat := 0
  sas : Nat := 0
  assocs : Nat := 0
  deriving DecidableEq, Repr

/-- Lines under a node, counter lines and nodes included. -/
def beneath (d : Device) (level node line : Nat) : Bool :=
  if line < lineTags d then nodeCovers level node line
  else if groupLines d ≤ line ∧ line < treeLines d then (line - groupLines d) / 8 ^ level == node
  else match nodeAt (topLevel d) 1 (line - treeLines d) (dataLines d / 512) with
    | some (l, n) => l ≤ level && n / 8 ^ (level - l) == node
    | none => false

/-- Counter lines and nodes beneath a node, the node itself included, by level and index. -/
def nodesBeneath (level node : Nat) : List (Nat × Nat) :=
  (List.range (level + 1)).flatMap (fun l => (upFrom (node * 8 ^ (level - l)) (8 ^ (level - l))).map (fun n => (l, n)))

/-- They are written anew under fresh versions, and what the caches hold of them goes. Data lines beneath hold enciphered zeros
(R549, `storedLine`). -/
def freshNodes (d : Device) (level node : Nat) : Device :=
  let l := nodesBeneath level node
  let keys := l.map (fun e => ctrKey e.1 e.2)
  let d := { d with mem := { d.mem with
    dram := Tbl.keep d.mem.dram (fun n _ => !beneath d level node n)
    ctrCache := d.mem.ctrCache.filter (fun k => !keys.contains k)
    ctrDirty := d.mem.ctrDirty.filter (fun k => !keys.contains k) } }
  let d := l.foldl (fun d e => storeNode (bumpVersion d e.1 e.2) e.1 e.2) d
  if level = topLevel d then d else markDirty (loadNode 9 d (level + 1) (node / 8)) (level + 1) (node / 8)

/-- The groups beneath a node take the major above every one used; past the last they are frozen (R537, R549). -/
def freshGroups (d : Device) (groups : List Nat) : Device :=
  let hwm := d.mem.majorHwm + 1
  if hwm < 2 ^ 56 then
    { d with mem := { d.mem with
        groups := groups.foldl (fun t g => Tbl.put t g { major := hwm, minors := [] }) d.mem.groups
        frozen := d.mem.frozen.filter (fun g => !groups.contains g), majorHwm := hwm } }
  else (groups.filter (fun g => !d.mem.frozen.contains g)).foldl freeze d

/-- A node, and what lies beneath it, leaves quarantine. -/
def liftQuarantine (d : Device) (level node : Nat) : Device :=
  { d with mem := { d.mem with
      quar := d.mem.quar.filter (fun q => !(q.level ≤ level && q.node / 8 ^ (level - q.level) == node))
      rootQuar := if level = topLevel d then d.mem.rootQuar.filter (· != node) else d.mem.rootQuar
      poison := d.mem.poison.filter (fun n => !beneath d level node n) } }

/-- Erase and rewrite everything beneath one node, and take it out of quarantine. -/
def rebuildNode (acc : Device × Erased) (level node : Nat) : Device × Erased :=
  let d := acc.1
  let under := nodeCovers level node
  let sas := (sasIn d under ++ d.mem.eraseLater.filter (fun i => under (ctxLine i 0) || under (recLine i))).eraseDups
  let live := sas.filter (fun i => (saOf d i).isSome)
  let assocs := assocsIn d under
  let groups := upFrom (node * 8 ^ level) (8 ^ level)
  let d := sas.foldl (fun d i => eraseSa (unencode d i) i) d
  let d := assocs.foldl (fun d a => removeAssoc (assocDelDone d a) a) d
  let d := { d with ms := { d.ms with stats := Tbl.keep d.ms.stats (fun k _ => !under (statLine (k / 16) (k % 16 / 8))) } }
  let d := freshNodes (freshGroups d groups) level node
  let d := groups.foldl (fun d g => count d (unitCtr 4 (g % 4)) 64) d
  let d := liftQuarantine d level node
  let later := d.mem.eraseLater.eraseDups.filter (fun i => !sas.contains i || saQuarantined d i)
  let n := 64 * 8 ^ level
  let d := emit { d with mem := { d.mem with eraseLater := later } } .memory 0x07
    (leBytes 1 level ++ leBytes 4 node ++ leBytes 4 n ++ leBytes 4 live.length ++ leBytes 2 assocs.length)
  (d, { lines := acc.2.lines + n, sas := acc.2.sas + live.length, assocs := acc.2.assocs + assocs.length })

/-- The oldest accepted rebuild ends. -/
def finishRebuild (d : Device) : Device :=
  match d.mem.rebuilds with
  | r :: rest =>
    let d := { d with mem := { d.mem with rebuilds := rest } }
    let a := r.nodes.foldl (fun acc q => rebuildNode acc q.level q.node) (d, {})
    let b := r.roots.foldl (fun acc n => rebuildNode acc (topLevel acc.1) n) a
    finish b.1 r.origin .ok (fit 16 (leBytes 4 b.2.lines ++ leBytes 4 b.2.sas ++ leBytes 2 b.2.assocs))
  | [] => d

/-- MEM_REBUILT (R549). -/
def execMemRebuilt (s : State) : Host.Outcome State Fault Refusal := s.withDev (finishRebuild s.dev)

/-! ## The controller's own rows (R526, R529) -/

/-- ZQ_CALIBRATION (R526): it holds a channel for at most 1 µs, and nothing of State changes. -/
def execZqCalibration (s : State) : Host.Outcome State Fault Refusal := s.withDev s.dev

/-- DQS_DRIFT_TRACKING (R526). -/
def execDqsDriftTracking (s : State) : Host.Outcome State Fault Refusal := s.withDev s.dev

/-- DRAM_TEMP_READ (R526): the channels with a device above 85 °C refresh at twice the rate. -/
def execDramTempRead (hot : BitVec 4) (s : State) : Host.Outcome State Fault Refusal :=
  s.withDev { s.dev with mem := { s.dev.mem with hot := hot } }

/-- BLOCKED_DDR4_ACCESS (R529): a read returns zeros, a write is discarded. After DEBUG_KILL debug activity is an event of
DEBUG. -/
def execBlockedDdr4Access (master : Fin 2) (addr : W64) (write : Bool) (s : State) : Host.Outcome State Fault Refusal :=
  let d := s.dev
  if master = 0 ∧ s.fuses.debugKill then s.withDev (tamperEvents d [{ src := 16, reading := 0, line := 0 }])
  else
    let d := if write then d else { d with lastRead := 0#64 }
    s.withDev (emit (count d (devCtr 42)) .memory 0x08 (leBytes 1 master ++ leBytes 8 addr.toNat))

end Sys2Proof.Machine
end

