-- ==== Sys2Proof/Machine/Cipher.lean ====
section
/-!
DEFINITION. The cipher path from stage 4 to a press and its outcome (R116-R143, R178-R200): formes, SA context fetches,
dispatch, protection, validation.
-/
namespace Sys2Proof.Machine

/-! ## Frames that no press ciphers -/

/-- What a frame that is neither protected nor validated leaves as. -/
def clearOut (d : Device) (w : Work) : Bytes :=
  if w.dec && (secTag? d w.ing w.data).isSome then stripped d w (secureData d w) else w.data

/-- A frame passes stage 6 without a press (R175, R192, Table 4-3 steps 1, 2, 4 and 5). -/
def passClear (d : Device) (f : Nat) (x : Forme) : Device :=
  let d := match x.w.dec, x.w.secy, x.w.action with
    | false, some s, 0 => count d (secyCtr 0 s)
    | _, _, _ => d
  let d := setForme d f { x with stage := .press, done := true, settled := true, step := 12, out := clearOut d x.w
                                 w := stamped d x.w 8 }
  valueClear d x.w false

/-- The frame is ciphered: an encrypt frame of a SecY that protects, or a decrypt frame with an SA. -/
def ciphered (d : Device) (w : Work) : Bool :=
  w.sa.isSome && (w.dec || (match w.secy.bind (secy d) with | some y => y.protect | none => true))

/-! ## Stage 4 (R118-R121, R415) -/

/-- The frame's length as it will leave. -/
def leavingLen (d : Device) (w : Work) : Nat :=
  let n := frameLen w.data
  if !ciphered d w then frameLen (clearOut d w)
  else if w.dec then frameLen (stripped d w (secureData d w))
  else match w.secy.bind (secy d) with
    | some y => n + (if y.tagMode = 0 then 32 else 24)
    | none => n

/-- An SA out of service takes its frame (R126). -/
def oosDrop (d : Device) (f : Nat) (x : Forme) : Device := count (dropForme d f x 1 false) (devCtr 43)

/-- Stage 5: a hit moves the context to the front; a miss starts or joins the one fetch (R122, R123, R125). -/
def contextFor (d : Device) (f i : Nat) (x : Forme) : Device :=
  match saOf d i with
  | none => dropForme d f x 1 false
  | some a =>
    if a.oos then oosDrop d f x
    else if inCache d i then setForme (touchSa d i) f { x with entered := true, w := stamped d x.w 6 }
    else setForme (startFetch d i) f x

/-- The position of a frame in its order flow (SEQ). -/
def flowSeq (d : Device) (w : Work) : Device × Nat :=
  let seq := Tbl.getD d.prs.seqs (flowKey w) 0
  ({ d with prs := { d.prs with nextOrder := d.prs.nextOrder + 1
                                seqs := Tbl.setD d.prs.seqs (flowKey w) 0 ((seq + 1) % 2 ^ 16) } }, seq)

/-- A free ordinary forme takes frame `w`, which has left the FIFO of port `p`. -/
def takeForme (d : Device) (p : Nat) (w : Work) : Device :=
  let t := if isAggregate d p && !w.dec && !w.agent then firstTest d w (leavingLen d w) else (d, true)
  if !t.2 then dropWork t.1 w 4 false
  else
    match firstFrom (fun i => !Tbl.has t.1.prs.formes i) 0 16128 with
    | none => d
    | some f =>
      let x : Forme := { w := stamped t.1 (stamped t.1 w 4) 5, order := t.1.prs.nextOrder, seq := (flowSeq t.1 w).2 }
      let d := (flowSeq t.1 w).1
      match w.sa with
      | some i => if ciphered d w then contextFor d f i x else passClear d f x
      | none => passClear d f x

/-- An earlier frame of the SA has not been dispatched. -/
def earlierWaits (d : Device) (i no : Nat) : Bool :=
  Tbl.any d.prs.formes (fun _ x => x.stage == .wait && x.w.sa == some i && x.w.no < no)
    || Tbl.any d.prs.fifo (fun _ l => l.any (fun w => w.sa == some i && decide (w.no < no)))

/-- What a ciphered frame waits for besides its mark: its context is here, no earlier frame of its SA waits, no turn holds
it. -/
def readyForPress (d : Device) (i : Nat) (x : Forme) : Bool := inCache d i && !earlierWaits d i x.w.no && !fenced d x.w

/-- The next PN of the frame's SA may be assigned: of no mark (R255), or under it. -/
def markLets (d : Device) (i : Nat) (x : Forme) (a : Sa) : Bool := x.w.dec || a.exhausted || underMark d i a.pn

/-- The frame is ready for a press. -/
def dispatchable (d : Device) (i : Nat) (x : Forme) (a : Sa) : Bool := readyForPress d i x && markLets d i x a

/-- A frame waits for nothing but its SA's mark (R255, R579). -/
def markBlocks (d : Device) (x : Forme) : Bool :=
  match x.w.sa with
  | some i => match saOf d i with
    | some a => x.stage == .wait && ciphered d x.w && !a.oos && readyForPress d i x && !markLets d i x a
    | none => false
  | none => false

/-- DUET_MARK_WAIT counts the core cycles (8 to 3 ticks) in which some frame has waited on a mark, when that ends. -/
def noteMarkWait (d : Device) : Device :=
  match d.prs.markSince, Tbl.any d.prs.formes (fun _ x => markBlocks d x) with
  | none, true => { d with prs := { d.prs with markSince := some d.clock } }
  | some t, false => count { d with prs := { d.prs with markSince := none } } (devCtr 50) ((d.clock - t) * 8 / 3)
  | _, _ => d

/-- The waiting port that is served next: the first of its pipe, pipes in rotation from the pointer (R120). -/
def nextPort (d : Device) : Option Nat :=
  ((List.range 4).map (fun k => (d.prs.pipePtr + k) % 4)).findSome? (fun k => d.prs.waiting.find? (fun p => p % 4 == k))

/-- A waiting port's head takes a forme, or allocation stops for it (R119). -/
def allocateNext (d : Device) : Device :=
  match nextPort d with
  | none => d
  | some p =>
    match fifoOf d p with
    | [] => { d with prs := { d.prs with waiting := d.prs.waiting.erase p } }
    | w :: rest =>
      if d.prs.stop.isSome || !canAllocate d w then stopAlloc d w
      else
        takeForme (setFifo { d with prs := { d.prs with waiting := d.prs.waiting.erase p, pipePtr := (p % 4 + 1) % 4 } } p rest)
          p w

/-- Port `p` asks for a forme for the head of its FIFO; the pipe that is due is served, so that none which has waited is passed
over. -/
def allocate (d : Device) (p : Nat) : Device :=
  if fifoOf d p = [] then d
  else
    let asked := d.prs.waiting.contains p
    allocateNext (if asked then d else { d with prs := { d.prs with waiting := d.prs.waiting ++ [p] } })

/-- FORME_ALLOCATION (R118-R120, R415). -/
def execFormeAllocation (p : Fin 128) (s : State) : Host.Outcome State Fault Refusal :=
  s.withDev (noteMarkWait (allocate s.dev p))

/-! ## Stage 5: the fetch ends (R123-R126, R456) -/

/-- Frames with a forme that wait for the SA. -/
def waiters (d : Device) (i : Nat) : Tbl Forme :=
  d.prs.formes.filter (fun e => e.2.stage == .wait && e.2.w.sa == some i)

/-- What the fetch read: the errors of its lines, the counted reads, and a record that is not what was written. -/
def fetchReads (d : Device) (i : Nat) (found : FetchFindings) : Device :=
  let d := found.errors.foldl (lineError 0) d
  let d := [ctxLine i 0, ctxLine i 1, recLine i].foldl readLine d
  match found.upset with
  | some k => setKeyRec d i { keyRec d i with key := k }
  | none => d

def fetchDone (d : Device) (i : Nat) (found : FetchFindings) : Device :=
  if !(d.prs.fetching.take 1536).contains i then d
  else
    let d := fetchReads (setFetching d (d.prs.fetching.filter (· != i))) i found
    let good := [ctxLine i 0, ctxLine i 1, recLine i].all (lineGood d)
    let d := if !good then saOut d i else if !recGood d i then recordBad d i 0 else d
    if (match saOf d i with | some a => a.oos | none => true) then
      (waiters d i).foldl (fun d e => oosDrop d e.1 e.2) d
    else
      let d := fillSa d i
      { d with prs := { d.prs with formes := Tbl.mapVals d.prs.formes (fun _ x =>
          if x.stage = .wait ∧ x.w.sa = some i ∧ !x.entered then { x with entered := true, w := stamped d x.w 6 } else x) } }

/-- SA_FETCH_DONE (R123). -/
def execSaFetchDone (sa : Fin 262144) (found : FetchFindings) (s : State) : Host.Outcome State Fault Refusal :=
  s.withDev (noteMarkWait (fetchDone s.dev sa found))

/-! ## The GCM operands (R178-R183) -/

/-- The IV: SCI and PN, or the salt exclusive-or SSCI and PN under XPN (IEEE 802.1AE). -/
def gcmIv (suite : Nat) (sci : W64) (a : Sa) (pn : Nat) : Bytes :=
  if xpn suite then xorBytes (fit 12 a.salt) (beBytes 4 a.ssci.toNat ++ beBytes 8 pn)
  else beBytes 8 sci.toNat ++ beBytes 4 pn

/-- Octets of secure data left in the clear: all of it for integrity only, and where it is shorter than the offset. -/
def clearOctets (e : Bool) (conf n : Nat) : Nat := if e then min n (confOffset conf) else n

/-- Press cycles without a key load (R131). -/
def pressCycles (a c : Nat) : Nat := (a + 15) / 16 + (c + 15) / 16 + 1

/-- A frame as a press makes it. -/
structure Ciphered where
  out : Bytes
  icv : Bytes
  ok : Bool
  cycles : Nat
  deriving DecidableEq, Repr

/-- Tags left ahead of the SecTAG (R180). -/
def clearTagLen (d : Device) (line : Nat) (y : SecY) (data : Bytes) : Nat :=
  4 * (tagsAt (lineTpid d line) data 12 y.clearTags).length

/-- The SecTAG of Table 4-2. -/
def buildTag (y : SecY) (sci : W64) (an pn n : Nat) : Bytes :=
  let e := y.conf != 0
  let tci := (if y.tagMode = 1 then 64 else 0) + (if y.tagMode = 0 then 32 else 0) + (if e then 12 else 0) + an
  beBytes 2 0x88E5 ++ beBytes 1 tci ++ beBytes 1 (if n < 48 then n else 0) ++ beBytes 4 (pn % 2 ^ 32)
    ++ (if y.tagMode = 0 then beBytes 8 sci.toNat else [])

/-- Protect a frame (R178-R184). -/
def protectFrame (d : Device) (line : Nat) (y : SecY) (sci : W64) (a : Sa) (key : Bytes) (an pn : Nat) (data : Bytes) :
    Ciphered :=
  let k := 12 + clearTagLen d line y data
  let sec := data.drop k
  let tag := buildTag y sci an pn sec.length
  let c := clearOctets (y.conf != 0) y.conf sec.length
  let aad := data.take 12 ++ tag ++ sec.take c
  let iv := gcmIv a.suite sci a pn
  let ct := fit (sec.length - c) (gcmCrypt key iv (sec.drop c))
  let icv := fit 16 (gcmTag key iv aad ct)
  { out := data.take k ++ tag ++ sec.take c ++ ct ++ icv, icv := icv, ok := true
    cycles := pressCycles aad.length (sec.length - c) }

/-- Validate and decipher a frame (R182, R193). -/
def validateFrame (d : Device) (w : Work) (t : SecTag) (y : SecY) (sci : W64) (a : Sa) (key : Bytes) (pn : Nat) :
    Ciphered :=
  let sec := secureData d w
  let c := clearOctets t.e y.conf sec.length
  let aad := w.data.take 12 ++ slice w.data t.off t.len ++ sec.take c
  let iv := gcmIv a.suite sci a pn
  let ct := sec.drop c
  let icv := slice w.data (t.off + t.len + sec.length) 16
  { out := stripped d w (sec.take c ++ fit ct.length (gcmCrypt key iv ct)), icv := icv
    ok := icv == fit 16 (gcmTag key iv aad ct), cycles := pressCycles aad.length ct.length }

/-- The recovered PN (R197); none where no PN above the maximum exists. Past the PN 2^64 - 1 the lowest acceptable PN is kept as the
number 2^64, of which the 64 bits of R197 are 0 (DESIGN CHOICE, log 91). -/
def recoverPn (suite lowest pnField : Nat) : Option Nat :=
  if !xpn suite then some pnField
  else
    let hi := lowest / 2 ^ 32 % 2 ^ 32
    if pnField < lowest % 2 ^ 32 then
      if hi = 2 ^ 32 - 1 then none else some ((hi + 1) * 2 ^ 32 + pnField)
    else some (hi * 2 ^ 32 + pnField)

/-! ## Transparent PTP correction (R659-R665) -/

/-- Both ports of a LINK pair hold MODE 1 with the same BASE. -/
def transparent (d : Device) (p q : Nat) : Bool :=
  isLink d p && isLink d q && ptpMode d p == 1 && ptpMode d q == 1 && ptpBase d p == ptpBase d q

def asymNs (d : Device) (p : Nat) : Int :=
  let n := bits (portCfgTime d p) 15 0
  if n < 2 ^ 15 then (n : Int) else (n : Int) - 2 ^ 16

/-- What is added to the correctionField, in 2^-16 ns: residence from the ingress stamp to the egress stamp, the delay
asymmetry, and the ingress link delay for a Sync under an agent (R662). -/
def correctionFor (d : Device) (w : Work) (egress : Nat) (type : Nat) : Int :=
  let res : Int := ((egress : Int) - (w.stamp : Int)) * 2 ^ 14
  let asym := if type = 0 ∨ type = 3 then asymNs d w.ing else 0 - asymNs d w.eg
  let link : Int := if type = 0 ∧ agentOn d (ptpBase d w.ing) then Config.linkDelay w.ing else 0
  res + asym * 2 ^ 16 + link

/-- An event message of a transparent pair, with its correction for an egress stamp. -/
def corrected? (d : Device) (w : Work) (data : Bytes) (egress : Nat) : Option Bytes :=
  if transparent d w.ing w.eg then
    match ptpAt (tpidOk d (if isLine d w.ing then w.eg else w.ing)) data with
    | some m => if m.event then some (addCorrection m data (correctionFor d w egress ((byteAt data m.off).toNat % 16))) else none
    | none => none
  else none

/-- A one-step Sync that the agent sends is stamped at its launch time (R655, R663). -/
def oneStep (d : Device) (w : Work) : Bool :=
  w.agent && !bit (reg d (ctlOff (ptpBase d w.eg))) 27
    && (match ptpAt (tpidOk d w.eg) w.data with | some m => (byteAt w.data m.off).toNat % 16 == 0 | none => false)

/-- The launch tick of a PTP frame dispatched now (R663). -/
def launchTick (d : Device) (eg : Nat) : Nat := d.clock + 550 + 131480 * 1000 / max 1 (portRate d eg) / 2

/-- The base's stamp at a later tick. -/
def stampAt (d : Device) (b t : Nat) : Nat := ((tbase d b).advance d.clock (t - d.clock)).value / quarterNs

/-! ## Stage 6: dispatch (R127-R133, R255) -/

/-- Core cycles of work queued to a press. -/
def pressLoad (d : Device) (m : Nat) : Nat :=
  ((d.prs.formes.filter (fun e => e.2.press == some m && !e.2.done)).map (fun e => e.2.cycles)).sum

def hasKey (d : Device) (m i : Nat) : Bool :=
  (press d m).keys.contains i
    || d.prs.flActive.any (fun p => some (flSecy d p) == saSecy d i && flPress d p == m)

/-- The least loaded press in service; ties go to the first at or after the rotating pointer. -/
def choosePress (d : Device) (i : Nat) : Option Nat :=
  let order := ((List.range 24).map (fun k => (d.prs.pressPtr + k) % 24)).filter (pressIn d)
  let cost := fun m => pressLoad d m + (if hasKey d m i then 0 else 24)
  order.foldl (fun best m => match best with
    | some b => if cost m < cost b then some m else some b
    | none => some m) none

/-- The key is used in a press: the entry moves to the front, or is loaded in 24 cycles. -/
def useKey (d : Device) (m i : Nat) : Device × Nat :=
  if hasKey d m i then
    let keys := (press d m).keys
    (setPress d m { press d m with keys := if keys.contains i then i :: keys.filter (· != i) else keys }, 0)
  else
    let room := 64 - pinnedOnPress d d.prs.flActive m
    (count (setPress d m { press d m with keys := (i :: (press d m).keys).take room }) (unitCtr 2 m), 24)

/-- PN_NEAR_EXHAUSTION and SA_EXHAUSTED of an assignment (R187, R188, R190). -/
def pnEvents (d : Device) (s i pn suite : Nat) (a : Sa) : Device :=
  let near := !a.nearSent && threshold d s suite ≤ pn
  let d := if near then emit d .macsec 0x01 (leBytes 2 s ++ leBytes 4 i ++ leBytes 8 pn) else d
  if pn = maxPn suite then emit d .macsec 0x02 (leBytes 2 s ++ leBytes 4 i) else d

/-- Assign the next PN of a transmit SA (R128, R185-R188, R579). -/
def assignPn (d : Device) (s i suite : Nat) (a : Sa) : Device × Nat :=
  let pn := a.pn
  let d := pnEvents d s i pn suite a
  let d := setSa d i { a with pn := pn + 1, lastPn := pn, dirty := true, exhausted := decide (pn = maxPn suite)
                              nearSent := a.nearSent || decide (threshold d s suite ≤ pn) }
  (topMark d i (pn + 1) (maxPn suite), pn)

/-- A frame enters a press. The rotating pointer is then one past that press, after a fixed-latency dispatch too (DESIGN
CHOICE, log 58: R130 says that it advances, not how far, nor at which dispatches). -/
def intoPress (d : Device) (f i m : Nat) (x : Forme) (c : Ciphered) (pn : Nat) : Device :=
  let k := useKey { d with prs := { d.prs with pressPtr := (m + 1) % 24 } } m i
  let cycles := c.cycles + k.2
  startShed (setForme k.1 f { x with stage := if x.w.fl then .sending else .press, press := some m, pn := pn, cycles := cycles
                                     out := c.out, icv := c.icv, icvOk := c.ok, w := stamped d x.w 7 })

/-- An encrypt frame at a press: exhaustion, the PN, the protected frame. -/
def dispatchEncrypt (d : Device) (f i m : Nat) (x : Forme) (a : Sa) (s : Nat) (y : SecY) (c : Sc) : Device :=
  if a.exhausted ∨ a.pn > maxPn a.suite then addStat (dropForme d f x 1 false) i 4 1
  else
    let launch := launchTick d x.w.eg
    let data? := if x.w.fl then none else corrected? d x.w x.w.data (stampAt d (ptpBase d x.w.eg) launch)
    let r := assignPn d s i a.suite a
    let p := protectFrame d x.w.eg y c.sci a (keyRec d i).key (i % 4) r.2 (data?.getD x.w.data)
    let timed := data?.isSome || (!x.w.fl && oneStep d x.w)
    intoPress r.1 f i m { x with launch := if timed then some launch else x.launch } p r.2

/-- A decrypt frame at a press: the PN is recovered, and steps 6 and 7 of Table 4-3 that discard are taken here. -/
def dispatchDecrypt (d : Device) (f i m : Nat) (x : Forme) (a : Sa) (y : SecY) (c : Sc) (t : SecTag) : Device :=
  let pn? := recoverPn a.suite a.lowest t.pn
  let pn := pn?.getD (2 ^ 64 - 2 ^ 32 + t.pn)
  let late := y.validate != 0 && (pn?.isNone || (y.replay && decide (pn < a.lowest)))
  let gone := fun (word step : Nat) =>
    let d := addStat d i word 1
    let d := addTuple d x.w.ing x.w.no x.w.win ([0x01#8] ++ beBytes 3 i ++ beBytes 8 pn ++ beBytes 1 step) (some i) pn false
    dropForme d f { x with settled := true, step := step, pn := pn } 1 false
  if late then gone 7 6
  else if y.validate = 0 ∧ t.c then gone 5 7
  else intoPress d f i m x (validateFrame d x.w t y c.sci a (keyRec d i).key pn) pn


/-- The SC and SecY under which a frame uses SA `i`: those that its deletion keeps where the SC has gone since (R250). -/
def heldUnder (d : Device) (i : Nat) : Option (Sc × SecY) :=
  match (d.ms.deletions.find? (fun x => x.sa == i)).bind Deletion.was with
  | some e => some e
  | none => (scOf d (i / 4)).bind (fun c => (secy d c.secy).map (fun y => (c, y)))

/-- Dispatch a frame of SA `i` to press `m`; the SecY's values of now hold for it from here on (R203). -/
def dispatchTo (d : Device) (f i m : Nat) (x : Forme) (a : Sa) : Device :=
  match x.w.secy, heldUnder d i with
  | some s, some (c, y) =>
    let x := { x with rules := some y }
    if x.w.dec then
      match secTag? d x.w.ing x.w.data with
      | some t => dispatchDecrypt d f i m x a y c t
      | none => dropForme d f x 1 false
    else dispatchEncrypt d f i m x a s y c
  | _, _ => dropForme d f x 1 false

/-- Ticks of wire time of a frame of `len` bytes with preamble and inter-frame gap. -/
def wireTicks (d : Device) (p len : Nat) : Nat := (4000 * (len + 20) + portRate d p - 1) / max 1 (portRate d p)

/-- A fixed-latency frame goes to its port's press and leaves 480 ns after its arrival, or at once where a turn or a mark has
held it for longer; it occupies its egress port from then on (R130, R150, R154, R244, R255). -/
def dispatchFl (d : Device) (f i : Nat) (x : Forme) (a : Sa) : Device :=
  let l := max (x.launch.getD 0) d.clock
  if !pressIn d (flPress d x.w.ing) then dropForme (count d (portCtr 7 x.w.ing)) f x 4 true
  else if Tbl.getD d.prs.flBusy x.w.eg 0 > l then dropForme (count d (portCtr 6 x.w.ing)) f x 1 false
  else
    let d := dispatchTo d f i (flPress d x.w.ing) { x with launch := some l } a
    match forme? d f with
    | some y => { d with prs := { d.prs with flBusy := Tbl.put d.prs.flBusy x.w.eg (l + wireTicks d x.w.eg (outLen y)) } }
    | none => d

/-- A fixed-latency frame that no press ciphers leaves at its launch time, unless its port is still sending an earlier express
frame (R154). -/
def flClear (d : Device) (f : Nat) (x : Forme) : Device :=
  let l := max (x.launch.getD 0) d.clock
  if Tbl.getD d.prs.flBusy x.w.eg 0 > l then dropForme (count d (portCtr 6 x.w.ing)) f x 1 false
  else
    let d := setForme (passClear d f x) f { x with stage := .sending, done := true, settled := true, step := 12
                                                   launch := some l, out := clearOut d x.w }
    { d with prs := { d.prs with flBusy := Tbl.put d.prs.flBusy x.w.eg (l + wireTicks d x.w.eg (frameLen (clearOut d x.w))) } }

/-- An earlier fixed-latency frame of the order flow still waits (R42). -/
def behindFl (d : Device) (x : Forme) : Bool :=
  x.w.fl && Tbl.any d.prs.formes (fun _ y => y.w.fl && y.stage == .wait && decide (y.order < x.order) && sameFlow y.w x.w)

/-- A waiting frame goes to a press, or on its way without one, where nothing holds it. -/
def dispatch (d : Device) (f : Nat) : Device :=
  match forme? d f with
  | some x =>
    if x.stage ≠ .wait ∨ behindFl d x then d
    else match x.w.sa with
    | some i =>
      match saOf d i with
      | some a =>
        if a.oos then oosDrop d f x
        else if !ciphered d x.w then (if x.w.fl then flClear d f x else passClear d f x)
        else if !dispatchable d i x a then d
        else if x.w.fl then dispatchFl d f i x a
        else match choosePress d i with
          | some m => dispatchTo d f i m x a
          | none => d
      | none => dropForme d f x 1 false
    | none => if x.w.fl then flClear d f x else d
  | none => d

/-- PRESS_DISPATCH (R127, R128, R130). -/
def execPressDispatch (f : Fin 16384) (s : State) : Host.Outcome State Fault Refusal :=
  s.withDev (noteMarkWait (dispatch s.dev f))

/-! ## Stage 7: the press finishes (R141, R193-R200, R582) -/

/-- Statistics and digest value of a protected frame (R221, R582). -/
def settleTx (d : Device) (f i : Nat) (x : Forme) : Device :=
  let y := x.rules
  let e := match y with | some y => y.conf != 0 | none => true
  let octets := match y with
    | some y => x.out.length - 28 - clearTagLen d x.w.eg y x.w.data - (if y.tagMode = 0 then 16 else 8)
    | none => 0
  let d := addStat (addStat d i (if e then 1 else 0) 1) i (if e then 3 else 2) octets
  let d := addTuple d x.w.ing x.w.no x.w.win ([0x00#8] ++ beBytes 3 i ++ beBytes 8 x.pn ++ x.icv) (some i) x.pn false
  setForme d f { x with settled := true }

/-- The press is done with the frame, whose last byte is here by then. -/
def complete (d : Device) (f : Nat) : Device :=
  match forme? d f with
  | some x =>
    match x.press, x.w.sa, x.done with
    | some m, some i, false =>
      let d := elapseTo d (arrivalEnd d x.w)
      let d := judgeArrived (count (count d (unitCtr 0 m)) (unitCtr 1 m) x.cycles) f
      let n := d.prs.formes.length + 1
      match forme? d f with
      | some x =>
        let w := if x.stage = .press ∧ !x.w.fl then stamped d x.w 8 else x.w
        let x := { x with done := true, w := { w with whole := true } }
        let d := setForme d f x
        if x.w.dec then settleSa i n d else settleTx d f i x
      | none => if x.w.dec then settleSa i n d else d
    | _, _, _ => d
  | none => d

/-- PRESS_COMPLETE (R131, R193, R199). -/
def execPressComplete (f : Fin 16384) (s : State) : Host.Outcome State Fault Refusal := s.withDev (complete s.dev f)

/-- A frame proves bad before its last byte is here. -/
def stompFrame (d : Device) (f : Nat) (tooLong : Bool) : Device :=
  match forme? d f with
  | some x => if x.w.whole ∨ x.stomped then d else endBad d f x tooLong
  | none => d

/-- ENC_STOMPED (R139). -/
def execEncStomped (f : Fin 16384) (tooLong : Bool) (s : State) : Host.Outcome State Fault Refusal :=
  s.withDev (stompFrame s.dev f tooLong)

end Sys2Proof.Machine
end

