-- ==== Sys2Proof/Machine/Egress.lean ====
section
/-!
DEFINITION. Stages 2 and 8 to 10: the arrival rows, the fixed-latency class, the reorder units, LINK staging, the launch of
PTP frames, and the end of a frame (R121, R135, R147-R156, R663, R664).
-/
namespace Sys2Proof.Machine

/-! ## The fixed-latency class (R148-R155) -/

/-- PRS_FL_MATCH of a Client port. -/
def flMatch (d : Device) (p : Nat) (data : Bytes) : Bool :=
  let c := reg d (0x140500 + 4 * p)
  let pcp := match (frameTags d p data).head? with | some t => t.2 / 8192 == bits c 18 16 | none => false
  let et := etherType d p data == bits c 15 0
  match bits c 20 19 with
  | 0 => pcp
  | 1 => et
  | 2 => pcp && et
  | _ => false

/-- A SecTAG that selects a receive SC of the port's FL_SECY. -/
def flTagged (d : Device) (p : Nat) (data : Bytes) : Bool :=
  match secTag? d p data with
  | some t => match (rxScOf d p t (srcMac data)).bind (scOf d) with
    | some c => c.secy == flSecy d p
    | none => false
  | none => false

/-- A fixed-latency frame (R149, R153), also while the class's press is out (R134). -/
def isFlFrame (d : Device) (p : Nat) (data : Bytes) : Bool :=
  d.prs.flPassed.contains p && (flInService d p || !pressIn d (flPress d p))
    && ((portRate d p == 1000 && flInService d p) || (if isLine d p then flTagged d p data else flMatch d p data))

def flFlush (d : Device) (w : Work) : Device := dropNew (count d (portCtr 7 w.ing)) w 2 false

/-- The SecY and SA of a fixed-latency frame: only FL_SECY carries it (R137), so another SecY's receive SC is not found for it
(DESIGN CHOICE, log 58). A bypass EtherType passes in the clear (R175). -/
def classifyFl (d : Device) (w : Work) : Device × Judged :=
  let q := (partner d w.ing).getD w.ing
  if w.dec then
    if (match secTag? d w.ing w.data with | some t => malformed t w.data | none => true) || flTagged d w.ing w.data then
      classifyLine d w
    else if untaggedValidate d w.ing = 2 || ((secTag? d w.ing w.data).map SecTag.c).getD false then
      (count d (portCtr 12 w.ing), .drop w)
    else (count d (portCtr 11 w.ing), .go { w with eg := q })
  else if bypassType d (etherType d w.ing w.data) && (secTag? d w.ing w.data).isNone then
    (count d (portCtr 13 w.ing), .go { w with eg := q, action := 1 })
  else match secy d (flSecy d w.ing) with
    | some y => encryptUnder d { w with eg := q } (flSecy d w.ing) y
    | none => (d, .drop w)

/-- One of the 256 formes reserved for fixed-latency frames, where the frame's cells are free too (R118). -/
def freeFlForme (d : Device) (w : Work) : Option Nat :=
  if memoryCells d + cellsOf (frameLen w.data) ≤ 32768 then firstFrom (fun i => !Tbl.has d.prs.formes i) 16128 256 else none

/-- A classified fixed-latency frame takes a reserved forme, with a launch time 480 ns after its arrival, and its press work comes
at once and ahead of all other work (R150); one that a turn, a mark or an earlier frame holds waits for its dispatch. Where no
forme or too few cells are free it is dropped at stage 4, in no counter (DESIGN CHOICE, log 86: the spec does not say). -/
def flForme (d : Device) (w : Work) : Device :=
  match freeFlForme d w with
  | some f =>
    let x : Forme := { w := stamped d (stamped d (stamped d w 4) 5) 6, order := d.prs.nextOrder, seq := (flowSeq d w).2
                       entered := true, launch := some (w.arrival + 240) }
    noteMarkWait (dispatch (setForme (flowSeq d w).1 f x) f)
  | none => dropWork d w 4 false

/-- A fixed-latency frame arrives (R150, R154, R155). -/
def flFrame (d : Device) (p : Nat) (fr : FrameIn) : Device :=
  let e := enterStage2 d p fr true
  let d := e.1
  let q := (partner d p).getD p
  if !flInService d p || !linkUp d q then flFlush d e.2
  else if Tbl.getD d.prs.flBusy q 0 > d.clock + 240 then dropNew (count d (portCtr 6 p)) e.2 2 false
  else
    let r := classifyFl d e.2
    match r.2 with
    | .go w => if plainLen r.1 w > 16383 ∧ w.whole then dropCounted r.1 w 2 else flForme r.1 w
    | .drop w => dropCounted r.1 w 3

/-- FL_FRAME (R150). -/
def execFlFrame (p : Fin 128) (frame : FrameIn) (s : State) : Host.Outcome State Fault Refusal :=
  let d := s.dev
  if takesFrames d p && isFlFrame d p frame.data then
    let r := macReceive d p frame
    s.withDev (if r.2 then flFrame r.1 p frame else r.1)
  else s.withDev d

/-- FRAME_INGRESS (R145, R360). -/
def execFrameIngress (p : Fin 128) (frame : FrameIn) (ecc : TableEcc) (s : State) : Host.Outcome State Fault Refusal :=
  let d := s.dev
  if takesFrames d p then
    let r := macReceive d p frame
    s.withDev (if !r.2 then r.1 else if isFlFrame r.1 p frame.data then flFrame r.1 p frame else ingressFrame r.1 p frame ecc)
  else s.withDev d

/-! ## Reorder units (R135, R147, R425) -/

/-- An earlier frame of the order flow has not been released. -/
def behindFlow (d : Device) (x : Forme) : Bool :=
  Tbl.any d.prs.formes (fun _ y => !y.w.fl && (y.stage == .wait || y.stage == .press) && y.order < x.order && sameFlow y.w x.w)

def stagedOf (d : Device) (p : Nat) : List Nat := Tbl.getD d.prs.staged p []
def stagedBytes (d : Device) (p : Nat) : Nat := ((stagedOf d p).filterMap (fun f => (forme? d f).map outLen)).sum

/-- Stage 9 in LINK. -/
def enterStaging (d : Device) (f : Nat) (x : Forme) : Device :=
  let p := x.w.eg
  if !linkUp d p then dropForme (count d (portCtr 5 p)) f x 4 false
  else if stagedBytes d p + outLen x > 262144 then dropForme (count d (portCtr 4 p)) f x 1 false
  else
    setForme { d with prs := { d.prs with staged := Tbl.put d.prs.staged p (stagedOf d p ++ [f]) } } f
      { x with stage := .queued }

/-- Release a frame that its press has, or that needs none. A message of the PTP agent goes to the port's staging in AGGREGATE
too: the Galley's queues are those of forwarded frames (DESIGN CHOICE, log 87). -/
def release (d : Device) (f : Nat) : Device :=
  match forme? d f with
  | some x =>
    if x.stage ≠ .press ∨ behindFlow d x then d
    else
      let x := { x with w := stamped d (if x.done then x.w else stamped d x.w 8) 9 }
      if isAggregate d x.w.eg && !x.w.agent then (if remapping d x.w then d else enterGalley d f x)
      else enterStaging d f x
  | none => d

/-- REORDER_RELEASE (R135). -/
def execReorderRelease (f : Fin 16384) (s : State) : Host.Outcome State Fault Refusal := s.withDev (release s.dev f)

/-! ## Leaving LINK staging (R111, R138, R140, R663, R664) -/

/-- Four cells are staged, or all of the frame; a stored-and-forwarded decrypt frame is here whole and has its outcome. -/
def stagedReady (d : Device) (x : Forme) : Bool :=
  if x.w.dec && !bit (reg d (0x140100 + 4 * x.w.ing)) 31 then arrivedWhole d x.w && x.settled
  else arrivedWhole d x.w || decide (1024 ≤ arrivedBytes d x.w)

/-- The frame starts; a decrypted event message takes its correction here. The room it held in the 256 KiB buffer is free from
here on (DESIGN CHOICE, log 91: the spec does not say when). -/
def startStaged (d : Device) (p f : Nat) (x : Forme) : Device :=
  let out := if x.w.dec then (corrected? d x.w x.out ((tbase d (ptpBase d p)).value / quarterNs)).getD x.out else x.out
  let d := unqueue d f x
  setForme { d with prs := { d.prs with tx := Tbl.put d.prs.tx p f } } f
    { x with stage := .sending, out := out, w := stamped d x.w 10 }

/-- The frame starts, unless it is here by now and bad. -/
def startGood (d : Device) (p f : Nat) (x : Forme) : Device :=
  match lateFault d x.w with
  | some long => endBad d f x long
  | none => startStaged d p f x

def launchMiss (d : Device) (f : Nat) (x : Forme) : Device :=
  count (dropForme d f x 1 false) (portCtr 45 x.w.eg)

/-- An earlier frame of its order flow or of its SA is still staged, so that a frame cannot start yet (R41, R42). -/
def behindStaged (d : Device) (x : Forme) : Bool :=
  (stagedOf d x.w.eg).any (fun g => match forme? d g with
    | some y => y.order < x.order && (sameFlow y.w x.w || (x.w.sa.isSome && y.w.sa == x.w.sa && y.w.ing == x.w.ing))
    | none => false)

/-- The staged PTP frame with the earliest launch time. -/
def nextLaunch (d : Device) (p : Nat) : Option (Nat × Forme × Nat) :=
  (stagedOf d p).foldl (fun best f => match (forme? d f).bind (fun x => x.launch.map (fun l => (f, x, l))) with
    | some e => match best with
      | some b => if e.2.2 < b.2.2 then some e else some b
      | none => some e
    | none => best) none

def startHead (d : Device) (p : Nat) : Device :=
  match (stagedOf d p).head?.bind (fun f => (forme? d f).map (fun x => (f, x))) with
  | some (f, x) => if stagedReady d x then startGood d p f x else d
  | none => d

/-- The port's head starts, unless it would still be on the wire at a launch time; then the PTP frame does, at that time. -/
def stagedEgress (d : Device) (p : Nat) : Device :=
  if !linkUp d p || Tbl.has d.prs.tx p then d
  else match nextLaunch d p with
    | some (f, x, l) =>
      let first := match (stagedOf d p).head?.bind (forme? d) with
        | some h => decide ((stagedOf d p).head? ≠ some f ∧ d.clock + wireTicks d p (outLen h) ≤ l)
        | none => false
      if d.clock > l then launchMiss d f x
      else if first then startHead d p
      else
        let d := elapseTo d l
        if Tbl.getD d.prs.flBusy p 0 > l ∨ behindStaged d x then launchMiss d f x else startGood d p f x
    | none => startHead d p

/-- STAGED_FRAME_EGRESS (R111, R147, R663). -/
def execStagedFrameEgress (p : Fin 128) (s : State) : Host.Outcome State Fault Refusal :=
  s.withDev (stagedEgress s.dev p)

/-- PTP_LAUNCH_MISS (R664): the frame's launch time comes and it cannot start. -/
def ptpMiss (d : Device) (f : Nat) : Device :=
  match forme? d f with
  | some x =>
    match x.launch with
    | some l =>
      if x.w.fl ∨ x.stage = .sending then d
      else
        let d := elapseTo d l
        let p := x.w.eg
        if d.clock > l ∨ !linkUp d p ∨ Tbl.has d.prs.tx p ∨ Tbl.getD d.prs.flBusy p 0 > l ∨ behindStaged d x ∨ x.stage ≠ .queued then
          launchMiss d f x
        else d
    | none => d
  | none => d

def execPtpLaunchMiss (f : Fin 16384) (s : State) : Host.Outcome State Fault Refusal := s.withDev (ptpMiss s.dev f)

/-! ## The end of a frame (R121) -/

/-- An earlier fixed-latency frame is still leaving the port: frames leave it one after the other. -/
def behindExpress (d : Device) (x : Forme) : Bool :=
  x.w.fl && Tbl.any d.prs.formes (fun _ y => y.w.fl && y.stage == .sending && y.w.eg == x.w.eg && y.order < x.order)

/-- A frame's last byte has left: what the agent sent is counted for it too (R658). -/
def sentWhole (d : Device) (f : Nat) (y : Forme) : Device :=
  let d := if y.w.agent ∧ !muted d then count d (portCtr 44 y.w.eg) else d
  endForme (transmit d y.w.eg y.out y.stomped) f y (if y.stomped then 2 else 0) 0

/-- The last byte leaves; a fixed-latency frame's press is done by then. -/
def txEnd (d : Device) (f : Nat) : Device :=
  match forme? d f with
  | some x =>
    if x.stage ≠ .sending ∨ behindExpress d x then d
    else
      let d := judgeArrived (elapseTo d (arrivalEnd d x.w)) f
      let d := if x.w.fl then elapseTo d (x.launch.getD 0 + wireTicks d x.w.eg (outLen x)) else d
      let d := if x.w.fl then complete d f else d
      match forme? d f with
      | some y => if y.done && y.settled then sentWhole d f y else d
      | none => d
  | none => d

/-- FRAME_TX_END (R121). -/
def execFrameTxEnd (f : Fin 16384) (s : State) : Host.Outcome State Fault Refusal := s.withDev (txEnd s.dev f)

end Sys2Proof.Machine
end

