-- ==== Sys2Proof/Machine/Lanes.lean ====
section
/-!
DEFINITION. Lanes and Ethernet links (18): equalisation, link up and down, PLL locks, loopbacks, PRBS and margin scans.
-/
namespace Sys2Proof.Machine

def portLink (d : Device) (p : Nat) : PortLink := Tbl.getD d.lane.ports p {}
def setPortLink (d : Device) (p : Nat) (x : PortLink) : Device :=
  { d with lane := { d.lane with ports := Tbl.setD d.lane.ports p {} x } }

def ethCfgOff (p : Nat) : Nat := 0x80000 + 8 * p
def forceDown (d : Device) (p : Nat) : Bool := bit (reg d (ethCfgOff p)) 0

/-! ## Link up (R736) -/

/-- Every stage holds on a lane; training leaves it the taps that the link partner asked for. -/
def laneUp (d : Device) (n : Nat) : Device :=
  let d := setCdr d n true
  let d := setLane d n { laneOf d n with block := true, trained := true, ltOwned := trains d n }
  if trains d n then setBits d (laneBase n + 4) (mask 21 16 ||| mask 13 8 ||| mask 3 0) (Config.ltTaps n d.clock) else d

/-- A hold of the Galley ends with the link up (R420). -/
def resumeHold (d : Device) (p : Nat) : Device :=
  let g := galPort d p
  let d := setGalPort d p { g with holding := false, dropping := false }
  if g.holding then emit d .galley 0x02 (leBytes 1 p ++ leBytes 4 ((d.clock - g.downAt) / usTicks)) else d

/-- Every port of the profile has its link. -/
def allUp (d : Device) : Bool := !Tbl.any d.boot.profile.ports (fun p _ => isEth d p && !linkUp d p)

/-- Bring-up of the data path ends when every Ethernet port is up (Table 16-10). It is judged at each link-up, so a profile
without Ethernet ports waits for the bound of 1.2 s: what an SDH or OTN port needs to be up is not said (DESIGN CHOICE,
log 44). -/
def bringUpDone (d : Device) : Device :=
  match d.glb.bringUpEnds with
  | some t => if allUp d ∧ d.clock < t then { d with glb := { d.glb with bringUpEnds := some d.clock } } else d
  | none => d

/-- The time that the port spent in local or remote fault (R767). -/
def countFault (d : Device) (p : Nat) : Device :=
  let x := portLink d p
  let us := (d.clock - x.downAt) / usTicks
  if x.localFault then count d (portCtr 59 p) us else if x.remoteFault then count d (portCtr 60 p) us else d

/-- Repeated auto-negotiations are counted, and a link training that failed on a lane of the port is counted and written as
LT_FAILED (R767, R768). -/
def trainPort (d : Device) (p : Nat) (x : BringUp) : Device :=
  (portLanes d p).foldl
    (fun d n => if x.failed.any (fun k => k.val == n)
      then emit (count d (portCtr 63 p)) .lane 0x03 (leBytes 1 p ++ leBytes 1 n) else d)
    (count d (portCtr 62 p) x.restarts)

def goUp (d : Device) (p : Nat) (up : BringUp) : Device :=
  if !isEth d p || linkUp d p || forceDown d p || !portsRun d || !pllLocked d p then d
  else
    let d := (portLanes d p).foldl laneUp (trainPort (countFault d p) p up)
    let an := (portLanes d p).any (backplane d) || (match portCfg d p with | some c => c.type == 1 | none => false)
    let fec := match portCfg d p with | some c => hasFec c | none => false
    let d := setPortLink d p { up := true, fecLock := fec, anDone := an, cause := (portLink d p).cause, merge := up.verified }
    let d := emit d .lane 0x01 (leBytes 1 p ++ leBytes 4 up.ms.toNat)
    let d := resumeHold d p
    let d := flVerify d p
    bringUpDone (match partner d p with | some q => flVerify d q | none => d)

/-- LINK_UP (R152, R736). -/
def execLinkUp (p : Fin 128) (up : BringUp) (s : State) : Host.Outcome State Fault Refusal := s.withDev (goUp s.dev p up)

/-! ## Link down (R147, R155, R419, R737) -/

/-- The stages that a cause takes from a port's lanes. -/
def laneLoss (d : Device) (cause n : Nat) : Device :=
  if cause = 0 ∨ cause = 7 then setCdr d n false
  else if cause = 1 then
    let d := setCdr d n false
    setLane d n { laneOf d n with signal := true }
  else if cause = 2 then setLane d n { laneOf d n with block := false }
  else d

/-- Fixed-latency frames of the pair are flushed, those the device started too. -/
def flushFl (d : Device) (p : Nat) : Device :=
  dropWhere d (fun x => x.w.fl && (x.w.ing == p || partner d p == some x.w.ing)) 4 false (fun d x => count d (portCtr 7 x.w.ing))

/-- The staging buffer of a LINK port is flushed, with the frame that is partly on the wire. -/
def flushStaging (d : Device) (p : Nat) : Device :=
  dropWhere d (fun x => !x.w.fl && x.w.eg == p && (x.stage == .queued || x.stage == .sending)) 4 false
    (fun d _ => count d (portCtr 5 p))

/-- The agent's messages staged for an AGGREGATE port are flushed. -/
def flushMessages (d : Device) (p : Nat) : Device :=
  dropWhere d (fun x => x.w.agent && x.w.eg == p && x.stage == .queued) 4 false (fun d _ => count d (portCtr 5 p))

/-- The Galley stops serving the port, and its hold starts. -/
def startHold (d : Device) (p : Nat) : Device :=
  let d := dropWhere d (fun x => x.w.eg == p && x.stage == .sending) 1 false (fun d _ => count d (portCtr 37 p))
  let d := setGalPort d p { galPort d p with holding := true, dropping := false, downAt := d.clock }
  let d := emit d .galley 0x01 (leBytes 1 p ++ leBytes 4 (portQueued d p).length ++ leBytes 4 (portCells d p))
  if holdMs d p = 0 then endHold d p else d

def downLink (d : Device) (p cause : Nat) : PortLink :=
  { up := false, localFault := cause == 4, remoteFault := cause == 5, hiBer := cause == 3
    fecLock := (portLink d p).fecLock && !(cause ≤ 2) && cause != 6 && cause != 7
    anDone := (portLink d p).anDone && !(cause ≤ 1) && cause != 7, cause := cause, downAt := d.clock }

def goDown (d : Device) (p cause : Nat) : Device :=
  if !linkUp d p then d
  else
    let d := setPortLink ((portLanes d p).foldl (fun d n => laneLoss d cause n) d) p (downLink d p cause)
    let d := if cause = 1 then count d (portCtr 61 p) else d
    let d := emit (count d (portCtr 47 p)) .lane 0x02 (leBytes 1 p ++ leBytes 1 cause)
    let d := flushFl d p
    if isAggregate d p then startHold (flushMessages d p) p else if isLink d p then flushStaging d p else d

/-- LINK_DOWN (R737). -/
def execLinkDown (p : Fin 128) (cause : Fin 9) (s : State) : Host.Outcome State Fault Refusal :=
  s.withDev (goDown s.dev p cause)

/-- FORCE_DOWN_WRITE: a write to PORT_ETH_CFG (R737). -/
def writeEthCfg (d : Device) (p : Nat) (val : W32) : Device :=
  let d := plainWrite d (ethCfgOff p) val
  if forceDown d p then goDown d p 8 else d

def execForceDownWrite (p : Fin 128) (val : W32) (s : State) : Host.Outcome State Fault Refusal :=
  s.withDev (writeEthCfg s.dev p val)

/-! ## PLLs (R738) -/

def groupPorts (d : Device) (g : Nat) : List Nat :=
  (d.boot.profile.ports.filter (fun e => e.2.firstLane / 16 == g)).map Prod.fst

def losePort (d : Device) (p : Nat) : Device :=
  if isEth d p then goDown d p 7 else if hasDefect d p 0 then d else portDefectChange d p 0 true {}

def pllLost (d : Device) (g : Nat) : Device :=
  if d.glb.groupPll.getLsbD g then
    let d := { d with glb := { d.glb with groupPll := d.glb.groupPll &&& ~~~(1#8 <<< g) } }
    let d := emit (count d (unitCtr 19 g)) .lane 0x07 (leBytes 1 g)
    (groupPorts d g).foldl losePort d
  else d

/-- PLL_UNLOCK (R738). -/
def execPllUnlock (g : Fin 8) (s : State) : Host.Outcome State Fault Refusal := s.withDev (pllLost s.dev g)

/-- GROUP_PLL_RELOCK (R738): the ports of the group restart at stage 1. -/
def pllBack (d : Device) (g : Nat) : Device :=
  if d.glb.part.lanes ≤ 16 * g then d else
  wakePath { d with glb := { d.glb with groupPll := d.glb.groupPll ||| (1#8 <<< g) } }

def execGroupPllRelock (g : Fin 8) (s : State) : Host.Outcome State Fault Refusal := s.withDev (pllBack s.dev g)

/-! ## Equalisation (R733-R735) -/

/-- A lane of LANE_EQ_WRITE: 0-127 general, 128-132 duet-link lanes 0-4. MAIN falls until the taps sum to 63. -/
def fitTaps (w : W32) : W32 :=
  let pre := bits w 3 0
  let post := min 31 (bits w 21 16)
  let main := max 16 (bits w 13 8)
  if pre + main + post > 63 then (w &&& ~~~(mask 13 8)) ||| place 13 8 (63 - pre - post) else w

def writeTxeq (d : Device) (n : Nat) (val : W32) : Device :=
  let off := laneBase n + 4
  if (laneOf d n).ltOwned || fusedOff d.glb.part off then d
  else
    let d := plainWrite d off val
    setReg d off (fitTaps (reg d off))

def writeCtle (d : Device) (n : Nat) (val : W32) : Device :=
  let d := plainWrite d (laneBase n + 8) val
  if !bit (reg d (laneBase n + 8)) 31 ∧ (laneOf d n).cdr then
    setLane d n { laneOf d n with peakUsed := bits val 3 0 }
  else d

/-- LANE_EQ_WRITE (R735). -/
def execLaneEqWrite (lane : Fin 133) (ctle : Bool) (val : W32) (s : State) : Host.Outcome State Fault Refusal :=
  s.withDev (if ctle then writeCtle s.dev lane val else writeTxeq s.dev lane val)

/-! ## Maintenance commands (R742-R744) -/

/-- The lane that KIND and LANE name, where the part has it and the profile uses it. -/
def namedLane (d : Device) (desc : Bytes) : Option Nat :=
  let n := leField desc 21 1
  if leField desc 20 1 = 0 then (if n < d.glb.part.lanes ∧ laneUsed d n then some n else none)
  else if n < 5 ∧ laneUsed d (128 + n) then some (128 + n) else none

def loopOwn (desc : Bytes) : List (Nat × Bool) :=
  [(20, decide (leField desc 20 1 > 1)), (22, decide (leField desc 22 1 > 3))] ++ zeroFrom desc 23 63

/-- The lanes a loopback covers: a PCS loopback and its end cover the whole port. -/
def loopLanes (d : Device) (n type : Nat) : List Nat :=
  if type = 3 ∨ (laneOf d n).loopback = 3 then
    (match laneOwner d n with | some p => if n < 128 then portLanes d p else [n] | none => [n])
  else [n]

def loopBody (_ : Origin) (desc _buf : Bytes) (d : Device) : Verdict :=
  match namedLane d desc with
  | none => failAt d .badIndex 21
  | some n =>
    let type := leField desc 22 1
    let d := (loopLanes d n type).foldl (fun d k =>
      setLane d k { laneOf d k with loopback := if k = n ∨ type = 3 then type else 0 }) d
    .done d (zeros 16) none

/-- LOOPBACK_SET (R742). -/
def execLoopbackSet (r : Fin 64) (s : State) : Host.Outcome State Fault Refusal :=
  s.withDev (runCommand 0x0400 r anyRight loopOwn loopBody [] s.dev)

/-- PATTERN and RATE have a meaning under OP 1 only (R769). -/
def prbsOwn (desc : Bytes) : List (Nat × Bool) :=
  let start := leField desc 22 1 == 1
  [(20, decide (leField desc 20 1 > 1)), (22, decide (leField desc 22 1 > 3)),
   (23, start && decide (leField desc 23 1 > 7)), (24, start && decide (leField desc 24 1 > 2))] ++ zeroFrom desc 25 63

/-- The rate code that RATE names on a lane; PAM4 rates are 0x0B and 0x0D. -/
def prbsRate (d : Device) (n rate : Nat) : Nat := if rate = 1 then 0x0C else if rate = 2 then 0x0D else laneRate d n
def pam4 (rate : Nat) : Bool := rate == 0x0B || rate == 0x0D

/-- What the checker has counted up to now is added to its figures. -/
def prbsUpdate (d : Device) (n : Nat) : Device × Prbs :=
  match (laneOf d n).prbs with
  | some x =>
    let i := d.lane.prbsReads
    let x := { x with bits := x.bits + Config.prbsBits i, errors := x.errors + Config.prbsErrors i
                      locked := x.locked || Config.prbsLocks i }
    (setLane { d with lane := { d.lane with prbsReads := i + 1 } } n { laneOf d n with prbs := some x }, x)
  | none => (d, { pattern := 0, rate := 0 })

def prbsResult (x : Prbs) : Bytes := leBytes 8 x.bits ++ leBytes 8 (if x.locked then x.errors else 2 ^ 64 - 1)

def prbsBody (_ : Origin) (desc _buf : Bytes) (d : Device) : Verdict :=
  match namedLane d desc with
  | none => failAt d .badIndex 21
  | some n =>
    let rate := prbsRate d n (leField desc 24 1)
    let pattern := leField desc 23 1
    match leField desc 22 1 with
    | 0 => .done (setLane d n { laneOf d n with prbs := none }) (zeros 16) none
    | 1 =>
      if leField desc 20 1 = 1 ∧ leField desc 24 1 ≠ 0 then failAt d .badField 24
      else if decide (pattern ≥ 6) != pam4 rate then failAt d .badField 23
      else .done (setLane d n { laneOf d n with prbs := some { pattern := pattern, rate := rate } }) (zeros 16) none
    | 2 => let r := prbsUpdate d n; .done r.1 (prbsResult r.2) none
    | _ =>
      let r := prbsUpdate d n
      let cleared := (laneOf r.1 n).prbs.map (fun x => { x with bits := 0, errors := 0 })
      .done (setLane r.1 n { laneOf r.1 n with prbs := cleared }) (prbsResult r.2) none

/-- PRBS_SET (R743). -/
def execPrbsSet (r : Fin 64) (s : State) : Host.Outcome State Fault Refusal :=
  s.withDev (runCommand 0x0401 r anyRight prbsOwn prbsBody [] s.dev)

def marginOwn (desc : Bytes) : List (Nat × Bool) :=
  [(20, decide (leField desc 20 1 > 1)), (22, decide (leField desc 22 1 < 20) || decide (leField desc 22 1 > 40))]
    ++ zeroFrom desc 23 63

def marginBody (o : Origin) (desc _buf : Bytes) (d : Device) : Verdict :=
  match namedLane d desc with
  | none => failAt d .badIndex 21
  | some n => .accept (enterInflight { d with lane := { d.lane with scans := d.lane.scans ++ [{ origin := o, lane := n }] } } o 0x0403)

/-- MARGIN_SCAN (R744). -/
def execMarginScan (r : Fin 64) (s : State) : Host.Outcome State Fault Refusal :=
  s.withDev (runCommand 0x0403 r anyRight marginOwn marginBody [] s.dev)

/-- Both figures are at or above LANE_MARGIN_LIMIT. -/
def marginOk (d : Device) (width height : Nat) : Bool :=
  field d 0x70014 15 8 ≤ width && field d 0x70014 7 0 ≤ height

def byteField (v : Nat) : Nat := if v < 256 then v else Config.marginField v % 256

/-- A scan's figures go to LANE_STATUS. -/
def recordMargin (d : Device) (n width height : Nat) : Device :=
  setLane d n { laneOf d n with width := byteField width, height := byteField height, marginLow := !marginOk d width height }

/-- A scan ends: the oldest MARGIN_SCAN of the lane completes; on a standby without one it is the self-test's (Table
13-11), which reports a result below the limit. -/
def scanDone (d : Device) (n width height : Nat) : Device :=
  match d.lane.scans.find? (fun x => x.lane == n) with
  | some x =>
    let d := recordMargin { d with lane := { d.lane with scans := d.lane.scans.erase x } } n width height
    finish d x.origin .ok (leBytes 2 width ++ leBytes 2 height ++ [if pam4 (laneRate d n) then 3#8 else 1#8]
      ++ [if marginOk d width height then 1#8 else 0#8])
  | none =>
    if d.duet.role = .standby ∧ laneUsed d n ∧ (laneOf d n).cdr then
      let d := recordMargin d n width height
      if marginOk d width height then d
      else emit d .lane 0x06 ((if n < 128 then [0#8] ++ leBytes 1 n else [1#8] ++ leBytes 1 (n - 128))
        ++ leBytes 2 width ++ leBytes 2 height)
    else d

/-- MARGIN_SCAN_DONE (R744). -/
def execMarginScanDone (lane : Fin 133) (width height : Fin 65536) (s : State) : Host.Outcome State Fault Refusal :=
  s.withDev (scanDone s.dev lane width height)

/-! ## Recovered clocks (R747) -/

/-- RCLK_SQUELCH_RELEASE: 1 ms after CDR lock returns. -/
def releaseSquelch (d : Device) (i : Nat) : Device :=
  let n := rclkLane d i
  if (Tbl.getD d.lane.squelched i false) ∧ (laneOf d n).cdr then
    setSquelch (elapseTo d ((laneOf d n).cdrAt + msTicks)) i false
  else d

def execRclkSquelchRelease (i : Fin 2) (s : State) : Host.Outcome State Fault Refusal :=
  s.withDev (releaseSquelch s.dev i)

/-- A write to LANE_RCLK_CFG: a driven output whose lane lacks CDR lock is held low. -/
def writeRclk (d : Device) (i : Nat) (val : W32) : Device :=
  let d := plainWrite d (rclkOff i) val
  setSquelch d i (rclkOn d i && (!(laneOf d (rclkLane d i)).cdr || d.clock < (laneOf d (rclkLane d i)).cdrAt + msTicks))

/-! ## The port logic stops and starts (R700, R745, R760) -/

/-- Loopbacks and PRBS generators stop. -/
def endTests (d : Device) : Device :=
  { d with lane := { d.lane with lanes := Tbl.mapVals d.lane.lanes (fun _ x => { x with loopback := 0, prbs := none }) } }

end Sys2Proof.Machine
end

