-- ==== Sys2Proof/Machine/Power.lean ====
section
/-!
DEFINITION. The power arbiter, HOLD and the thermal warning (R754-R760, R764).
-/
namespace Sys2Proof.Machine

/-- Whole watts, rounded up. -/
def demandW (d : Device) : Nat := (d.pwr.demand + 9) / 10
def overBudget (d : Device) : Bool := 10 * d.pwr.budget < d.pwr.demand
/-- Demand lies at least 2 W below budget. -/
def wellBelow (d : Device) : Bool := d.pwr.demand + 20 ≤ 10 * d.pwr.budget

/-- A step of Table 18-9 has something to throttle. -/
def canThrottle (d : Device) (step : Nat) : Bool :=
  match step with
  | 1 => d.duet.role == .standby
  | 2 => !d.svc.symRun.isEmpty || !d.svc.pkRun.isEmpty || !d.svc.drbgQueue.isEmpty
  | 3 => bit (reg d 0x1E0000) 31 && d.mem.ready
  | 4 => d.glb.mode == .aggregate || (d.glb.mode == .mixed && hasGroup d [2])
  | 5 => (d.glb.mode == .aggregate || (d.glb.mode == .mixed && hasGroup d [2])) && d.pwr.capLast != 0
  | _ => false

/-- The time in the step in force is added to PWR_STEP_US. -/
def countStep (d : Device) : Device :=
  let d' := { d with pwr := { d.pwr with stepAt := d.clock } }
  if d.pwr.step = 0 then d' else count d' (unitCtr 20 (d.pwr.step - 1)) ((d.clock - d.pwr.stepAt) / usTicks)

/-- The admitted rate of the capped classes in percent of the Line-side sum, rounded down. -/
def capStart (d : Device) : Nat := if lineSum d = 0 then 100 else min 100 (d.pwr.capLast * 8 / lineSum d)

/-- Another step is in force: it writes THROTTLE (R755). -/
def setStep (d : Device) (step : Nat) : Device :=
  let d := countStep d
  let limit := if step = 5 then capStart d else 100
  let d := { d with pwr := { d.pwr with step := step, limitPct := limit } }
  emit d .power 0x01 (leBytes 1 step ++ leBytes 1 d.pwr.budget ++ leBytes 1 (demandW d))

def nextStep (d : Device) : Option Nat := firstFrom (canThrottle d) (d.pwr.step + 1) (5 - d.pwr.step)

/-- One grant of the arbiter under a measured demand, in tenths of a watt. -/
def arbitrate (d : Device) (demand : Nat) : Device :=
  let d := rollWindow { d with pwr := { d.pwr with demand := demand } }
  if overBudget d then
    let d := { d with pwr := { d.pwr with belowSince := none } }
    match nextStep d with
    | some s => setStep d s
    | none => d
  else if wellBelow d then
    { d with pwr := { d.pwr with belowSince := some (d.pwr.belowSince.getD d.clock) } }
  else { d with pwr := { d.pwr with belowSince := none } }

/-- POWER_ARBITER_TICK (R755). -/
def execPowerArbiterTick (demand : Fin 2048) (s : State) : Host.Outcome State Fault Refusal :=
  s.withDev (arbitrate s.dev demand)

/-- The step below the one in force that still throttles something; 0 is none. -/
def stepBelow (d : Device) : Nat := ((upFrom 1 (d.pwr.step - 1)).filter (canThrottle d)).getLast?.getD 0

/-- THROTTLE_RELEASE (R755): 1 ms of demand well below budget, one step per millisecond; step 5 only once its cap has
risen to 100 %. -/
def releaseStep (d : Device) : Device :=
  match d.pwr.belowSince with
  | some t =>
    if d.pwr.step = 0 ∨ (d.pwr.step = 5 ∧ d.pwr.limitPct < 100) then d
    else
      let d := elapseTo d (max t d.pwr.releasedAt + msTicks)
      setStep { d with pwr := { d.pwr with releasedAt := d.clock } } (stepBelow d)
  | none => d

def execThrottleRelease (s : State) : Host.Outcome State Fault Refusal := s.withDev (releaseStep s.dev)

/-- LIMITER_STEP (R756): every 100 µs the cap moves by 1 %. -/
def limiterStep (d : Device) : Device :=
  if d.pwr.step ≠ 5 then d
  else if overBudget d then { d with pwr := { d.pwr with limitPct := d.pwr.limitPct - 1 } }
  else if wellBelow d then { d with pwr := { d.pwr with limitPct := min 100 (d.pwr.limitPct + 1) } }
  else d

def execLimiterStep (s : State) : Host.Outcome State Fault Refusal := s.withDev (limiterStep s.dev)

/-- BUDGET_UNMET (R757): no step is left, and step 5 has nothing to cap; once per second. -/
def budgetUnmet (d : Device) : Device :=
  if overBudget d ∧ (nextStep d).isNone ∧ (d.pwr.step ≠ 5 ∨ d.pwr.limitPct = 0)
      ∧ (d.pwr.unmetAt = 0 ∨ d.pwr.unmetAt + 1000 * msTicks ≤ d.clock + 1) then
    emit { d with pwr := { d.pwr with unmetAt := d.clock + 1 } } .power 0x02
      (leBytes 1 (demandW d) ++ leBytes 1 d.pwr.budget)
  else d

def execBudgetUnmet (s : State) : Host.Outcome State Fault Refusal := s.withDev (budgetUnmet s.dev)

/-- A budget outside 50-130 W is clipped. -/
def writeBudget (d : Device) (val : W32) : Device :=
  { d with pwr := { d.pwr with budget := max 50 (min 130 (bits val 7 0)) } }

/-- PWR_BUDGET_WRITE (R755, Table 18-23). -/
def execPwrBudgetWrite (val : W32) (s : State) : Host.Outcome State Fault Refusal := s.withDev (writeBudget s.dev val)

/-- BUDGET_W and REQUIRED_W of the profile (R759). -/
def takeBudget (d : Device) : Device :=
  let b := d.boot.profile.budget
  let r := Config.requiredW d.boot.profile.digestInput % 256
  let d := { d with pwr := { d.pwr with budget := b, required := r, belowRequired := decide (b < r) } }
  if b < r then emit d .power 0x03 (leBytes 1 b ++ leBytes 1 r) else d

/-! ## HOLD (R760) -/

/-- A port's lanes lose power: its link goes down, or it reports LOS. -/
def portOff (d : Device) (p : Nat) : Device :=
  if isEth d p then goDown d p 0 else if hasDefect d p 0 then d else portDefectChange d p 0 true {}

/-- HOLD is entered (R760). GROUP_PLL_LOCK, DUET_PLL_LOCK and the duet link stay as they are: R760 speaks of the data path and not of
PLLs (DESIGN CHOICE, log 91). -/
def holdEnter (d : Device) : Device :=
  if d.pwr.holding then d
  else if d.duet.role ≠ .solo ∨ !trafficMode d then emit d .power 0x05 [2#8]
  else
    let d := stopTraffic d
    let d := (d.boot.profile.ports.map Prod.fst).foldl portOff d
    let d := settlePin { d with pwr := { d.pwr with holding := true }, gal := { d.gal with ports := [] } }
    emit (count d (devCtr2 1)) .power 0x05 [0#8]

/-- The checks of GLB_SEAL are made again on a sealed device (R156, R702, R760). -/
def flAgain (d : Device) : Device :=
  if d.glb.sealed then flSeal { d with prs := { d.prs with flPassed := [], flActive := [] } } else d

def holdExit (d : Device) : Device :=
  if d.pwr.holding then
    let d := { d with pwr := { d.pwr with holding := false }
                      glb := { d.glb with bringUpEnds := some (d.clock + 1200 * msTicks) } }
    flAgain (emit (settlePin d) .power 0x05 [1#8])
  else d

/-- A write to PWR_CFG. -/
def writePwrCfg (d : Device) (val : W32) : Device :=
  let d := plainWrite d 0x20004 val
  if bit val 31 then holdEnter d else holdExit d

/-- HOLD_ENTER (R760). -/
def execHoldEnter (val : W32) (s : State) : Host.Outcome State Fault Refusal := s.withDev (writePwrCfg s.dev val)

/-- HOLD_EXIT (R760). -/
def execHoldExit (val : W32) (s : State) : Host.Outcome State Fault Refusal := s.withDev (writePwrCfg s.dev val)

/-! ## Temperature (R764) -/

/-- TJ_WARN in 0.125 °C. -/
def tjWarn (d : Device) : Int := 8 * ((field d 0x20004 23 16 : Nat) : Int)

/-- The hottest sensor reads `tj`: an excursion above TJ_WARN begins or ends. -/
def readTj (d : Device) (tj : Nat) : Device :=
  let v : Int := if tj < 32768 then (tj : Int) else (tj : Int) - 65536
  let d := { d with pwr := { d.pwr with tj := v } }
  if tjWarn d ≤ v then
    (if d.pwr.hot then d
     else emit { d with pwr := { d.pwr with hot := true, hotAt := d.clock } } .power 0x04 (leBytes 2 tj))
  else if d.pwr.hot then
    count { d with pwr := { d.pwr with hot := false } } (devCtr2 3) ((d.clock - d.pwr.hotAt) / usTicks)
  else d

/-- THERMAL_WARN (R764). -/
def execThermalWarn (tj : Fin 65536) (s : State) : Host.Outcome State Fault Refusal := s.withDev (readTj s.dev tj)

end Sys2Proof.Machine
end

