-- ==== Sys2Proof/Machine/Boot.lean ====
section
/-!
DEFINITION. Start-up (R695-R698), the loss of the supplies (R630, R714, R753) and the lock of the root PLL (R647).
-/
namespace Sys2Proof.Machine

/-! ## Reset -/

/-- The battery domain after `offNs` without main supplies; below the retention level it has lost what it held (R634). -/
def battAfter (b : Batt) (offNs : Nat) (retained : Bool) : Batt :=
  if retained then { b with ns := b.ns + offNs } else { everHeld := b.everHeld || b.bbk.isSome }

/-- The device as RESET_N leaves it: the flash, the battery domain and what lies outside stay. A raised battery-domain
source stays raised where `still` holds for it. -/
def afterReset (d : Device) (b : Batt) (still : Nat → Bool) : Device :=
  let d := setPin d false
  let d := if d.tmp.alarmN then send d (.pin "ALARM_N" true) else d
  let raised := (d.tmp.sources.filter (fun e => decide (e.1 < 5) && e.2.raised && still e.1)).map
    (fun e => (e.1, { events := [0], raised := true, raisedAt := 0 : TSource }))
  { glb := { part := d.glb.part }
    boot := { flash := d.boot.flash, pins := d.boot.pins }
    tmp := { batt := b, sources := raised, loops := d.tmp.loops }
    hif := { sris := d.hif.sris }
    duet := { pinInLow := d.duet.pinInLow }
    lane := { prbsReads := d.lane.prbsReads }
    drawn := d.drawn, out := d.out }

/-! ## Steps 4 and 5 -/

/-- SUPP_REJECTED; the reason stays in BOOT_STATUS (R704). -/
def suppRejected (d : Device) (slotNo reason version : Nat) : Device :=
  emit { d with boot := { d.boot with suppFail := reason } } .boot 0x02
    (leBytes 1 slotNo ++ leBytes 1 reason ++ leBytes 4 version)

/-- Try one supplement slot; an erased region fails check 1 and reads a VERSION of all ones. -/
def trySupp (f : Fuses) (d : Device) (k : Nat) (x : Option Region) : Device × Bool :=
  match x with
  | none => (suppRejected d k 1 0xFFFFFFFF, false)
  | some g =>
    match suppReason f d.glb.part g.image with
    | none => ({ d with boot := { d.boot with suppSlot := k, suppVersion := suppVersion g.image } }, true)
    | some r => (suppRejected d k r (suppVersion g.image), false)

/-- Step 4: A, then B, then ROM alone. -/
def loadSupp (f : Fuses) (d : Device) : Device :=
  let a := trySupp f d 0 d.boot.flash.suppA
  if a.2 then a.1
  else
    let d := { a.1 with boot := { a.1.boot with aFailed := true } }
    let b := trySupp f d 1 d.boot.flash.suppB
    if b.2 then b.1 else { b.1 with boot := { b.1.boot with suppSlot := 2 } }

/-- Put a profile's responses, filters and threshold in force. -/
def loadProfile (d : Device) (p : Profile) : Device :=
  takeBudget { d with boot := { d.boot with profile := p, profileOk := true }
                      tmp := { d.tmp with sensors := p.sensors, thresh := p.thresh } }

/-- Step 5: the profile that the pins choose. -/
def chooseProfile (f : Fuses) (d : Device) : Device :=
  let i := d.boot.pins
  let d := { d with glb := { d.glb with profileIdx := i } }
  match Tbl.get? d.boot.flash.profiles i with
  | none => profileRejected d i 1 0 0
  | some g =>
    match profileCheck d f g.image with
    | some (code, off) => profileRejected d i code off 0
    | none => loadProfile d (readProfile g.image)

/-! ## Step 6 -/

/-- The DRBG is instantiated, unless a health test or its known-answer test fails (R511-R513), and seeds the sampling LFSR
(R727). -/
def startDrbg (d : Device) (failed : Option Nat) : Device :=
  match failed with
  | some c => stopDrbg d c
  | none => drbgRequest { d with svc := { d.svc with drbgReady := true, reseedAt := d.clock }
                                 rcd := { d.rcd with lfsr := w32 (leNat (drbgBytes d 4)) } } 4

/-- The battery signature (R605): MANUFACTURE writes an absent one; in FIELD its absence raises CELL_SIGNATURE, after
which it is written too. -/
def checkSignature (f : Fuses) (d : Device) : Device :=
  if d.tmp.batt.signature then { d with tmp := { d.tmp with sigOk := true } }
  else
    let d := if f.field then
        let h : Hit := { src := 5, reading := 0, line := 0 }
        raiseAlarms (filterEvent d h true).1 [h]
      else d
    setBatt d { d.tmp.batt with signature := true }

/-- The BBK is checked, or drawn where there is none, and the tree computed (R465, R469). While a source whose response is
ZEROISE is raised the battery domain takes no BBK, and IDENTITY_REDERIVE draws it later (R621, R622). -/
def buildTree (f : Fuses) (d : Device) : Device :=
  match d.tmp.batt.bbk with
  | some bbk =>
    { d with key := { d.key with tree := some (deriveTree f.key bbk) }, tmp := { d.tmp with identity := true }
             rcd := { d.rcd with journalReady := true } }
  | none =>
    if !zeroQuiet d then { d with tmp := { d.tmp with zeroWait := some d.clock } }
    else if drbgOk d then drawIdentity d f else d

/-- A checkpoint block that is structurally complete (R717). -/
def checkpointShape (b : Block) : Bool :=
  b.kind == 1 && b.content.length == 16 && allZero (slice b.content 8 8) && decide (b.offset % sector + 48 ≤ sector)
    && b.tag != List.replicate 16 0xFF#8

def newestOf (l : List Block) : Option Block :=
  l.foldl (fun (m : Option Block) (b : Block) => match m with
    | some x => if x.seq < b.seq then some b else m
    | none => some b) none

/-- The newest checkpoint, and whether it is verified (R717). -/
def newestCheckpoint (d : Device) : Option (Block × Bool) :=
  let l := d.boot.flash.journal.filter checkpointShape
  match newestOf (l.filter (verified d)) with
  | some b => some (b, true)
  | none => (newestOf l).map (fun b => (b, false))

/-- POWER_CYCLES and the operating time from the newest checkpoint; records made earlier in this start-up take both
(R715-R717). -/
def adoptCheckpoint (d : Device) : Device :=
  let c := newestCheckpoint d
  let pc : W32 := match c with | some (b, _) => BitVec.ofNat 32 b.powerCycles + 1#32 | none => 1#32
  let us := match c with | some (b, _) => leField b.content 0 8 | none => 0
  let fill := fun (r : EvRec) => { r with powerCycles := pc, opTimeUs := r.opTimeUs + us }
  let d := { d with rcd := { d.rcd with powerCycles := pc, opTime := d.rcd.opTime + 1000 * us
                                        ring := d.rcd.ring.map fill } }
  match c with
  | some (_, false) => emit { d with rcd := { d.rcd with opUnverified := true } } .boot 0x12 (leBytes 8 us)
  | _ => d

/-- The device holds a domain enrolment (R689). -/
def checkEnrolment (f : Fuses) (d : Device) : Device :=
  let ok := match d.boot.flash.enrolment, d.key.tree with
    | some e, some t => e.tag == enrolTag t e.authority e.cert && certIsOwn d f e.cert
    | _, _ => false
  { d with boot := { d.boot with enrolled := ok } }

/-- The install tag of an accepted image: rewritten after a new BBK, else checked (R687). -/
def checkTag (d : Device) (offset : Nat) (region : Option Region) (put : Device → Region → Device) : Device :=
  match region, d.key.tree with
  | some g, some t =>
    if d.key.identityNew then put d { g with tag := installTag t g.image }
    else if g.tag = installTag t g.image then d
    else emit { d with boot := { d.boot with foreignImage := true } } .boot 0x04 (leBytes 4 offset)
  | _, _ => d

def checkTags (d : Device) : Device :=
  let k := d.boot.suppSlot
  let d := if k = 0 then checkTag d 0 d.boot.flash.suppA (fun d g => putSupp d 0 g)
    else if k = 1 then checkTag d 0x20000 d.boot.flash.suppB (fun d g => putSupp d 1 g) else d
  let i := d.boot.pins
  if d.boot.profileOk then
    checkTag d (0x40000 + 0x10000 * i) (Tbl.get? d.boot.flash.profiles i) (fun d g => putProfile d i g)
  else d

/-- Every counter line, node and root register is written with 0, under the memory key: READY (R539). Without a key there is no tag
to write. -/
def initCounters (d : Device) : Device :=
  if d.mem.memKey.isSome then
    { d with mem := { d.mem with groups := [], versions := [], roots := [], dram := [], majorHwm := 0, ready := true } }
  else d

/-- The memory key is drawn, DDR4 trained and the counters initialised (R524, R525, R531, R539). -/
def startMemory (d : Device) (failed : Option (Nat × Nat)) : Device :=
  let d := if drbgOk d then
      drbgRequest { d with mem := { d.mem with memKey := some (drbgBytes d 32) } } 32
    else d
  let d := { d with mem := { d.mem with density := Config.densityOf d.boot.profile.digestInput % 3 + 1 } }
  let whole := initCounters { d with mem := { d.mem with trained := 0xF#4 } }
  match failed with
  | some (c, r) =>
    if r = 0 then whole
    else emit { d with mem := { d.mem with trained := BitVec.ofNat 4 (2 ^ c - 1), trainFailed := true } } .memory 0x09
      (leBytes 1 c ++ leBytes 1 r)
  | none => whole

/-- Every battery-log entry is copied with the counter at this power-up, and the log cleared (R633). -/
def copyLog (d : Device) : Device :=
  let l := d.tmp.batt.log
  let d := (List.range l.length).foldl (fun d i =>
    emit d .battery 0x01 (leBytes 1 i ++ leBytes 8 ((l[i]?).getD 0#64).toNat ++ leBytes 8 (battCount d))) d
  setBatt d { d.tmp.batt with log := [], overflow := 0 }

/-- Tag that seals a copy of the revocation bitmap under the journal key (R517). -/
def revTag (t : Tree) (seq : Nat) (members : List Nat) : Bytes :=
  fit 32 (Config.hmac 32 t.journal (leBytes 8 seq ++ members.flatMap (leBytes 4)))

/-- The bitmap and SEQ from the newest copy that the journal key opens (R518). -/
def restoreRevocation (d : Device) : Device :=
  match d.key.tree with
  | some t =>
    let good := d.boot.flash.revocation.filter (fun c => c.tag == revTag t c.seq c.members)
    let x := good.foldl (fun (acc : Nat × List Nat) c => if acc.1 < c.seq then (c.seq, c.members) else acc) (0, [])
    { d with svc := { d.svc with revSeq := x.1, revoked := x.2 } }
  | none => d

/-- A re-provisioning grant, a valid BBK and no raised battery-domain source (R641). -/
def granted (d : Device) : Bool :=
  d.tmp.batt.grant && d.tmp.batt.bbk.isSome && (List.range 6).all (fun s => !(source d s).raised)

/-- The mode of a device that is not locked (R21, R696). -/
def startMode (d : Device) (fromLocked : Bool) : Mode :=
  if fromLocked ∨ !d.boot.profileOk ∨ d.boot.suppSlot = 2 ∨ !d.boot.enrolled then .provision else d.boot.profile.mode

/-- Enter the mode. PROVISION without its own profile has no ports; an authority-signed profile without enrolment gives
the defaults of Table 14-1 (R696). -/
def enterMode (d : Device) (m : Mode) : Device :=
  let d := { d with glb := { d.glb with mode := m } }
  let d := if m = .provision ∨ m = .locked then portsOff d else d
  if m = .provision ∧ d.boot.profileOk ∧ d.boot.profile.signer = 4 ∧ !d.boot.enrolled then
    { d with tmp := { d.tmp with sensors := [], thresh := 5 } }
  else d

/-- The end of step 6 and the begin of step 7: STARTED is written, the rings may be fetched, and the lanes, their PLLs and
the duet link are powered (R39, R695, R697, R739). The duet-link PLL reads locked at once, where the style uses the link: the
spec gives the moment of its lock nowhere (DESIGN CHOICE, log 84). -/
def endStartUp (d : Device) (plls : BitVec 8) : Device :=
  let d := emit d .boot 0x01
    (leBytes 1 d.glb.mode.code ++ leBytes 1 d.boot.suppSlot ++ leBytes 1 d.glb.profileIdx ++ leBytes 1 d.boot.pins)
  let duet := usesDuetLink d.boot.profile
  let d := { d with boot := { d.boot with ended := true, step := 7 }, glb := { d.glb with duetPll := duet }
                    lane := { d.lane with dlState := if duet then 1 else 0 } }
  if d.glb.mode = .locked then d
  else
    let used := (List.range 8).foldl (fun (m : Nat) g => if groupMode d g = 0 then m else m + 2 ^ g) 0
    let d := { d with
      glb := { d.glb with bringUpEnds := some (d.clock + 1200 * msTicks), groupPll := plls &&& BitVec.ofNat 8 used } }
    settlePin (wakePath d)

/-- Step 6 of a start-up that finds a tamper latch and no grant: the work that needs keys is skipped (R697). -/
def startLocked (d : Device) (plls : BitVec 8) : Device := endStartUp (copyLog (enterMode (assertAlarm d) .locked)) plls

/-- Step 6 of any other start-up. -/
def startNormal (f : Fuses) (d : Device) (start : StartUp) : Device :=
  let fromLocked := d.tmp.batt.latch
  let d := if fromLocked then setBatt d { d.tmp.batt with latch := false, grant := false } else d
  let d := checkTags (checkEnrolment f d)
  let d := startMemory d (start.trainFail.map (fun x => (x.1.val, x.2.val)))
  let d := restoreRevocation (copyLog d)
  endStartUp (enterMode d (startMode d fromLocked)) start.plls

/-- Start-up from the release of RESET_N to the end of step 6 (Table 16-10). An alarm stops it (R625). -/
def startUp (f : Fuses) (d : Device) (start : StartUp) : Device :=
  let d := chooseProfile f (loadSupp f (trainLink d start.speed start.width))
  let d := checkSignature f (startDrbg d (start.drbgFail.map Fin.val))
  if d.boot.ended then copyLog (adoptCheckpoint d)
  else
    let may := granted d
    let d := adoptCheckpoint (buildTree f d)
    if d.tmp.batt.latch && !may then startLocked d start.plls else startNormal f d start

/-- A loop that `start` shows intact is no longer raised; the cell is back with the supplies. -/
def stillRaised (start : StartUp) (s : Nat) : Bool := decide (s < 4) && decide (((start.loops[s]?).map Fin.val).getD 0 ≠ 0)

def resetDevice (d : Device) (start : StartUp) : Device :=
  let b := if d.tmp.mainPower then d.tmp.batt else battAfter d.tmp.batt start.offNs start.retained
  let d := afterReset d b (stillRaised start)
  { d with tmp := { d.tmp with loops := (List.range 4).map (fun l => ((start.loops[l]?).map Fin.val).getD 0) } }

/-- RESET_N (R695, R746): PROFILE_SEL and PCIE_SRIS are sampled at its release. -/
def execResetN (pins : Fin 4) (start : StartUp) (s : State) : Host.Outcome State Fault Refusal :=
  let d := resetDevice s.dev start
  s.withDev (startUp s.fuses { d with boot := { d.boot with pins := pins }, hif := { d.hif with sris := start.sris } } start)

/-- A write of the key value to BOOT_RESET, behind a checkpoint: a RESET_N pulse but for the sampling of PROFILE_SEL (R698, R716,
R746). -/
def bootReset (f : Fuses) (d : Device) (val : W32) (start : StartUp) : Device :=
  if val = 0x5E7A#32 ∧ d.tmp.mainPower then
    let d := resetDevice (checkpoint d) start
    startUp f { d with hif := { d.hif with sris := start.sris } } start
  else d

/-- BOOT_RESET (R698). -/
def execBootReset (val : W32) (start : StartUp) (s : State) : Host.Outcome State Fault Refusal :=
  s.withDev (bootReset s.fuses s.dev val start)

/-! ## The supplies and the root PLL -/

/-- PWRFAIL_N (R558, R606, R714, R753). -/
def powerFail (d : Device) : Device :=
  if d.tmp.pwrfail ∨ !d.tmp.mainPower then d
  else
    let d := declareFault { d with tmp := { d.tmp with pwrfail := true } } 3
    checkpoint (journalAll d)

def execPwrfailN (s : State) : Host.Outcome State Fault Refusal := s.withDev (powerFail s.dev)

/-- MAIN_POWER_OFF (R630, R694): what the main supplies held is lost; the battery domain and the flash stay, but for a region
that was being written. -/
def powerOff (d : Device) : Device :=
  let x := afterReset (spoilInstalls d) d.tmp.batt (fun _ => true)
  { x with tmp := { x.tmp with mainPower := false } }

def execMainPowerOff (s : State) : Host.Outcome State Fault Refusal := s.withDev (powerOff s.dev)

/-- ROOT_PLL_LOCK (R39, R607, R647): the time bases start, CLOCK is armed, and the data path may leave idle. REFCLK_OK
becomes 1 with the lock: the spec gives it no moment of its own (DESIGN CHOICE, log 84). -/
def rootLocked (d : Device) : Device :=
  if d.tmp.mainPower then
    wakePath { d with glb := { d.glb with rootLock := true, refclkOk := true }, time := { d.time with running := true }
                      tmp := { d.tmp with clockArmed := true } }
  else d

def execRootPllLock (s : State) : Host.Outcome State Fault Refusal := s.withDev (rootLocked s.dev)

end Sys2Proof.Machine
end

