-- ==== Sys2Proof/Machine/Mirror.lean ====
section
/-!
DEFINITION. The mirrored objects of a Duet (13): applying a MIRROR message, and the snapshot of the bulk mirror (R575,
R578, R594). A MIRROR carries the command that makes the object (log 14).
-/
namespace Sys2Proof.Machine

/-! ## Applying (R578) -/

/-- The origin that a mirrored command is run with. -/
def mirrorOrigin (buf : Bytes) : Origin :=
  { ring := 64, fn := 0, tag := 0, flags := 0#8, order := 0, epoch := 0, bufAddr := 0, bufLen := buf.length }

/-- Run a command's definition as the ACTIVE member did: none where it has no effect here. -/
def asActive (d : Device) (body : Device → Verdict) : Option Device :=
  match body (setRole d .solo) with
  | .done e _ _ => some (setRole e d.duet.role)
  | .accept e => some (setRole e d.duet.role)
  | _ => none

def pairKeyOf (d : Device) : Bytes := d.duet.pairKey.getD []

/-- SA_INSTALL: OP 1 raises PNs; OP 0 installs the SA with its first PN as its mark (R579). A PN past the maximum, which no
command gives, is an exhausted SA's. -/
def applySa (d : Device) (desc buf : Bytes) : Option Device :=
  let i := leField desc 20 3 % 2 ^ 18
  let field := leField desc 28 8
  let top := maxPn (scSuite d (i / 4))
  let pn := if field = 0 then top + 1 else field
  match scOf d (i / 4) with
  | none => none
  | some c =>
    if leField desc 24 1 = 1 then
      if installed d i then some (raisePn d i pn c.rx).1 else none
    else
      match Config.unwrap3394 (pairKeyOf d) buf with
      | some key =>
        let d := if (saOf d i).isSome then eraseSa d i else d
        let d := installSa d i (scSuite d (i / 4)) pn c.rx desc key
        let d := { d with ms := { d.ms with sas := Tbl.modify d.ms.sas i (fun x => { x with exhausted := decide (top < pn) && !c.rx }) } }
        some (if c.rx then d
          else { d with duet := { d.duet with marks := Tbl.put d.duet.marks i { mark := pn, pend := none } } })
      | none => none

/-- TURN_GROUP_SET: the SC takes the membership and the armed AN of the ACTIVE member. -/
def applyGroup (d : Device) (desc : Bytes) : Option Device :=
  let c := leField desc 20 2
  let op := leField desc 24 1
  (scOf d c).map (fun x => setSc d c
    { x with group := if op = 2 then none else some (leField desc 22 2)
             armed := if op = 0 then some (leField desc 25 1 % 4) else none })

/-- KEY_TURN_SCHEDULE: the turn is pending here too, unless its cuts have come. A late one has been executed: its members switch
by their cuts, those it skipped are disarmed, and its TURN_DONE is the ACTIVE member's alone (DESIGN CHOICE, log 92). -/
def applyTurn (d : Device) (desc : Bytes) : Device :=
  let g := leField desc 20 2
  if leField desc 23 1 = 1 then { d with ms := { d.ms with turns := Tbl.del d.ms.turns g } }
  else if byteAt desc 34 = 1#8 then
    { d with ms := { d.ms with scs := Tbl.mapVals d.ms.scs (fun _ x => if x.group = some g then { x with armed := none } else x)
                               lastGroup := some g } }
  else if (armedMembers d g).isEmpty then d
  else
    let t : Turn := { base := leField desc 22 1 % 4, at_ := leField desc 24 6 * 10 ^ 9 + leField desc 30 4 }
    { d with ms := { d.ms with turns := Tbl.put d.ms.turns g t } }

/-- KN_ASSOC_SET; in the bulk mirror the transmit superframe number follows it (R350). -/
def applyAssoc (d : Device) (desc buf : Bytes) : Device :=
  let a := assocNo desc
  let e := storeAssoc d a (assocOf desc)
  match assoc? e a with
  | some x => if buf.length = 8 then setAssoc e a { x with sfn := leField buf 0 8 } else e
  | none => e

def applyKnKey (d : Device) (desc buf : Bytes) : Option Device :=
  let a := assocNo desc
  match assoc? d a, Config.unwrap3394 (pairKeyOf d) buf with
  | some x, some key => some (holdKey d a x (leField desc 22 1) (leField desc 26 1) (leField desc 27 1) key)
  | _, _ => none

/-- KN_TURN_SCHEDULE with S, 0 where no turn is pending (R269). An S that this member has sent already, and one of an
association that is gone, change nothing more. -/
def applyKnTurn (d : Device) (desc buf : Bytes) : Device :=
  let s := leField buf 0 8
  match assoc? d (assocNo desc) with
  | some x => setAssoc d (assocNo desc) { x with turn := if s = 0 ∨ s < x.sfn then none else some s }
  | none => d

/-- TSI_PAGE_WRITE: the page named, whichever is active, behind a switch in progress (R314, R578). -/
def applyPage (d : Device) (desc buf : Bytes) : Device :=
  let page := leField desc 20 1
  let first := leField desc 22 2
  let n := leField desc 24 2
  if d.frm.switch.isSome then { d with frm := { d.frm with later := d.frm.later ++ [.page page first n buf] } }
  else storePage d page first n buf

/-- TSI_SWITCH: at the boundaries of this member's own signals (R314), behind one in progress; at once while it has no
connections to keep. -/
def applySwitch (d : Device) (desc : Bytes) : Device :=
  let p := leField desc 20 1
  let x : TsiSwitch := { origin := none, refPort := p, copyBack := (byteAt desc 21).getLsbD 0, accepted := d.clock
                         internal := !(stream d p 0).inFrame }
  if d.duet.role = .syncing then finishSwitch d { x with boundary := some d.clock }
  else if d.frm.switch.isSome then { d with frm := { d.frm with later := d.frm.later ++ [.switch x] } }
  else { d with frm := { d.frm with switch := some x } }

/-- A mirror-range slot arrives wrapped under the pair key (R460); byte 30 says that its parent's GEN has changed since. -/
def applySlot (d : Device) (desc buf : Bytes) : Option Device :=
  let i := slotNo desc 20
  let p := leField desc 24 2
  let link := linkTo d p
  let link := if byteAt desc 30 = 0#8 then link else { link with gen := link.gen - 1#32 }
  match Config.unwrap5649 (pairKeyOf d) buf with
  | some key =>
    if i < 768 then none
    else some (writeSlot d i (leField desc 23 1) (leField desc 28 1) (leField desc 26 2) key
      (if p < 1024 then some link else none))
  | none => none

/-- KEY_INVALIDATE: the slot's GEN increments. -/
def applyInvalidate (d : Device) (i : Nat) : Device :=
  let s := slot d i
  let g := nextGen s.gen
  setSlot d i { s with gen := g, check := if s.state = 0 then s.check else checkValue d s.type s.key s.attr g }

/-- Apply one mirrored command; none where it cannot be applied. -/
def applyMirror (d : Device) (desc buf : Bytes) : Option Device :=
  let o := mirrorOrigin buf
  let i := leField desc 20 3
  match opcodeOf desc with
  | 0x0100 => asActive d (secySetBody o desc buf)
  | 0x0101 => asActive d (secyDelBody o desc buf)
  | 0x0102 => asActive d (scSetBody o desc buf)
  | 0x0103 => asActive d (scDelBody o desc buf)
  | 0x0104 => applySa d desc buf
  | 0x0106 => if installed d i then some (beginDelete d i desc none) else none
  | 0x0107 => some (applyTurn d desc)
  | 0x0108 => applyGroup d desc
  | 0x0180 => some (applyAssoc d desc buf)
  | 0x0181 => if (assoc? d (assocNo desc)).isSome then some (removeAssoc d (assocNo desc)) else none
  | 0x0182 => applyKnKey d desc buf
  | 0x0183 => some (applyKnTurn d desc buf)
  | 0x0200 => asActive d (routeAddBody o desc buf)
  | 0x0201 => asActive d (routeDelBody o desc buf)
  | 0x0210 => asActive d (policerBody o desc buf)
  | 0x0211 => asActive d (shaperBody o desc buf)
  | 0x0212 =>
    match leField desc 20 1 with
    | 0 => asActive d (fun d => setQueue d desc)
    | 1 => asActive d (fun d => setGroupBinding d desc)
    | _ => asActive d (fun d => setMap d none desc)
  | 0x0280 => some (applyPage d desc buf)
  | 0x0281 => some (applySwitch d desc)
  | 0x0310 => applySlot d desc buf
  | 0x0312 => some (deleteSlot d (slotNo desc 20))
  | 0x0314 => some (applyInvalidate d (slotNo desc 20))
  | _ => none

/-- The mirrored objects that a member held before a bulk mirror: the snapshot replaces them. -/
def clearMirrored (d : Device) : Device :=
  let d := { d with ms := { d.ms with switches := [], intents := [], turns := [], holds := [], cuts := [], owed := [] } }
  let d := (d.ms.sas.map Prod.fst).foldl eraseSa { d with ms := { d.ms with deletions := [] } }
  let d := (d.ms.scs.map Prod.fst).foldl removeSc d
  let d := (d.kn.assocs.map Prod.fst).foldl removeAssoc { d with ms := { d.ms with secys := [] } }
  let d := ((d.key.slots.map Prod.fst).filter (768 ≤ ·)).foldl deleteSlot d
  { d with cls := { d.cls with tcam := [] }
           frm := { d.frm with page0 := [], page1 := [], active := false, switch := none, later := [] }
           gal := { d.gal with cfg := [], groups := [], map := [], remaps := [], shapers := [], policers := [] } }

/-! ## The snapshot (R594) -/

def descOf (opcode : Nat) (own : Bytes) : Bytes := fit 64 (leBytes 2 opcode ++ zeros 18 ++ own)
def flagNat (b : Bool) (v : Nat) : Nat := if b then v else 0

def secyDesc (s : Nat) (x : SecY) : Bytes :=
  descOf 0x0100 (leBytes 2 s ++ leBytes 1 x.port ++ leBytes 1 x.suite
    ++ leBytes 1 (flagNat x.protect 1 + 2 * x.tagMode + 8 * x.conf)
    ++ leBytes 1 (x.validate + flagNat x.replay 4 + flagNat x.implicitRx 8) ++ leBytes 1 x.cls ++ leBytes 1 x.clearTags
    ++ leBytes 4 x.window ++ leBytes 2 x.txVlan)

def scDesc (c : Nat) (x : Sc) : Bytes :=
  descOf 0x0102 (leBytes 2 c ++ leBytes 2 x.secy ++ leBytes 1 (flagNat x.rx 1) ++ zeros 3 ++ beBytes 8 x.sci.toNat)

/-- An SA in the snapshot; one that is exhausted goes with the PN past its maximum, modulo 2^64 (R189). -/
def saDesc (i : Nat) (x : Sa) : Bytes :=
  let pn := if x.exhausted then maxPn x.suite + 1 else x.pn
  descOf 0x0104 (leBytes 4 i ++ zeros 4 ++ leBytes 8 (pn % 2 ^ 64) ++ beBytes 4 x.ssci.toNat ++ fit 12 x.salt)

def groupDesc (c : Nat) (x : Sc) : Option Bytes :=
  x.group.map (fun g => descOf 0x0108 (leBytes 2 c ++ leBytes 2 g ++ leBytes 1 (flagNat x.armed.isNone 1)
    ++ leBytes 1 (x.armed.getD 0)))

def scheduleDesc (g : Nat) (t : Turn) : Bytes :=
  descOf 0x0107 (leBytes 2 g ++ leBytes 1 t.base ++ leBytes 1 0 ++ leBytes 6 (t.at_ / 10 ^ 9) ++ leBytes 4 (t.at_ % 10 ^ 9))

/-- With the FLAGS and LIMITS that the host has set, in force or not (R352). -/
def assocDesc (a : Nat) (x : Assoc) : Bytes :=
  let r := x.rxPend.getD (x.rxOn, x.nFail, x.mGood)
  descOf 0x0180 (leBytes 2 a ++ leBytes 1 x.port ++ leBytes 1 (flagNat (x.txPend.getD x.txOn) 1 + flagNat r.1 2)
    ++ leBytes 2 x.slot ++ leBytes 1 (r.2.1 + 16 * r.2.2) ++ zeros 1 ++ leBytes 4 x.peer ++ leBytes 8 x.txStart ++ leBytes 4 x.rxHi
    ++ fit 12 x.salt)

/-- The records that an association holds: current before next. -/
def knKeyMsgs (d : Device) (a : Nat) (x : Assoc) : List Bytes :=
  [(0, 0), (0, 1), (1, 0), (1, 1)].filterMap (fun (e : Nat × Nat) =>
    (if e.2 = 0 then curOf x e.1 else nextOf x e.1).map (fun idx =>
      descOf 0x0182 (leBytes 2 a ++ leBytes 1 e.1 ++ zeros 3 ++ leBytes 1 e.2 ++ leBytes 1 idx)
        ++ Config.wrap3394 (pairKeyOf d) (keyRec d (knRecord a x e.1 e.2)).key))

def knTurnMsgs (a : Nat) (x : Assoc) : List Bytes :=
  match x.turn with
  | some s => [descOf 0x0183 (leBytes 2 a ++ leBytes 1 1) ++ leBytes 8 s]
  | none => []

def routeDesc (r : Route) : Bytes :=
  descOf 0x0200 (leBytes 1 r.table ++ leBytes 1 (if r.v6 then 6 else 4) ++ leBytes 1 r.len ++ zeros 1 ++ leBytes 1 r.port
    ++ zeros 1 ++ leBytes 2 r.secy ++ leBytes 2 r.policer ++ zeros 2
    ++ (if r.v6 then beBytes 16 r.pre else beBytes 4 r.pre))

/-- Parameters as set, whether or not a refill has put them in force. -/
def policerDesc (n : Nat) (x : Policer) : Bytes :=
  let c := x.next.getD x.cfg
  descOf 0x0210 (leBytes 2 n ++ leBytes 1 c.mode ++ leBytes 1 (flagNat c.aware 1 + flagNat c.coupled 2) ++ leBytes 4 c.cir
    ++ leBytes 4 c.cbs ++ leBytes 4 c.pir ++ leBytes 4 c.pbs)

def shaperDesc (k : Nat) (x : Shaper) : Bytes :=
  let c := x.next.getD x.cfg
  descOf 0x0211 (leBytes 1 (k / 65536) ++ leBytes 1 (flagNat c.overhead 1) ++ leBytes 2 k ++ leBytes 4 c.rate
    ++ leBytes 4 c.burst)

def queueDesc (q : Nat) (c : QueueCfg) : Bytes :=
  descOf 0x0212 (leBytes 1 0 ++ leBytes 1 (flagNat c.strict 1) ++ leBytes 2 q ++ zeros 2 ++ leBytes 2 c.weight)
def groupSetDesc (g : Nat) (c : GroupCfg) : Bytes :=
  descOf 0x0212 (leBytes 1 1 ++ zeros 1 ++ leBytes 2 g ++ leBytes 1 (c.port.getD g) ++ zeros 1 ++ leBytes 2 c.weight)
def mapDesc (k g : Nat) : Bytes :=
  descOf 0x0212 (leBytes 1 2 ++ zeros 1 ++ leBytes 2 g ++ leBytes 1 (k / 128) ++ leBytes 1 (k % 128))

/-- Both pages whole, then the switch that makes page 1 active where it is. -/
def pageMsgs (d : Device) : List Bytes :=
  let n := slotTotal d
  let page := fun (k : Nat) (t : Tbl W32) =>
    pageParts (descOf 0x0280 (leBytes 1 k ++ zeros 1 ++ leBytes 2 0 ++ leBytes 2 n))
      ((List.range n).flatMap (fun i => leBytes 4 (Tbl.getD t i 0#32).toNat))
  if d.frm.page0 = [] ∧ d.frm.page1 = [] ∧ !d.frm.active then []
  else page 0 d.frm.page0 ++ page 1 d.frm.page1
    ++ (if d.frm.active then [descOf 0x0281 (leBytes 1 ((sdhPorts d).headD 0))] else [])

/-! ### Slots: a child follows its parent's write; the parents of stale children advance after them -/

/-- The link to the parent is stale. -/
def linkStale (d : Device) (s : Slot) : Bool :=
  match s.parent with
  | some (p, g) => (slot d p).gen != g
  | none => false

def slotMsg (d : Device) (i : Nat) : Bytes := mirrorPayload d 0x0310 (descOf 0x0310 (leBytes 2 i))

/-- Slots of one depth: those with a stale link, the invalidation of their parents, the others. -/
def slotLevel (d : Device) (k : Nat) : List Bytes :=
  let l := d.key.slots.filter (fun e => 768 ≤ e.1 && e.2.state == 1 && e.2.depth == k)
  let old := l.filter (fun e => linkStale d e.2)
  let ps := (old.filterMap (fun e => e.2.parent.map Prod.fst)).eraseDups
  old.map (fun e => slotMsg d e.1) ++ ps.map (fun p => descOf 0x0314 (leBytes 2 p))
    ++ (l.filter (fun e => !linkStale d e.2)).map (fun e => slotMsg d e.1)

/-- The MIRROR payloads that come before the encoding ANs. -/
def macsecMsgs (d : Device) : List Bytes :=
  d.ms.secys.map (fun e => secyDesc e.1 e.2) ++ d.ms.scs.map (fun e => scDesc e.1 e.2)
    ++ (d.ms.sas.filter (fun e => !e.2.deleting)).map (fun e =>
      saDesc e.1 e.2 ++ Config.wrap3394 (pairKeyOf d) (keyRec d e.1).key)
    ++ d.ms.scs.filterMap (fun e => groupDesc e.1 e.2)

/-- The rest of the snapshot's MIRROR payloads. -/
def otherMsgs (d : Device) : List Bytes :=
  d.ms.turns.map (fun e => scheduleDesc e.1 e.2)
    ++ (d.kn.assocs.filter (fun e => e.2.deleting.isNone)).flatMap (fun e =>
      [assocDesc e.1 e.2 ++ leBytes 8 e.2.sfn] ++ knKeyMsgs d e.1 e.2 ++ knTurnMsgs e.1 e.2)
    ++ d.cls.tcam.map (fun e => routeDesc e.2.route)
    ++ d.gal.policers.map (fun e => policerDesc e.1 e.2) ++ d.gal.shapers.map (fun e => shaperDesc e.1 e.2)
    ++ d.gal.groups.map (fun e => groupSetDesc e.1 e.2) ++ d.gal.cfg.map (fun e => queueDesc e.1 e.2)
    ++ d.gal.map.map (fun e => mapDesc e.1 e.2) ++ pageMsgs d
    ++ (List.range 5).flatMap (slotLevel d)

/-- The turn intent and the empty cut that give a transmit SC its encoding AN. -/
def sendEncoding (d : Device) (c : Nat) (x : Sc) : Device :=
  match x.encAn with
  | some an =>
    if x.rx then d
    else
      let d := sendDuet (sendDuet d 0x40 false (leBytes 2 c ++ leBytes 1 an)) 0x41 false (leBytes 2 c ++ leBytes 1 0)
      { d with ms := { d.ms with cuts := Tbl.keep d.ms.cuts (fun k _ => k / 128 != c) } }
  | none => d

/-- Marks as they stand: acknowledged, or requested. -/
def sendMarks (d : Device) : Device :=
  let pairs := d.duet.marks.map (fun e => (e.1, match e.2.pend with | some (m, _) => m | none => e.2.mark))
    ++ d.duet.knMarks.map (fun e => (2 ^ 18 + e.1, match e.2.pend with | some (m, _) => m | none => e.2.mark))
  (chunks 256 pairs.length pairs).foldl (fun d l =>
    count (sendDuet d 0x30 true (l.flatMap (fun e => markKeyBytes e.1 e.2))) (devCtr 49)) d

/-- BULK_BEGIN, the snapshot, BULK_END. -/
def sendBulk (d : Device) : Device :=
  let a := macsecMsgs d
  let b := otherMsgs d
  let n := leBytes 4 (a.length + b.length)
  let d := a.foldl sendMirror (sendDuet d 0x22 false n)
  let d := d.ms.scs.foldl (fun d e => sendEncoding d e.1 e.2) d
  let d := sendMarks (b.foldl sendMirror d)
  let d := sendDuet d 0x23 false n
  { d with duet := { d.duet with bulkSent := true } }

end Sys2Proof.Machine
end

