-- ==== Sys2Proof/Machine/Proofs.lean ====
section
/-!
DEFINITION. PROOF_RUN and its end (R157, R158). Standby self-tests are in Machine/Duet.lean.
-/
namespace Sys2Proof.Machine

def proofOwn (desc : Bytes) : List (Nat × Bool) := (20, decide (leField desc 20 1 > 3)) :: zeroFrom desc 24 63

def proofBody (o : Origin) (desc _buf : Bytes) (d : Device) : Verdict :=
  if pressCount d = 12 ∧ leField desc 21 3 ≥ 2 ^ 12 then failAt d .badIndex 21
  else .accept (enterInflight { d with prs := { d.prs with proofs := d.prs.proofs ++ [(o, desc)] } } o 0x0402)

/-- PROOF_RUN (R157). -/
def execProofRun (r : Fin 64) (s : State) : Host.Outcome State Fault Refusal :=
  s.withDev (runCommand 0x0402 r anyRight proofOwn proofBody [] s.dev)

/-- TARGET includes the target `t`. -/
def targets (desc : Bytes) (t : Nat) : Bool := leField desc 20 1 == t || leField desc 20 1 == 3

/-- The presses a run tests. -/
def testedPresses (d : Device) (desc : Bytes) : List Nat :=
  if targets desc 0 then (List.range (pressCount d)).filter (fun n => (leField desc 21 3).testBit n) else []

def setOf (l : List Nat) : Nat := (l.map (2 ^ ·)).sum

/-- The scrub of the TCAM and of the MAC table's SRAM: entries found bad are disabled or removed (R377, R388). Its number
holds bits 0 and 1 of TABLE_PASS. -/
def scrubTables (d : Device) (found : ProofFindings) : Device × Nat :=
  let d := scrubTcam d found.badTcam
  let tcamOk := found.badTcam.isEmpty && d.cls.tcam.all (fun e => !e.2.badParity)
  let d := found.badMac.foldl (fun d i => if Tbl.has d.cls.mac i.val then macUncorrectable d i.val else d) d
  (d, (if tcamOk then 1 else 0) + (if found.badMac.isEmpty then 2 else 0))

/-- A physical upset: a record's stored key is now `key`. -/
def upsetRec (d : Device) (r : Nat) (key : Bytes) : Device :=
  if (keyRec d r).present then setKeyRec d r { keyRec d r with key := key } else d

/-- A data-plane record that fails its check takes its SA or its association out of service. -/
def proofRec (d : Device) (r : Nat) : Device :=
  if recGood d r then d
  else if (saOf d r).isSome then recordBad d r 2
  else if 49152 ≤ r / 4 then knRecordBad d (r / 4 - 49152) r 2
  else d

/-- The key-store check of every used slot and of every data-plane record, after the upsets it meets; its Bool says that all
are good. -/
def proofSlots (d : Device) (found : ProofFindings) : Device × Bool :=
  let d := found.upsetSlots.foldl (fun d u => upsetSlot d u.1 u.2) d
  let d := found.upsetRecs.foldl (fun d u => upsetRec d u.1 u.2) d
  let recs := (d.key.records.filter (fun e => e.2.present)).map Prod.fst
  let ok := (d.key.slots.map Prod.fst).all (fun i => (verifySlot d i 2).2) && recs.all (recGood d)
  (recs.foldl proofRec (sweepSlots d 2), ok)

def proofDone (d : Device) (found : ProofFindings) : Device :=
  match d.prs.proofs with
  | [] => d
  | (o, desc) :: rest =>
    let d := { d with prs := { d.prs with proofs := rest } }
    let ms := testedPresses d desc
    let bad := ms.filter (fun m => found.badPresses.any (fun b => b.val == m))
    let d := judgePresses d ms bad (d.glb.mode == .maintain)
    let t := if targets desc 1 then scrubTables d found else (d, 3)
    let k := if targets desc 2 then proofSlots t.1 found else (t.1, true)
    let pass := setOf (ms.filter (fun m => !bad.contains m))
    let flags := t.2 + (if k.2 then 4 else 0)
    finish k.1 o .ok (leBytes 3 pass ++ leBytes 1 flags ++ leBytes 4 (4096 * ms.length))

/-- PROOF_RUN_DONE (R158). -/
def execProofRunDone (found : ProofFindings) (s : State) : Host.Outcome State Fault Refusal :=
  s.withDev (proofDone s.dev found)

end Sys2Proof.Machine
end

