-- ==== Sys2Proof/Machine/Duet.lean ====
section
/-!
DEFINITION. The Duet's roles (13): taking over, stepping down, losing and finding the peer, the effect of every
duet-link message, and the reception of messages (R570-R574, R577-R594).
-/
namespace Sys2Proof.Machine

def setDuet (d : Device) (x : Duet) : Device := { d with duet := x }

/-! ## Marks (R581, R590) -/

/-- Marks that are requested become current without an acknowledgement. -/
def grantMarks (d : Device) : Device :=
  let grant := fun (_ : Nat) (m : Mark) => match m.pend with | some (v, _) => { mark := v, pend := none } | none => m
  noteMarkWait (setDuet d { d.duet with marks := Tbl.mapVals d.duet.marks grant, knMarks := Tbl.mapVals d.duet.knMarks grant })

/-- Installed transmit SAs. -/
def txSas (d : Device) : List (Nat × Sa) := d.ms.sas.filter (fun e => !e.2.deleting && isTxSa d e.1)

/-- Ask for a new mark of every transmit SA that has less than half a block of headroom. -/
def topMarks (d : Device) : Device := (txSas d).foldl (fun d e => topMark d e.1 e.2.pn (maxPn e.2.suite)) d

/-! ## Peer lost (R577, R588) -/

/-- Mirrored commands that wait for an acknowledgement complete, and turn intents reach their switch moment. -/
def releaseWaits (d : Device) (p : Nat → Bool) : Device :=
  let l := d.duet.waits.filter (fun w => p w.seq)
  let d := setDuet d { d.duet with waits := d.duet.waits.filter (fun w => !p w.seq) }
  let d := l.foldl (fun d w => post (dropInflight d w.due.origin) w.due) d
  releaseIntents d (fun t => p t.seq)

def writePeerLost (d : Device) : Device :=
  emit d .duet 0x05 (leBytes 1 d.duet.role.code ++ [if d.duet.pinInLow then 1#8 else 0#8])

/-- The ACTIVE member declares PEER_LOST. -/
def losePeer (d : Device) : Device :=
  if d.duet.peerLost then d
  else writePeerLost (setDuet d { d.duet with peerLost := true, peerLostAt := d.clock, selfGrant := false, bulkSent := false })

/-- STEP_DOWN is sent and the peer declared lost (R577); every mirrored command completes. -/
def castOff (d : Device) (cause : Nat) : Device :=
  let d := if d.duet.role = .active ∧ !d.duet.peerLost then losePeer (sendDuet d 0x12 false (leBytes 1 cause)) else d
  releaseWaits d (fun _ => true)

/-! ## Digests between roles -/

def clearDigests (d : Device) : Device :=
  setDuet d { d.duet with digests := [], ownClosed := [], peerClosed := [], anchorNext := [], disagree := none }

def ethPorts (d : Device) : List Nat := (d.boot.profile.ports.map Prod.fst).filter (isEth d)

/-- The stream of an association begins at its superframe numbers; the windows in progress are void (R584). -/
def anchorAssoc (d : Device) (a : Nat) (x : Assoc) : Device :=
  let void := fun (t : Tbl Window) (w : Nat) => Tbl.put t w { Tbl.getD t w {} with void := true }
  let opened := void (match x.pred with | some n => void [] (n / 2048) | none => []) (x.sfn / 2048)
  setDigest d (128 + a) { anchored := true, window := x.sfn / 2048, opened := opened }

def anchorAssocs (d : Device) : Device :=
  if shadow d then d.kn.assocs.foldl (fun d e => anchorAssoc d e.1 e.2) d else d

/-- The ACTIVE member starts comparison: associations now, each port at its next arriving frame. -/
def startComparing (d : Device) : Device :=
  if shadow d then
    let d := anchorAssocs d
    setDuet d { d.duet with anchorNext := ethPorts d }
  else d

/-! ## Stepping down -/

/-- A member becomes SYNCING (R593): what it did as ACTIVE or STANDBY ends. -/
def leaveRole (d : Device) : Device :=
  let d := releaseWaits (clearDigests d) (fun _ => true)
  setDuet d { d.duet with peerLost := false, selfGrant := false, lossAt := none, bulkAt := none, bulkObjects := 0
                          bulkSent := false, takeover := none, testPress := none, syncPct := 0 }

def stepDownTo (d : Device) (cause : Nat) : Device := stepDown (leaveRole d) cause

/-! ## Takeover (R588, R591, R592) -/

/-- Step 2 for one transmit SA: it starts at its last acknowledged mark, or is exhausted (R256, R257). -/
def startAtMark (d : Device) (i : Nat) (x : Sa) : Device :=
  match Tbl.get? d.duet.marks i with
  | some m =>
    if m.mark > maxPn x.suite then
      if x.exhausted then d
      else
        let d := setSa d i { x with exhausted := true, dirty := true }
        emit d .macsec 0x02 (leBytes 2 ((saSecy d i).getD 0) ++ leBytes 4 i)
    else setSa d i { x with pn := m.mark, dirty := true }
  | none => d

/-- The superframe in progress on a Line output is completed as AIS (R592). -/
def completeAsAis (d : Device) (x : Assoc) : Device := if pathRuns d then sendAis d x.port x.slot else d

/-- Steps 2 and 3 for one association: its next superframe is its last acknowledged mark, or, without one, the one after that being
sent; a turn that this passes is over. -/
def startAtKnMark (d : Device) (a : Nat) (x : Assoc) : Device :=
  let d := completeAsAis d x
  let n := match Tbl.get? d.duet.knMarks a with | some m => m.mark | none => min (2 ^ 64 - 1) (x.sfn + 1)
  let y := { x with sfn := n, began := d.clock }
  match y.turn with
  | some s => if s < n then turnSent (setAssoc d a y) a s y else setAssoc d a y
  | none => setAssoc d a y

/-- An encrypt frame that holds a PN. -/
def holdsPn (x : Forme) : Bool := !x.w.dec && x.w.sa.isSome && x.stage != .wait

/-- Assert FAILOVER_OUT_N and write TAKEOVER, once FAILOVER_IN_N is high (step 4). -/
def finishTakeover (d : Device) : Device :=
  match d.duet.takeover with
  | some t =>
    if d.duet.pinInLow then d
    else
      let d := setPin (setDuet d { d.duet with takeover := none }) true
      emit d .duet 0x03 (leBytes 1 t.sign ++ leBytes 1 t.cause ++ leBytes 4 d.duet.epoch.toNat ++ leBytes 4 t.dropped)
  | none => d

/-- Steps 1 to 4 of Table 13-10, under role epoch `epoch`. Signs: 0 FAULT, 1 pin, 2 heartbeat, 3 switchover. -/
def takeOver (d : Device) (sign cause : Nat) (epoch : W32) : Device :=
  let d := clearDigests d
  let d := setDuet d { d.duet with role := .active, epoch := epoch, peerLost := true, peerLostAt := d.clock
                                   selfGrant := sign != 3, lossAt := none, testPress := none, bulkSent := false
                                   peerRole := if sign = 3 then .standby else d.duet.peerRole }
  let d := (txSas d).foldl (fun d e => startAtMark d e.1 e.2) d
  let d := d.kn.assocs.foldl (fun d e => startAtKnMark d e.1 e.2) d
  let d := performHolds d
  let lost := (d.prs.formes.filter (fun e => holdsPn e.2)).length
  let d := dropWhere d holdsPn 1 false (fun d _ => count d (devCtr 54))
  let d := setDuet (topMarks d) { (topMarks d).duet with takeover := some { sign := sign, cause := cause, dropped := lost } }
  finishTakeover d

def takeOverNext (d : Device) (sign cause : Nat) : Device := takeOver d sign cause (d.duet.epoch + 1#32)

/-- Heartbeat loss is declared (R573, R588). -/
def declareLoss (d : Device) : Device :=
  if d.duet.beatLost || !d.duet.confirmed then d
  else
    let d := setDuet d { d.duet with beatLost := true }
    match d.duet.role with
    | .active => losePeer d
    | .standby =>
      if d.duet.pinInLow then setDuet d { d.duet with lossAt := some d.clock } else takeOverNext d 2 0
    | _ => d

/-! ## Disagreements (R586, R587) -/

/-- Comparison resumes from a fresh ANCHOR. -/
def resumeComparing (d : Device) : Device :=
  let d := setDuet d { d.duet with disagree := none, digests := [], ownClosed := [], peerClosed := [] }
  if d.duet.role = .active then startComparing d
  else if d.duet.role = .standby then anchorAssocs d
  else d

/-- Every target of the proof run passed. -/
def proofPass (flags : Nat) : Bool := flags % 16 == 15

/-- Row of Table 13-8, from 0. -/
def disagreeRow (active standby : Bool) : Nat := if active then (if standby then 0 else 1) else if standby then 2 else 3

/-- Both proof results are known. -/
def settleDisagree (d : Device) : Device :=
  match d.duet.disagree with
  | some { own := some o, peer := some p, .. } =>
    let own := proofPass o
    let peer := proofPass p
    let isActive := d.duet.role == .active
    let row := if isActive then disagreeRow own peer else disagreeRow peer own
    let d := emit d .duet 0x08 ([if own then 1#8 else 0#8] ++ [if peer then 1#8 else 0#8] ++ leBytes 1 row)
    let d := if isActive ∧ row = 0 then sendResync d ((txSas d).map Prod.fst) else d
    let d := if isActive ∧ row = 2 then leaveRole (declareFault d 1) else d
    let d := if d.duet.role = .standby ∧ (row = 1 ∨ row = 3) then stepDownTo d 1 else d
    resumeComparing d
  | _ => d

def ownResult (d : Device) (flags : Nat) : Device :=
  match d.duet.disagree with
  | some x => settleDisagree (setDuet d { d.duet with disagree := some { x with own := some flags } })
  | none => d

/-- The peer's result; it may come before this member has seen the disagreement. -/
def peerResult (d : Device) (flags : Nat) : Device :=
  let d := beginDisagree d
  match d.duet.disagree with
  | some x => settleDisagree (setDuet d { d.duet with disagree := some { x with peer := some flags } })
  | none => d

/-- The proof run of a disagreement: presses, tables, key store (R158). Its flags: bit 0 TCAM, 1 SRAM, 2 key store,
3 every press in service (log 15). -/
def disagreeRun (d : Device) (found : ProofFindings) : Device :=
  if d.duet.disagree.isNone then d
  else
    let ms := (List.range 24).filter (pressIn d)
    let bad := ms.filter (fun m => found.badPresses.any (fun b => b.val == m))
    let d := judgePresses d ms bad false
    let t := scrubTables d found
    let k := proofSlots t.1 found
    let flags := t.2 + (if k.2 then 4 else 0) + (if bad.isEmpty then 8 else 0)
    ownResult (sendDuet k.1 0x53 false (leBytes 1 flags)) flags

/-! ## What each message does -/

def ackMirror (d : Device) (seq : Nat) (failed : Bool) : Device :=
  sendDuet d 0x21 false (leBytes 8 seq ++ [if failed then 1#8 else 0#8])

/-- A message that cannot be applied: it is acknowledged as failed and the member enters SYNCING (R578). -/
def mirrorFailed (d : Device) (seq : Nat) : Device :=
  let d := ackMirror d seq true
  let d := if d.duet.role = .standby then stepDownTo d 4 else d
  setDuet d { d.duet with bulkBad := true, bulkAt := none }

/-- The snapshot's first object replaces what was held before. -/
def startBulk (d : Device) : Device :=
  if d.duet.role = .syncing ∧ d.duet.bulkAt.isNone then
    let d := clearMirrored d
    setDuet d { d.duet with bulkAt := some d.clock, bulkObjects := 0, marks := [], knMarks := [], syncPct := 0 }
  else d

/-- MIRROR (R578). -/
def mirrorIn (d : Device) (seq : Nat) (desc buf : Bytes) : Device :=
  if d.duet.bulkBad then ackMirror d seq true
  else
    let d := startBulk d
    match applyMirror d desc buf with
    | some e =>
      let e := count (ackMirror e seq false) (devCtr 48)
      setDuet e { e.duet with bulkObjects := e.duet.bulkObjects + 1 }
    | none => mirrorFailed d seq

/-- BULK_END (R594). -/
def bulkEndIn (d : Device) : Device :=
  if d.duet.role = .syncing ∧ !d.duet.bulkBad then
    let ms := match d.duet.bulkAt with | some t => (d.clock - t) / msTicks | none => 0
    let n := d.duet.bulkObjects
    let d := setDuet d { d.duet with role := .standby, bulkAt := none, syncPct := 100 }
    anchorAssocs (emit d .duet 0x06 (leBytes 4 ms ++ leBytes 4 n))
  else d

/-- MARK: recorded and acknowledged (R579, R580). -/
def marksIn (d : Device) (seq : Nat) (marks : List (Nat × Nat)) : Device :=
  let put := fun (d : Device) (e : Nat × Nat) =>
    let m : Mark := { mark := e.2, pend := none }
    if e.1 < 2 ^ 18 then setDuet d { d.duet with marks := Tbl.put d.duet.marks e.1 m }
    else setDuet d { d.duet with knMarks := Tbl.put d.duet.knMarks (e.1 - 2 ^ 18) m }
  sendDuet (count (marks.foldl put d) (devCtr 49)) 0x31 false (leBytes 8 seq)

/-- MARK_ACK: the mark asked for with that SEQ is current; a further one may be due. -/
def markAckIn (d : Device) (seq : Nat) : Device :=
  let ack := fun (_ : Nat) (m : Mark) =>
    match m.pend with
    | some (v, q) => if q = seq then { mark := v, pend := none } else m
    | none => m
  topMarks (noteMarkWait (setDuet d
    { d.duet with marks := Tbl.mapVals d.duet.marks ack, knMarks := Tbl.mapVals d.duet.knMarks ack }))

/-- PN_RESYNC: the active's PN less the own one for the frame is added to the SA's next PN (R585). -/
def resyncIn (d : Device) (triples : List (Nat × Nat × W64)) : Device :=
  let seen := d.duet.history.flatMap Prod.snd
  triples.foldl (fun d t =>
    match seen.find? (fun x => x.sa == t.1 && x.ref == t.2.2), saOf d t.1 with
    | some x, some a => setSa d t.1 { a with pn := a.pn + t.2.1 - x.pn, dirty := true }
    | _, _ => d) d

/-- Frames of port `p` from number `no` on join windows from `w`. -/
def rewindow (p no w : Nat) (nos : List Nat) (x : Work) : Work :=
  if x.ing = p ∧ no ≤ x.no then { x with win := some (w + (nos.filter (fun n => no ≤ n && n < x.no)).length / 4096) }
  else x

/-- ANCHOR: comparison on the port starts at the earliest frame of its history that matches (R584). -/
def anchorIn (d : Device) (p : Nat) (ref : W64) (w : Nat) : Device :=
  let h := Tbl.getD d.duet.history p []
  match h.find? (fun x => x.ref == ref) with
  | some first =>
    let mine := h.filter (fun x => first.no ≤ x.no)
    let nos := mine.map (fun x => x.no)
    let win : Window := { sum := (mine.filterMap (fun x => x.val)).foldl (· + ·) 0#64
                          valued := (mine.filter (fun x => x.val.isSome)).length
                          sas := ((mine.map (fun x => x.sa)).filter (· < 2 ^ 18)).eraseDups }
    let move := rewindow p first.no w nos
    let d := { d with prs := { d.prs with
      fifo := Tbl.mapVals d.prs.fifo (fun _ l => l.map move)
      formes := Tbl.mapVals d.prs.formes (fun _ x => { x with w := move x.w }) } }
    setDigest d p { anchored := true, window := w + nos.length / 4096, arrived := nos.length % 4096, opened := [(w, win)] }
  | none => setDigest d p {}

/-- TURN_INTENT: the turning SC is held, and the intent acknowledged (R242, R244). -/
def intentIn (d : Device) (seq sc an : Nat) : Device :=
  let h : Hold := { sc := sc, an := an, since := d.clock, scheduled := false }
  ackMirror { d with ms := { d.ms with holds := d.ms.holds ++ [h] } } seq false

/-- DIGEST (R585). -/
def digestIn (d : Device) (c : Closed) : Device :=
  match d.duet.ownClosed.find? (sameWindow c) with
  | some own =>
    compareWindow (setDuet d { d.duet with ownClosed := d.duet.ownClosed.filter (fun x => !sameWindow c x) }) own c
  | none => setDuet d { d.duet with peerClosed := d.duet.peerClosed ++ [c] }

/-- UNPAIR, sent or received (R597): the member is SOLO and its hold-off starts; a former active keeps its pin. -/
def unpair (d : Device) (here : Bool) : Device :=
  let d := releaseWaits (clearDigests d) (fun _ => true)
  let d := match d.duet.switching with
    | some x => if x.acked then d else finish d x.origin .busyReferenced (zeros 16)
    | none => d
  let d := setDuet d { d.duet with
    role := .solo, linkKey := none, pairKey := none, confirmed := false, pairMember := none, peerRole := .solo, held := []
    peerLost := false, selfGrant := false, beatLost := false, lossAt := none, marks := [], knMarks := []
    holdStart := some d.clock, takeover := none, switching := none, testPress := none, bulkAt := none, bulkSent := false
    bulkBad := false, syncPct := 0 }
  emit (performHolds (noteMarkWait d)) .duet 0x0B [if here then 1#8 else 0#8]

/-- STEP_DOWN (R593). -/
def stepDownIn (d : Device) : Device :=
  let d := if d.duet.role = .standby then stepDownTo d 0 else d
  setDuet d { d.duet with bulkAt := none, bulkBad := false }

/-- SWITCH at the STANDBY: acknowledged, then steps 1 to 4 of a takeover (R596). -/
def switchIn (d : Device) (epoch : W32) : Device :=
  if d.duet.role = .standby then takeOver (sendDuet d 0x15 false (leBytes 4 epoch.toNat)) 3 0 epoch else d

/-- SWITCH_ACK: the pin is released and the member is STANDBY. -/
def switchAckIn (d : Device) (epoch : W32) : Device :=
  match d.duet.switching with
  | some x =>
    if d.duet.role = .active ∧ x.epoch = epoch ∧ !x.acked then
      let d := releaseWaits (clearDigests (setPin d false)) (fun _ => true)
      let d := setDuet (grantMarks d) { (grantMarks d).duet with
        role := .standby, epoch := epoch, peerRole := .active, peerLost := false, selfGrant := false
        switching := some { x with acked := true } }
      emit (noteMarkWait d) .duet 0x04 ([3#8] ++ leBytes 4 epoch.toNat)
    else d
  | none => d

/-- MIRROR_ACK: what waits for it goes on; a failure is treated as no peer (R577). -/
def mirrorAckIn (d : Device) (seq : Nat) (failed : Bool) : Device :=
  if d.duet.role ≠ .active then d
  else if failed then castOff d 4
  else releaseWaits d (fun q => q == seq)

/-! ### HEARTBEAT (R571, R573, R574, R594, R599) -/

def writeSplit (d : Device) (peer : W32) : Device :=
  emit d .duet 0x0A (leBytes 4 d.duet.epoch.toNat ++ leBytes 4 peer.toNat)

def healthChange (d : Device) (old new : W32) : Device :=
  if bits old 31 29 = bits new 31 29 then d
  else emit d .duet 0x09 (leBytes 4 d.duet.ownHealth.toNat ++ leBytes 4 d.duet.peerHealth.toNat)

/-- An ACTIVE member that hears its peer again: SYNCING, or STANDBY before it has granted marks itself. -/
def findPeer (d : Device) (role : Role) : Device :=
  if d.duet.role = .active ∧ d.duet.peerLost ∧ (role = .syncing ∨ (role = .standby ∧ !d.duet.selfGrant)) then
    setDuet d { d.duet with peerLost := false, selfGrant := false }
  else d

/-- The ACTIVE member sees the peer's role change. -/
def peerRoleChange (d : Device) (old new : Role) : Device :=
  if d.duet.role ≠ .active ∨ old = new then d
  else if new = .syncing then grantMarks (setDuet d { d.duet with bulkSent := false })
  else if new = .standby then startComparing d
  else d

/-- Both members claim ACTIVE at equal epochs (R574). -/
def tie (d : Device) (role : Role) : Device :=
  if d.duet.role = .active ∧ role = .active ∧ d.duet.peerMember.getD (2 ^ 18) < ownMember d then
    stepDownTo (writeSplit d d.duet.epoch) 2
  else d

def beatIn (d : Device) (role : Role) (health : W32) : Device :=
  let old := d.duet
  let d := tie d role
  let d := setDuet d { d.duet with lastBeat := d.clock, beatLost := false, peerRole := role, peerHealth := health }
  let d := healthChange (peerRoleChange (findPeer d role) old.peerRole role) old.peerHealth health
  pressFloor d

/-- What an accepted message of the receiver's epoch does. -/
def act (d : Device) (seq : Nat) : DuetMsg → Device
  | .beat role health _ => beatIn d role health
  | .fault cause => if d.duet.role = .standby then takeOverNext d 0 cause else d
  | .stepDown => stepDownIn d
  | .switch epoch => switchIn d epoch
  | .unpair => unpair d false
  | .switchAck epoch => switchAckIn d epoch
  | .mirror desc buf => mirrorIn d seq desc buf
  | .mirrorAck q failed => mirrorAckIn d q failed
  | .bulkEnd => bulkEndIn d
  | .mark marks => marksIn d seq marks
  | .markAck q => markAckIn d q
  | .resync triples => resyncIn d triples
  | .turnIntent sc an => intentIn d seq sc an
  | .turnCut sc cuts => applyCut d sc cuts
  | .digest c => digestIn d c
  | .anchor p ref w => anchorIn d p ref w
  | .mismatch _ _ _ => beginDisagree d
  | .proofResult flags => peerResult d flags

/-! ## Reception (R570-R572) -/

/-- Messages addressed to a non-active member (R572). -/
def forPassive : DuetMsg → Bool
  | .mirror _ _ | .mark _ | .resync _ | .anchor _ _ _ | .stepDown | .turnIntent _ _ | .turnCut _ _ => true
  | _ => false

def isTurnMsg : DuetMsg → Bool
  | .turnIntent _ _ | .turnCut _ _ => true
  | _ => false

/-- A HEARTBEAT or SWITCH whose sender claims ACTIVE (R571). -/
def claimsActive : DuetMsg → Bool
  | .beat role _ _ => role == .active
  | .switch _ => true
  | _ => false

/-- A discarded message; sixteen within 1 ms are link loss (R570). -/
def discardMsg (d : Device) : Device :=
  let recent := d.clock :: d.duet.discards.filter (fun t => d.clock < t + msTicks)
  let d := count (setDuet d { d.duet with discards := recent }) (devCtr 45)
  if 16 ≤ recent.length then declareLoss (setDuet d { d.duet with discards := [] }) else d

/-- A message of an older epoch is counted (R246, R571). -/
def staleMsg (d : Device) (m : DuetMsg) : Device := count d (devCtr (if isTurnMsg m then 6 else 46))

/-- A message whose epoch has been adopted, or one held until then. -/
def hearMsg (d : Device) (m : DuetMsg) (epoch : W32) (seq : Nat) : Device :=
  if d.duet.role = .active ∧ forPassive m then count d (devCtr 47)
  else if epoch.toNat < d.duet.epoch.toNat then staleMsg d m
  else if epoch = d.duet.epoch then act d seq m
  else setDuet d { d.duet with held := d.duet.held ++ [{ msg := m, epoch := epoch, seq := seq, arrived := d.clock }] }

/-- Adopt a newer epoch: an ACTIVE member steps down (R574); held messages are delivered. -/
def adopt (d : Device) (epoch : W32) : Device :=
  let d := if d.duet.role = .active then
      let d := writeSplit d epoch
      stepDownTo (setDuet d { d.duet with epoch := epoch }) 2
    else setDuet d { d.duet with epoch := epoch }
  let due := fun (h : HeldMsg) => decide (h.epoch.toNat ≤ epoch.toNat)
  (d.duet.held.filter due).foldl (fun d h => hearMsg d h.msg h.epoch h.seq)
    (setDuet d { d.duet with held := d.duet.held.filter (fun h => !due h) })

/-- TYPE and payload of a message (Table 13-5); none where the row does not bring the payload. -/
def msgBytes : DuetMsg → Nat × Option Bytes
  | .beat role health pin => (0x10, some (leBytes 1 role.code ++ leBytes 4 health.toNat ++ [if pin then 1#8 else 0#8]))
  | .fault cause => (0x11, some (leBytes 1 cause))
  | .stepDown => (0x12, none)
  | .switch epoch => (0x13, some (leBytes 4 epoch.toNat))
  | .unpair => (0x14, some [])
  | .switchAck epoch => (0x15, some (leBytes 4 epoch.toNat))
  | .mirror desc buf => (0x20, some (desc ++ buf))
  | .mirrorAck q failed => (0x21, some (leBytes 8 q ++ [if failed then 1#8 else 0#8]))
  | .bulkEnd => (0x23, none)
  | .mark marks => (0x30, some (marks.flatMap (fun e => markKeyBytes e.1 e.2)))
  | .markAck q => (0x31, some (leBytes 8 q))
  | .resync l => (0x32, some (l.flatMap (fun e => leBytes 4 e.1 ++ leBytes 8 e.2.1 ++ leBytes 8 e.2.2.toNat)))
  | .turnIntent sc an => (0x40, some (leBytes 2 sc ++ leBytes 1 an))
  | .turnCut sc l => (0x41, some (leBytes 2 sc ++ leBytes 1 l.length ++ l.flatMap (fun e => leBytes 1 e.1 ++ leBytes 4 e.2)))
  | .digest c => (0x50, some (leBytes 1 c.kind ++ leBytes 2 c.index ++ leBytes 8 c.window ++ leBytes 8 c.sum.toNat
      ++ [if c.void then 1#8 else 0#8]))
  | .anchor p ref w => (0x51, some (leBytes 1 p ++ leBytes 8 ref.toNat ++ leBytes 8 w))
  | .mismatch kind index w => (0x52, some (leBytes 1 kind ++ leBytes 2 index ++ leBytes 8 w))
  | .proofResult flags => (0x53, some (leBytes 1 flags))

/-- Wire bytes parse as Table 13-4 with this TYPE, EPOCH and SEQ, their tag verifies under the link key and the sender's member
number, and they decipher to the payload (R569). -/
def opens (key w : Bytes) (sender : Nat) (h : DuetHdr) (type : Nat) (payload : Option Bytes) : Bool :=
  let n := leField w 2 2
  let iv := beBytes 4 sender ++ beBytes 8 h.seq
  let ct := slice w 16 n
  w.length == 32 + n && n ≤ 4096 && leField w 0 1 == type && leField w 1 1 ≤ 1 && leField w 4 4 == h.epoch.toNat
    && leField w 8 8 == h.seq && fit 16 (gcmTag key iv (w.take 16) ct) == w.drop (16 + n)
    && payload.all (fun p => fit n (gcmCrypt key iv ct) == p)

/-- A message's tag verifies: its bytes are those of its sender, or others that open all the same. -/
def authentic (d : Device) (h : DuetHdr) (m : DuetMsg) : Bool :=
  h.wire.all (fun w => opens (d.duet.linkKey.getD []) w (d.duet.peerMember.getD 0) h (msgBytes m).1 (msgBytes m).2)

/-- A duet-link message arrives. -/
def receive (d : Device) (h : DuetHdr) (m : DuetMsg) : Device :=
  if !authentic d h m || d.duet.linkKey.isNone || !d.duet.confirmed || decide (h.seq ≤ d.duet.rxSeq) then discardMsg d
  else
    let d := setDuet d { d.duet with rxSeq := h.seq }
    let d := if d.duet.epoch.toNat < h.epoch.toNat ∧ claimsActive m then adopt d h.epoch else d
    hearMsg d m h.epoch h.seq

/-! ## The rows of messages and of their deadlines -/

/-- HEARTBEAT_SEND (R573). -/
def sendBeat (d : Device) : Device :=
  if d.duet.confirmed ∧ d.duet.role ≠ .solo then
    sendDuet d 0x10 false (leBytes 1 d.duet.role.code ++ leBytes 4 d.duet.ownHealth.toNat
      ++ [if d.duet.pinOut then 1#8 else 0#8])
  else d

def execHeartbeatSend (s : State) : Host.Outcome State Fault Refusal := s.withDev (sendBeat s.dev)

/-- HEARTBEAT_RX (R571, R573, R574). -/
def execHeartbeatRx (h : DuetHdr) (role : Fin 4) (health : W32) (pinOut : Bool) (s : State) :
    Host.Outcome State Fault Refusal :=
  s.withDev (receive s.dev h (.beat (roleOfCode role) health pinOut))

/-- HEARTBEAT_LOSS (R573): 1,000 µs without a valid HEARTBEAT. -/
def beatDeadline (d : Device) : Device :=
  if d.duet.role = .solo ∨ d.duet.beatLost ∨ !d.duet.confirmed then d
  else declareLoss (elapseTo d (d.duet.lastBeat + msTicks))

def execHeartbeatLoss (s : State) : Host.Outcome State Fault Refusal := s.withDev (beatDeadline s.dev)

/-- HEARTBEAT_GIVE_UP (R588): FAILOVER_IN_N has stayed low for 1 ms after the loss. -/
def giveUp (d : Device) : Device :=
  match d.duet.lossAt with
  | some t =>
    if d.duet.role = .standby ∧ d.duet.pinInLow then
      let d := writePeerLost (elapseTo d (t + msTicks))
      setRole (leaveRole d) .syncing
    else d
  | none => d

def execHeartbeatGiveUp (s : State) : Host.Outcome State Fault Refusal := s.withDev (giveUp s.dev)

/-- FAULT_RX (R588). -/
def execFaultRx (h : DuetHdr) (cause : Fin 5) (s : State) : Host.Outcome State Fault Refusal :=
  s.withDev (receive s.dev h (.fault cause))

/-- STEP_DOWN_RX (R593). -/
def execStepDownRx (h : DuetHdr) (s : State) : Host.Outcome State Fault Refusal := s.withDev (receive s.dev h .stepDown)

/-- SWITCH_RX (R596). -/
def execSwitchRx (h : DuetHdr) (epoch : W32) (s : State) : Host.Outcome State Fault Refusal :=
  s.withDev (receive s.dev h (.switch epoch))

/-- SWITCH_ACK_RX (R596). -/
def execSwitchAckRx (h : DuetHdr) (epoch : W32) (s : State) : Host.Outcome State Fault Refusal :=
  s.withDev (receive s.dev h (.switchAck epoch))

/-- MIRROR_RX (R578). -/
def execMirrorRx (h : DuetHdr) (desc buf : Bytes) (s : State) : Host.Outcome State Fault Refusal :=
  s.withDev (receive s.dev h (.mirror (fit 64 desc) buf))

/-- MIRROR_ACK_RX (R577). -/
def execMirrorAckRx (h : DuetHdr) (seq : Nat) (failed : Bool) (s : State) : Host.Outcome State Fault Refusal :=
  s.withDev (receive s.dev h (.mirrorAck seq failed))

/-- MIRROR_ACK_TIMEOUT (R577): the oldest acknowledgement is 2 ms late. -/
def mirrorTimeout (d : Device) : Device :=
  match d.duet.waits.map (fun w => w.sent) ++ d.ms.intents.map (fun t => t.sent) with
  | [] => d
  | t :: l => castOff (elapseTo d (l.foldl min t + 2 * msTicks)) 4

def execMirrorAckTimeout (s : State) : Host.Outcome State Fault Refusal := s.withDev (mirrorTimeout s.dev)

/-- PEER_LOST_WAIT (R590): 1.5 ms after PEER_LOST the member grants marks itself. -/
def lostWait (d : Device) : Device :=
  if d.duet.role = .active ∧ d.duet.peerLost ∧ !d.duet.selfGrant then
    let d := elapseTo d (d.duet.peerLostAt + 1500 * usTicks)
    grantMarks (setDuet d { d.duet with selfGrant := true })
  else d

def execPeerLostWait (s : State) : Host.Outcome State Fault Refusal := s.withDev (lostWait s.dev)

/-- BULK_MIRROR_START (R594). -/
def bulkStart (d : Device) : Device :=
  if d.duet.role = .active ∧ peerPresent d ∧ d.duet.peerRole = .syncing ∧ !d.duet.beatLost ∧ !d.duet.bulkSent then sendBulk d
  else d

def execBulkMirrorStart (s : State) : Host.Outcome State Fault Refusal := s.withDev (bulkStart s.dev)

/-- BULK_END_RX (R594). -/
def execBulkEndRx (h : DuetHdr) (s : State) : Host.Outcome State Fault Refusal := s.withDev (receive s.dev h .bulkEnd)

/-- MARK_RX (R579, R580). -/
def execMarkRx (h : DuetHdr) (marks : List (Nat × Nat)) (s : State) : Host.Outcome State Fault Refusal :=
  s.withDev (receive s.dev h (.mark marks))

/-- MARK_ACK_RX (R579). -/
def execMarkAckRx (h : DuetHdr) (seq : Nat) (s : State) : Host.Outcome State Fault Refusal :=
  s.withDev (receive s.dev h (.markAck seq))

/-- PN_RESYNC_RX (R585). -/
def execPnResyncRx (h : DuetHdr) (triples : List (Nat × Nat × W64)) (s : State) : Host.Outcome State Fault Refusal :=
  s.withDev (receive s.dev h (.resync triples))

/-- ANCHOR_RX (R584). -/
def execAnchorRx (h : DuetHdr) (port : Fin 128) (ref : W64) (window : Nat) (s : State) :
    Host.Outcome State Fault Refusal :=
  s.withDev (receive s.dev h (.anchor port ref window))

/-- TURN_INTENT_RX (R244). -/
def execTurnIntentRx (h : DuetHdr) (sc : Fin 65536) (an : Fin 4) (s : State) : Host.Outcome State Fault Refusal :=
  s.withDev (receive s.dev h (.turnIntent sc an))

/-- TURN_CUT_RX (R244). -/
def execTurnCutRx (h : DuetHdr) (sc : Fin 65536) (cuts : List (Fin 128 × Nat)) (s : State) :
    Host.Outcome State Fault Refusal :=
  s.withDev (receive s.dev h (.turnCut sc (cuts.map (fun (e : Fin 128 × Nat) => (e.1.val, e.2)))))

/-- DIGEST_RX (R585). -/
def execDigestRx (h : DuetHdr) (kind : Fin 2) (index : Fin 16384) (window : Nat) (digest : W64) (void : Bool)
    (s : State) : Host.Outcome State Fault Refusal :=
  s.withDev (receive s.dev h
    (.digest { kind := kind, index := index, window := window, sum := digest, void := void, sas := [] }))

/-- MISMATCH_RX (R586). -/
def execMismatchRx (h : DuetHdr) (kind : Fin 2) (index : Fin 16384) (window : Nat) (s : State) :
    Host.Outcome State Fault Refusal :=
  s.withDev (receive s.dev h (.mismatch kind index window))

/-- PROOF_RESULT_RX (R587). -/
def execProofResultRx (h : DuetHdr) (flags : Byte) (s : State) : Host.Outcome State Fault Refusal :=
  s.withDev (receive s.dev h (.proofResult flags.toNat))

/-- DISAGREE_PROOF_RUN_DONE (R586). -/
def execDisagreeProofRunDone (found : ProofFindings) (s : State) : Host.Outcome State Fault Refusal :=
  s.withDev (disagreeRun s.dev found)

/-- NEWER_EPOCH_HOLD_TIMEOUT (R571): the oldest held message has waited 1 ms. -/
def holdTimeout (d : Device) : Device :=
  match d.duet.held with
  | [] => d
  | h :: _ =>
    let d := elapseTo d (h.arrived + msTicks)
    let late := fun (x : HeldMsg) => decide (x.arrived + msTicks ≤ d.clock)
    let gone := d.duet.held.filter late
    gone.foldl (fun d x => staleMsg d x.msg)
      (setDuet d { d.duet with held := d.duet.held.filter (fun x => !late x) })

def execNewerEpochHoldTimeout (s : State) : Host.Outcome State Fault Refusal := s.withDev (holdTimeout s.dev)

end Sys2Proof.Machine
end

