-- ==== Sys2Proof/Machine/Pairing.lean ====
section
/-!
DEFINITION. Pairing, switchover and unpairing, and the FAILOVER pins of a Duet member (R558-R568, R596, R597).
-/
namespace Sys2Proof.Machine

/-! ## DUET_PAIR (R564-R566) -/

/-- SHA-256 over the bytes of R686. -/
def pairDigest (d : Device) : Bytes := fit 32 (Config.sha 32 d.boot.profile.digestInput)

def pairNode (d : Device) : Bytes := match d.key.tree with | some t => t.duetPair | none => []

/-- The member's ephemeral scalar and point (R566). -/
def pairScalar (d : Device) (v : Nat) (nonce : Bytes) : Nat :=
  beNat (kdf (pairNode d) "LVT1600 DUET EPHEMERAL" (beBytes 4 v ++ nonce) 384) % (p256.n - 1) + 1
def pairPoint (k : Nat) : Bytes := fit 65 (pointBytes p256 (ecMul p256 k p256.gen))

/-- What the HELLO signature covers. -/
def helloSigned (u v : Nat) (nonce point digest : Bytes) : Bytes := beBytes 4 u ++ beBytes 4 v ++ nonce ++ point ++ digest

def ownCert (d : Device) : Bytes := match d.boot.flash.enrolment with | some e => e.cert | none => []

/-- The HELLO of a pending pairing: R566's fields, then what the peer's checks need (log 16). It carries no tag. -/
def helloBytes (d : Device) (p : Pairing) (rand : Bytes) : Bytes :=
  let point := pairPoint (beNat p.scalar)
  let sig := match d.key.tree with
    | some t => identitySign t rand (helloSigned (ownMember d) p.peer p.nonce point (pairDigest d))
    | none => zeros 64
  let body := beBytes 4 (ownMember d) ++ ownCert d ++ p.nonce ++ point ++ sig ++ leBytes 2 d.glb.part.id
    ++ [if d.duet.pinOut then 1#8 else 0#8] ++ pairDigest d ++ leBytes 4 (memberInUse d)
  duetHeader d 0x01 0 body.length 0 ++ body

/-- Send the HELLO once the duet link is active; its signature draws a nonce. -/
def sendHello (d : Device) : Device :=
  match d.duet.pairing with
  | some p =>
    if d.lane.dlState = 5 ∧ p.outcome.isNone then
      putDuet (drbgRequest d 40) (helloBytes d p (drbgBytes d 40))
    else d
  | none => d

/-! ## HELLO and CONFIRM (R563, R566-R568) -/

/-- The reason of Table 13-3 for which a HELLO is refused. `pair` is the pair member number that would result. -/
def helloReason (d : Device) (p : Pairing) (h : Hello) (pair : Nat) : Option Nat :=
  let signed := helloSigned h.member (ownMember d) h.nonce h.point h.digest
  let pub := slice h.cert 16 65
  let good := match authority d with
    | some a => h.cert.length == 148 && certSigned a h.cert && certMember h.cert == h.member.val
        && verifyP256 pub signed h.sig && (readPoint p256 h.point).isSome
    | none => false
  if h.member.val ≠ p.peer then some 2
  else if !good then some 3
  else if d.svc.revoked.contains h.member.val || d.svc.revoked.contains pair then some 4
  else if h.part.toNat ≠ d.glb.part.id then some 5
  else if fit 32 h.digest ≠ pairDigest d then some 6
  else if h.pinOut = d.duet.pinOut then some 7
  else none

/-- The pair member number: the number in use by the member that asserts its pin (R567, R568). -/
def pairNumber (d : Device) (h : Hello) : Nat := if d.duet.pinOut then memberInUse d else h.inUse.val

/-- Link key and pair key; none where Z is at infinity (R566). -/
def pairKeys (d : Device) (p : Pairing) (h : Hello) : Option (Bytes × Bytes) :=
  match readPoint p256 h.point with
  | some q =>
    match ecMul p256 (beNat p.scalar) q with
    | some (x, _) =>
      let u := ownMember d
      let v := h.member.val
      let nonces := if u ≤ v then p.nonce ++ h.nonce else h.nonce ++ p.nonce
      let k := kdf (beBytes 32 x) "LVT1600 DUET LINK" (beBytes 4 (min u v) ++ beBytes 4 (max u v) ++ nonces) 512
      some (k.take 32, k.drop 32)
    | none => none
  | none => none


def setPairing (d : Device) (p : Pairing) : Device := setDuet d { d.duet with pairing := some p }
def endPairing (d : Device) (p : Pairing) (reason : Nat) : Device := setPairing d { p with outcome := some (reason, 0) }

/-- A refused peer is told by an UNPAIR in clear, before any link key: how a member learns of its peer's refusal the spec does not
say (DESIGN CHOICE, log 94). -/
def refusePair (d : Device) (p : Pairing) (reason : Nat) : Device :=
  putDuet (endPairing d p reason) (duetHeader d 0x14 0 0 0)

/-- A pending pairing can go on: in PROVISION, MAINTAIN and LOCKED the role stays SOLO (R30), and none is joined during a
restart. -/
def mayPair (d : Device) : Bool := trafficMode d && d.boot.restart.isNone

/-- A HELLO while a DUET_PAIR is pending: it is refused, or CONFIRM is sent under the new link key. One that comes before is kept
for the DUET_PAIR that follows it: the members issue theirs within WAIT_S of each other (DESIGN CHOICE, log 94). -/
def helloIn (d : Device) (h : Hello) : Device :=
  match d.duet.pairing with
  | some p =>
    if p.outcome.isSome || p.hello.isSome || !mayPair d then d
    else
      let pair := pairNumber d h
      match helloReason d p h pair, pairKeys d p h with
      | some r, _ => refusePair d p r
      | none, none => refusePair d p 3
      | none, some (link, key) =>
        putDuet (setPairing d { p with hello := some (link, key, h.epoch, pair) })
          (duetBytes d link 0 0x02 false (pairDigest d))
  | none => if peerPresent d then d else setDuet d { d.duet with early := some h }

def pairOwn (desc : Bytes) : List (Nat × Bool) :=
  [zeroBits desc 22 0xFC, zeroBits desc 23 0xFF, (24, decide (leField desc 24 2 > 600))] ++ zeroFrom desc 26 63

/-- The HELLO that came before its DUET_PAIR is taken now. -/
def takeEarly (d : Device) : Device :=
  match d.duet.early with
  | some h => helloIn (setDuet d { d.duet with early := none }) h
  | none => d

/-- DUET_PAIR draws a nonce: with a stopped DRBG it ends with INTERNAL 2 as R513 states. -/
def pairBody (o : Origin) (desc _buf : Bytes) (d : Device) : Verdict :=
  if !d.boot.enrolled || style d == 0 then fail d .modeDenied
  else if d.duet.role = .standby ∨ d.duet.role = .syncing ∨ (d.duet.role = .active ∧ peerPresent d)
      ∨ d.duet.pairing.isSome then fail d .busyReferenced
  else if !drbgOk d then failInternal d 2
  else
    let v := leField desc 20 4 % 2 ^ 18
    let nonce := drbgBytes d 32
    let d := drbgRequest d 32
    let w := leField desc 24 2
    let p : Pairing := { origin := o, peer := v, waitS := if w = 0 then 10 else w, started := d.clock, nonce := nonce
                         scalar := beBytes 48 (pairScalar d v nonce) }
    .accept (takeEarly (sendHello (enterInflight (setDuet d { d.duet with pairing := some p }) o 0x0380)))

/-- DUET_PAIR (R564, R565). -/
def execDuetPair (r : Fin 64) (s : State) : Host.Outcome State Fault Refusal :=
  s.withDev (runCommand 0x0380 r anyRight pairOwn pairBody [] s.dev)

/-- HELLO_RX (R566). -/
def execHelloRx (hello : Hello) (s : State) : Host.Outcome State Fault Refusal := s.withDev (helloIn s.dev hello)

/-- The members are paired: keys, epoch, roles and numbers (R566-R568). -/
def joinDuet (d : Device) (p : Pairing) (link key : Bytes) (peerEpoch : W32) (pair : Nat) : Device :=
  let active := d.duet.pinOut
  let epoch := (if peerEpoch.toNat < d.duet.epoch.toNat then d.duet.epoch else peerEpoch) + 1#32
  let d := releaseWaits (clearDigests d) (fun _ => true)
  let d := setDuet d { d.duet with
    role := if active then .active else .syncing, peerRole := if active then .syncing else .active, epoch := epoch
    linkKey := some link, pairKey := some key, confirmed := true, txSeq := 1, rxSeq := 0, discards := [], held := []
    pairMember := some pair, peerMember := some p.peer, lastBeat := d.clock, beatLost := false, lossAt := none
    peerLost := false, selfGrant := false, waits := [], bulkAt := none, bulkObjects := 0, bulkBad := false
    bulkSent := false, syncPct := 0, pairing := some { p with outcome := some (0, 0) } }
  if active then topMarks (grantMarks d) else d

/-- The tag of a CONFIRM verifies under the link key that it confirms. -/
def confirmOk (link : Bytes) (p : Pairing) (h : DuetHdr) (digest : Bytes) : Bool :=
  h.wire.all (fun w => opens link w p.peer h 0x02 (some (fit 32 digest)))

/-- CONFIRM (R566): a failed tag or another digest refuses the pairing. -/
def confirmIn (d : Device) (h : DuetHdr) (digest : Bytes) : Device :=
  match d.duet.pairing with
  | some p =>
    match p.outcome, p.hello with
    | none, some (link, key, epoch, pair) =>
      if !mayPair d then d
      else if confirmOk link p h digest ∧ fit 32 digest = pairDigest d then joinDuet d p link key epoch pair
      else refusePair d p 3
    | _, _ => d
  | none => d

/-- CONFIRM_RX (R566-R568). -/
def execConfirmRx (h : DuetHdr) (digest : Bytes) (s : State) : Host.Outcome State Fault Refusal :=
  s.withDev (confirmIn s.dev h digest)

/-- UNPAIR ends a Duet; while a DUET_PAIR is pending it says that the peer has refused, for a reason that no message carries (R565,
log 94). -/
def unpairIn (d : Device) (h : DuetHdr) : Device :=
  match d.duet.pairing with
  | some p =>
    if d.duet.confirmed then receive d h .unpair
    else if p.outcome.isSome then d
    else setPairing d { p with outcome := some (8, 1 + Config.peerReason d.clock % 7) }
  | none => receive d h .unpair

/-- UNPAIR_RX (R565, R597). -/
def execUnpairRx (h : DuetHdr) (s : State) : Host.Outcome State Fault Refusal := s.withDev (unpairIn s.dev h)

/-- WAIT_S has passed: no HELLO, or a peer that sent one and has not confirmed (log 17). -/
def pairTimeout (d : Device) : Device :=
  match d.duet.pairing with
  | some p =>
    if p.outcome.isSome then d
    else endPairing (elapseTo d (p.started + p.waitS * 1000 * msTicks)) p (if p.hello.isSome then 8 else 1)
  | none => d

/-- PAIR_WAIT_TIMEOUT (R565). -/
def execPairWaitTimeout (s : State) : Host.Outcome State Fault Refusal := s.withDev (pairTimeout s.dev)

def pairResult (d : Device) (reason theirs : Nat) : Bytes :=
  leBytes 1 (if reason = 0 then d.duet.role.code else 0) ++ leBytes 1 reason ++ leBytes 1 theirs ++ zeros 1
    ++ leBytes 4 d.duet.epoch.toNat ++ leBytes 4 (d.duet.pairMember.getD 0)

/-- Pairing has ended either way: its record and its completion. -/
def pairDone (d : Device) : Device :=
  match d.duet.pairing with
  | some p =>
    match p.outcome with
    | some (reason, theirs) =>
      let d := setDuet d { d.duet with pairing := none }
      let d := if reason = 0 then
          emit d .duet 0x01 (leBytes 1 d.duet.role.code ++ leBytes 4 d.duet.epoch.toNat ++ leBytes 4 p.peer
            ++ leBytes 4 (d.duet.pairMember.getD 0))
        else emit d .duet 0x02 (leBytes 1 reason ++ leBytes 1 theirs ++ leBytes 4 p.peer)
      finish d p.origin .ok (pairResult d reason theirs)
    | none => d
  | none => d

/-- DUET_PAIR_DONE (R565). -/
def execDuetPairDone (s : State) : Host.Outcome State Fault Refusal := s.withDev (pairDone s.dev)

/-! ## DUET_SWITCHOVER (R596) -/

def switchoverOwn (desc : Bytes) : List (Nat × Bool) := zeroFrom desc 20 63

def switchoverBody (o : Origin) (_desc _buf : Bytes) (d : Device) : Verdict :=
  if d.duet.role ≠ .active ∨ !peerPresent d then fail d .roleStale
  else if d.duet.peerRole ≠ .standby ∨ bits d.duet.peerHealth 31 29 ≠ 7 ∨ d.duet.disagree.isSome
      ∨ d.duet.switching.isSome then fail d .busyReferenced
  else
    let e := d.duet.epoch + 1#32
    let d := sendDuet (enterInflight d o 0x0381) 0x13 true (leBytes 4 e.toNat)
    .accept (setDuet d { d.duet with switching := some { origin := o, epoch := e, sent := d.clock } })

/-- DUET_SWITCHOVER (R596): SWITCH is sent. -/
def execDuetSwitchover (r : Fin 64) (s : State) : Host.Outcome State Fault Refusal :=
  s.withDev (runCommand 0x0381 r anyRight switchoverOwn switchoverBody [] s.dev)

/-- SWITCH_ACK_TIMEOUT (R596). -/
def switchTimeout (d : Device) : Device :=
  match d.duet.switching with
  | some x =>
    if x.acked then d
    else
      let d := elapseTo d (x.sent + 2 * msTicks)
      finish (setDuet d { d.duet with switching := none }) x.origin .busyReferenced (zeros 16)
  | none => d

def execSwitchAckTimeout (s : State) : Host.Outcome State Fault Refusal := s.withDev (switchTimeout s.dev)

/-- The peer has asserted FAILOVER_OUT_N: an acknowledged DUET_SWITCHOVER commits. -/
def switchDone (d : Device) : Device :=
  match d.duet.switching with
  | some x =>
    if x.acked then
      finish (setDuet d { d.duet with switching := none }) x.origin .ok (leBytes 4 x.epoch.toNat)
    else d
  | none => d

/-! ## DUET_UNPAIR (R597) -/

def unpairBody (_ : Origin) (_desc _buf : Bytes) (d : Device) : Verdict :=
  if d.duet.role = .solo then fail d .roleStale
  else .done (unpair (sendDuet d 0x14 false []) true) (zeros 16) none

/-- DUET_UNPAIR (R597). -/
def execDuetUnpair (r : Fin 64) (s : State) : Host.Outcome State Fault Refusal :=
  s.withDev (runCommand 0x0382 r anyRight switchoverOwn unpairBody [] s.dev)

/-! ## The pins (R558-R561, R588, R591) -/

/-- The style takes part in FAILOVER signalling. -/
def styled (d : Device) : Bool := usesDuetLink d.boot.profile

/-- The lengthening of a restarted hold-off (R561), in ns. -/
def holdLengthening (d : Device) (f : Fuses) : Device × Nat :=
  if drbgOk d then (drbgRequest d 4, beNat (drbgBytes d 4) % (10 ^ 7 + 1))
  else (d, f.dieId.toNat % 11 * 10 ^ 6)

/-- FAILOVER_IN_N falls: a SOLO member that asserted within the last 100 µs mutes and restarts its hold-off; an
acknowledged switchover commits. -/
def pinFall (d : Device) (f : Fuses) : Device :=
  let d := setDuet d { d.duet with pinInLow := true }
  if d.duet.role = .solo ∧ styled d ∧ d.duet.pinOut ∧ d.clock ≤ d.duet.assertedAt + 100 * usTicks then
    let r := holdLengthening d f
    let d := setPin r.1 false
    setDuet d { d.duet with holdExtra := r.2, holdStart := some d.clock }
  else switchDone d

/-- FAILOVER_IN_FALL (R561, R596). -/
def execFailoverInFall (s : State) : Host.Outcome State Fault Refusal := s.withDev (pinFall s.dev s.fuses)

/-- FAILOVER_IN_N goes high: a hold-off may start, a takeover may assert, and a standby that has lost the heartbeat within
the last 1 ms takes over. -/
def pinRise (d : Device) : Device :=
  let d := setDuet d { d.duet with pinInLow := false, pinInHighSince := d.clock }
  if d.duet.takeover.isSome then finishTakeover d
  else match d.duet.lossAt with
    | some t => if d.duet.role = .standby ∧ d.clock ≤ t + msTicks then takeOverNext d 2 0 else d
    | none => d

/-- FAILOVER_IN_RISE (R561, R588, R591). -/
def execFailoverInRise (s : State) : Host.Outcome State Fault Refusal := s.withDev (pinRise s.dev)

/-- FAILOVER_IN_HIGH (R588): high for 50 µs. -/
def pinHigh (d : Device) : Device :=
  if d.duet.role = .standby ∧ !d.duet.pinInLow then
    takeOverNext (elapseTo d (d.duet.pinInHighSince + 50 * usTicks)) 1 0
  else d

def execFailoverInHigh (s : State) : Host.Outcome State Fault Refusal := s.withDev (pinHigh s.dev)

/-- Nothing keeps a SOLO member from transmitting. -/
def mayTransmit (d : Device) : Bool :=
  trafficMode d && d.boot.ended && !d.tmp.halted && !d.pwr.holding && !d.tmp.pwrfail && d.tmp.mainPower

/-- The clock at which a hold-off that began with the later of its conditions ends. -/
def holdoffEnd (d : Device) : Nat :=
  let start := max (max (d.glb.bringUpEnds.getD 0) d.duet.pinInHighSince) (d.duet.holdStart.getD 0)
  start + (if bit (reg d 0x200000) 29 then 10 else 40) * msTicks + d.duet.holdExtra / 2

/-- HOLDOFF_EXPIRY (R561): the member asserts its pin and transmits. -/
def holdoff (d : Device) : Device :=
  if d.duet.role = .solo ∧ styled d ∧ mayTransmit d ∧ d.glb.bringUpEnds.isSome ∧ !d.duet.pinOut ∧ !d.duet.pinInLow then
    let e := elapseTo d (holdoffEnd d)
    if dpReady e then setPin (setDuet e { e.duet with holdExtra := 0 }) true else d
  else d

def execHoldoffExpiry (s : State) : Host.Outcome State Fault Refusal := s.withDev (holdoff s.dev)

/-! ## The duet link's bring-up (R739-R741) -/

def laneEvent (d : Device) : Device :=
  emit d .lane 0x04 (leBytes 1 d.lane.dlState ++ leBytes 1 d.lane.dlLocked.toNat)

/-- DL_STATE (R739): a stage completes. Stage 3 needs block lock on all four data lanes; a pending HELLO leaves when the
link becomes active. -/
def dlAdvance (d : Device) (locked : BitVec 4) : Device :=
  let d := { d with lane := { d.lane with dlLocked := locked } }
  let n := d.lane.dlState
  if n = 0 ∨ n = 5 ∨ (n ≥ 3 ∧ locked ≠ 0xF#4) then d
  else
    let d := laneEvent { d with lane := { d.lane with dlState := n + 1, dlForwarded := n + 1 == 5 } }
    if n = 4 then sendHello d else d

def execDlState (locked : BitVec 4) (s : State) : Host.Outcome State Fault Refusal := s.withDev (dlAdvance s.dev locked)

/-- DL_DETECT_RETRY (R739): termination is sensed again. -/
def dlDetect (d : Device) (present : Bool) : Device :=
  if d.lane.dlState = 1 ∧ present then dlAdvance d d.lane.dlLocked else d

def execDlDetectRetry (present : Bool) (s : State) : Host.Outcome State Fault Refusal := s.withDev (dlDetect s.dev present)

/-- DL_LINK_DOWN (R741): bring-up starts again, and heartbeat loss is declared at once (R573). -/
def dlDown (d : Device) : Device :=
  if d.lane.dlState ≤ 1 then d
  else
    let up := d.lane.dlState == 5
    let d := { d with lane := { d.lane with dlState := 1, dlForwarded := false, dlLocked := 0#4 }
                      duet := { d.duet with early := none } }
    if up then declareLoss (laneEvent (count d (devCtr2 2))) else laneEvent d

def execDlLinkDown (s : State) : Host.Outcome State Fault Refusal := s.withDev (dlDown s.dev)

/-- DL_CLOCK_LOSS (R740). -/
def clockLoss (d : Device) : Device :=
  if d.lane.dlState = 5 ∧ d.lane.dlForwarded then
    emit (count { d with lane := { d.lane with dlForwarded := false } } (unitCtr 18 0)) .lane 0x05 [0#8]
  else d

def execDlClockLoss (s : State) : Host.Outcome State Fault Refusal := s.withDev (clockLoss s.dev)

/-- DL_CLOCK_RETURN (R740): 1 ms of clean clock. -/
def clockReturn (d : Device) : Device :=
  if d.lane.dlState = 5 ∧ !d.lane.dlForwarded then
    emit { d with lane := { d.lane with dlForwarded := true } } .lane 0x05 [1#8]
  else d

def execDlClockReturn (s : State) : Host.Outcome State Fault Refusal := s.withDev (clockReturn s.dev)

/-! ## Self-test and the health word (R598, R599) -/

/-- The next press of the self-test cycle takes its proof run; with the last one the cycle is complete. -/
def selfTest (d : Device) (found : ProofFindings) : Device :=
  if d.duet.role ≠ .standby then d
  else
    let m := d.duet.testPress.getD 0
    let first := m == 0
    let bad := pressIn d m && found.badPresses.any (fun b => b.val == m)
    let d := if bad then pressOut d m 0 else d
    let t := scrubTables d found
    let k := proofSlots t.1 found
    let failed := (if first then false else d.duet.testFailed) || bad || t.2 != 3 || !k.2
    let last := decide (m + 1 ≥ pressCount d)
    setDuet k.1 { k.1.duet with
      testPress := some (if last then 0 else m + 1), testFailed := failed
      cycles := if last then k.1.duet.cycles + 1 else k.1.duet.cycles
      lastCycleOk := if last then !failed else k.1.duet.lastCycleOk }

/-- SELFTEST_STEP (R598): every 400 ms, with what the step finds. -/
def execSelftestStep (found : ProofFindings) (s : State) : Host.Outcome State Fault Refusal :=
  s.withDev (selfTest s.dev found)

def laneGood (d : Device) (n : Nat) : Bool :=
  !(laneOf d n).marginLow && (if n < 128 then (laneOf d n).cdr else d.lane.dlState == 5)

/-- No quarantine entry and no poisoned SA context or key record. -/
def memGood (d : Device) : Bool := d.mem.quar.isEmpty && d.mem.rootQuar.isEmpty && d.mem.poison.all (fun l => 0xC0000 ≤ l)

def selftestGood (d : Device) : Bool :=
  if d.duet.role = .standby then d.duet.lastCycleOk
  else d.duet.faultAt == 0 || decide (d.duet.faultAt + 10000 * msTicks < d.clock + 1)

/-- Table 13-12. -/
def healthWord (d : Device) : W32 :=
  let tj := ((d.pwr.tj / 8 + 64).toNat)
  flagAt 31 (selftestGood d) ||| flagAt 30 (((List.range 133).filter (laneUsed d)).all (laneGood d)) ||| flagAt 29 (memGood d)
    ||| place 28 24 (pressesIn d) ||| place 23 16 (min 255 tj) ||| place 15 8 (d.duet.cycles % 256)
    ||| place 1 0 d.duet.role.code

/-- HEALTH_WORD_UPDATE (R599). -/
def updateHealth (d : Device) : Device :=
  let old := d.duet.ownHealth
  let new := healthWord d
  healthChange (setDuet d { d.duet with ownHealth := new }) old new

def execHealthWordUpdate (s : State) : Host.Outcome State Fault Refusal := s.withDev (updateHealth s.dev)

end Sys2Proof.Machine
end

