-- ==== Sys2Proof/Machine/Restart.lean ====
section
/-!
DEFINITION. PROFILE_SELECT, the warm restart of the data path (R22-R28, R626, R696, R699-R702), and the application of a
revocation update (R517).
-/
namespace Sys2Proof.Machine

/-! ## What survives (R25, R28, R700) -/

/-- A port that the new profile holds under the same number, on the same lanes, with the same rate and role. -/
def samePort (old new : Option PortCfg) : Bool :=
  match old, new with
  | some a, some b => a.firstLane == b.firstLane && a.lanes == b.lanes && typeRate a.type == typeRate b.type && a.line == b.line
  | _, _ => false

def newGroup (p : Profile) (c : PortCfg) : Nat := (p.groups[c.firstLane / 16]?).getD 0

/-- Objects of port `n` survive: its port does, its new personality is one of `ps` and the new mode carries traffic. -/
def survives (d : Device) (new : Profile) (ps : List Nat) (n : Nat) : Bool :=
  let x := Tbl.get? new.ports n
  samePort (portCfg d n) x && new.mode != .provision && new.mode != .maintain
    && (match x with | some c => ps.contains (newGroup new c) | none => false)

/-- MAINTAIN is left: lanes resume bring-up from stage 1 (R745). -/
def leavesMaintain (d : Device) (new : Profile) : Bool := d.glb.mode == .maintain && new.mode != .maintain

/-- The port's lanes keep running: it keeps its number, its lanes and its type, and MAINTAIN is not left. -/
def keepsLink (d : Device) (new : Profile) (n : Nat) : Bool :=
  !leavesMaintain d new && match portCfg d n, Tbl.get? new.ports n with
  | some a, some b => a.firstLane == b.firstLane && a.type == b.type
  | _, _ => false

/-! ## Erasing what does not survive (R26) -/

def scSas (d : Device) (c : Nat) : List Nat := ((d.ms.sas.map Prod.fst).filter (fun i => i / 4 == c))

def dropSc (d : Device) (c : Nat) : Device :=
  let l := scSas d c
  let d := removeSc (l.foldl eraseSa d) c
  if l.isEmpty then d else emit d .key 0x03 ([0#8] ++ leBytes 2 c)

/-- The SecYs of lost ports go with their SCs and SAs. -/
def dropSecys (d : Device) (new : Profile) : Device :=
  let gone := (d.ms.secys.filter (fun e => !survives d new [1, 2] e.2.port)).map Prod.fst
  let scs := (d.ms.scs.filter (fun e => gone.contains e.2.secy)).map Prod.fst
  let d := scs.foldl dropSc d
  { d with ms := { d.ms with secys := Tbl.keep d.ms.secys (fun k _ => !gone.contains k) } }

def dropAssocs (d : Device) (new : Profile) : Device :=
  let gone := (d.kn.assocs.filter (fun e => !survives d new [3, 4] e.2.port)).map Prod.fst
  gone.foldl (fun d a => emit (removeAssoc d a) .key 0x03 ([1#8] ++ leBytes 2 a)) d

/-- The superframe in progress is completed as AIS; a pending turn whose announcement has not begun is cancelled, one whose
announcement has begun is completed (R28, R700). -/
def restartAssoc (d : Device) (a : Nat) : Device :=
  match assoc? d a with
  | some x =>
    let y := { x with sfn := min (2 ^ 64 - 1) (x.sfn + 1), began := d.clock }
    match x.turn with
    | some s => if x.sfn + 8 < s then setAssoc d a { y with turn := none } else turnSent (setAssoc d a y) a s y
    | none => setAssoc d a y
  | none => d

/-- A surviving transmit SC is disarmed where its armed SA is gone (R28). -/
def disarmGone (d : Device) : Device :=
  let f := fun (c : Nat) (x : Sc) => match x.armed with
    | some an => if Tbl.has d.ms.sas (4 * c + an) then x else { x with armed := none }
    | none => x
  { d with ms := { d.ms with scs := Tbl.mapVals d.ms.scs f } }

/-- What was waiting for frames in flight ends with them: SA_ENABLE_TX, SA_DELETE, KN_ASSOC_DEL, TSI_SWITCH. -/
def endWaits (d : Device) : Device :=
  let d := { d with ms := { d.ms with turns := [], holds := [], intents := [] } }
  let d := d.ms.switches.foldl (fun d s => commitSwitch d s.sc) d
  let d := d.ms.deletions.foldl finishDelete d
  let d := (d.kn.assocs.map Prod.fst).foldl assocDelDone d
  match d.frm.switch with
  | some x => finishSwitch d x
  | none => d

/-! ## The new profile -/

/-- Responses and filters are replaced; a filter whose N and W change starts anew (R626). A raised source keeps the event
that its alarm clears by. -/
def replaceSensors (d : Device) (new : Profile) : Device :=
  let same := fun (s : Nat) =>
    let a := sensor d s
    let b := (new.sensors[s]?).getD (defaultSensor s)
    a.n == b.n && a.w == b.w
  let reset := fun (s : Nat) (x : TSource) =>
    if same s then x else { x with events := if x.raised then x.events.take 1 else [] }
  { d with tmp := { d.tmp with sensors := new.sensors, thresh := new.thresh, sources := Tbl.mapVals d.tmp.sources reset } }

/-- Framer state of a port that keeps running stays; slot indices count only where they keep their port. A port that starts
anew stands under LOS and has accepted no trace (R292). -/
def restartFramer (d : Device) (new : Profile) : Frm :=
  let keep := keepsLink d new
  let e := { d with boot := { d.boot with profile := new } }
  let slotKept := fun (i : Nat) => match slotPort d i with
    | some p => keep p && slotBase d p == slotBase e p
    | none => false
  let edge := fun (k : Nat) => if k < 2 ^ 14 then keep (k % 128) else slotKept ((k - 2 ^ 14) / 64)
  let traceKept := fun (k : Nat) => if k / 16384 = 1 then slotKept (k % 16384) else keep (k % 16384)
  let overhead := fun (k : Nat) => if k < 128 then keep k else if k < 16384 then slotKept (k - 128) else keep (k - 16384)
  { d.frm with
    later := []
    traces := Tbl.mapVals d.frm.traces (fun k x => if traceKept k then x else { x with accepted := none, last := [], run := 0 })
    streams := Tbl.keep d.frm.streams (fun k _ => keep (k % 128))
    defects := Tbl.keep d.frm.defects (fun k _ => keep k)
    portLabel := Tbl.keep d.frm.portLabel (fun k _ => keep k)
    skews := Tbl.keep d.frm.skews (fun k _ => keep k)
    deskew := Tbl.keep d.frm.deskew (fun k _ => keep k)
    uncorrAt := Tbl.keep d.frm.uncorrAt (fun k _ => keep k)
    fecOut := Tbl.keep d.frm.fecOut (fun k _ => keep k)
    sendBack := Tbl.keep d.frm.sendBack (fun k _ => overhead k)
    bips := Tbl.keep d.frm.bips (fun k _ => overhead k)
    kbytes := Tbl.keep d.frm.kbytes (fun k _ => keep k)
    path := Tbl.keep d.frm.path (fun k _ => slotKept k)
    structs := Tbl.keep d.frm.structs (fun k _ => slotKept k)
    pathLabel := Tbl.keep d.frm.pathLabel (fun k _ => slotKept k)
    rises := Tbl.keep d.frm.rises (fun k _ => edge k)
    falls := Tbl.keep d.frm.falls (fun k _ => edge k) }

/-- Lanes of ports that keep running, and of a duet link that both profiles use, keep their state; every other used lane
starts its bring-up (R700 step 4). -/
def restartLanes (d : Device) (new : Profile) : Lanes :=
  let on := usesDuetLink new
  let duet := usesDuetLink d.boot.profile && on
  let laneKept := fun (n : Nat) =>
    if n < 128 then (match laneOwner d n with | some p => keepsLink d new p | none => false) else duet
  { d.lane with
    lanes := Tbl.keep d.lane.lanes (fun n _ => laneKept n)
    ports := Tbl.keep d.lane.ports (fun p _ => keepsLink d new p)
    dlState := if !on then 0 else if duet then d.lane.dlState else 1
    dlForwarded := duet && d.lane.dlForwarded
    dlLocked := if duet then d.lane.dlLocked else 0#4 }

/-- The tables of forwarding and the Galley take their reset state (R397, R440). -/
def restartTables (d : Device) : Device :=
  { d with cls := { sci := d.cls.sci, evicted := d.cls.evicted, failed := d.cls.failed, learned := d.cls.learned }
           gal := {} }

/-- Lane groups whose PLL stays locked: used before and after. -/
def pllKept (new : Profile) (locked : BitVec 8) : BitVec 8 :=
  locked &&& BitVec.ofNat 8 ((List.range 8).foldl (fun m g => if (new.groups[g]?).getD 0 = 0 then m else m + 2 ^ g) 0)

/-- Put the new profile in place of the old one. A data path that has left idle (R39) does not return to it: a port that
keeps its lanes carries traffic from the end of the restart, and a port on a lane group that is newly used has no link before
that group's PLL has locked (R22). -/
def installProfile (d : Device) (i : Nat) (new : Profile) : Device :=
  let lane := restartLanes d new
  let frm := restartFramer d new
  let newStyle := style d == 0 && new.style != 0
  let d := replaceSensors d new
  let d := { d with lane := lane, frm := frm
                    glb := { d.glb with mode := new.mode, profileIdx := i, duetPll := usesDuetLink new
                                        groupPll := pllKept new d.glb.groupPll }
                    boot := { d.boot with profile := new, profileOk := true } }
  let d := if newStyle then setPin d false else d
  let d := if new.mode = .maintain then d else endTests d
  takeBudget d

/-- The warm restart begins (R700 step 1): RESTART is set, and traffic stops. -/
def beginRestart (d : Device) (o : Origin) (i : Nat) (new : Profile) (us : Nat) : Device :=
  let d := endWaits (stopTraffic d)
  let x : Restart := { origin := o, index := i, profile := new, us := us, ends := d.clock + us * usTicks }
  { d with prs := { d.prs with staged := [] }, boot := { d.boot with restart := some x } }

/-- The ports of the new profile: TIM without an accepted trace, connections and consequent actions (R288, R294, R304). -/
def refreshLine (d : Device) : Device :=
  settleAll (checkSizes ((d.frm.traces.map Prod.fst).foldl (fun d k => evalTim d (k / 16384) (k % 16384)) d))

/-- The warm restart ends (R700 steps 2 to 5), and PROFILE_SELECT completes. -/
def endRestart (d : Device) (x : Restart) : Device :=
  let oldIdx := d.glb.profileIdx
  let d := endWaits { d with boot := { d.boot with restart := none } }
  let d := disarmGone (dropAssocs (dropSecys d x.profile) x.profile)
  let d := (d.kn.assocs.map Prod.fst).foldl restartAssoc d
  let d := refreshLine (installProfile (restartTables d) x.index x.profile)
  let d := wakePath { d with glb := { d.glb with bringUpEnds := some d.clock } }
  let d := knCapacity (settlePin (flAgain d))
  let d := emit d .boot 0x08 (leBytes 1 oldIdx ++ leBytes 1 x.index ++ leBytes 1 d.glb.mode.code ++ leBytes 4 x.us)
  finish d x.origin .ok (leBytes 1 d.glb.mode.code ++ leBytes 1 x.index ++ zeros 2 ++ leBytes 4 x.us)

/-- A restart whose time has come ends. -/
def restartTick (d : Device) : Device :=
  match d.boot.restart with
  | some x => if x.ends ≤ d.clock then endRestart d x else d
  | none => d

/-- Nothing arrives for one 2 ns tick. -/
def idleTick (d : Device) : Device := flushEdges (settleOutputs (restartTick (elapse d 1)))

/-- MODE_DENIED under R23, R24 and R696; HALT and HOLD are judged before. -/
def selectDenied (d : Device) (img : Option Bytes) : Bool :=
  d.duet.role != .solo || (match img with
    | some b => (!d.boot.enrolled && profMode b != 0 && profMode b != 6) || (d.boot.suppSlot == 2 && profMode b != 0)
    | none => false)

def selectBody (f : Fuses) (us : Nat) (o : Origin) (desc _buf : Bytes) (d : Device) : Verdict :=
  let i := leField desc 20 1
  let img := (Tbl.get? d.boot.flash.profiles i).map (fun g => g.image)
  if selectDenied d img then fail d .modeDenied
  else match img with
    | none => failAt d .badIndex 20
    | some b =>
      match profileCheck d f b with
      | some (code, off) => .fail (profileRejected d i code off 1) .badField (imageResult code off)
      | none =>
        if d.boot.restart.isSome then .wait
        else .accept (restartTick (beginRestart (enterInflight d o 0x0038) o i (readProfile b) us))

/-- PROFILE_SELECT (R699, R700): the restart takes `restartUs`, during which RESTART is 1, and ends at the tick that
completes them; one of 0 us ends at once. -/
def execProfileSelect (r : Fin 64) (restartUs : Fin 300001) (s : State) : Host.Outcome State Fault Refusal :=
  s.withDev (runCommand 0x0038 r anyRight profInstallOwn (selectBody s.fuses restartUs) [] s.dev)

/-! ## REVOCATION_UPDATE, application (R515-R517) -/

def insertNat (n : Nat) : List Nat → List Nat
  | [] => [n]
  | m :: l => if n < m then n :: m :: l else if n = m then m :: l else m :: insertNat n l

/-- The entries of an update, in order: member number and whether it is revoked. -/
def updateEntries (buf : Bytes) : List (Nat × Bool) :=
  (List.range (leField buf 2 2)).map (fun i =>
    let e := leField buf (16 + 4 * i) 4
    (e % 2 ^ 18, e / 2 ^ 31 % 2 == 1))

def applyEntries (l : List Nat) (es : List (Nat × Bool)) : List Nat :=
  es.foldl (fun l e => if e.2 then insertNat e.1 l else l.filter (· != e.1)) l

/-- Two sealed copies, written alternately: the newest one before stays. -/
def sealRevocation (d : Device) : Device :=
  match d.key.tree with
  | some t =>
    let c : RevCopy := { seq := d.svc.revSeq, members := d.svc.revoked, tag := revTag t d.svc.revSeq d.svc.revoked }
    let old := d.boot.flash.revocation.drop (d.boot.flash.revocation.length - 1)
    { d with boot := { d.boot with flash := { d.boot.flash with revocation := old ++ [c] } } }
  | none => d

/-- The update of a finished job passes: bitmap, associations out of service, flash, completion. -/
def applyUpdate (d : Device) (j : Job) : Device :=
  let old := d.svc.revoked
  let new := applyEntries old (updateEntries j.buf)
  let seq := leField j.buf 8 8
  let added := new.filter (fun m => !old.contains m)
  let restored := old.filter (fun m => !new.contains m)
  let out := (d.kn.assocs.filter (fun e => added.contains e.2.peer && !e.2.oos)).map Prod.fst
  let d := { d with svc := { d.svc with revoked := new, revSeq := seq } }
  let d := sealRevocation (out.foldl (fun d a => assocOut d a 0) d)
  let d := emit (count d (devCtr 37)) .service 0x03
    (leBytes 8 seq ++ leBytes 4 added.length ++ leBytes 4 restored.length ++ leBytes 4 out.length)
  finish d j.origin .ok (leBytes 4 added.length ++ leBytes 4 out.length)

/-- The running update on modular engine `e` ends after the 96 µs of a P-256 verification. SEQ is judged again, against
updates that were applied since its acceptance. -/
def revocationDone (d : Device) (e : Nat) : Device :=
  match Tbl.get? d.svc.pkRun e with
  | some j =>
    if j.opcode = 0x0304 then
      let d := count (leavePk (elapseTo d (j.started + 96 * usTicks)) e) (unitCtr 9 e)
      let n := j.buf.length - 64
      match authority d with
      | some a =>
        if leField j.buf 8 8 ≤ d.svc.revSeq then finish d j.origin .badField (leBytes 2 8)
        else if verifyP256 a (j.buf.take n) (slice j.buf n 64) then applyUpdate d j
        else pkReject d j
      | none => pkReject d j
    else d
  | none => d

/-- REVOCATION_APPLIED (R517). -/
def execRevocationApplied (e : Fin 2) (s : State) : Host.Outcome State Fault Refusal := s.withDev (revocationDone s.dev e)

end Sys2Proof.Machine
end

