-- ==== Sys2Proof/Machine/Flags.lean ====
section
/-!
DEFINITION. Every register of BAR0 as it reads: the status fields the device computes from its state, beside the stored
bits (R8, R10, R53-R56, R99 and the register tables of the chapters).
-/
namespace Sys2Proof.Machine

def nat1 (b : Bool) : Nat := if b then 1 else 0

/-- Index of the element of an array of registers at `off`. -/
def elem? (base stride n off : Nat) : Option Nat :=
  if base ≤ off ∧ (off - base) % stride = 0 ∧ (off - base) / stride < n then some ((off - base) / stride) else none

/-! ## GLB (R53-R56) -/

/-- GLB_STATE (R54). -/
def glbState (d : Device) : W32 :=
  place 31 16 d.duet.epoch.toNat ||| flagAt 11 d.tmp.batt.latch ||| flagAt 10 d.glb.sealed ||| flagAt 9 d.boot.restart.isSome
    ||| flagAt 8 (dpReady d) ||| place 7 6 d.glb.profileIdx ||| place 5 4 d.duet.role.code ||| place 2 0 d.glb.mode.code

/-- GLB_GROUP_MODE (R55). -/
def glbGroupMode (d : Device) : W32 :=
  (List.range 8).foldl (fun (w : W32) g => w ||| place (4 * g + 3) (4 * g) (groupMode d g)) 0#32

/-- GLB_CLK_STATUS (R56). -/
def glbClkStatus (d : Device) : W32 :=
  flagAt 10 d.glb.duetPll ||| place 9 2 d.glb.groupPll.toNat ||| flagAt 1 d.glb.refclkOk ||| flagAt 0 d.glb.rootLock

def glbView (d : Device) (off : Nat) : W32 :=
  if off = 0x0 then w32 (glbId d.glb.part)
  else if off = 0x4 then glbState d
  else if off = 0x8 then glbGroupMode d
  else if off = 0xC then glbClkStatus d
  else 0#32

/-! ## HIF (R99) -/

def hifView (d : Device) (off : Nat) : W32 :=
  match elem? 0x10010 0x20 64 off with
  | some n => place 31 16 (cmdRing d n).tail ||| place 15 0 (cmdRing d n).head
  | none =>
    match elem? 0x10810 0x20 64 off with
    | some m => place 31 16 (cqRing d m).head ||| place 15 0 (cqRing d m).write
    | none =>
      match elem? 0x11014 0x20 4 off with
      | some e => (evRing d e).lost
      | none =>
        match elem? 0x10014 0x20 64 off with
        | some n => cmdStatus d n
        | none =>
        if off = 0x11094 then d.hif.sample.lost
        else if off = 0x11304 then flagAt 8 d.hif.linkUp ||| place 7 4 d.hif.width ||| place 3 0 d.hif.speed
        else 0#32

/-! ## PWR, LANE and PORT (R766) -/

def pwrView (d : Device) (off : Nat) : W32 :=
  if off = 0x20000 then place 7 0 d.pwr.budget
  else if off = 0x20004 then flagAt 31 d.pwr.holding
  else if off = 0x20008 then
    place 31 29 d.pwr.step ||| flagAt 28 d.pwr.holding ||| flagAt 27 d.pwr.belowRequired ||| place 23 16 d.pwr.required
      ||| place 15 8 (demandW d) ||| place 7 0 d.pwr.limitPct
  else if off = 0x2000C then place 15 0 (d.pwr.tj % 65536).toNat
  else 0#32

/-- The registers of one lane at byte `k` of its block. -/
def laneRegs (d : Device) (n k : Nat) : W32 :=
  let x := laneOf d n
  if k = 0 then
    place 23 16 (laneRate d n) ||| flagAt 15 (laneUsed d n) ||| place 14 8 ((laneOwner d n).getD 0)
  else if k = 4 then flagAt 31 x.ltOwned
  else if k = 8 then place 11 8 x.peakUsed
  else if k = 12 then
    flagAt 31 x.signal ||| flagAt 30 x.cdr ||| flagAt 29 x.block
      ||| flagAt 28 (if trains d n then x.trained else laneUsed d n) ||| place 15 8 x.width ||| place 7 0 x.height
  else 0#32

def laneView (d : Device) (off : Nat) : W32 :=
  if 0x40000 ≤ off ∧ off < 0x60000 then laneRegs d ((off - 0x40000) / 0x400) (off % 0x400)
  else if 0x60000 ≤ off ∧ off < 0x61400 then laneRegs d (128 + (off - 0x60000) / 0x400) (off % 0x400)
  else if off = 0x70000 then flagAt 30 (Tbl.getD d.lane.squelched 0 false)
  else if off = 0x70004 then flagAt 30 (Tbl.getD d.lane.squelched 1 false)
  else if off = 0x70010 then
    place 31 29 d.lane.dlState ||| flagAt 28 d.lane.dlForwarded ||| place 27 24 d.lane.dlLocked.toNat
  else 0#32

def portView (d : Device) (off : Nat) : W32 :=
  match elem? 0x80004 8 128 off with
  | some p =>
    let x := portLink d p
    flagAt 31 x.up ||| flagAt 30 x.localFault ||| flagAt 29 x.remoteFault ||| flagAt 28 x.hiBer ||| flagAt 27 x.fecLock
      ||| flagAt 26 x.anDone ||| place 23 16 x.cause
  | none => 0#32

/-! ## FRM and TSI (R316, R356) -/

/-- FRM_TR_STATUS for the selected trace entry (Table 6-13). -/
def traceStatus (d : Device) : W32 :=
  let kind := selKind d
  let i := selIndex d
  let x := trace d kind i
  let path := if kind = 1 then pathDefects d i else 0#32
  let label := if kind = 1 then (Tbl.get? d.frm.pathLabel i).getD 0
    else if 2 ≤ kind then (Tbl.get? d.frm.portLabel i).getD 0 else 0
  flagAt 31 d.frm.trErr ||| flagAt 30 x.accepted.isSome ||| flagAt 29 (tim x) ||| flagAt 16 (bit path 8)
    ||| place 15 8 (bits path 7 0) ||| place 7 0 label

/-- Connection entry at PAGE and INDEX of TSI_RD_ADDR. -/
def tsiEntry (d : Device) : W32 :=
  let i := field d 0xE0004 13 0
  Tbl.getD (if bit (reg d 0xE0004) 16 then d.frm.page1 else d.frm.page0) i 0#32

def frmView (d : Device) (off : Nat) : W32 :=
  match elem? 0xC0004 0x40 128 off with
  | some p => place 16 0 (portDefects d p).toNat
  | none =>
    match elem? 0xC0010 0x40 128 off with
    | some p => place 15 0 (Tbl.getD d.frm.kbytes p 0)
    | none =>
      match elem? 0xC4080 4 16 off with
      | some i => w32 (leField ((trace d (selKind d) (selIndex d)).accepted.getD []) (4 * i) 4)
      | none =>
        if off = 0xC4010 then traceStatus d
        else if off = 0xC8000 then flagAt 31 d.boot.enrolled ||| place 17 0 (ownMember d)
        else if off = 0xC8008 then d.kn.view.status
        else if off = 0xC800C then w32 (d.kn.view.sfn.toNat % 2 ^ 32)
        else if off = 0xC8010 then w32 (d.kn.view.sfn.toNat / 2 ^ 32)
        else if off = 0xC8014 then d.kn.view.fails
        else 0#32

def tsiView (d : Device) (off : Nat) : W32 :=
  match elem? 0xE0100 4 128 off with
  | some p => if isSdh d p then place 29 16 (slotBase d p) ||| place 7 0 (portSlots d p) else 0#32
  | none =>
    if off = 0xE0000 then
      flagAt 31 (switchPending d) ||| flagAt 16 d.frm.active ||| place 13 0 (slotTotal d)
    else if off = 0xE0008 then tsiEntry d
    else 0#32

/-! ## CLS, PRS and GAL (R400, R159, R270, R441) -/

def clsView (d : Device) (off : Nat) : W32 :=
  if off = 0x101008 then
    place 31 24 (min 255 (d.cls.tcam.filter (fun e => e.2.disabled)).length) ||| place 16 0 (tcamFree d)
  else if off = 0x10100C then place 15 0 d.cls.epoch
  else if off = 0x101010 then place 17 0 d.cls.mac.length
  else if off = 0x101014 then place 16 0 d.cls.sci.length
  else 0#32

def prsView (d : Device) (off : Nat) : W32 :=
  match elem? 0x140100 4 128 off with
  | some p =>
    if isEth d p then place 17 2 (fifoSize d p / 64) ||| place 1 0 (p % 4) else 0#32
  | none =>
    match elem? 0x140300 4 128 off with
    | some p => flagAt 30 (flActive d p)
    | none =>
      if off = 0x140004 then (List.range 24).foldl (fun (w : W32) m => w ||| flagAt m (pressIn d m)) 0#32
      else if off = 0x14000C then place 14 0 (16384 - d.prs.formes.length)
      else if off = 0x144004 then
        place 28 16 (d.ms.turns.length) ||| flagAt 12 d.ms.lastGroup.isSome ||| place 11 0 (d.ms.lastGroup.getD 0)
      else 0#32

def galView (d : Device) (off : Nat) : W32 :=
  match elem? 0x180500 4 128 off with
  | some p => flagAt 31 (linkUp d p) ||| flagAt 30 (galPort d p).holding ||| place 17 0 (portCells d p)
  | none =>
    if off = 0x180000 then place 31 30 d.boot.profile.family
    else if off = 0x180004 then place 31 28 (if 4 ≤ d.pwr.step then 7 else 15) ||| place 18 0 (galFree d)
    else if off = 0x180008 then place 13 0 (galFormes d).length
    else if off = 0x181004 then
      let q := field d 0x181000 13 0
      place 31 18 (queueOf d q).length ||| place 17 0 (queueCells d q)
    else 0#32

/-! ## KEY, SVC and MEM (R478, R520, R553) -/

def keyView (d : Device) (off : Nat) : W32 :=
  if off = 0x1C0000 then
    flagAt 31 d.key.tree.isSome ||| flagAt 30 d.key.identityNew
      ||| place 26 16 (d.key.slots.filter (fun e => e.2.state != 0)).length
      ||| place 10 0 (d.key.slots.filter (fun e => e.2.state == 2)).length
  else if off = 0x1C0008 then d.key.view.info
  else if off = 0x1C000C then d.key.view.gen
  else if off = 0x1C0010 then d.key.view.parent
  else if off = 0x1C0014 then d.key.view.parentGen
  else 0#32

def svcView (d : Device) (off : Nat) : W32 :=
  if off = 0x1D0004 then
    flagAt 31 (drbgOk d) ||| flagAt 30 d.svc.drbgStopped.isSome ||| place 29 28 (d.svc.drbgStopped.getD 0)
      ||| flagAt 24 (Tbl.has d.svc.symRun 0) ||| flagAt 25 (Tbl.has d.svc.symRun 1)
      ||| flagAt 26 (Tbl.has d.svc.pkRun 0) ||| flagAt 27 (Tbl.has d.svc.pkRun 1)
      ||| (List.range 8).foldl (fun (w : W32) k => w ||| flagAt (16 + k) (Tbl.has d.svc.curves k)) 0#32
      ||| place 15 7 d.svc.symQueue.length ||| place 6 0 (pkWaiting d)
  else if off = 0x1D0010 then w32 (d.svc.revSeq % 2 ^ 32)
  else if off = 0x1D0014 then w32 (d.svc.revSeq / 2 ^ 32)
  else if off = 0x1D0018 then flagAt 31 (d.svc.revoked.contains (field d 0x1D0018 17 0))
  else if off = 0x1D001C then place 18 0 d.svc.revoked.length
  else 0#32

/-- MEM_STATUS (Table 12-6). CAPACITY and ROOTS_USED are those of the fitted devices once a channel is trained. -/
def memStatus (d : Device) : W32 :=
  let known := d.mem.trained != 0#4
  flagAt 31 d.mem.ready ||| place 30 27 d.mem.trained.toNat ||| place 26 25 (if known then d.mem.density - 1 else 0)
    ||| place 24 20 (if d.mem.ready then rootsUsed d else 0) ||| place 19 11 d.mem.quar.length
    ||| place 10 0 d.mem.poison.length

def memView (d : Device) (off : Nat) : W32 :=
  match elem? 0x1E0010 4 4 off with
  | some c =>
    let t := d.mem.trained.getLsbD c
    flagAt 31 t ||| flagAt 30 (d.mem.hot.getLsbD c) ||| place 27 24 (if t then d.mem.density else 0)
      ||| place 15 0 (min 65535 (Tbl.getD (ceHours d).1 c 0))
  | none =>
    if off = 0x1E0004 then memStatus d
    else if off = 0x1E0008 then
      (List.range 16).foldl (fun (w : W32) r => w ||| flagAt r (d.mem.rootQuar.contains r)) 0#32
    else if off = 0x1E0024 then
      match d.mem.quar[field d 0x1E0020 7 0]? with
      | some q => flagAt 31 true ||| flagAt 30 q.rebuilding ||| place 29 27 q.level ||| place 23 0 q.node
      | none => 0#32
    else 0#32

/-! ## DUET and TMP (R600, R642) -/

/-- The duet link is active and CONFIRM has been exchanged. -/
def duetLinkUp (d : Device) : Bool := d.lane.dlState == 5 && d.duet.confirmed

/-- DUET_STATUS (Table 13-14). -/
def duetStatus (d : Device) : W32 :=
  place 31 30 d.duet.role.code ||| flagAt 29 (duetLinkUp d) ||| flagAt 28 (d.duet.role == .active && d.duet.peerLost)
    ||| flagAt 27 d.duet.pinInLow ||| flagAt 26 d.duet.pinOut ||| flagAt 25 (muted d)
    ||| flagAt 24 (Tbl.any d.duet.digests (fun _ x => x.anchored)) ||| flagAt 23 d.duet.disagree.isSome
    ||| place 22 16 d.duet.syncPct

def duetView (d : Device) (off : Nat) : W32 :=
  if off = 0x200000 then place 31 30 (style d)
  else if off = 0x200004 then duetStatus d
  else if off = 0x200008 then d.duet.epoch
  else if off = 0x20000C then flagAt 31 d.duet.pairMember.isSome ||| place 17 0 (d.duet.pairMember.getD 0)
  else if off = 0x200010 then flagAt 31 d.duet.peerMember.isSome ||| place 17 0 (d.duet.peerMember.getD 0)
  else if off = 0x200014 then d.duet.ownHealth
  else if off = 0x200018 then d.duet.peerHealth
  else 0#32

/-- Sources whose alarm is raised, one bit each. -/
def raisedMask (d : Device) : W32 :=
  (List.range 18).foldl (fun (w : W32) s => w ||| flagAt s (source d s).raised) 0#32

/-- TMP_STATUS (Table 14-6). -/
def tmpStatus (d : Device) : W32 :=
  flagAt 31 d.tmp.batt.latch ||| flagAt 30 d.tmp.halted ||| flagAt 29 d.tmp.eraseVerified ||| flagAt 28 d.tmp.batt.grant
    ||| flagAt 27 d.tmp.identity ||| flagAt 23 d.tmp.applied.isSome ||| place 22 21 (d.tmp.applied.getD 0)
    ||| raisedMask d

def tmpView (d : Device) (off : Nat) : W32 :=
  match elem? 0x210040 4 18 off with
  | some s => place 31 24 (sensor d s).n ||| place 23 0 (sensor d s).w
  | none =>
    match elem? 0x2100C4 4 4 off with
    | some q => place 15 0 (Tbl.getD d.tmp.magRead q 0)
    | none =>
      if off = 0x210000 then tmpStatus d
      else if off = 0x210008 then
        (List.range 16).foldl (fun (w : W32) s => w ||| place (2 * s + 1) (2 * s) (sensor d s).response) 0#32
      else if off = 0x21000C then place 1 0 (sensor d 16).response ||| place 3 2 (sensor d 17).response
      else if off = 0x2100A0 then
        flagAt 31 (decide (2200 ≤ d.tmp.vbat)) ||| flagAt 30 d.tmp.sigOk ||| place 28 21 d.tmp.batt.overflow
          ||| place 20 16 d.tmp.batt.log.length ||| place 15 0 d.tmp.vbat
      else if off = 0x2100A4 then
        (List.range 4).foldl (fun (w : W32) l => w ||| place (4 * l + 3) (4 * l) ((d.tmp.loops[l]?).getD 0)) 0#32
      else if off = 0x2100C0 then place 23 16 d.tmp.thresh
      else 0#32

/-! ## TIME, REC and BOOT (R676, R729, R703) -/

/-- A base value in the three registers of a snapshot or capture: seconds low, fraction and seconds high, nanoseconds. -/
def timeWord (v k : Nat) : W32 :=
  let sec := v / nsUnit / 10 ^ 9
  if k = 0 then w32 (sec % 2 ^ 32)
  else if k = 4 then place 31 16 (v / 2 ^ 48) ||| place 15 0 (sec / 2 ^ 32)
  else w32 (v / nsUnit % 10 ^ 9)

def timeView (d : Device) (off : Nat) : W32 :=
  if 0x220100 ≤ off ∧ off < 0x220200 then
    let b := (off - 0x220100) / 0x40
    let k := (off - 0x220100) % 0x40
    if k = 0x20 ∨ k = 0x24 ∨ k = 0x28 then timeWord (tbase d b).snap (k - 0x20)
    else if k = 0x2C then w32 (satOffset (tbase d b).lastOffset)
    else 0#32
  else
    match elem? 0x220818 0x20 8 off with
    | some u => flagAt 31 (trg d u).running ||| place 30 0 (min (2 ^ 31 - 1) (trg d u).fired)
    | none =>
      if 0x220900 ≤ off ∧ off < 0x220940 ∧ (off % 0x10 = 4 ∨ off % 0x10 = 8 ∨ off % 0x10 = 12) then
        timeWord (Tbl.getD d.time.cap ((off - 0x220900) / 0x10) {}).value (off % 0x10 - 4)
      else 0#32

/-- Reading REC_OPTIME_LO also latches the high part (REC_OPTIME_LO_READ); this is the value alone. -/
def recView (d : Device) (off : Nat) : W32 :=
  if off = 0x230000 then
    flagAt 31 d.rcd.journalReady ||| flagAt 30 d.rcd.opUnverified ||| place 18 0 (ringUsed d.rcd.ring)
  else if off = 0x230004 then d.rcd.powerCycles
  else if off = 0x230008 then w32 (opTimeUs d % 2 ^ 32)
  else if off = 0x23000C then d.rcd.opHiLatch
  else 0#32

/-- STEP of BOOT_STATUS: 8 once bring-up is over; LOCKED has none (R21, R695). -/
def bootStep (d : Device) : Nat :=
  match d.glb.bringUpEnds with
  | some t => if t ≤ d.clock then 8 else d.boot.step
  | none => if d.boot.ended && d.glb.mode == .locked then 8 else d.boot.step

/-- BOOT_STATUS (Table 16-11). -/
def bootStatus (d : Device) (f : Fuses) : W32 :=
  place 31 28 (bootStep d) ||| flagAt 26 f.field ||| flagAt 25 f.debugKill ||| flagAt 24 d.boot.enrolled
    ||| place 23 22 d.boot.suppSlot ||| flagAt 21 d.boot.aFailed ||| flagAt 20 d.boot.foreignImage
    ||| place 19 18 d.boot.pins ||| flagAt 17 d.boot.profileOk ||| place 15 12 d.boot.suppFail
    ||| place 11 4 d.boot.profileFail ||| place 1 0 d.boot.flash.size

def bootView (d : Device) (f : Fuses) (off : Nat) : W32 :=
  if off = 0x240000 then bootStatus d f
  else if off = 0x240004 then place 11 8 f.revoke.toNat ||| place 6 0 f.rollback
  else if off = 0x240008 then w32 d.boot.suppVersion
  else 0#32

/-! ## BAR0 -/

/-- The fields the device computes, by block (Table 2-1). -/
def statusView (d : Device) (f : Fuses) (off : Nat) : W32 :=
  if off < 0x10000 then glbView d off
  else if off < 0x20000 then hifView d off
  else if off < 0x40000 then pwrView d off
  else if off < 0x80000 then laneView d off
  else if off < 0xC0000 then portView d off
  else if off < 0xE0000 then frmView d off
  else if off < 0x100000 then tsiView d off
  else if off < 0x140000 then clsView d off
  else if off < 0x180000 then prsView d off
  else if off < 0x1C0000 then galView d off
  else if off < 0x1D0000 then keyView d off
  else if off < 0x1E0000 then svcView d off
  else if off < 0x200000 then memView d off
  else if off < 0x210000 then duetView d off
  else if off < 0x220000 then tmpView d off
  else if off < 0x230000 then timeView d off
  else if off < 0x240000 then recView d off
  else bootView d f off

/-- A 64-bit read of a counter: both halves of one instant, whatever the latch holds; 0 without COUNTER_ACCESS
(R68, R70). -/
def counterQuad (d : Device) (fn off : Nat) : W64 :=
  if counterAccess d fn then counter d ((off - 0x300000) / 8) else 0#64

/-- A counter as a 32-bit read gives it: 8 bytes each in the counter window (R68). A high half reads the latch of function `fn` while
that holds the counter, and the current high half otherwise (R69); 0 without COUNTER_ACCESS (R70). -/
def counterWord (d : Device) (fn off : Nat) : W32 :=
  let c := (off - 0x300000) / 8
  if !counterAccess d fn then 0#32
  else if off % 8 = 0 then w32 ((counter d c).toNat % 2 ^ 32)
  else
    let now := w32 ((counter d c).toNat / 2 ^ 32)
    match Tbl.get? d.hif.latch fn with
    | some (i, v) => if i = c then v else now
    | none => now

/-- A register of BAR0 as the physical function reads it. Unassigned offsets read 0 (R65). -/
def readReg (d : Device) (f : Fuses) (off : Nat) : W32 :=
  if 0x300000 ≤ off then counterWord d 0 off else reg d off ||| statusView d f off

/-! ## Seal (R66, R477) -/

/-- The offsets of the registers that hold an RWL field, ascending. -/
def rwlOffsets : List Nat :=
  sortNats ((regTable.filter (fun i => i.rwl != 0#32)).flatMap (fun i =>
    (List.range i.count).map (fun k => i.base + i.stride * k)))

/-- CONFIG_DIGEST: SHA-256 over every register with an RWL field, as it reads (Table 10-9). -/
def configDigest (d : Device) (f : Fuses) : Bytes :=
  fit 32 (Config.sha 32 (rwlOffsets.flatMap (fun off => leBytes 4 (readReg d f off).toNat)))

/-- GLB_SEAL: the key locks every RWL field, sets SEALED and takes the requested fixed-latency ports through the checks of
R156; any other value and a second seal have no effect. -/
def sealUp (d : Device) (f : Fuses) (val : W32) : Device :=
  if val = 0x5EA1#32 ∧ d.glb.sealed = false then
    flSeal { d with glb := { d.glb with sealed := true, configDigest := configDigest d f } }
  else d

/-- GLB_SEAL (R66). -/
def execGlbSeal (val : W32) (s : State) : Host.Outcome State Fault Refusal := s.withDev (sealUp s.dev s.fuses val)

end Sys2Proof.Machine
end

