-- ==== Sys2Proof/Machine/HostWrite.lean ====
section
/-!
DEFINITION. A write of a register of BAR0 by its offset (R8, R10, R64-R66, R100). A register whose write has an effect of
its own takes the same operation as the command of that name.
-/
namespace Sys2Proof.Machine

/-- A base register of a ring takes a write only while the ring's ENABLE is 0 (R100). -/
def writeRingBase (d : Device) (off : Nat) (enabled : Bool) (val : W32) : Device :=
  if enabled then d else plainWrite d off val

/-- The HIF block. -/
def writeHif (d : Device) (off : Nat) (val : W32) : Device :=
  let k := off % 0x20
  if off < 0x10800 then
    let n := (off - 0x10000) / 0x20
    if k = 0 ∨ k = 4 then writeRingBase d off (cmdEnabled d n) val
    else if k = 0xC then writeCmdCtrl d n val
    else if k = 8 then (let d := plainWrite d off val; seeFull d (cmdCq d n))
    else plainWrite d off val
  else if off < 0x11000 then
    let m := (off - 0x10800) / 0x20
    if k = 0 ∨ k = 4 then writeRingBase d off (cqEnabled d m) val
    else if k = 0xC then writeCqCtrl d m val
    else if k = 8 then seeSize (plainWrite (seeFull d m) off val) m
    else plainWrite d off val
  else if off < 0x110A0 then
    let e := (off - 0x11000) / 0x20
    if k = 0 ∨ k = 4 then writeRingBase d off (evEnabled d e) val
    else if k = 8 then (if e < 4 then writeEvCfg d e val else writeSampleCfg d val)
    else plainWrite d off val
  else plainWrite d off val

/-- The PWR, LANE and PORT blocks. -/
def writeLaneBlock (d : Device) (off : Nat) (val : W32) : Device :=
  let k := off % 0x400
  if off = 0x20000 then writeBudget d val
  else if off = 0x20004 then writePwrCfg d val
  else if 0x40000 ≤ off ∧ off < 0x61400 then
    let n := if off < 0x60000 then (off - 0x40000) / 0x400 else 128 + (off - 0x60000) / 0x400
    if k = 4 then writeTxeq d n val
    else if k = 8 then writeCtle d n val
    else plainWrite d off val
  else if off = 0x70000 then writeRclk d 0 val
  else if off = 0x70004 then writeRclk d 1 val
  else match elem? 0x80000 8 128 off with
    | some p => writeEthCfg d p val
    | none => plainWrite d off val

/-- FRM_CFG[p]: the defects that its fields decide follow at once. -/
def writeFrmCfg (d : Device) (p : Nat) (val : W32) : Device :=
  let d := plainWrite d (0xC0000 + 0x40 * p) val
  if isSdh d p || isOtn d p then settleLine (evalLabel d p) p else d

/-- The FRM block. -/
def writeFrm (d : Device) (off : Nat) (val : W32) : Device :=
  if off = 0xC4000 then selectTrace d val
  else if off = 0xC4004 then commitTrace d val
  else if off = 0xC8004 then selectAssoc d val
  else match elem? 0xC0000 0x40 128 off with
    | some p => writeFrmCfg d p val
    | none => plainWrite d off val

/-- TIME_CMD[b]: OP 1 steps the base, 2 offsets it (R650). -/
def writeTimeCmd (d : Device) (b : Nat) (val : W32) : Device :=
  if bits val 1 0 = 1 then cmdStep d b else if bits val 1 0 = 2 then cmdOffset d b else d

/-- The TIME block. While the agent holds a base, its frequency word takes no write (R652); while a trigger unit is enabled,
its START, PERIOD and WIDTH take none (R672). -/
def writeTime (d : Device) (off : Nat) (val : W32) : Device :=
  if off = 0x220000 then snapBases d val
  else if 0x220100 ≤ off ∧ off < 0x220200 then
    let b := (off - 0x220100) / 0x40
    let k := (off - 0x220100) % 0x40
    if k = 0 then writeBaseCtl d b val
    else if k = 4 then (if agentOn d b then hostIgnored d b else plainWrite d off val)
    else if k = 8 then writeFreqHi d b val
    else if k = 0x1C then writeTimeCmd d b val
    else plainWrite d off val
  else if 0x220800 ≤ off ∧ off < 0x220900 then
    let u := (off - 0x220800) / 0x20
    if off % 0x20 = 0 then writeTrgCtl d u val
    else if trgEnabled d u then d
    else plainWrite d off val
  else plainWrite d off val

/-- A write to BAR0 by the physical function. Unassigned offsets and the counter window take none (R65, R70). -/
def writeReg (d : Device) (f : Fuses) (off : Nat) (val : W32) : Device :=
  if off = 0x10 then sealUp d f val
  else if off < 0x10000 then d
  else if off < 0x20000 then writeHif d off val
  else if off < 0xC0000 then writeLaneBlock d off val
  else if off < 0xE0000 then writeFrm d off val
  else if off = 0x1C0004 then selectSlot d val
  else if off = 0x24000C then bootReset f d val (Config.startUp d.rcd.powerCycles.toNat d.clock)
  else if 0x220000 ≤ off ∧ off < 0x230000 then writeTime d off val
  else match elem? 0x142004 8 1024 off with
    | some n => writeThresh d n val
    | none => plainWrite d off val

/-- REGISTER_WRITE (R10, R64): a virtual function has no register that takes a write. -/
def execRegisterWrite (f : Fin 16) (off : BitVec 22) (val : W32) (s : State) : Host.Outcome State Fault Refusal :=
  s.withDev (if f.val = 0 then writeReg s.dev s.fuses off.toNat val else s.dev)

end Sys2Proof.Machine
end

