-- ==== Sys2Proof/Machine/Ptp.lean ====
section
/-!
DEFINITION. The PTP agent (R654-R658): what a message does to its base, the loss of Sync, and the messages it sends. The
best master clock algorithm and the offset arithmetic are those of IEEE 1588-2019: their outcomes are operands.
-/
namespace Sys2Proof.Machine

/-- The agent of the port's base runs and the port is one of its ports. -/
def agentPort (d : Device) (p : Nat) : Bool :=
  isEth d p && ptpMode d p == 2 && agentOn d (ptpBase d p) && linkUp d p

/-- Only SLAVE_PORT may become slave while SLAVE_VALID is 1. -/
def maySlave (d : Device) (p : Nat) : Bool :=
  let c := reg d (ctlOff (ptpBase d p))
  !bit c 15 || bits c 6 0 == p

def within (n : Int) (b : Nat) : Bool := n.natAbs ≤ b

/-- The base is set back by its offset from master. -/
def stepToMaster (d : Device) (b : Nat) (o : Int) : Device :=
  stepBase d b true (addNs (tbase d b).value (-o))

/-- A usable Sync on the slave port gives an offset: it steps or steers the base, and moves LOCKED (R656, R657). -/
def agentSync (d : Device) (b : Nat) (o : Int) : Device :=
  let run := if within o 100 then (tbase d b).goodRun + 1 else 0
  let first := run ≥ 16 ∧ !baseLocked d b ∧ !(tbase d b).lockedOnce
  let d := setBase d b { tbase d b with lastOffset := o, lastSync := d.clock, goodRun := run }
  let d := if first ∨ !within o 1000000 then stepToMaster d b o
    else setBase d b { tbase d b with freq := clipFreq (Config.agentFreq b d.clock o) }
  if !within o 1000 then setLocked d b false true
  else if run ≥ 16 then setLocked (setBase d b { tbase d b with lockedOnce := true }) b true true
  else d

def ptpReceive (d : Device) (p : Nat) (m : PtpMsg) : Device :=
  if agentPort d p then
    let d := count d (portCtr 43 p)
    match m.offset with
    | some o => if m.slave && maySlave d p then agentSync d (ptpBase d p) o else d
    | none => d
  else d

/-- PTP_MESSAGE_RX (R654-R658). -/
def execPtpMessageRx (p : Fin 128) (msg : PtpMsg) (s : State) : Host.Outcome State Fault Refusal :=
  s.withDev (ptpReceive s.dev p msg)

/-- Three Sync intervals of 1 s have passed without a usable Sync (R657). -/
def syncLost (d : Device) (b : Nat) : Device :=
  if agentOn d b then
    let d := elapseTo d ((tbase d b).lastSync + 3000 * msTicks)
    setLocked (setBase d b { tbase d b with goodRun := 0 }) b false true
  else d

/-- PTP_SYNC_TIMEOUT (R657). -/
def execPtpSyncTimeout (b : Fin 4) (s : State) : Host.Outcome State Fault Refusal := s.withDev (syncLost s.dev b)

/-- A message leaves the port, unless it is muted (R557). -/
def ptpOut (d : Device) (p : Nat) (data : Bytes) : Device :=
  if muted d then d else send (count d (portCtr 44 p)) (.ptp p data)

/-- A message that the device starts on port `p` as a frame of its cipher path. -/
def agentWork (d : Device) (p : Nat) (data : Bytes) (fl : Bool) : Work :=
  { newWork d p { data := data, whole := true, fcsOk := true } fl false none with dec := false, eg := p, agent := true }

/-- Every frame of the pair is of the fixed-latency class, those the device starts too (R153). -/
def allExpress (d : Device) (p : Nat) : Bool := portRate d p == 1000 && flInService d p

/-- A message goes on its way: at once in the fixed-latency class, else to the formes. -/
def agentGo (d : Device) (w : Work) : Device :=
  let d := { d with prs := { d.prs with nextNo := d.prs.nextNo + 1 } }
  if w.fl then flForme d w else setFifo d w.ing (fifoOf d w.ing ++ [w])

/-- A message under SecY `k` takes the path of any encrypt frame of that SecY (R178, R192, R255). -/
def ptpUnder (d : Device) (p k : Nat) (y : SecY) (data : Bytes) : Device :=
  let r := encryptUnder d (agentWork d p data (allExpress d p)) k y
  match r.2 with
  | .go w => agentGo r.1 w
  | .drop _ => r.1

/-- A message in the clear. -/
def ptpClear (d : Device) (p : Nat) (data : Bytes) : Device :=
  if allExpress d p then agentGo d { agentWork d p data true with action := 1 } else ptpOut d p data

/-- A message that no SecY may carry is not sent. -/
def ptpNoSecy (d : Device) (p : Nat) : Device := count d (portCtr 46 p)

/-- FL_SECY carries the messages of the fixed-latency class, and no others (R137). -/
def flFits (d : Device) (p k : Nat) : Bool :=
  if allExpress d p then k == flSecy d p else !(d.prs.flPassed.contains p && k == flSecy d p)

/-- The agent sends a message on a port (R658); a SecY that is not of the port carries none. -/
def agentSend (d : Device) (p type : Nat) : Device :=
  let b := ptpBase d p
  let data := fit 60 (Config.agentFrame p type (bits (reg d (ctlOff b)) 23 16) d.clock)
  let k := bits (msPort d p) 25 16
  if !isLine d p then ptpClear d p data
  else if bit (msPort d p) 31 then
    match secy d k with
    | some y => if y.port ≠ p ∨ !flFits d p k then ptpNoSecy d p else ptpUnder d p k y data
    | none => ptpNoSecy d p
  else if bypassType d 0x88F7 then ptpClear d p data
  else ptpNoSecy d p

/-- PTP_SYNC_INTERVAL: a master port sends Sync, and Follow_Up where TWO_STEP is 1 (R655). -/
def syncInterval (d : Device) (p : Nat) : Device :=
  if agentPort d p then
    let d' := agentSend d p 0
    if bit (reg d (ctlOff (ptpBase d p))) 27 then agentSend d' p 8 else d'
  else d

def execPtpSyncInterval (p : Fin 128) (s : State) : Host.Outcome State Fault Refusal := s.withDev (syncInterval s.dev p)

end Sys2Proof.Machine
end

