-- ==== Sys2Proof/Machine/Dispatch.lean ====
section
/-!
DEFINITION. One arm per command: its meaning, called once, or a rejection by name.
-/
namespace Sys2Proof.Machine

def exec (i : Instr) (s : State) : Host.Outcome State Fault Refusal :=
  match i with
  | .resetN pins start => Sys2Proof.Machine.execResetN pins start s
  | .bootReset val start => Sys2Proof.Machine.execBootReset val start s
  | .perstN speed width => Sys2Proof.Machine.execPerstN speed width s
  | .pwrfailN => Sys2Proof.Machine.execPwrfailN s
  | .mainPowerOff => Sys2Proof.Machine.execMainPowerOff s
  | .rootPllLock => Sys2Proof.Machine.execRootPllLock s
  | .flrVf f => Sys2Proof.Machine.execFlrVf f s
  | .flrPf => Sys2Proof.Machine.execFlrPf s
  | .glbSeal val => Sys2Proof.Machine.execGlbSeal val s
  | .registerWrite f off val => Sys2Proof.Machine.execRegisterWrite f off val s
  | .counterLowRead f c => Sys2Proof.Machine.execCounterLowRead f c s
  | .recOptimeLoRead => Sys2Proof.Machine.execRecOptimeLoRead s
  | .commandRingTailDoorbell f ring val => Sys2Proof.Machine.execCommandRingTailDoorbell f ring val s
  | .completionRingHeadDoorbell f cq val => Sys2Proof.Machine.execCompletionRingHeadDoorbell f cq val s
  | .eventRingHeadDoorbell f e val => Sys2Proof.Machine.execEventRingHeadDoorbell f e val s
  | .sampleRingHeadDoorbell f val => Sys2Proof.Machine.execSampleRingHeadDoorbell f val s
  | .hifCmdCtrlEnable kind n val => Sys2Proof.Machine.execHifCmdCtrlEnable kind n val s
  | .descriptorFetch reply => Sys2Proof.Machine.execDescriptorFetch reply s
  | .coalescingTimeout cq => Sys2Proof.Machine.execCoalescingTimeout cq s
  | .unknownOpcode r => Sys2Proof.Machine.execUnknownOpcode r s
  | .nop r => Sys2Proof.Machine.execNop r s
  | .abort r => Sys2Proof.Machine.execAbort r s
  | .ringStatus r => Sys2Proof.Machine.execRingStatus r s
  | .identityAttest r => Sys2Proof.Machine.execIdentityAttest r s
  | .identityAttestDone e => Sys2Proof.Machine.execIdentityAttestDone e s
  | .eventRead r => Sys2Proof.Machine.execEventRead r s
  | .counterSnapshot r => Sys2Proof.Machine.execCounterSnapshot r s
  | .statsRead r => Sys2Proof.Machine.execStatsRead r s
  | .domainEnrol r buf => Sys2Proof.Machine.execDomainEnrol r buf s
  | .domainEnrolDone => Sys2Proof.Machine.execDomainEnrolDone s
  | .certInstall r buf => Sys2Proof.Machine.execCertInstall r buf s
  | .supplementInstall r buf => Sys2Proof.Machine.execSupplementInstall r buf s
  | .supplementInstallDone readBackOk => Sys2Proof.Machine.execSupplementInstallDone readBackOk s
  | .profileInstall r buf => Sys2Proof.Machine.execProfileInstall r buf s
  | .profileInstallDone readBackOk => Sys2Proof.Machine.execProfileInstallDone readBackOk s
  | .reprovisionRequest r buf => Sys2Proof.Machine.execReprovisionRequest r buf s
  | .reprovisionGranted => Sys2Proof.Machine.execReprovisionGranted s
  | .profileSelect r restartUs => Sys2Proof.Machine.execProfileSelect r restartUs s
  | .secySet r => Sys2Proof.Machine.execSecySet r s
  | .secyDel r => Sys2Proof.Machine.execSecyDel r s
  | .scSet r => Sys2Proof.Machine.execScSet r s
  | .scDel r => Sys2Proof.Machine.execScDel r s
  | .saInstall r buf => Sys2Proof.Machine.execSaInstall r buf s
  | .saEnableTx r => Sys2Proof.Machine.execSaEnableTx r s
  | .saEnableTxCommit sc => Sys2Proof.Machine.execSaEnableTxCommit sc s
  | .saDelete r => Sys2Proof.Machine.execSaDelete r s
  | .drainFenceClear sa => Sys2Proof.Machine.execDrainFenceClear sa s
  | .drainTimeout sa => Sys2Proof.Machine.execDrainTimeout sa s
  | .keyTurnSchedule r => Sys2Proof.Machine.execKeyTurnSchedule r s
  | .turnGroupSet r => Sys2Proof.Machine.execTurnGroupSet r s
  | .turnTickFix group => Sys2Proof.Machine.execTurnTickFix group s
  | .turnTick group => Sys2Proof.Machine.execTurnTick group s
  | .knAssocSet r => Sys2Proof.Machine.execKnAssocSet r s
  | .knAssocDel r => Sys2Proof.Machine.execKnAssocDel r s
  | .knAssocDelDone a => Sys2Proof.Machine.execKnAssocDelDone a s
  | .knKeyInstall r buf => Sys2Proof.Machine.execKnKeyInstall r buf s
  | .knTurnSchedule r => Sys2Proof.Machine.execKnTurnSchedule r s
  | .routeAdd r => Sys2Proof.Machine.execRouteAdd r s
  | .routeDel r => Sys2Proof.Machine.execRouteDel r s
  | .macAdd r => Sys2Proof.Machine.execMacAdd r s
  | .macDel r => Sys2Proof.Machine.execMacDel r s
  | .macFlush r => Sys2Proof.Machine.execMacFlush r s
  | .policerSet r => Sys2Proof.Machine.execPolicerSet r s
  | .shaperSet r => Sys2Proof.Machine.execShaperSet r s
  | .queueSet r => Sys2Proof.Machine.execQueueSet r s
  | .queueRemapTimeout ingress egress => Sys2Proof.Machine.execQueueRemapTimeout ingress egress s
  | .tsiPageWrite r buf => Sys2Proof.Machine.execTsiPageWrite r buf s
  | .tsiSwitch r => Sys2Proof.Machine.execTsiSwitch r s
  | .tsiReferenceBoundary => Sys2Proof.Machine.execTsiReferenceBoundary s
  | .tsiPortPageChange p => Sys2Proof.Machine.execTsiPortPageChange p s
  | .symJob r buf => Sys2Proof.Machine.execSymJob r buf s
  | .pkJob r buf => Sys2Proof.Machine.execPkJob r buf s
  | .pkCurveLoad r buf => Sys2Proof.Machine.execPkCurveLoad r buf s
  | .drbgGenerate r => Sys2Proof.Machine.execDrbgGenerate r s
  | .revocationUpdate r buf => Sys2Proof.Machine.execRevocationUpdate r buf s
  | .jobStart e => Sys2Proof.Machine.execJobStart e s
  | .pkYield e both => Sys2Proof.Machine.execPkYield e both s
  | .symJobDone e => Sys2Proof.Machine.execSymJobDone e s
  | .pkJobDone e invariant => Sys2Proof.Machine.execPkJobDone e invariant s
  | .curveLoaded e => Sys2Proof.Machine.execCurveLoaded e s
  | .drbgGenerateDone => Sys2Proof.Machine.execDrbgGenerateDone s
  | .revocationApplied e => Sys2Proof.Machine.execRevocationApplied e s
  | .slotImport r buf => Sys2Proof.Machine.execSlotImport r buf s
  | .slotGenerate r => Sys2Proof.Machine.execSlotGenerate r s
  | .slotDelete r => Sys2Proof.Machine.execSlotDelete r s
  | .slotExportWrapped r => Sys2Proof.Machine.execSlotExportWrapped r s
  | .slotExportWrappedDone e => Sys2Proof.Machine.execSlotExportWrappedDone e s
  | .keyInvalidate r => Sys2Proof.Machine.execKeyInvalidate r s
  | .memRebuild r => Sys2Proof.Machine.execMemRebuild r s
  | .memRebuilt => Sys2Proof.Machine.execMemRebuilt s
  | .duetPair r => Sys2Proof.Machine.execDuetPair r s
  | .duetPairDone => Sys2Proof.Machine.execDuetPairDone s
  | .pairWaitTimeout => Sys2Proof.Machine.execPairWaitTimeout s
  | .duetSwitchover r => Sys2Proof.Machine.execDuetSwitchover r s
  | .duetUnpair r => Sys2Proof.Machine.execDuetUnpair r s
  | .loopbackSet r => Sys2Proof.Machine.execLoopbackSet r s
  | .prbsSet r => Sys2Proof.Machine.execPrbsSet r s
  | .marginScan r => Sys2Proof.Machine.execMarginScan r s
  | .marginScanDone lane width height => Sys2Proof.Machine.execMarginScanDone lane width height s
  | .proofRun r => Sys2Proof.Machine.execProofRun r s
  | .proofRunDone found => Sys2Proof.Machine.execProofRunDone found s
  | .frameIngress p frame ecc => Sys2Proof.Machine.execFrameIngress p frame ecc s
  | .flFrame p frame => Sys2Proof.Machine.execFlFrame p frame s
  | .formeAllocation p => Sys2Proof.Machine.execFormeAllocation p s
  | .saFetchDone sa found => Sys2Proof.Machine.execSaFetchDone sa found s
  | .pressDispatch f => Sys2Proof.Machine.execPressDispatch f s
  | .pressComplete f => Sys2Proof.Machine.execPressComplete f s
  | .encStomped f tooLong => Sys2Proof.Machine.execEncStomped f tooLong s
  | .reorderRelease f => Sys2Proof.Machine.execReorderRelease f s
  | .galleyDequeue p ecc => Sys2Proof.Machine.execGalleyDequeue p ecc s
  | .frameTxEnd f => Sys2Proof.Machine.execFrameTxEnd f s
  | .ptpLaunchMiss f => Sys2Proof.Machine.execPtpLaunchMiss f s
  | .policerRefill => Sys2Proof.Machine.execPolicerRefill s
  | .shaperRefill => Sys2Proof.Machine.execShaperRefill s
  | .shedClassUpdate => Sys2Proof.Machine.execShedClassUpdate s
  | .linkUp p up => Sys2Proof.Machine.execLinkUp p up s
  | .linkDown p cause => Sys2Proof.Machine.execLinkDown p cause s
  | .galleyHoldExpiry p => Sys2Proof.Machine.execGalleyHoldExpiry p s
  | .pllUnlock g => Sys2Proof.Machine.execPllUnlock g s
  | .laneEqWrite lane ctle val => Sys2Proof.Machine.execLaneEqWrite lane ctle val s
  | .forceDownWrite p val => Sys2Proof.Machine.execForceDownWrite p val s
  | .inFrame p lane words => Sys2Proof.Machine.execInFrame p lane words s
  | .oof p seen => Sys2Proof.Machine.execOof p seen s
  | .lofTimer p => Sys2Proof.Machine.execLofTimer p s
  | .defectChange p slot defect raised seen => Sys2Proof.Machine.execDefectChange p slot defect raised seen s
  | .traceReception kind index trace => Sys2Proof.Machine.execTraceReception kind index trace s
  | .traceCommit val => Sys2Proof.Machine.execTraceCommit val s
  | .frmTrSelWrite val => Sys2Proof.Machine.execFrmTrSelWrite val s
  | .frmKnSelWrite val => Sys2Proof.Machine.execFrmKnSelWrite val s
  | .keySlotSelWrite val => Sys2Proof.Machine.execKeySlotSelWrite val s
  | .knSuperframeTx a sent => Sys2Proof.Machine.execKnSuperframeTx a sent s
  | .knSuperframeRx a frames payload tag => Sys2Proof.Machine.execKnSuperframeRx a frames payload tag s
  | .knOutputChange a => Sys2Proof.Machine.execKnOutputChange a s
  | .tcamScrub bad => Sys2Proof.Machine.execTcamScrub bad s
  | .tcamRepaired entry => Sys2Proof.Machine.execTcamRepaired entry s
  | .macAgeing bad => Sys2Proof.Machine.execMacAgeing bad s
  | .keySweep upset => Sys2Proof.Machine.execKeySweep upset s
  | .drbgReseed fail => Sys2Proof.Machine.execDrbgReseed fail s
  | .memPatrol found => Sys2Proof.Machine.execMemPatrol found s
  | .zqCalibration => Sys2Proof.Machine.execZqCalibration s
  | .dramTempRead hot => Sys2Proof.Machine.execDramTempRead hot s
  | .tamperEvent events => Sys2Proof.Machine.execTamperEvent events s
  | .alarmClear n => Sys2Proof.Machine.execAlarmClear n s
  | .magConversion readings => Sys2Proof.Machine.execMagConversion readings s
  | .shadowScan bad => Sys2Proof.Machine.execShadowScan bad s
  | .watchdogExpiry => Sys2Proof.Machine.execWatchdogExpiry s
  | .batteryAlarm n kind afterNs => Sys2Proof.Machine.execBatteryAlarm n kind afterNs s
  | .identityRederive => Sys2Proof.Machine.execIdentityRederive s
  | .vbatMeasure mv => Sys2Proof.Machine.execVbatMeasure mv s
  | .pressProofRetry m passes => Sys2Proof.Machine.execPressProofRetry m passes s
  | .timeFreqHiWrite b val => Sys2Proof.Machine.execTimeFreqHiWrite b val s
  | .timeCmdStep b => Sys2Proof.Machine.execTimeCmdStep b s
  | .timeCmdOffset b => Sys2Proof.Machine.execTimeCmdOffset b s
  | .timeBaseCtlWrite b val => Sys2Proof.Machine.execTimeBaseCtlWrite b val s
  | .timeSnapWrite val => Sys2Proof.Machine.execTimeSnapWrite val s
  | .ptpMessageRx p msg => Sys2Proof.Machine.execPtpMessageRx p msg s
  | .ptpSyncTimeout b => Sys2Proof.Machine.execPtpSyncTimeout b s
  | .ptpSyncInterval p => Sys2Proof.Machine.execPtpSyncInterval p s
  | .triggerEnable u val => Sys2Proof.Machine.execTriggerEnable u val s
  | .triggerFire u => Sys2Proof.Machine.execTriggerFire u s
  | .tsCapEdge n falling => Sys2Proof.Machine.execTsCapEdge n falling s
  | .journalWrite => Sys2Proof.Machine.execJournalWrite s
  | .checkpoint => Sys2Proof.Machine.execCheckpoint s
  | .heartbeatSend => Sys2Proof.Machine.execHeartbeatSend s
  | .heartbeatRx h role health pinOut => Sys2Proof.Machine.execHeartbeatRx h role health pinOut s
  | .heartbeatLoss => Sys2Proof.Machine.execHeartbeatLoss s
  | .heartbeatGiveUp => Sys2Proof.Machine.execHeartbeatGiveUp s
  | .failoverInHigh => Sys2Proof.Machine.execFailoverInHigh s
  | .failoverInFall => Sys2Proof.Machine.execFailoverInFall s
  | .holdoffExpiry => Sys2Proof.Machine.execHoldoffExpiry s
  | .faultRx h cause => Sys2Proof.Machine.execFaultRx h cause s
  | .stepDownRx h => Sys2Proof.Machine.execStepDownRx h s
  | .switchRx h epoch => Sys2Proof.Machine.execSwitchRx h epoch s
  | .switchAckRx h epoch => Sys2Proof.Machine.execSwitchAckRx h epoch s
  | .unpairRx h => Sys2Proof.Machine.execUnpairRx h s
  | .helloRx hello => Sys2Proof.Machine.execHelloRx hello s
  | .confirmRx h digest => Sys2Proof.Machine.execConfirmRx h digest s
  | .mirrorRx h desc buf => Sys2Proof.Machine.execMirrorRx h desc buf s
  | .mirrorAckRx h seq failed => Sys2Proof.Machine.execMirrorAckRx h seq failed s
  | .mirrorAckTimeout => Sys2Proof.Machine.execMirrorAckTimeout s
  | .peerLostWait => Sys2Proof.Machine.execPeerLostWait s
  | .bulkMirrorStart => Sys2Proof.Machine.execBulkMirrorStart s
  | .bulkEndRx h => Sys2Proof.Machine.execBulkEndRx h s
  | .markRx h marks => Sys2Proof.Machine.execMarkRx h marks s
  | .markAckRx h seq => Sys2Proof.Machine.execMarkAckRx h seq s
  | .pnResyncRx h triples => Sys2Proof.Machine.execPnResyncRx h triples s
  | .anchorRx h port ref window => Sys2Proof.Machine.execAnchorRx h port ref window s
  | .turnIntentRx h sc an => Sys2Proof.Machine.execTurnIntentRx h sc an s
  | .turnCutRx h sc cuts => Sys2Proof.Machine.execTurnCutRx h sc cuts s
  | .shadowHoldTimeout sc => Sys2Proof.Machine.execShadowHoldTimeout sc s
  | .digestRx h kind index window digest void => Sys2Proof.Machine.execDigestRx h kind index window digest void s
  | .mismatchRx h kind index window => Sys2Proof.Machine.execMismatchRx h kind index window s
  | .proofResultRx h flags => Sys2Proof.Machine.execProofResultRx h flags s
  | .selftestStep found => Sys2Proof.Machine.execSelftestStep found s
  | .healthWordUpdate => Sys2Proof.Machine.execHealthWordUpdate s
  | .dlState locked => Sys2Proof.Machine.execDlState locked s
  | .dlDetectRetry present => Sys2Proof.Machine.execDlDetectRetry present s
  | .dlLinkDown => Sys2Proof.Machine.execDlLinkDown s
  | .dlClockLoss => Sys2Proof.Machine.execDlClockLoss s
  | .dlClockReturn => Sys2Proof.Machine.execDlClockReturn s
  | .powerArbiterTick demand => Sys2Proof.Machine.execPowerArbiterTick demand s
  | .throttleRelease => Sys2Proof.Machine.execThrottleRelease s
  | .limiterStep => Sys2Proof.Machine.execLimiterStep s
  | .budgetUnmet => Sys2Proof.Machine.execBudgetUnmet s
  | .pwrBudgetWrite val => Sys2Proof.Machine.execPwrBudgetWrite val s
  | .holdEnter val => Sys2Proof.Machine.execHoldEnter val s
  | .holdExit val => Sys2Proof.Machine.execHoldExit val s
  | .thermalWarn tj => Sys2Proof.Machine.execThermalWarn tj s
  | .prsSecyPnThreshHiWrite n val => Sys2Proof.Machine.execPrsSecyPnThreshHiWrite n val s
  | .groupPllRelock g => Sys2Proof.Machine.execGroupPllRelock g s
  | .statsWriteback => Sys2Proof.Machine.execStatsWriteback s
  | .dqsDriftTracking => Sys2Proof.Machine.execDqsDriftTracking s
  | .kbytesAccepted p k1 k2 => Sys2Proof.Machine.execKbytesAccepted p k1 k2 s
  | .disagreeProofRunDone found => Sys2Proof.Machine.execDisagreeProofRunDone found s
  | .failoverInRise => Sys2Proof.Machine.execFailoverInRise s
  | .switchAckTimeout => Sys2Proof.Machine.execSwitchAckTimeout s
  | .newerEpochHoldTimeout => Sys2Proof.Machine.execNewerEpochHoldTimeout s
  | .standbyTurnHoldStart group => Sys2Proof.Machine.execStandbyTurnHoldStart group s
  | .ppsPulseEnd u => Sys2Proof.Machine.execPpsPulseEnd u s
  | .entropyHealthFail cause => Sys2Proof.Machine.execEntropyHealthFail cause s
  | .rclkSquelchRelease n => Sys2Proof.Machine.execRclkSquelchRelease n s
  | .stagedFrameEgress p => Sys2Proof.Machine.execStagedFrameEgress p s
  | .blockedDdr4Access master addr write => Sys2Proof.Machine.execBlockedDdr4Access master addr write s

end Sys2Proof.Machine
end

