-- ==== Sys2Proof/Machine/Step.lean ====
section
/-!
DEFINITION. One step: the command at the front of the queue runs. On an empty queue one 2 ns tick of the time unit passes,
and a warm restart whose time has come ends; nothing else happens (log 6).
-/
namespace Sys2Proof.Machine

/-- Nothing arrives for one tick. -/
def State.idle (s : State) : State := { s with dev := idleTick s.dev }

def step (s : State) : Host.Outcome State Fault Refusal :=
  match s.pending with
  | [] => .next s.idle
  | c :: rest => exec c { s with pending := rest }

/-- The state with the command that a table word spells at the front of its queue. -/
def State.withFetchWord (s : State) (nbits w : Nat) : State :=
  match Sys2Proof.decodeTableWord nbits w with
  | some c => { s with pending := c :: s.pending }
  | none => s

end Sys2Proof.Machine
end

