-- ==== Sys2Proof/Safety.lean ====
section
/-!
DEFINITION. The terms in which claims are stated: a descriptor command that may run, how it completes, what reporting may
touch, and the order in which fuses only grow.
-/
namespace Sys2Proof.Machine

/-- The state with another device; its fuses and its queue stay. -/
def State.having (s : State) (e : Device) : State := { s with dev := e }

/-! ## Descriptor commands (R73, R79, R103) -/

/-- The front descriptor of ring `r` is `f`, a command of opcode `op` that may begin and passes the checks of R103 that
come before the opcode's own conditions. -/
structure Runs (d : Device) (r op : Nat) (right : Device → Nat → Bool) (own : Bytes → List (Nat × Bool))
    (f : Fetched) (rest : List Fetched) : Prop where
  front : (cmdRing d r).fetched = f :: rest
  opcode : opcodeOf f.desc = op
  free : heldBack d r op f = false
  checks : preCheck (taken d r rest) (cmdOwner d r) op (right (taken d r rest) (cmdOwner d r)) f.desc (own f.desc) = none

/-- A command ends OK on device `e` with RESULT bytes `res` and host-buffer bytes `out`: its completion is posted, or held
until its MIRROR_ACK (R79, R577). -/
def completed (e : Device) (o : Origin) (op : Nat) (desc buf res : Bytes) (out : Option Bytes) : Device :=
  mirrorThenPost (outputDue e o res out).1 op desc (fit o.bufLen buf) (outputDue e o res out).2

/-- A command ends with a status other than OK (R107). -/
def failed (e : Device) (o : Origin) (st : Status) (res : Bytes) : Device := post e (dueOf e o st res false)

/-! ## Duet-link messages (R569-R571) -/

/-- A message that is accepted and acted on: its tag matches under the link key of a confirmed Duet, its SEQ is higher than
every accepted one, and it carries the receiver's role epoch. -/
structure Heard (d : Device) (h : DuetHdr) (m : DuetMsg) : Prop where
  tag : authentic d h m = true
  key : d.duet.linkKey.isSome = true
  joined : d.duet.confirmed = true
  newer : d.duet.rxSeq < h.seq
  epoch : h.epoch = d.duet.epoch

/-- The device once the message's SEQ is the highest accepted. -/
def heard (d : Device) (h : DuetHdr) : Device := { d with duet := { d.duet with rxSeq := h.seq } }

/-! ## Reporting -/

/-- Two devices that agree in all but what reporting touches: the rings of the host interface with their status bits, the
recorder, the counters, the Duet's outgoing messages and what has left the device. -/
structure SameWork (a b : Device) : Prop where
  clock : a.clock = b.clock
  glb : a.glb = b.glb
  boot : a.boot = b.boot
  key : a.key = b.key
  svc : a.svc = b.svc
  mem : a.mem = b.mem
  tmp : a.tmp = b.tmp
  time : a.time = b.time
  lane : a.lane = b.lane
  pwr : a.pwr = b.pwr
  ms : a.ms = b.ms
  prs : a.prs = b.prs
  frm : a.frm = b.frm
  kn : a.kn = b.kn
  cls : a.cls = b.cls
  gal : a.gal = b.gal
  role : a.duet.role = b.duet.role
  epoch : a.duet.epoch = b.duet.epoch
  drawn : a.drawn = b.drawn

/-! ## Fuses (R679) -/

/-- Nothing that is blown in `a` is unblown in `b`: serial number, key and key hashes stay, revocation bits and the rollback
thermometer only grow, and FIELD and DEBUG_KILL stay once blown. -/
structure FusesGrow (a b : Fuses) : Prop where
  key : b.key = a.key
  dieId : b.dieId = a.dieId
  keyHash : b.keyHash = a.keyHash
  revoke : a.revoke ||| b.revoke = b.revoke
  rollback : a.rollback ≤ b.rollback
  field : a.field = true → b.field = true
  debugKill : a.debugKill = true → b.debugKill = true

end Sys2Proof.Machine
end

