-- ==== Sys2Proof/Certificates/Slice0/Obligations.lean ====
section
/-!
DEFINITION. The statements for the provers: what the commands and the machine do, by the numbered rules of the spec. An
`exec` equation names the whole next state; `SameWork` says that what is left unnamed is unchanged but for reporting.
-/

open Sys2Proof Sys2Proof.Machine

/-! ## The queue -/

/-- Tier 1. One step takes the command at the front of the queue and runs it on the state with the rest of the queue. -/
def Obligations.StepRunsFrontCommand : Prop :=
  ∀ (c : Instr) (rest : List Instr) (s : State), s.pending = c :: rest → step s = exec c { s with pending := rest }

/-! ## Host interface: commands (R73, R102-R106) -/

/-- R102, R103, R106: an unassigned opcode ends with BAD_OPCODE; NOP ends OK with nothing done; RING_STATUS answers the
pointers and the status of a ring that the caller owns. -/
def Obligations.NopAndStatusComplete : Prop :=
  (∀ (r : Fin 64) (s : State) (f : Fetched) (rest : List Fetched),
    (cmdRing s.dev r).fetched = f :: rest → opInfo (opcodeOf f.desc) = none →
    heldBack s.dev r (opcodeOf f.desc) f = false →
    exec (.unknownOpcode r) s =
      .next (s.having (failed (taken s.dev r rest) (originOf s.dev r f) .badOpcode (zeros 16)))) ∧
  (∀ (r : Fin 64) (s : State) (f : Fetched) (rest : List Fetched), Runs s.dev r 0x0000 anyRight (fun _ => []) f rest →
    exec (.nop r) s =
      .next (s.having (completed (taken s.dev r rest) (originOf s.dev r f) 0 f.desc [] (zeros 16) none))) ∧
  (∀ (r : Fin 64) (s : State) (f : Fetched) (rest : List Fetched) (n : Nat),
    Runs s.dev r 0x0002 anyRight ringStatusOwn f rest → n = (byteAt f.desc 20).toNat % 64 → leField f.desc 21 1 = 1 →
    cqOwner s.dev n = cmdOwner s.dev r →
    exec (.ringStatus r) s =
      .next (s.having (completed (taken s.dev r rest) (originOf s.dev r f) 2 f.desc []
        (leBytes 4 (cqPtr s.dev n).toNat ++ leBytes 4 (cqStatus s.dev n).toNat) none)))

/-- R104, R105, R508: ABORT of a waiting abortable command takes it out of its ring, counts it in SVC_ABORTS, posts ABORTED
for it and answers 1, after that completion where it waits for room; ABORT of a tag that is not there answers 0. -/
def Obligations.AbortEndsWaiting : Prop :=
  ∀ (r : Fin 64) (s : State) (f : Fetched) (rest : List Fetched) (n : Nat),
    Runs s.dev r 0x0001 anyRight (fun desc => zeroBits desc 24 0xC0 :: zeroFrom desc 25 63) f rest →
    n = (byteAt f.desc 24).toNat % 64 → cmdOwner s.dev n = cmdOwner s.dev r →
    (abortTarget (taken s.dev r rest) n (leField f.desc 20 4) = none →
      exec (.abort r) s =
        .next (s.having (completed (taken s.dev r rest) (originOf s.dev r f) 1 f.desc [] (zeros 16) none))) ∧
    (∀ g : Fetched, abortTarget (taken s.dev r rest) n (leField f.desc 20 4) = some (.waiting g) →
      abortable (opcodeOf g.desc) = true →
      ∀ e e2, e = svcCtrAborts (setCmdRing (taken s.dev r rest) n { cmdRing (taken s.dev r rest) n with
            fetched := (cmdRing (taken s.dev r rest) n).fetched.filter (fun x => x.order != g.order) }) →
      e2 = post e (dueOf e (originOf e n g) .aborted (zeros 16) false) →
      ((cqRing e2 (cmdCq e2 n)).due.any (fun u => u.origin == originOf e n g) = false →
        exec (.abort r) s = .next (s.having (completed e2 (originOf s.dev r f) 1 f.desc [] [1#8] none))) ∧
      ((cqRing e2 (cmdCq e2 n)).due.any (fun u => u.origin == originOf e n g) = true →
        exec (.abort r) s = .next (s.having (enterInflight { e2 with hif := { e2.hif with
          abortWaits := e2.hif.abortWaits ++ [{ cq := cmdCq e2 n, target := originOf e n g
                                                due := dueOf e2 (originOf s.dev r f) .ok [1#8] false }] } }
          (originOf s.dev r f) 0x0001))))

/-! ## Doorbells, enables and fetches (R83-R87, R98, R100) -/

/-- R83, R84: the owner's doorbell with an index inside the ring sets the ring's tail (a command ring) or head (the
others); any other doorbell write is ignored with a BAD_DOORBELL event, and sets BAD_DOORBELL of a command ring. -/
def Obligations.DoorbellsMoveTheirRing : Prop :=
  (∀ (f : Fin 16) (n : Fin 64) (val : W32) (s : State), cmdOwner s.dev n = f.val →
    inSize (cmdSize s.dev n) (bits val 15 0) = true →
    ∃ e, exec (.commandRingTailDoorbell f n val) s = .next (s.having e) ∧
      cmdRing e n = { cmdRing s.dev n with tail := bits val 15 0 } ∧ e.regs = s.dev.regs ∧ SameWork e s.dev) ∧
  (∀ (f : Fin 16) (n : Fin 64) (val : W32) (s : State),
    (cmdOwner s.dev n ≠ f.val ∨ inSize (cmdSize s.dev n) (bits val 15 0) = false) →
    exec (.commandRingTailDoorbell f n val) s = .next (s.having (badDoorbell
      (setBits s.dev (cmdStatusOff n) (mask 1 1) (mask 1 1)) f (4 * n.val) val)) ∧
    bit (reg (badDoorbell (setBits s.dev (cmdStatusOff n) (mask 1 1) (mask 1 1)) f (4 * n.val) val) (cmdStatusOff n)) 1 =
      true) ∧
  (∀ (f : Fin 16) (m : Fin 64) (val : W32) (s : State), cqOwner s.dev m = f.val →
    inSize (cqSize s.dev m) (bits val 15 0) = true → (cqRing s.dev m).due = [] → s.dev.hif.abortWaits = [] →
    cqFull (setCqRing s.dev m { cqRing s.dev m with head := bits val 15 0 }) m = false →
    (cqFull s.dev m = false → (cqRing s.dev m).stallSince = none →
      ∃ e, exec (.completionRingHeadDoorbell f m val) s = .next (s.having e) ∧
        cqRing e m = { cqRing s.dev m with head := bits val 15 0 } ∧ e.regs = s.dev.regs ∧ SameWork e s.dev) ∧
    (∀ t : Nat, cqFull s.dev m = true → (cqRing s.dev m).stallSince = some t →
      ∃ e, exec (.completionRingHeadDoorbell f m val) s = .next (s.having e) ∧
        cqRing e m = { cqRing s.dev m with head := bits val 15 0, stallSince := none } ∧
        counter e (unitCtr 15 m) = counter s.dev (unitCtr 15 m) + BitVec.ofNat 64 ((s.dev.clock - t) / usTicks) ∧
        SameWork e s.dev)) ∧
  (∀ (f : Fin 16) (m : Fin 64) (val : W32) (s : State),
    (cqOwner s.dev m ≠ f.val ∨ inSize (cqSize s.dev m) (bits val 15 0) = false) →
    exec (.completionRingHeadDoorbell f m val) s = .next (s.having (badDoorbell s.dev f (0x100 + 4 * m.val) val))) ∧
  (∀ (e4 : Fin 4) (val : W32) (s : State), inSize ((evSize s.dev e4).map (· / 8)) (bits val 20 0) = true →
    (evRing s.dev e4).unreported = 0 →
    ∃ e, exec (.eventRingHeadDoorbell 0 e4 val) s = .next (s.having e) ∧
      evRing e e4 = { evRing s.dev e4 with head := 8 * bits val 20 0 } ∧ SameWork e s.dev) ∧
  (∀ (f : Fin 16) (e4 : Fin 4) (val : W32) (s : State),
    (f.val ≠ 0 ∨ inSize ((evSize s.dev e4).map (· / 8)) (bits val 20 0) = false) →
    exec (.eventRingHeadDoorbell f e4 val) s = .next (s.having (badDoorbell s.dev f (0x200 + 4 * e4.val) val))) ∧
  (∀ (val : W32) (s : State), inSize (sampleSize s.dev) (bits val 15 0) = true →
    exec (.sampleRingHeadDoorbell 0 val) s = .next (s.having { s.dev with hif := { s.dev.hif with
      sample := { s.dev.hif.sample with head := bits val 15 0 } } })) ∧
  (∀ (f : Fin 16) (val : W32) (s : State), (f.val ≠ 0 ∨ inSize (sampleSize s.dev) (bits val 15 0) = false) →
    exec (.sampleRingHeadDoorbell f val) s = .next (s.having (badDoorbell s.dev f 0x210 val)))

/-- R100: setting a ring's ENABLE puts its indices to 0, and the expected phase of a completion ring to 1; a ring's base
registers take a write only while its ENABLE is 0. -/
def Obligations.EnableResetsIndices : Prop :=
  (∀ (n : Fin 64) (val : W32) (s : State), bit val 0 = true → cmdEnabled s.dev n = false →
    bit (reg s.dev (cmdStatusOff n)) 0 = false →
    ∃ e, exec (.hifCmdCtrlEnable .command n val) s = .next (s.having e) ∧ cmdEnabled e n = true ∧
      cmdRing e n = { cmdRing s.dev n with head := 0, tail := 0 } ∧ SameWork e s.dev) ∧
  (∀ (n : Fin 64) (val : W32) (s : State), bit val 31 = true → cqEnabled s.dev n = false →
    ∃ e, exec (.hifCmdCtrlEnable .completion n val) s = .next (s.having e) ∧ cqEnabled e n = true ∧
      (cqRing e n).head = 0 ∧ (cqRing e n).write = 0 ∧ (cqRing e n).phase = true ∧ SameWork e s.dev) ∧
  (∀ (n : Fin 64) (val : W32) (s : State), n.val < 4 → bit val 31 = true → evEnabled s.dev n = false →
    ∃ e, exec (.hifCmdCtrlEnable .event n val) s = .next (s.having e) ∧ evEnabled e n = true ∧
      evRing e n = { evRing s.dev n with head := 0, tail := 0 } ∧ SameWork e s.dev) ∧
  (∀ (n : Fin 64) (val : W32) (s : State), bit val 31 = true → evEnabled s.dev 4 = false →
    ∃ e, exec (.hifCmdCtrlEnable .sample n val) s = .next (s.having e) ∧ evEnabled e 4 = true ∧
      e.hif.sample = { s.dev.hif.sample with head := 0, tail := 0 } ∧ SameWork e s.dev) ∧
  (∀ (n : Fin 64) (k : Fin 2) (val : W32) (s : State) (off : Nat), off = 0x10000 + 0x20 * n.val + 4 * k.val →
    exec (.registerWrite 0 (BitVec.ofNat 22 off) val) s =
      .next (if cmdEnabled s.dev n then s else s.having (plainWrite s.dev off val)) ∧
    exec (.registerWrite 0 (BitVec.ofNat 22 (off + 0x800)) val) s =
      .next (if cqEnabled s.dev n then s else s.having (plainWrite s.dev (off + 0x800) val)) ∧
    (n.val < 5 → exec (.registerWrite 0 (BitVec.ofNat 22 (off + 0x1000)) val) s =
      .next (if evEnabled s.dev n then s else s.having (plainWrite s.dev (off + 0x1000) val))))

/-- R85, R87: a visit of the fetch engine takes at most WEIGHT pending descriptors of the next ring of the rotation and
advances its HEAD by as many; a failed fetch clears ENABLE and sets FAULT. -/
def Obligations.FetchVisitsNextRing : Prop :=
  ∀ (s : State) (r : Nat), nextRing s.dev = some r → r < 64 →
    (∀ descs : List Bytes, ∃ e, exec (.descriptorFetch (.ok descs)) s = .next (s.having e) ∧
      cmdRing e r = { cmdRing s.dev r with
        head := ((cmdRing s.dev r).head + min (cmdWeight s.dev r) (pendingDescs s.dev r)) % (cmdSize s.dev r).getD 1
        nextOrder := (cmdRing s.dev r).nextOrder + min (cmdWeight s.dev r) (pendingDescs s.dev r)
        fetched := (cmdRing s.dev r).fetched
          ++ fetchList (cmdRing s.dev r).nextOrder s.dev.hif.cqOffs s.dev.clock descs (min (cmdWeight s.dev r) (pendingDescs s.dev r)) } ∧
      e.regs = s.dev.regs ∧ SameWork e s.dev) ∧
    (∀ cause : Fin 3, ∃ e, exec (.descriptorFetch (.fail cause)) s = .next (s.having e) ∧
      cmdEnabled e r = false ∧ bit (reg e (cmdStatusOff r)) 0 = true ∧ e.hif.cmd = s.dev.hif.cmd ∧ SameWork e s.dev)

/-- R98: COAL_TIME after an entry that has not been signalled, the ring's vector is raised. -/
def Obligations.CoalescingRaisesVector : Prop :=
  ∀ (m : Fin 64) (s : State) (t : Nat), t = field s.dev (cqCtrlOff m) 19 8 → t ≠ 0 →
    (cqRing s.dev m).unsignalled ≠ 0 → (cqRing s.dev m).firstAt + t * 500 ≤ s.dev.clock →
    ownsVector s.dev (cqOwner s.dev m) (field s.dev (cqCfgOff m) 22 16) = true →
    ∃ e, exec (.coalescingTimeout m) s = .next (s.having e) ∧
      e.out = .interrupt (field s.dev (cqCfgOff m) 22 16) :: s.dev.out ∧ (cqRing e m).unsignalled = 0 ∧
      SameWork e s.dev

/-! ## Registers, the seal and reads with an effect (R10, R66, R69, R477, R729) -/

/-- R66, R477: the key seals the set-up registers once and fixes CONFIG_DIGEST over the registers with RWL fields as they
stood; any other value, and a second seal, have no effect.
The order of digest and fixed-latency checks is the model's reading (log 22). -/
def Obligations.SealLocksOnce : Prop :=
  (∀ (s : State), s.dev.glb.sealed = false →
    exec (.glbSeal 0x5EA1#32) s = .next (s.having (flSeal { s.dev with
      glb := { s.dev.glb with sealed := true, configDigest := configDigest s.dev s.fuses } })) ∧
    (flSeal { s.dev with
      glb := { s.dev.glb with sealed := true, configDigest := configDigest s.dev s.fuses } }).glb.sealed = true) ∧
  (∀ (s : State) (val : W32), (val ≠ 0x5EA1#32 ∨ s.dev.glb.sealed = true) → exec (.glbSeal val) s = .next s)

/-- R8, R10, R64, R66: in the KEY, SVC, MEM, DUET and GAL blocks, whose registers but KEY_SLOT_SEL have no behaviour of
their own, a write sets the RW fields, sets the RWL fields only before the seal, clears the W1C fields where it has 1 and
leaves every other bit and register; a virtual function writes nothing. -/
def Obligations.RegisterWriteByAccessCode : Prop :=
  (∀ (off : BitVec 22) (val : W32) (s : State) (i : RegInfo), regInfo? off.toNat = some i →
    0x180000 ≤ off.toNat → off.toNat < 0x210000 → off.toNat ≠ 0x1C0004 →
    exec (.registerWrite 0 off val) s = .next (s.having (setReg s.dev off.toNat
      (written i s.dev.glb.sealed (reg s.dev off.toNat) val)))) ∧
  (∀ (i : RegInfo) (old val : W32) (k : Nat), k < 32 → i.rw &&& i.w1c = 0#32 → i.rwl &&& i.w1c = 0#32 →
    (bit i.rw k = true → bit (written i true old val) k = bit val k) ∧
    (bit i.rwl k = true → bit i.rw k = false →
      bit (written i true old val) k = bit old k ∧ bit (written i false old val) k = bit val k) ∧
    (bit i.w1c k = true → bit (written i true old val) k = (bit old k && !bit val k)) ∧
    (bit i.rw k = false → bit i.rwl k = false → bit i.w1c k = false →
      bit (written i false old val) k = bit old k)) ∧
  (∀ (f : Fin 16) (off : BitVec 22) (val : W32) (s : State), f.val ≠ 0 → exec (.registerWrite f off val) s = .next s)

/-- R69, R70, R729: a low-half read answers the low half and latches the high half for the function; a function without
counter access reads 0; a read of REC_OPTIME_LO latches the high part of the operating time. -/
def Obligations.ReadsLatchHighHalf : Prop :=
  (∀ (f : Fin 16) (c : Fin 131072) (s : State), counterAccess s.dev f = true →
    exec (.counterLowRead f c) s = .next (s.having { s.dev with
      hif := { s.dev.hif with latch := Tbl.put s.dev.hif.latch f (c.val, ((counter s.dev c) >>> 32).setWidth 32) }
      lastRead := BitVec.ofNat 64 ((counter s.dev c).toNat % 2 ^ 32) })) ∧
  (∀ (f : Fin 16) (c : Fin 131072) (s : State), counterAccess s.dev f = false →
    exec (.counterLowRead f c) s = .next (s.having { s.dev with lastRead := 0#64 })) ∧
  (∀ s : State, exec .recOptimeLoRead s = .next (s.having { s.dev with
      rcd := { s.dev.rcd with opHiLatch := w32 (s.dev.rcd.opTime / 1000 % 2 ^ 63 / 2 ^ 32) }
      lastRead := BitVec.ofNat 64 (s.dev.rcd.opTime / 1000 % 2 ^ 32) }))

/-! ## Time unit (R645-R676) -/

/-- R649, R650: with the agent off, FREQ applies at the next tick, clipped to its bound; STEP sets the base at the next tick
and OFFSET adds its signed ns there; with the agent on, each sets HOST_IGNORED and nothing else (R652). -/
def Obligations.HostSteersBase : Prop :=
  (∀ (b : Fin 4) (val : W32) (s : State) (e : Device), agentOn s.dev b = false →
    e = plainWrite s.dev (ctlOff b + 8) val →
    exec (.timeFreqHiWrite b val) s =
      .next (s.having (elapse (setBase e b { tbase e b with freq := clipFreq (freqWord e b) }) 1))) ∧
  (∀ (b : Fin 4) (s : State), agentOn s.dev b = false →
    ∃ e, exec (.timeCmdStep b) s = .next (s.having e) ∧
      (tbase e b).value = stepNs s.dev b * nsUnit ∧ e.clock = s.dev.clock + 1 ∧ e.regs = s.dev.regs) ∧
  (∀ (b : Fin 4) (s : State), agentOn s.dev b = false →
    ∃ e, exec (.timeCmdOffset b) s = .next (s.having e) ∧
      (tbase e b).value = addNs (tbase (elapse s.dev 1) b).value (reg s.dev (ctlOff b + 0x18)).toInt ∧
      e.clock = s.dev.clock + 1 ∧ e.regs = s.dev.regs) ∧
  (∀ (b : Fin 4) (val : W32) (s : State), agentOn s.dev b = true →
    exec (.timeFreqHiWrite b val) s = .next (s.having (hostIgnored s.dev b)) ∧
    exec (.timeCmdStep b) s = .next (s.having (hostIgnored s.dev b)) ∧
    exec (.timeCmdOffset b) s = .next (s.having (hostIgnored s.dev b)))

/-- R652, R653, R676: a write of TIME_BASE_CTL with the agent off sets LOCKED, AGENT_EN, TWO_STEP and SLAVE_PORT as
written and keeps the rest of the device; TIME_SNAP latches every selected base at its value. -/
def Obligations.BaseControlAndSnapshot : Prop :=
  (∀ (b : Fin 4) (val : W32) (s : State), agentOn s.dev b = false →
    ∃ e, exec (.timeBaseCtlWrite b val) s = .next (s.having e) ∧ baseLocked e b = bit val 31 ∧
      agentOn e b = bit val 30 ∧ bit (reg e (ctlOff b)) 27 = bit val 27 ∧
      bits (reg e (ctlOff b)) 6 0 = bits val 6 0 ∧ e.clock = s.dev.clock ∧ e.prs = s.dev.prs ∧ e.ms = s.dev.ms) ∧
  (∀ (val : W32) (s : State), ∃ e, exec (.timeSnapWrite val) s = .next (s.having e) ∧
    (∀ b : Fin 4, bit val b = true → (tbase e b).snap = (tbase s.dev b).value) ∧
    (∀ b : Fin 4, (tbase e b).value = (tbase s.dev b).value) ∧
    (∀ b : Fin 4, bit val b = false → tbase e b = tbase s.dev b) ∧ e.regs = s.dev.regs)

/-- R667-R672, R675: setting ENABLE starts a unit at START plus the first whole number of periods not before the base; clearing
it stops the unit, after a pulse in progress; a fire of
a running unit whose base has reached N advances N by one period past the base's value; at the pulse's end the pin goes to
its inactive level. R675: an edge that the input captures latches its base in steps of 250 ps and sets NEW; another within
1 µs of the last capture is lost and counted.
Edges and pulses stand at 2 ns ticks, the model's choice (log 32). -/
def Obligations.TriggersAndCaptures : Prop :=
  (∀ (u : Fin 8) (val : W32) (s : State) (e : Device) (n : Nat), bit val 31 = true → trgEnabled s.dev u = false →
    e = plainWrite s.dev (trgOff u) val → n = firstFire (trgStart e u) (trgPeriod e u) (tbase e (trgBase e u)).value →
    exec (.triggerEnable u val) s = .next (s.having (setTrg e u
      { trg e u with running := true, next := n, fired := 0 }))) ∧
  (∀ (u : Fin 8) (val : W32) (s : State) (e : Device), bit val 31 = false → e = plainWrite s.dev (trgOff u) val →
    exec (.triggerEnable u val) s = .next (s.having (setTrg e u
      { trg e u with running := (trg e u).running && (trg e u).pulseEnd.isSome }))) ∧
  (∀ (start period value : Nat), 0 < period →
    value ≤ firstFire start period value * nsUnit ∧
    (start * nsUnit < value → firstFire start period value * nsUnit < value + period * nsUnit) ∧
    (∃ k, firstFire start period value = start + k * period)) ∧
  (∀ (u : Fin 8) (s : State) (p v : Nat), (trg s.dev u).running = true → trgEnabled s.dev u = true →
    s.dev.time.running = true → p = trgPeriod s.dev u → v = (tbase s.dev (trgBase s.dev u)).value → (trg s.dev u).next * nsUnit ≤ v →
    ∃ e, exec (.triggerFire u) s = .next (s.having e) ∧
      (trg e u).next = (trg s.dev u).next + ((v - (trg s.dev u).next * nsUnit) / (p * nsUnit) + 1) * p ∧
      (trg e u).fired = min (2 ^ 31 - 1) ((trg s.dev u).fired + 1) ∧ e.clock = s.dev.clock ∧ e.regs = s.dev.regs) ∧
  (∀ (u : Fin 8) (s : State) (t : Nat), (trg s.dev u).pulseEnd = some t → t ≤ s.dev.clock →
    exec (.ppsPulseEnd u) s = .next (s.having (send (setTrg s.dev u { trg s.dev u with
      pulseEnd := none, running := (trg s.dev u).running && trgEnabled s.dev u })
      (.pin (ppsPin (bits (reg s.dev (trgOff u)) 26 25)) (bit (reg s.dev (trgOff u)) 24))))) ∧
  (∀ (i : Fin 4) (falling : Bool) (s : State) (c : W32), c = reg s.dev (capOff i) → bit c 31 = true →
    bit c 28 = falling →
    ((Tbl.getD s.dev.time.cap i {}).at_ = 0 →
      ∃ e, exec (.tsCapEdge i falling) s = .next (s.having e) ∧
        (Tbl.getD e.time.cap i {}).value = (tbase s.dev (bits c 30 29)).value / 2 ^ 62 * 2 ^ 62 ∧
        bit (reg e (capOff i)) 26 = true ∧ e.time.bases = s.dev.time.bases ∧ e.clock = s.dev.clock) ∧
    ((Tbl.getD s.dev.time.cap i {}).at_ = s.dev.clock + 1 →
      exec (.tsCapEdge i falling) s = .next (s.having (count s.dev (unitCtr 12 i)))))

/-- R654-R658: the agent counts a message of its port; a usable Sync on the slave port whose offset is beyond 1 ms steps
the base back by the offset and clears LOCKED; 3 s without a usable Sync clear LOCKED; at each Sync interval a message
leaves in the clear, and not from a muted member (R557), takes the fixed-latency class's way where that carries all of the
pair, or goes as an encrypt frame of its SecY; without one it is counted.
The bytes of the agent's messages are free values (log 2). -/
def Obligations.AgentFollowsMaster : Prop :=
  (∀ (p : Fin 128) (m : PtpMsg) (s : State), agentPort s.dev p = true → m.offset = none →
    exec (.ptpMessageRx p m) s = .next (s.having (count s.dev (portCtr 43 p)))) ∧
  (∀ (p : Fin 128) (m : PtpMsg) (s : State) (o : Int), agentPort s.dev p = true → m.offset = some o → m.slave = true →
    maySlave s.dev p = true → 1000000 < o.natAbs →
    ∃ e, exec (.ptpMessageRx p m) s = .next (s.having e) ∧
      (tbase e (ptpBase s.dev p)).value = addNs (tbase s.dev (ptpBase s.dev p)).value (-o) ∧
      baseLocked e (ptpBase s.dev p) = false) ∧
  (∀ (b : Fin 4) (s : State), agentOn s.dev b = true → (tbase s.dev b).lastSync + 1500000000 ≤ s.dev.clock →
    ∃ e, exec (.ptpSyncTimeout b) s = .next (s.having e) ∧ baseLocked e b = false ∧ e.clock = s.dev.clock) ∧
  (∀ (p : Fin 128) (s : State), agentPort s.dev p = true → isLine s.dev p = false → allExpress s.dev p = false →
    muted s.dev = false → bit (reg s.dev (ctlOff (ptpBase s.dev p))) 27 = false →
    exec (.ptpSyncInterval p) s = .next (s.having (send (count s.dev (portCtr 44 p)) (.ptp p (fit 60
      (Config.agentFrame p 0 (bits (reg s.dev (ctlOff (ptpBase s.dev p))) 23 16) s.dev.clock)))))) ∧
  (∀ (p : Fin 128) (s : State), agentPort s.dev p = true → isLine s.dev p = false → allExpress s.dev p = false →
    muted s.dev = true → exec (.ptpSyncInterval p) s = .next s) ∧
  (∀ (p : Fin 128) (s : State) (data : Bytes), agentPort s.dev p = true → isLine s.dev p = false →
    allExpress s.dev p = true → bit (reg s.dev (ctlOff (ptpBase s.dev p))) 27 = false →
    data = fit 60 (Config.agentFrame p 0 (bits (reg s.dev (ctlOff (ptpBase s.dev p))) 23 16) s.dev.clock) →
    exec (.ptpSyncInterval p) s = .next (s.having (flForme
      { s.dev with prs := { s.dev.prs with nextNo := s.dev.prs.nextNo + 1 } }
      { agentWork s.dev p data true with action := 1 }))) ∧
  (∀ (p : Fin 128) (s : State) (k i : Nat) (y : SecY), agentPort s.dev p = true → isLine s.dev p = true →
    bit (reg s.dev (ctlOff (ptpBase s.dev p))) 27 = false → bit (msPort s.dev p) 31 = true →
    k = bits (msPort s.dev p) 25 16 → allExpress s.dev p = false → flFits s.dev p k = true → s.dev.ms.owed = [] →
    (secy s.dev k = some y → y.port = p.val → encodingSa s.dev k = some i →
      ∃ e w, exec (.ptpSyncInterval p) s = .next (s.having e) ∧ fifoOf e p = fifoOf s.dev p ++ [w] ∧ w.secy = some k ∧
        w.sa = some i ∧ w.eg = p.val ∧ w.agent = true ∧ w.dec = false ∧ e.ms.sas = s.dev.ms.sas ∧ e.key = s.dev.key) ∧
    (secy s.dev k = none →
      exec (.ptpSyncInterval p) s = .next (s.having (count s.dev (portCtr 46 p)))))

/-! ## Key store (R454-R478) -/

/-- R453, R454, R460, R474: SLOT_DELETE erases a slot of the function's range, increments its GEN and touches no other
slot; outside the range it ends with BAD_INDEX, at the last GEN with NO_ROOM, and on a standby's mirror range with
ROLE_STALE. A job's reservation stays (R484). -/
def Obligations.SlotDeleteErases : Prop :=
  ∀ (r : Fin 64) (s : State) (f : Fetched) (rest : List Fetched) (i : Nat) (o : Origin),
    Runs s.dev r 0x0312 anyRight slotOnlyOwn f rest → i = slotNo16 f.desc 20 → o = originOf s.dev r f →
    (slotInRange s.dev (cmdOwner s.dev r) i = false →
      exec (.slotDelete r) s = .next (s.having (failed (taken s.dev r rest) o .badIndex (fit 16 (leBytes 2 20))))) ∧
    (slotInRange s.dev (cmdOwner s.dev r) i = true → genFull s.dev i = true →
      exec (.slotDelete r) s = .next (s.having (failed (taken s.dev r rest) o .noRoom (zeros 16)))) ∧
    (slotInRange s.dev (cmdOwner s.dev r) i = true → genFull s.dev i = false →
      (mirrorRole s.dev i = true →
        exec (.slotDelete r) s = .next (s.having (failed (taken s.dev r rest) o .roleStale (zeros 16)))) ∧
      (mirrorRole s.dev i = false →
        ∃ e, exec (.slotDelete r) s = .next (s.having (completed e o 0x0312 f.desc [] (zeros 16) none)) ∧
          slot e i = { gen := (slot s.dev i).gen + 1#32, reserved := (slot s.dev i).reserved } ∧ (∀ k, k ≠ i → slot e k = slot s.dev k) ∧
          e.key.records = s.dev.key.records ∧ e.regs = s.dev.regs))

/-- R459, R476: KEY_INVALIDATE increments the slot's GEN and keeps its key; a direct child that was recorded under the old
GEN is stale from then on. -/
def Obligations.KeyInvalidateStalesChildren : Prop :=
  (∀ (r : Fin 64) (s : State) (f : Fetched) (rest : List Fetched) (i : Nat) (g : W32),
    Runs s.dev r 0x0314 anyRight slotOnlyOwn f rest → i = slotNo16 f.desc 20 → g = (slot s.dev i).gen + 1#32 →
    slotInRange s.dev (cmdOwner s.dev r) i = true → (slot s.dev i).state ≠ 0 → genFull s.dev i = false →
    mirrorRole s.dev i = false →
    ∃ e res, exec (.keyInvalidate r) s = .next (s.having (completed e (originOf s.dev r f) 0x0314 f.desc [] res none)) ∧
      (slot e i).gen = g ∧ (slot e i).key = (slot s.dev i).key ∧ (∀ k, k ≠ i → slot e k = slot s.dev k) ∧
      res = leBytes 4 g.toNat ++ leBytes 2 (descendants (taken s.dev r rest) i)) ∧
  (∀ (d : Device) (i k : Nat), (slot d k).parent = some (i, (slot d i).gen) → k ≠ i →
    stale (setSlot d i { slot d i with gen := (slot d i).gen + 1#32 }) k = true)

/-- R454, R455, R470-R473: SLOT_IMPORT in the clear (PROVISION) and SLOT_GENERATE of a secret fill an empty slot with the
key, the attributes and the next GEN, without a parent. -/
def Obligations.SlotWritesFillEmptySlot : Prop :=
  (∀ (r : Fin 64) (s : State) (f : Fetched) (rest : List Fetched) (buf : Bytes) (i : Nat),
    Runs s.dev r 0x0310 anyRight importOwn f rest → i = slotNo f.desc 20 → leField f.desc 22 1 = 1 →
    leField f.desc 23 1 = 1 → (originOf s.dev r f).bufLen = 32 → s.dev.glb.mode = .provision →
    slotInRange s.dev (cmdOwner s.dev r) i = true → (slot s.dev i).state = 0 → (slot s.dev i).reserved = false →
    attrBad 1 (leField f.desc 26 2) i = false → mirrorBad (leField f.desc 26 2) i none = false →
    genFull s.dev i = false → mirrorRole s.dev i = false →
    exec (.slotImport r buf) s = .next (s.having (completed
      (writeSlot (taken s.dev r rest) i 1 (leField f.desc 28 1) (leField f.desc 26 2) (fit 32 buf) none)
      (originOf s.dev r f) 0x0310 f.desc buf (zeros 16) none))) ∧
  (∀ (r : Fin 64) (s : State) (f : Fetched) (rest : List Fetched) (i n : Nat),
    Runs s.dev r 0x0311 anyRight generateOwn f rest → i = slotNo16 f.desc 20 → leField f.desc 22 1 = 2 →
    n = leField f.desc 26 1 → (originOf s.dev r f).bufLen = 0 →
    slotInRange s.dev (cmdOwner s.dev r) i = true → (slot s.dev i).state = 0 → (slot s.dev i).reserved = false →
    attrBad 2 (leField f.desc 24 2) i = false → mirrorBad (leField f.desc 24 2) i none = false →
    drbgOk s.dev = true → genFull s.dev i = false → mirrorRole s.dev i = false →
    exec (.slotGenerate r) s = .next (s.having (completed
      (writeSlot (drbgRequest (taken s.dev r rest) n) i 2 (leField f.desc 23 1) (leField f.desc 24 2)
        (drbgBytes s.dev n) none)
      (originOf s.dev r f) 0x0311 f.desc [] (zeros 16) none))) ∧
  (∀ (d : Device) (i type curve attr : Nat) (key : Bytes), (slot (writeSlot d i type curve attr key none) i).key = key ∧
    (slot (writeSlot d i type curve attr key none) i).gen = nextGen (slot d i).gen ∧
    (slot (writeSlot d i type curve attr key none) i).parent = none ∧
    (slot (writeSlot d i type curve attr key none) i).state = 1 ∧
    (∀ k, k ≠ i → slot (writeSlot d i type curve attr key none) k = slot d k))

/-- R456, R457, R478: a sweep of a store whose used slots hold their CHECK changes no slot and is counted; a slot in use
whose key does not match its CHECK is marked bad and its GEN increments; writing KEY_SLOT_SEL loads the slot's snapshot
into the view and changes no slot. -/
def Obligations.SweepMarksBadSlots : Prop :=
  (∀ (val : W32) (s : State) (i : Nat), i = bits val 9 0 →
    ∃ e, exec (.keySlotSelWrite val) s = .next (s.having e) ∧ e.key.slots = s.dev.key.slots ∧
      e.key.view.gen = (slot s.dev i).gen ∧ bit e.key.view.info 31 = decide ((slot s.dev i).state ≠ 0) ∧
      bit e.key.view.info 30 = decide ((slot s.dev i).state = 2) ∧
      bits e.key.view.info 15 0 = (slot s.dev i).attr.toNat) ∧
  (∀ (s : State), bit (reg s.dev 0x1C0020) 31 = true →
    (∀ k : Nat, (slot s.dev k).state = 1 →
      checkValue s.dev (slot s.dev k).type (slot s.dev k).key (slot s.dev k).attr (slot s.dev k).gen
        = (slot s.dev k).check) →
    exec (.keySweep []) s = .next (s.having (count s.dev (devCtr 29)))) ∧
  (∀ (d : Device) (i by_ : Nat), (slot d i).state = 1 → (slot d i).gen ≠ 0xFFFFFFFF#32 →
    checkValue d (slot d i).type (slot d i).key (slot d i).attr (slot d i).gen ≠ (slot d i).check →
    (verifySlot d i by_).2 = false ∧ (slot (verifySlot d i by_).1 i).state = 2 ∧
    (slot (verifySlot d i by_).1 i).gen = (slot d i).gen + 1#32 ∧
    (∀ k, k ≠ i → slot (verifySlot d i by_).1 k = slot d k))

/-- R475, R477: an attestation and an export are accepted when both engines of their kind run and their queue has room; at
their end the signed 276-byte statement, and the wrapped key, go to the host buffer with OK.
That an export shares the symmetric engines' queue is the model's reading (log 12). -/
def Obligations.AttestAndExportComplete : Prop :=
  (∀ (r : Fin 64) (s : State) (f : Fetched) (rest : List Fetched) (x : Device × Job),
    Runs s.dev r 0x0010 anyRight attestOwn f rest → (originOf s.dev r f).bufLen = 276 → s.dev.tmp.identity = true →
    drbgOk s.dev = true →
    x = accepted (taken s.dev r rest)
      { origin := originOf s.dev r f, opcode := 0x0010, desc := f.desc, buf := fit 276 [] } →
    (freeEngine s.dev.svc.pkRun = none → pkWaiting s.dev < 64 → exec (.identityAttest r) s =
      .next (s.having { x.1 with svc := { x.1.svc with pkQueue := s.dev.svc.pkQueue ++ [x.2] } })) ∧
    (∀ k, freeEngine s.dev.svc.pkRun = some k → s.dev.svc.pkQueue = [] → exec (.identityAttest r) s =
      .next (s.having { x.1 with svc := { x.1.svc with
        pkRun := Tbl.put s.dev.svc.pkRun k { x.2 with started := s.dev.clock } } }))) ∧
  (∀ (e : Fin 2) (s : State) (j : Job) (t : Tree) (d : Device) (body : Bytes), Tbl.get? s.dev.svc.pkRun e = some j →
    s.dev.key.tree = some t → j.opcode = 0x0010 → body = attestBodyBytes s.dev s.fuses t (slice j.desc 24 32) →
    d = count (leavePk (drbgRequest s.dev 40) e) (unitCtr 9 e) →
    exec (.identityAttestDone e) s = .next (s.having (finishOut d j.origin (zeros 16)
      (some (body ++ identitySign t (drbgBytes s.dev 40) body))))) ∧
  (∀ (r : Fin 64) (s : State) (f : Fetched) (rest : List Fetched) (x : Device × Job),
    Runs s.dev r 0x0313 anyRight exportOwn f rest →
    exportCheck (taken s.dev r rest) (cmdOwner s.dev r) (slotNo16 f.desc 20) (slotNo16 f.desc 22) (originOf s.dev r f).bufLen
      = (taken s.dev r rest, none) →
    freeEngine s.dev.svc.symRun = none → s.dev.svc.symQueue.length < 256 →
    x = accepted (taken s.dev r rest)
      { origin := originOf s.dev r f, opcode := 0x0313, desc := f.desc, buf := fit (originOf s.dev r f).bufLen [] } →
    exec (.slotExportWrapped r) s =
      .next (s.having { x.1 with svc := { x.1.svc with symQueue := s.dev.svc.symQueue ++ [x.2] } })) ∧
  (∀ (e : Fin 2) (s : State) (j : Job) (w : Bytes), Tbl.get? s.dev.svc.symRun e = some j → j.opcode = 0x0313 →
    w = wrapKey j.res.type j.res.wrap j.res.key →
    exec (.slotExportWrappedDone e) s =
      .next (s.having (finishOut (count (count (count (leaveSym s.dev e) (unitCtr 7 e)) (unitCtr 8 e) j.res.key.length)
        (devCtr 30)) j.origin (leBytes 2 w.length) (some w))))

/-! ## Service engines (R481-R517) -/

/-- R482, R486, R495, R503, R514, R515: a job whose fields are good starts on a free engine when none waits, and is
accepted into its queue while both engines run and the queue has room: no completion yet, the job last in order. -/
def Obligations.JobsAcceptedInOrder : Prop :=
  (∀ (r : Fin 64) (s : State) (f : Fetched) (rest : List Fetched) (buf : Bytes) (o : Origin) (x : Device × Job),
    Runs s.dev r 0x0300 anyRight symOwn f rest → o = originOf s.dev r f → leField f.desc 20 1 = 5 →
    (byteAt f.desc 21).getLsbD 0 = false → symLenBad o f.desc = none →
    x = accepted (taken s.dev r rest) { origin := o, opcode := 0x0300, desc := f.desc, buf := fit o.bufLen buf } →
    (freeEngine s.dev.svc.symRun = none → s.dev.svc.symQueue.length < 256 → exec (.symJob r buf) s =
      .next (s.having { x.1 with svc := { x.1.svc with symQueue := s.dev.svc.symQueue ++ [x.2] } })) ∧
    (∀ k, freeEngine s.dev.svc.symRun = some k → s.dev.svc.symQueue = [] → exec (.symJob r buf) s =
      .next (s.having { x.1 with svc := { x.1.svc with
        symRun := Tbl.put s.dev.svc.symRun k { x.2 with started := s.dev.clock } } }))) ∧
  (∀ (r : Fin 64) (s : State) (f : Fetched) (rest : List Fetched) (buf : Bytes) (o : Origin) (x : Device × Job),
    Runs s.dev r 0x0301 anyRight pkOwn f rest → o = originOf s.dev r f → leField f.desc 20 1 = 1 →
    leField f.desc 21 1 = 0 → o.bufLen = pkBufLen (some p256) f.desc →
    x = accepted (taken s.dev r rest) { origin := o, opcode := 0x0301, desc := f.desc, buf := fit o.bufLen buf } →
    (freeEngine s.dev.svc.pkRun = none → pkWaiting s.dev < 64 → exec (.pkJob r buf) s =
      .next (s.having { x.1 with svc := { x.1.svc with pkQueue := s.dev.svc.pkQueue ++ [x.2] } })) ∧
    (∀ k, freeEngine s.dev.svc.pkRun = some k → s.dev.svc.pkQueue = [] → drbgOk s.dev = true → exec (.pkJob r buf) s =
      .next (s.having { x.1 with svc := { x.1.svc with
        pkRun := Tbl.put s.dev.svc.pkRun k { x.2 with started := s.dev.clock } } }))) ∧
  (∀ (r : Fin 64) (s : State) (f : Fetched) (rest : List Fetched) (buf : Bytes) (o : Origin) (x : Device × Job)
      (n : Nat),
    Runs s.dev r 0x0302 anyRight curveOwn f rest → o = originOf s.dev r f → leField f.desc 20 1 ≤ 7 →
    1 ≤ leField f.desc 21 1 → leField f.desc 21 1 ≤ 4 → n = leField f.desc 22 2 → 224 ≤ n → n ≤ 521 →
    o.bufLen = 6 * ((n + 7) / 8) → s.dev.key.slots = [] →
    x = accepted (taken s.dev r rest) { origin := o, opcode := 0x0302, desc := f.desc, buf := fit o.bufLen buf } →
    (freeEngine s.dev.svc.pkRun = none → pkWaiting s.dev < 64 → exec (.pkCurveLoad r buf) s =
      .next (s.having { x.1 with svc := { x.1.svc with pkQueue := s.dev.svc.pkQueue ++ [x.2] } })) ∧
    (∀ k, freeEngine s.dev.svc.pkRun = some k → s.dev.svc.pkQueue = [] → drbgOk s.dev = true → exec (.pkCurveLoad r buf) s =
      .next (s.having { x.1 with svc := { x.1.svc with
        pkRun := Tbl.put s.dev.svc.pkRun k { x.2 with started := s.dev.clock } } }))) ∧
  (∀ (r : Fin 64) (s : State) (f : Fetched) (rest : List Fetched) (o : Origin) (x : Device × Job),
    Runs s.dev r 0x0303 anyRight drbgOwn f rest → o = originOf s.dev r f → 1 ≤ o.bufLen → o.bufLen ≤ 65536 →
    drbgOk s.dev = true →
    x = accepted (taken s.dev r rest) { origin := o, opcode := 0x0303, desc := f.desc, buf := fit o.bufLen [] } →
    exec (.drbgGenerate r) s =
      .next (s.having { x.1 with svc := { x.1.svc with drbgQueue := s.dev.svc.drbgQueue ++ [x.2] } })) ∧
  (∀ (r : Fin 64) (s : State) (f : Fetched) (rest : List Fetched) (buf b : Bytes) (o : Origin) (x : Device × Job),
    Runs s.dev r 0x0304 anyRight (fun desc => zeroFrom desc 20 63) f rest → o = originOf s.dev r f →
    s.dev.boot.enrolled = true → b = fit o.bufLen buf → o.bufLen = 16 + 4 * leField b 2 2 + 64 →
    updateShapeOk b = true → s.dev.svc.revSeq < leField b 8 8 →
    x = accepted (taken s.dev r rest) { origin := o, opcode := 0x0304, desc := f.desc, buf := b } →
    (freeEngine s.dev.svc.pkRun = none → pkWaiting s.dev < 64 → exec (.revocationUpdate r buf) s =
      .next (s.having { x.1 with svc := { x.1.svc with pkQueue := s.dev.svc.pkQueue ++ [x.2] } })) ∧
    (∀ k, freeEngine s.dev.svc.pkRun = some k → s.dev.svc.pkQueue = [] → exec (.revocationUpdate r buf) s =
      .next (s.having { x.1 with svc := { x.1.svc with
        pkRun := Tbl.put s.dev.svc.pkRun k { x.2 with started := s.dev.clock } } })))

/-- R461, R483, R500, R506, R507: the lower-numbered free engine starts the oldest waiting job; a hash needs no key. At a
yield point a long job lends its engine to a waiting short job, keeping the engine time it has spent, and with none it
goes on; once its yield points are passed it yields no more. -/
def Obligations.EnginesServeInOrder : Prop :=
  (∀ (i : Fin 2) (s : State) (j : Job) (rest : List Job), freeEngine s.dev.svc.symRun = some i.val →
    s.dev.svc.symQueue = j :: rest → j.opcode = 0x0300 → 5 ≤ symMode j → symMode j ≤ 7 →
    exec (.jobStart (.sym i)) s = .next (s.having { s.dev with svc := { s.dev.svc with
      symQueue := rest, symRun := Tbl.put s.dev.svc.symRun i { j with started := s.dev.clock } } })) ∧
  (∀ (i : Fin 2) (s : State) (j : Job) (rest : List Job), freeEngine s.dev.svc.pkRun = some i.val →
    s.dev.svc.pkQueue = j :: rest → j.opcode = 0x0302 → drbgOk s.dev = true →
    exec (.jobStart (.pk i)) s = .next (s.having { s.dev with svc := { s.dev.svc with
      pkQueue := rest, pkRun := Tbl.put s.dev.svc.pkRun i { j with started := s.dev.clock } } })) ∧
  (∀ (e : Fin 2) (s : State) (long l j : Job) (d : Device), Tbl.get? s.dev.svc.pkRun e = some long → longJob long = true →
    Tbl.has s.dev.svc.yielded e = false → s.dev.svc.pkQueue = [j] → shortJob j = true → drbgOk s.dev = true →
    leField j.desc 20 1 = 1 → long.points < yieldPoints long →
    engineTime long (yieldAt long (long.points + 1)) ≤ s.dev.clock →
    l = { long with points := long.points + 1, spent := long.spent + (s.dev.clock - long.started) } →
    d = { s.dev with svc := { s.dev.svc with
      pkQueue := []
      yielded := Tbl.put (Tbl.put s.dev.svc.yielded e (l, [])) e (l, [])
      pkRun := Tbl.put (Tbl.put s.dev.svc.pkRun e { long with points := long.points + 1 }) e
        { j with started := s.dev.clock } } } →
    exec (.pkYield e false) s = .next (s.having (count d (unitCtr 10 e)))) ∧
  (∀ (e : Fin 2) (s : State) (long : Job), Tbl.get? s.dev.svc.pkRun e = some long → longJob long = true →
    Tbl.has s.dev.svc.yielded e = false → s.dev.svc.pkQueue = [] →
    (long.points < yieldPoints long → engineTime long (yieldAt long (long.points + 1)) ≤ s.dev.clock →
      exec (.pkYield e false) s = .next (s.having { s.dev with svc := { s.dev.svc with
        pkRun := Tbl.put s.dev.svc.pkRun e { long with points := long.points + 1 } } })) ∧
    (yieldPoints long ≤ long.points → exec (.pkYield e false) s = .next s))

/-- R490, R499, R504, R511, R514, R517: how jobs end: a symmetric job writes its output or reports a failed
authentication, a rejected modular job answers INPUT_REJECTED and releases its slot, a good curve is loaded, random bytes
are written, and a verified update becomes the bitmap. -/
def Obligations.JobsEndWithTheirResult : Prop :=
  (∀ (e : Fin 2) (s : State) (j : Job) (out : Bytes) (k : Nat) (d d1 : Device), Tbl.get? s.dev.svc.symRun e = some j →
    j.opcode = 0x0300 → symMode j ≤ 3 → symResult j.res.key j.desc j.buf = (some out, k) →
    d = count (count (leaveSym s.dev e) (unitCtr 7 e)) (unitCtr 8 e) (leField j.desc 24 2) →
    writeBuf d j.origin (leField j.desc 40 8) (leField j.desc 48 4) out = some d1 →
    exec (.symJobDone e) s = .next (s.having (post (dropInflight d1 j.origin)
      (dueOf d1 j.origin .ok (zeros 16) (out != []))))) ∧
  (∀ (e : Fin 2) (s : State) (j : Job) (k : Nat) (d : Device), Tbl.get? s.dev.svc.symRun e = some j →
    j.opcode = 0x0300 → symMode j ≤ 3 → symResult j.res.key j.desc j.buf = (none, k) →
    d = count (count (leaveSym s.dev e) (unitCtr 7 e)) (unitCtr 8 e) (leField j.desc 24 2) →
    exec (.symJobDone e) s = .next (s.having (finish (count d (devCtr 31)) j.origin .ok [1#8]))) ∧
  (∀ (e : Fin 2) (s : State) (j : Job) (d : Device) (ok : Bool), Tbl.get? s.dev.svc.pkRun e = some j →
    j.opcode = 0x0301 → leField j.desc 20 1 = 1 → leField j.desc 21 1 = 0 → j.started + 48000 ≤ s.dev.clock →
    d = count (leavePk (drbgRequest s.dev 80) e) (unitCtr 9 e) →
    pkResult (some p256) (drbgBytes s.dev 80) j.res.key j.desc j.buf = .ok (.verdict ok) →
    exec (.pkJobDone e none) s = .next (s.having (finish d j.origin .ok [if ok then 0#8 else 1#8]))) ∧
  (∀ (e : Fin 2) (s : State) (j : Job) (c : Curve) (d : Device), Tbl.get? s.dev.svc.pkRun e = some j →
    j.opcode = 0x0302 → c = curveOf j.desc j.buf → j.started + curveMicros c.bits * 500 ≤ s.dev.clock →
    d = count (leavePk (drbgRequest s.dev 8448) e) (unitCtr 9 e) →
    ∃ e', exec (.curveLoaded e) s = .next (s.having (if curveOk c (drbgBytes s.dev 8448)
        then finish e' j.origin .ok (zeros 16) else pkReject d j)) ∧ Tbl.get? e'.svc.curves (leField j.desc 20 1) = some c ∧ e'.key = d.key) ∧
  (∀ (s : State) (j : Job) (rest : List Job), s.dev.svc.drbgQueue = j :: rest → drbgOk s.dev = true →
    (byteAt j.desc 20).getLsbD 0 = false →
    exec .drbgGenerateDone s = .next (s.having (finishOut (drbgRequest
      { s.dev with svc := { s.dev.svc with drbgQueue := rest } } j.origin.bufLen) j.origin (zeros 16)
      (some (drbgBytes s.dev j.origin.bufLen))))) ∧
  (∀ (s : State), drbgOk s.dev = true → s.dev.svc.reseedAt + reseedS s.dev * 500000000 ≤ s.dev.clock →
    exec (.drbgReseed none) s = .next (s.having (count { s.dev with svc := { s.dev.svc with
      drbgRequests := 0, reseedAt := s.dev.clock } } (devCtr 36)))) ∧
  (∀ (s : State) (c : Fin 4), s.dev.svc.drbgStopped = none →
    ∃ e, exec (.entropyHealthFail c) s = .next (s.having e) ∧ e.svc = { s.dev.svc with drbgStopped := some c.val } ∧
      drbgOk e = false ∧ e.key = s.dev.key) ∧
  (∀ (e : Fin 2) (s : State) (j : Job) (a : Bytes) (n : Nat) (d : Device), Tbl.get? s.dev.svc.pkRun e = some j →
    j.opcode = 0x0304 → j.started + 48000 ≤ s.dev.clock → d = count (leavePk s.dev e) (unitCtr 9 e) →
    authority d = some a → n = j.buf.length - 64 → d.svc.revSeq < leField j.buf 8 8 →
    d.kn.assocs = [] →
    ∃ e' res, exec (.revocationApplied e) s = .next (s.having (if verifyP256 a (j.buf.take n) (slice j.buf n 64)
        then finish e' j.origin .ok res else pkReject d j)) ∧
      e'.svc.revoked = applyEntries d.svc.revoked (updateEntries j.buf) ∧ e'.svc.revSeq = leField j.buf 8 8)

/-! ## Recorder, counters and statistics (R217-R221, R705-R728) -/

/-- R709, R711, R716-R721, R725: EVENT_READ and COUNTER_SNAPSHOT answer what they name in the buffer and change no work of the device; JOURNAL_WRITE leaves every record delivered and in the journal; CHECKPOINT writes a verified
block of the operating time. -/
def Obligations.RecorderReports : Prop :=
  (∀ (r : Fin 64) (s : State) (f : Fetched) (rest : List Fetched) (o : Origin) (x : Scanned) (max first : Nat),
    Runs s.dev r 0x0011 (fun _ fn => fn == 0) eventReadOwn f rest → o = originOf s.dev r f →
    max = leField f.desc 32 4 → 1 ≤ max → max ≤ 4096 → o.bufLen % 8 = 0 → 520 ≤ o.bufLen → o.bufLen ≤ max * 520 →
    first = leField f.desc 28 4 → findRecords s.dev (leField f.desc 20 1) (leField f.desc 24 4) ≠ [] →
    x = scanRecords (leField f.desc 20 1) (leField f.desc 24 4) max o.bufLen ((byteAt f.desc 21).getLsbD 0)
      ((findRecords s.dev (leField f.desc 20 1) (leField f.desc 24 4)).filter (fun g => first ≤ g.seq))
      { dev := taken s.dev r rest, next := first } →
    exec (.eventRead r) s = .next (s.having (completed x.dev o 0x0011 f.desc []
      (leBytes 2 x.returned ++ leBytes 2 x.skipped ++ leBytes 2 x.left ++ zeros 2 ++ leBytes 4 x.next
        ++ leBytes 4 x.out.length) (some x.out))) ∧
    SameWork x.dev s.dev) ∧
  (∀ (r : Fin 64) (s : State) (f : Fetched) (rest : List Fetched) (first n : Nat),
    Runs s.dev r 0x0012 counterAccess (fun desc => zeroFrom desc 28 63) f rest → first = leField f.desc 20 4 →
    n = leField f.desc 24 4 → 1 ≤ n → n ≤ 16384 → first + n ≤ 131072 → (originOf s.dev r f).bufLen = 16 + 8 * n →
    exec (.counterSnapshot r) s = .next (s.having (completed (taken s.dev r rest) (originOf s.dev r f) 0x0012 f.desc []
      (zeros 16) (some (leBytes 8 s.dev.clock ++ leBytes 4 first ++ leBytes 4 n
        ++ (List.range n).flatMap (fun i => leBytes 8 (counter s.dev (first + i)).toNat)))))) ∧
  (∀ s : State, s.dev.boot.ended = true → s.dev.rcd.journalReady = true → s.dev.rcd.dropped = [] →
    ∃ e, exec .journalWrite s = .next (s.having e) ∧ e.rcd.ring.map recBytes = s.dev.rcd.ring.map recBytes ∧
      (∀ x ∈ e.rcd.ring, x.delivered = true ∧ x.journalled = true) ∧ SameWork { e with boot := s.dev.boot } s.dev) ∧
  (∀ (s : State) (t : Tree), s.dev.rcd.journalReady = true → s.dev.key.tree = some t →
    ∃ e l b, exec .checkpoint s = .next (s.having e) ∧ e.boot.flash.journal = l ++ [b] ∧ b.kind = 1 ∧
      b.content = leBytes 8 (opTimeUs s.dev) ++ zeros 8 ∧ verified e b = true ∧ e.rcd.opUnverified = false ∧
      e.regs = s.dev.regs ∧ SameWork { e with boot := s.dev.boot } s.dev)

/-- R218, R219: STATS_READ writes COUNT records of 128 bytes in ascending SA order; reading their lines counts transfers and
fills the counter cache, and changes nothing else; another buffer
length, a COUNT outside 1-4,096 and SAs beyond the last are refused. -/
def Obligations.StatsReadWritesRecords : Prop :=
  (∀ (r : Fin 64) (s : State) (f : Fetched) (rest : List Fetched) (first n : Nat),
    Runs s.dev r 0x0013 anyRight statsOwn f rest → first = leField f.desc 20 3 → n = leField f.desc 24 4 →
    (originOf s.dev r f).bufLen = 128 * n → 1 ≤ n → n ≤ 4096 → first + n ≤ 262144 →
    exec (.statsRead r) s = .next (s.having (completed (readStats (taken s.dev r rest) first n) (originOf s.dev r f) 0x0013 f.desc []
      (fit 16 (leBytes 4 n)) (some ((upFrom first n).flatMap (statRecord s.dev)))))) ∧
  (∀ (d : Device) (first n : Nat), ∃ c m, readStats d first n = { d with counters := c, mem := m } ∧
    m.poison = d.mem.poison ∧ m.quar = d.mem.quar ∧ m.groups = d.mem.groups) ∧
  (∀ (r : Fin 64) (s : State) (f : Fetched) (rest : List Fetched) (first n : Nat) (o : Origin),
    Runs s.dev r 0x0013 anyRight statsOwn f rest → first = leField f.desc 20 3 → n = leField f.desc 24 4 →
    o = originOf s.dev r f →
    (o.bufLen ≠ 128 * n →
      exec (.statsRead r) s = .next (s.having (failed (taken s.dev r rest) o .lengthError (fit 16 (leBytes 2 16))))) ∧
    (o.bufLen = 128 * n → (n = 0 ∨ 4096 < n) →
      exec (.statsRead r) s = .next (s.having (failed (taken s.dev r rest) o .badField (fit 16 (leBytes 2 24))))) ∧
    (o.bufLen = 128 * n → 1 ≤ n → n ≤ 4096 → 262144 < first + n →
      exec (.statsRead r) s = .next (s.having (failed (taken s.dev r rest) o .badIndex (fit 16 (leBytes 2 20)))))) ∧
  (∀ (d : Device) (i : Nat), (statRecord d i).length = 128)

/-- Tier 2. R217, R219: STATS_WRITEBACK moves every accumulator to DDR4 and, where no line is under quarantine or in a group that
is frozen or may freeze by these writes (R537), changes no statistic that a reader sees. -/
def Obligations.WritebackKeepsTotals : Prop :=
  ∀ s : State, Tbl.sorted s.dev.ms.acc = true →
    ∃ e, exec .statsWriteback s = .next (s.having e) ∧ e.ms.acc = [] ∧
      (s.dev.mem.quar = [] → s.dev.mem.rootQuar = [] → s.dev.mem.frozen = [] →
        (∀ g : Nat, (group s.dev g).major + s.dev.ms.acc.length < 2 ^ 56) → ∀ k : Nat, statValue e k = statValue s.dev k)

/-! ## Resets and supplies (R57, R61, R62, R630, R647, R695-R698, R714, R752) -/

/-- R61, R62, R647, R695, R698, R746, R752: RESET_N starts the device up under the sampled pins, BOOT_RESET under the old
PROFILE_SEL behind a checkpoint; function resets disable and empty the rings of their functions; PWRFAIL_N, MAIN_POWER_OFF and
ROOT_PLL_LOCK have their lasting effects. -/
def Obligations.ResetsAndSupplies : Prop :=
  (∀ (pins : Fin 4) (start : StartUp) (s : State) (d : Device), d = resetDevice s.dev start →
    exec (.resetN pins start) s =
      .next (s.having (startUp s.fuses { d with
        boot := { d.boot with pins := pins }, hif := { d.hif with sris := start.sris } } start)) ∧
    d.ms = {} ∧ d.kn = {} ∧ d.regs = [] ∧ d.hif = { sris := s.dev.hif.sris } ∧ d.key.slots = [] ∧ d.boot.flash = s.dev.boot.flash) ∧
  (∀ (start : StartUp) (s : State), s.dev.tmp.mainPower = true →
    exec (.bootReset 0x5E7A#32 start) s =
      .next (s.having (startUp s.fuses { resetDevice (checkpoint s.dev) start with
        hif := { (resetDevice (checkpoint s.dev) start).hif with sris := start.sris } } start)) ∧
    (resetDevice (checkpoint s.dev) start).boot.pins = s.dev.boot.pins) ∧
  (∀ (val : W32) (start : StartUp) (s : State), val ≠ 0x5E7A#32 → exec (.bootReset val start) s = .next s) ∧
  (∀ (f : Fin 16) (s : State), f.val ≠ 0 → s.dev.hif.abortWaits = [] → ∃ e, exec (.flrVf f) s = .next (s.having e) ∧
    (∀ r : Nat, r < 64 → cmdOwner s.dev r = f.val → cmdEnabled e r = false ∧ (cmdRing e r).fetched = [] ∧
      (cmdRing e r).head = 0 ∧ (cmdRing e r).tail = 0) ∧
    (∀ r : Nat, r < 64 → cmdOwner s.dev r ≠ f.val → cmdRing e r = cmdRing s.dev r ∧ cmdEnabled e r = cmdEnabled s.dev r) ∧
    (s.dev.svc.yielded = [] → (∀ j ∈ allJobs s.dev, j.res.out = none) → SameWork { e with svc := s.dev.svc } s.dev)) ∧
  (∀ s : State, ∃ e, exec .flrPf s = .next (s.having e) ∧
    (∀ r : Nat, r < 64 → cmdEnabled e r = false ∧ (cmdRing e r).fetched = [] ∧ (cmdRing e r).head = 0 ∧
      (cmdRing e r).tail = 0 ∧ cqEnabled e r = false ∧ (cqRing e r).due = []) ∧
    e.hif.raised = [] ∧
    (s.dev.svc.yielded = [] → (∀ j ∈ allJobs s.dev, j.res.out = none) → SameWork { e with svc := s.dev.svc } s.dev)) ∧
  (∀ s : State, ∃ e, exec (.perstN 4 8) s = .next (s.having e) ∧
    (∀ r : Nat, r < 64 → cmdEnabled e r = false ∧ (cmdRing e r).fetched = []) ∧
    e.hif.linkUp = true ∧ e.hif.speed = 4 ∧ e.hif.width = 8 ∧
    (s.dev.svc.yielded = [] → (∀ j ∈ allJobs s.dev, j.res.out = none) → SameWork { e with svc := s.dev.svc } s.dev)) ∧
  (∀ s : State, s.dev.tmp.pwrfail = false → s.dev.tmp.mainPower = true → s.dev.duet.role ≠ .active →
    s.dev.rcd.journalReady = true →
    ∃ e, exec .pwrfailN s = .next (s.having e) ∧ e.tmp = { s.dev.tmp with pwrfail := true } ∧ e.duet.pinOut = false ∧
      (∀ x ∈ e.rcd.ring, x.journalled = true) ∧ e.key = s.dev.key ∧ e.ms = s.dev.ms) ∧
  (∀ s : State, ∃ e, exec .mainPowerOff s = .next (s.having e) ∧ e.tmp.mainPower = false ∧
    e.tmp.batt = s.dev.tmp.batt ∧ e.boot.flash = (spoilInstalls s.dev).boot.flash ∧
    (s.dev.boot.suppInstall = none → s.dev.boot.profInstall = none → e.boot.flash = s.dev.boot.flash) ∧ e.key.slots = [] ∧ e.ms = {} ∧ e.kn = {} ∧
    e.regs = [] ∧ e.duet.pinOut = false) ∧
  (∀ s : State, s.dev.tmp.mainPower = true → ∃ e, exec .rootPllLock s = .next (s.having e) ∧
    e.glb.rootLock = true ∧ e.time = { s.dev.time with running := true } ∧ e.tmp.clockArmed = true ∧
    e.key = s.dev.key ∧ e.regs = s.dev.regs)

/-- Tier 2. R21, R625, R696, R697: a start-up that ends without an alarm enters LOCKED where the tamper latch is set and no
grant holds; otherwise PROVISION where no profile was accepted, no supplement was, or no enrolment is held, and else the
profile's mode. -/
def Obligations.StartUpChoosesMode : Prop :=
  ∀ (f : Fuses) (d : Device) (start : StartUp) (bbk : Bytes), d.tmp.batt.signature = true →
    d.tmp.batt.bbk = some bbk → d.boot.ended = false →
    (startUp f d start).boot.ended = true ∧
    (d.tmp.batt.latch = true → d.tmp.batt.grant = false → (startUp f d start).glb.mode = .locked) ∧
    (d.tmp.batt.latch = false → ∀ b, b = (startUp f d start).boot → (startUp f d start).glb.mode =
      if (b.profileOk && b.suppSlot != 2 && b.enrolled) = true then b.profile.mode else .provision)

/-! ## Enrolment, images and the warm restart (R679-R694, R699, R700) -/

/-- R690-R693: an enrolment, a certificate and a supplement are accepted when their checks pass; the record, the images and
the fuses are written at the end. -/
def Obligations.EnrolmentAndSupplements : Prop :=
  (∀ (r : Fin 64) (s : State) (f : Fetched) (rest : List Fetched) (buf b : Bytes) (o : Origin) (x : Enrol),
    Runs s.dev r 0x0020 anyRight (fun desc => zeroBits desc 20 0xFC :: zeroFrom desc 21 63) f rest →
    o = originOf s.dev r f → o.bufLen = 216 → b = fit 216 buf → allZero (slice b 65 3) = true →
    certIsOwn s.dev s.fuses (slice b 68 148) = true → s.dev.boot.flash.enrolment = none → s.dev.boot.enrol = none →
    x = { origin := o, enterField := (byteAt f.desc 20).getLsbD 0, debugKill := (byteAt f.desc 20).getLsbD 1, buf := b } →
    exec (.domainEnrol r buf) s = .next (s.having (enterInflight { taken s.dev r rest with boot :=
      { s.dev.boot with enrol := some x } } o 0x0020))) ∧
  (∀ (s : State) (x : Enrol), s.dev.boot.enrol = some x → s.dev.key.tree.isSome = true →
    ∃ e e', exec .domainEnrolDone s = .next (if certSigned (slice x.buf 0 65) (slice x.buf 68 148) then
          { s with dev := e, fuses := { s.fuses with
            field := s.fuses.field || x.enterField
            debugKill := s.fuses.debugKill || x.debugKill || x.enterField } }
        else s.having e') ∧
      e.boot.enrolled = true ∧ e.boot.enrol = none ∧
      (∃ tag, e.boot.flash.enrolment = some { authority := slice x.buf 0 65, cert := slice x.buf 68 148, tag := tag }) ∧
      e.clock = s.dev.clock + 48000 ∧ e.key = s.dev.key ∧ e.ms = s.dev.ms ∧
      e'.boot = { s.dev.boot with enrol := none } ∧ e'.key = s.dev.key ∧ e'.ms = s.dev.ms) ∧
  (∀ (r : Fin 64) (s : State) (f : Fetched) (rest : List Fetched) (buf b : Bytes) (x : Enrolment) (d : Device),
    Runs s.dev r 0x0021 anyRight (fun desc => zeroFrom desc 20 63) f rest → s.dev.boot.enrolled = true →
    s.dev.boot.flash.enrolment = some x → (originOf s.dev r f).bufLen = 148 → b = fit 148 buf →
    certIsOwn s.dev s.fuses b = true → certMember b = certMember x.cert → d = elapse (taken s.dev r rest) 48000 →
    exec (.certInstall r buf) s = .next (s.having (if certSigned x.authority b
      then completed (writeEnrolment d x.authority b) (originOf s.dev r f) 0x0021 f.desc buf (zeros 16) none
      else failed d (originOf s.dev r f) .inputRejected (zeros 16)))) ∧
  (∀ (r : Fin 64) (s : State) (f : Fetched) (rest : List Fetched) (buf b : Bytes) (o : Origin) (x : Install),
    Runs s.dev r 0x0022 anyRight suppOwn f rest → o = originOf s.dev r f → b = fit o.bufLen buf →
    o.bufLen = leField b 8 4 → s.dev.boot.suppSlot ≠ leField f.desc 20 1 →
    leField f.desc 22 1 / 2 ^ suppKey b % 2 = 0 → s.dev.boot.suppInstall = none →
    x = { origin := o, index := leField f.desc 20 1, advance := (byteAt f.desc 21).getLsbD 0
          revoke := leField f.desc 22 1, image := b } →
    exec (.supplementInstall r buf) s = .next (s.having (if suppReason s.fuses s.dev.glb.part b = none
      then enterInflight { taken s.dev r rest with boot := { s.dev.boot with suppInstall := some x } } o 0x0022
      else failed (taken s.dev r rest) o .badField
        (leBytes 2 8 ++ leBytes 1 ((suppReason s.fuses s.dev.glb.part b).getD 0))))) ∧
  (∀ (s : State) (x : Install), s.dev.boot.suppInstall = some x → x.index = 0 →
    ∃ e tag, exec (.supplementInstallDone true) s = .next { s with dev := e, fuses := { s.fuses with
        rollback := if x.advance then max s.fuses.rollback (suppRollback x.image) else s.fuses.rollback
        revoke := s.fuses.revoke ||| BitVec.ofNat 4 x.revoke } } ∧
      e.boot.flash.suppA = some { image := x.image, tag := tag } ∧ e.boot.flash.suppB = s.dev.boot.flash.suppB ∧
      e.boot.suppInstall = none ∧ e.key = s.dev.key ∧ e.ms = s.dev.ms)

/-- R694, R699-R701: a profile is accepted when its checks pass and is then written; PROFILE_SELECT of an image that passes
begins a restart, which sets RESTART and discards the frames in flight; at its end the device runs in the image's mode and the
command answers the mode, the index and the time.
That the restart ends in one step, at the tick that completes its time, is the model's choice (log 43). -/
def Obligations.ProfilesAndRestart : Prop :=
  (∀ (r : Fin 64) (s : State) (f : Fetched) (rest : List Fetched) (buf b : Bytes) (o : Origin) (x : Install) (c : Nat × Nat),
    Runs s.dev r 0x0023 anyRight profInstallOwn f rest → o = originOf s.dev r f → b = fit o.bufLen buf →
    o.bufLen = leField b 6 2 → profileInUse s.dev (leField f.desc 20 1) = false →
    s.dev.boot.profInstall = none → c = (profileCheck s.dev s.fuses b).getD (0, 0) →
    x = { origin := o, index := leField f.desc 20 1, advance := false, revoke := 0, image := b } →
    exec (.profileInstall r buf) s = .next (s.having (if profileCheck s.dev s.fuses b = none
      then enterInflight { taken s.dev r rest with boot := { s.dev.boot with profInstall := some x } } o 0x0023
      else failed (profileRejected (taken s.dev r rest) x.index c.1 c.2 2) o .badField (imageResult c.1 c.2)))) ∧
  (∀ (s : State) (x : Install), s.dev.boot.profInstall = some x →
    ∃ e tag, exec (.profileInstallDone true) s = .next (s.having e) ∧
      Tbl.get? e.boot.flash.profiles x.index = some { image := x.image, tag := tag } ∧
      (∀ k, k ≠ x.index → Tbl.get? e.boot.flash.profiles k = Tbl.get? s.dev.boot.flash.profiles k) ∧
      e.boot.profInstall = none ∧ SameWork { e with boot := s.dev.boot } s.dev) ∧
  (∀ (r : Fin 64) (us : Fin 300001) (s : State) (f : Fetched) (rest : List Fetched) (i : Nat) (g : Region) (d : Device)
      (c : Nat × Nat),
    Runs s.dev r 0x0038 anyRight profInstallOwn f rest → i = leField f.desc 20 1 →
    Tbl.get? s.dev.boot.flash.profiles i = some g → s.dev.duet.role = .solo →
    selectDenied s.dev (some g.image) = false → c = (profileCheck s.dev s.fuses g.image).getD (0, 0) →
    s.dev.boot.restart = none →
    d = beginRestart (enterInflight (taken s.dev r rest) (originOf s.dev r f) 0x0038) (originOf s.dev r f) i
      (readProfile g.image) us.val →
    if profileCheck s.dev s.fuses g.image = none then
      exec (.profileSelect r us) s = .next (s.having (restartTick d)) ∧
      d.boot.restart = some { origin := originOf s.dev r f, index := i, profile := readProfile g.image, us := us.val
                              ends := s.dev.clock + us.val * 500 } ∧
      bit (glbState d) 9 = true ∧ d.prs.formes = [] ∧ d.prs.fifo = [] ∧ d.key.slots = s.dev.key.slots
    else exec (.profileSelect r us) s = .next (s.having (failed (profileRejected (taken s.dev r rest) i c.1 c.2 1)
      (originOf s.dev r f) .badField (imageResult c.1 c.2)))) ∧
  (∀ (s : State) (x : Restart), s.dev.boot.restart = some x → s.pending = [] →
    (s.dev.clock + 1 < x.ends → ∃ e, step s = .next (s.having e) ∧ e.boot.restart = some x ∧ e.glb = s.dev.glb) ∧
    (x.ends ≤ s.dev.clock + 1 → ∃ e, step s = .next (s.having e) ∧ e.boot.restart = none ∧
      e.glb.mode = x.profile.mode ∧ e.glb.profileIdx = x.index ∧ e.boot.profile = x.profile ∧
      e.key.slots = s.dev.key.slots))

/-! ## Protected memory and proof runs (R157, R158, R526, R529, R542-R551) -/

/-- R544, R547-R549, R541: MEM_REBUILD is accepted for a quarantined node and holds it as rebuilding; at its end the node is out
of quarantine and nothing beneath it is poisoned; a patrol counts the lines that it reads, and poisons a data line that it finds uncorrectable. -/
def Obligations.RebuildFreesQuarantine : Prop :=
  (∀ (r : Fin 64) (s : State) (f : Fetched) (rest : List Fetched) (o : Origin) (l : List Quar) (d : Device),
    Runs s.dev r 0x0320 anyRight rebuildOwn f rest → o = originOf s.dev r f → leField f.desc 20 1 = 0 →
    leField f.desc 21 1 ≠ topLevel s.dev →
    l = s.dev.mem.quar.filter (fun q => q.level == leField f.desc 21 1 && q.node == leField f.desc 24 3) → l ≠ [] →
    d = { taken s.dev r rest with mem := { s.dev.mem with
      quar := s.dev.mem.quar.map (fun q => if l.contains q then { q with rebuilding := true } else q)
      rebuilds := s.dev.mem.rebuilds ++ [{ origin := o, nodes := l, roots := [] }] } } →
    exec (.memRebuild r) s = .next (s.having (enterInflight d o 0x0320))) ∧
  (∀ (s : State) (x : Rebuild) (rest : List Rebuild) (q : Quar), s.dev.mem.rebuilds = x :: rest → x.nodes = [q] →
    x.roots = [] →
    ∃ e res, exec .memRebuilt s = .next (s.having (finish e x.origin .ok res)) ∧ e.mem.rebuilds = rest ∧
      (∀ y ∈ e.mem.quar, ¬ (y.level = q.level ∧ y.node = q.node)) ∧
      (∀ line : Nat, line < dataLines s.dev → nodeCovers q.level q.node line = true → poisoned e line = false) ∧
      e.mem.memKey = s.dev.mem.memKey ∧ e.key.slots = s.dev.key.slots) ∧
  (∀ s : State, bit (reg s.dev 0x1E0000) 31 = true → s.dev.mem.ready = true →
    ∃ e, exec (.memPatrol []) s = .next (s.having e) ∧ counter e (devCtr 44) = counter s.dev (devCtr 44) + 1#64 ∧
      (∀ c : Nat, c < 4 → counter e (unitCtr 3 c) = counter s.dev (unitCtr 3 c) + BitVec.ofNat 64 (patrolled s.dev c)) ∧
      e.mem = s.dev.mem ∧ e.out = s.dev.out ∧ SameWork e s.dev) ∧
  (∀ (s : State) (line : Nat), bit (reg s.dev 0x1E0000) 31 = true → s.dev.mem.ready = true → line < 0xC0000 →
    lineWritten s.dev line = true → quarantined s.dev line = false → s.dev.mem.poison.length < 1024 →
    ∃ e, exec (.memPatrol [{ line := line, fault := .uncorrectable }]) s = .next (s.having e) ∧ poisoned e line = true ∧
      e.key.slots = s.dev.key.slots)

/-- R526, R529: calibration and tracking change no state; the temperature of each channel is kept; a blocked read returns
zeros and is counted and reported. -/
def Obligations.MemoryControllerRows : Prop :=
  (∀ s : State, exec .zqCalibration s = .next s ∧ exec .dqsDriftTracking s = .next s) ∧
  (∀ (hot : BitVec 4) (s : State), exec (.dramTempRead hot) s = .next (s.having { s.dev with
    mem := { s.dev.mem with hot := hot } })) ∧
  (∀ (addr : W64) (s : State), ∃ e, exec (.blockedDdr4Access 1 addr false) s = .next (s.having e) ∧
    e.lastRead = 0#64 ∧ counter e (devCtr 42) = counter s.dev (devCtr 42) + 1#64 ∧ SameWork e s.dev) ∧
  (∀ (addr : W64) (s : State), ∃ e, exec (.blockedDdr4Access 1 addr true) s = .next (s.having e) ∧
    e.lastRead = s.dev.lastRead ∧ counter e (devCtr 42) = counter s.dev (devCtr 42) + 1#64 ∧ SameWork e s.dev)

/-- R157, R158: PROOF_RUN is accepted behind those before it; the oldest run of the presses answers the mask of those that
passed and 4,096 tests for each; a run of the tables that finds nothing answers so. A failed press that was in service is
taken out, and a clean run of it in MAINTAIN brings it back.
Serving the oldest run is the model's reading (log 52). -/
def Obligations.ProofRunsJudgePresses : Prop :=
  (∀ (r : Fin 64) (s : State) (f : Fetched) (rest : List Fetched) (o : Origin), Runs s.dev r 0x0402 anyRight proofOwn f rest →
    o = originOf s.dev r f → s.dev.glb.part ≠ .lvt0800E →
    exec (.proofRun r) s = .next (s.having (enterInflight { taken s.dev r rest with
      prs := { s.dev.prs with proofs := s.dev.prs.proofs ++ [(o, f.desc)] } } o 0x0402))) ∧
  (∀ (s : State) (o : Origin) (desc : Bytes) (rest : List (Origin × Bytes)), s.dev.prs.proofs = (o, desc) :: rest →
    leField desc 20 1 = 1 → s.dev.cls.tcam.all (fun e => !e.2.badParity) = true →
    exec (.proofRunDone { badPresses := [], badTcam := [], badMac := [], upsetSlots := [], upsetRecs := [] }) s =
      .next (s.having (finish { s.dev with
      prs := { s.dev.prs with proofs := rest } } o .ok (leBytes 3 0 ++ leBytes 1 7 ++ leBytes 4 0)))) ∧
  (∀ (s : State) (o : Origin) (desc : Bytes) (rest : List (Origin × Bytes)) (m : Fin 24),
    s.dev.prs.proofs = (o, desc) :: rest → leField desc 20 1 = 0 → leField desc 21 3 = 2 ^ m.val → m.val < pressCount s.dev →
    (pressIn s.dev m = true →
      ∃ e, exec (.proofRunDone { badPresses := [m], badTcam := [], badMac := [], upsetSlots := [], upsetRecs := [] }) s =
          .next (s.having (finish e o .ok (leBytes 3 0 ++ leBytes 1 7 ++ leBytes 4 4096))) ∧
        pressIn e m = false ∧ e.prs.proofs = rest) ∧
    (∃ e, exec (.proofRunDone { badPresses := [], badTcam := [], badMac := [], upsetSlots := [], upsetRecs := [] }) s =
          .next (s.having (finish e o .ok (leBytes 3 (2 ^ m.val) ++ leBytes 1 7 ++ leBytes 4 4096))) ∧
        pressIn e m = (pressIn s.dev m || s.dev.glb.mode == .maintain) ∧ e.prs.proofs = rest))

/-! ## Tamper response (R605-R641) -/

/-- R610, R611, R613, R618: a first event of an armed source is kept with its time; below the filter's count nothing else
happens; at the count the alarm is raised, and a HALT response halts the device and asserts ALARM_N. -/
def Obligations.EventsFilterIntoAlarms : Prop :=
  (∀ (s : State) (x : TamperHit), 5 < x.source.val → sourceArmed s.dev s.fuses x.source x.reading.toNat = true →
    source s.dev x.source = {} →
    (2 ≤ (sensor s.dev x.source).n →
      ∃ e, exec (.tamperEvent [x]) s = .next (s.having e) ∧ (source e x.source).events = [s.dev.clock] ∧
        (source e x.source).raised = false ∧ (x.source.val ≠ 9 → e.glb = s.dev.glb) ∧
        SameWork { e with tmp := s.dev.tmp, glb := s.dev.glb } s.dev ∧ counter e (unitCtr 13 x.source) = counter s.dev (unitCtr 13 x.source) + 1#64) ∧
    ((sensor s.dev x.source).n ≤ 1 → effective s.dev x.source = 0 →
      ∃ e, exec (.tamperEvent [x]) s = .next (s.having e) ∧ (source e x.source).raised = true ∧
        (source e x.source).raisedAt = s.dev.clock ∧ (x.source.val ≠ 9 → e.glb = s.dev.glb) ∧
        SameWork { e with tmp := s.dev.tmp, glb := s.dev.glb } s.dev) ∧
    ((sensor s.dev x.source).n ≤ 1 → effective s.dev x.source = 2 → s.dev.glb.mode ≠ .locked → s.dev.tmp.applied = none →
      ∃ e, exec (.tamperEvent [x]) s = .next (s.having e) ∧ (source e x.source).raised = true ∧
        e.tmp.halted = true ∧ e.tmp.alarmN = true ∧ e.tmp.applied = some 2 ∧ allJobs e = [] ∧
        (∀ k, slot e k = { slot s.dev k with reserved := (slot e k).reserved }) ∧ e.glb.mode = s.dev.glb.mode)) ∧
  (∀ (i : Fin 1024) (s : State), exec (.shadowScan [i]) s =
    .next (s.having (tamperEvents s.dev [{ src := 14, reading := 0, line := 0 }]))) ∧
  (∀ s : State, s.dev.tmp.mainPower = true →
    exec .watchdogExpiry s = .next (s.having (tamperEvents s.dev [{ src := 17, reading := 0, line := 0 }]))) ∧
  (∀ (a b c e4 : Fin 65536) (s : State), bit (magCfg s.dev) 11 = false → s.dev.tmp.mainPower = true →
    a.val ≤ 10 * s.dev.tmp.thresh → b.val ≤ 10 * s.dev.tmp.thresh → c.val ≤ 10 * s.dev.tmp.thresh →
    e4.val ≤ 10 * s.dev.tmp.thresh →
    ∃ t, exec (.magConversion [a, b, c, e4]) s = .next (s.having { s.dev with tmp := t }) ∧
      Tbl.getD t.magRead 0 0 = a.val ∧ Tbl.getD t.magRead 1 0 = b.val ∧ Tbl.getD t.magRead 2 0 = c.val ∧
      Tbl.getD t.magRead 3 0 = e4.val ∧ t.sources = s.dev.tmp.sources) ∧
  (∀ (n : Fin 18) (s : State) (t : Nat) (l : List Nat), (source s.dev n).raised = true →
    (source s.dev n).events = t :: l →
    ∃ e, exec (.alarmClear n) s = .next (s.having e) ∧ (source e n).raised = false ∧
      (∀ k : Nat, k ≠ n.val → source e k = source s.dev k) ∧ e.clock = max s.dev.clock (t + windowTicks s.dev n) ∧
      e.key = s.dev.key ∧ e.glb = s.dev.glb)

/-- Tier 2. R620, R631, Table 14-3: an event that raises an alarm with the ZEROISE response leaves the device LOCKED and
SOLO without a BBK, a key tree, a slot, a key record, an SA, a memory key or a link key, and with the tamper latch set. -/
def Obligations.ZeroiseErasesSecrets : Prop :=
  ∀ (s : State) (x : TamperHit), sourceArmed s.dev s.fuses x.source x.reading.toNat = true → s.dev.tmp.mainPower = true →
    source s.dev x.source = {} → (sensor s.dev x.source).n ≤ 1 → effective s.dev x.source = 3 →
    ∃ e, exec (.tamperEvent [x]) s = .next (s.having e) ∧ e.glb.mode = .locked ∧ e.duet.role = .solo ∧
      e.tmp.batt.bbk = none ∧ e.tmp.batt.latch = true ∧ e.tmp.batt.grant = false ∧ e.key.tree = none ∧
      e.key.slots = [] ∧ e.key.records = [] ∧ e.ms.sas = [] ∧ e.mem.memKey = none ∧ e.duet.linkKey = none ∧
      e.duet.pairKey = none ∧ e.tmp.identity = false ∧ allJobs e = []

/-- R465, R621, R631, R635, R638-R640, R133: a battery alarm of a loop or glitch with the main supplies off destroys the BBK, sets the
tamper latch and clears the grant; a measurement of VBAT sets its status; after a quiet second a new BBK is drawn and the
tree derived from it; REPROVISION_REQUEST is accepted behind those before it and the oldest one, granted or not, ends
with its status; a passed proof run of a press that is out of service counts as its first.
When a new BBK may be drawn is the model's reading (log 40). -/
def Obligations.BatteryAndIdentity : Prop :=
  (∀ (kind : Fin 16) (afterNs : Nat) (s : State), s.dev.tmp.mainPower = false →
    exec (.batteryAlarm 4 kind afterNs) s = .next (s.having { s.dev with tmp := { s.dev.tmp with
      batt := { s.dev.tmp.batt with ns := s.dev.tmp.batt.ns + afterNs } } })) ∧
  (∀ (n : Fin 5) (kind : Fin 16) (afterNs : Nat) (s : State), s.dev.tmp.mainPower = false → n.val < 4 →
    ∃ t, exec (.batteryAlarm n kind afterNs) s = .next (s.having { s.dev with tmp := t }) ∧ t.batt.bbk = none ∧
      t.batt.latch = true ∧ t.batt.grant = false ∧ t.batt.ns = s.dev.tmp.batt.ns + afterNs ∧
      (∀ k : Nat, k < s.dev.tmp.batt.log.length → k < 15 → t.batt.log[k]? = s.dev.tmp.batt.log[k]?)) ∧
  (∀ (mv : Fin 65536) (s : State), s.dev.tmp.mainPower = true →
    ∃ e, exec (.vbatMeasure mv) s = .next (s.having e) ∧
      e.tmp = { s.dev.tmp with vbat := mv.val, cellLow := decide (mv.val < 2500) } ∧ e.regs = s.dev.regs ∧
      SameWork { e with tmp := s.dev.tmp } s.dev) ∧
  (∀ (s : State) (t : Nat), s.dev.tmp.zeroWait = some t → zeroQuiet s.dev = true → s.dev.svc.drbgStopped = none →
    ∃ e, exec .identityRederive s = .next (s.having e) ∧ e.tmp.batt.bbk = some (drbgBytes s.dev 32) ∧
      e.key.tree = some (deriveTree s.fuses.key (drbgBytes s.dev 32)) ∧ e.tmp.identity = true ∧
      e.tmp.zeroWait = none ∧ e.drawn = s.dev.drawn + 32 ∧ e.key.slots = s.dev.key.slots ∧ e.glb = s.dev.glb) ∧
  (∀ (r : Fin 64) (s : State) (f : Fetched) (rest : List Fetched) (buf b : Bytes) (o : Origin) (t : Tree),
    Runs s.dev r 0x0030 anyRight (fun desc => zeroFrom desc 20 63) f rest → o = originOf s.dev r f → o.bufLen = 148 →
    b = fit 148 buf → s.dev.tmp.identity = true → s.dev.key.tree = some t →
    firstDiffer (slice b 0 84) (authExpected s.dev s.fuses t) 84 = none →
    exec (.reprovisionRequest r buf) s = .next (s.having (enterInflight { taken s.dev r rest with
      tmp := { s.dev.tmp with requests := s.dev.tmp.requests ++ [(o, b)] } } o 0x0030))) ∧
  (∀ (s : State) (o : Origin) (buf : Bytes) (rest : List (Origin × Bytes)) (x : Enrolment),
    s.dev.tmp.requests = (o, buf) :: rest → s.dev.boot.flash.enrolment = some x →
    ∃ e, exec .reprovisionGranted s = .next (s.having (if verifyP256 x.authority (slice buf 0 84) (slice buf 84 64)
        then finish e o .ok (zeros 16)
        else finish (elapse { s.dev with tmp := { s.dev.tmp with requests := rest } } 48000) o .inputRejected
          (zeros 16))) ∧ e.tmp.batt.grant = true ∧
      e.tmp.requests = rest ∧ e.clock = s.dev.clock + 48000 ∧ e.key = s.dev.key ∧ e.glb = s.dev.glb) ∧
  (∀ (m : Fin 24) (s : State), (press s.dev m).out = true → (press s.dev m).passes = 0 →
    ((source s.dev (10 + m.val % 4)).raised = false ∨ effective s.dev (10 + m.val % 4) ≠ 1) →
    exec (.pressProofRetry m true) s =
      .next (s.having (setPress s.dev m { press s.dev m with passes := 1 })))

/-! ## Power (R754-R764) -/

/-- R755-R760, R764: the arbiter takes the next step over budget and releases one step at a time; the limiter moves by
1 %; a budget is clipped to 50-130 W; HOLD stops traffic on a SOLO device and its end starts a bring-up.
The moments of the power counters and of step 5's release are the model's readings (log 49). -/
def Obligations.ArbiterKeepsBudget : Prop :=
  (∀ (demand : Fin 2048) (s : State) (d : Device) (k : Nat),
    d = rollWindow { s.dev with pwr := { s.dev.pwr with demand := demand.val } } → 10 * s.dev.pwr.budget < demand.val →
    nextStep { d with pwr := { d.pwr with belowSince := none } } = some k →
    ∃ e, exec (.powerArbiterTick demand) s = .next (s.having e) ∧ e.pwr.step = k ∧ e.pwr.belowSince = none ∧
      e.pwr.demand = demand.val ∧ SameWork { e with pwr := s.dev.pwr } s.dev) ∧
  (∀ (s : State) (t : Nat), s.dev.pwr.belowSince = some t → s.dev.pwr.step ≠ 0 →
    (s.dev.pwr.step ≠ 5 ∨ 100 ≤ s.dev.pwr.limitPct) →
    ∃ e, exec .throttleRelease s = .next (s.having e) ∧ e.pwr.step < s.dev.pwr.step ∧ e.pwr.step = stepBelow s.dev ∧
      e.clock = max s.dev.clock (max t s.dev.pwr.releasedAt + 500000) ∧ e.key = s.dev.key ∧ e.glb = s.dev.glb) ∧
  (∀ s : State, s.dev.pwr.step = 5 →
    (overBudget s.dev = true → exec .limiterStep s = .next (s.having { s.dev with
      pwr := { s.dev.pwr with limitPct := s.dev.pwr.limitPct - 1 } })) ∧
    (overBudget s.dev = false → wellBelow s.dev = true → exec .limiterStep s = .next (s.having { s.dev with
      pwr := { s.dev.pwr with limitPct := min 100 (s.dev.pwr.limitPct + 1) } }))) ∧
  (∀ s : State, overBudget s.dev = true → nextStep s.dev = none → s.dev.pwr.step ≠ 5 → s.dev.pwr.unmetAt = 0 →
    ∃ e, exec .budgetUnmet s = .next (s.having e) ∧ e.pwr = { s.dev.pwr with unmetAt := s.dev.clock + 1 } ∧
      SameWork { e with pwr := s.dev.pwr } s.dev) ∧
  (∀ (val : W32) (s : State), exec (.pwrBudgetWrite val) s = .next (s.having { s.dev with
    pwr := { s.dev.pwr with budget := max 50 (min 130 (bits val 7 0)) } })) ∧
  (∀ (val : W32) (s : State), bit val 31 = true → s.dev.pwr.holding = false → s.dev.duet.role = .solo →
    trafficMode s.dev = true →
    ∃ e, exec (.holdEnter val) s = .next (s.having e) ∧ e.pwr.holding = true ∧ e.prs.fifo = [] ∧ e.gal.ports = [] ∧
      e.glb.mode = s.dev.glb.mode ∧ e.key.slots = s.dev.key.slots) ∧
  (∀ (val : W32) (s : State), bit val 31 = false → s.dev.pwr.holding = true →
    ∃ e, exec (.holdExit val) s = .next (s.having e) ∧ e.pwr.holding = false ∧
      e.glb = { s.dev.glb with bringUpEnds := some (s.dev.clock + 600000000) } ∧ e.key = s.dev.key) ∧
  (∀ (tj : Fin 65536) (s : State), tj.val < 32768 → tjWarn s.dev ≤ (tj.val : Int) → s.dev.pwr.hot = false →
    ∃ e, exec (.thermalWarn tj) s = .next (s.having e) ∧
      e.pwr = { s.dev.pwr with tj := (tj.val : Int), hot := true, hotAt := s.dev.clock } ∧
      SameWork { e with pwr := s.dev.pwr } s.dev)

/-! ## MACsec objects (R186-R216, R393) -/

/-- R201-R207, R213, R214, R211, R216: SecYs and SCs are created and deleted, an SC's commit advances CLS_EPOCH; SA_INSTALL
OP 0 makes an SA with its key, OP 1 raises a transmit PN and never lowers it; the threshold register's high half puts both
halves in force. -/
def Obligations.MacsecObjectsFollowCommands : Prop :=
  (∀ (r : Fin 64) (s : State) (f : Fetched) (rest : List Fetched) (n : Nat) (x : SecY),
    Runs s.dev r 0x0100 anyRight secyOwn f rest → n = leField f.desc 20 2 → x = secyOf f.desc →
    isLine s.dev x.port = true → x.implicitRx = false →
    isLink s.dev x.port = false → secy s.dev n = none → (companions s.dev n x.port).length < 64 →
    roleStale s.dev = false →
    exec (.secySet r) s = .next (s.having (completed (putSecy (taken s.dev r rest) n x) (originOf s.dev r f) 0x0100 f.desc []
      (zeros 16) none))) ∧
  (∀ (r : Fin 64) (s : State) (f : Fetched) (rest : List Fetched) (n : Nat),
    Runs s.dev r 0x0101 anyRight secyDelOwn f rest → n = leField f.desc 20 2 → (secy s.dev n).isSome = true →
    Tbl.any s.dev.ms.scs (fun _ c => c.secy == n) = false → flPortsOf s.dev n = [] → roleStale s.dev = false →
    exec (.secyDel r) s = .next (s.having (completed { taken s.dev r rest with
      ms := { s.dev.ms with secys := Tbl.del s.dev.ms.secys n } } (originOf s.dev r f) 0x0101 f.desc [] (zeros 16) none))) ∧
  (∀ (r : Fin 64) (s : State) (f : Fetched) (rest : List Fetched) (c n : Nat) (y : SecY) (sci : W64),
    Runs s.dev r 0x0102 anyRight scOwn f rest → c = leField f.desc 20 2 → n = leField f.desc 22 2 % 1024 →
    leField f.desc 24 1 = 0 → sci = BitVec.ofNat 64 (beField f.desc 28 8) → secy s.dev n = some y →
    scExcluded s.dev c = false → scHasSa s.dev c = false → scOf s.dev c = none →
    scClash s.dev c n y false sci = none → roleStale s.dev = false →
    exec (.scSet r) s = .next (s.having (completed
      (bumpEpoch (setSc (taken s.dev r rest) c { secy := n, rx := false, sci := sci })) (originOf s.dev r f) 0x0102 f.desc []
      (zeros 16) none))) ∧
  (∀ (r : Fin 64) (s : State) (f : Fetched) (rest : List Fetched) (c : Nat),
    Runs s.dev r 0x0103 anyRight (fun desc => zeroFrom desc 22 63) f rest → c = leField f.desc 20 2 →
    (scOf s.dev c).isSome = true → scHasSa s.dev c = false → roleStale s.dev = false →
    exec (.scDel r) s = .next (s.having (completed (bumpEpoch (removeSc (taken s.dev r rest) c)) (originOf s.dev r f) 0x0103
      f.desc [] (zeros 16) none)) ∧
    scOf (bumpEpoch (removeSc (taken s.dev r rest) c)) c = none) ∧
  (∀ (r : Fin 64) (s : State) (f : Fetched) (rest : List Fetched) (buf key : Bytes) (i len : Nat) (c : Sc) (d : Device),
    Runs s.dev r 0x0104 anyRight saOwn f rest → i = leField f.desc 20 3 → leField f.desc 24 1 = 0 →
    leField f.desc 25 1 = 1 → (originOf s.dev r f).bufLen = 0 → scOf s.dev (i / 4) = some c → saOf s.dev i = none →
    saQuarantined s.dev i = false → recFull s.dev i = false → suiteBad (scSuite s.dev (i / 4)) 0 f.desc = none →
    len = suiteKeyLen (scSuite s.dev (i / 4)) →
    slotKey (taken s.dev r rest) (cmdOwner s.dev r) 1 (leField f.desc 26 2) 26 len [] = (d, .ok key) →
    pinFull s.dev i = false → roleStale d = false →
    exec (.saInstall r buf) s = .next (s.having (firstMarks (completed
      (installSa d i (scSuite s.dev (i / 4)) (leField f.desc 28 8) c.rx f.desc key) (originOf s.dev r f) 0x0104 f.desc buf
      (zeros 16) none)))) ∧
  (∀ d : Device, d.duet.role ≠ .active → firstMarks d = d) ∧
  (∀ (d : Device) (i suite pn : Nat) (rx : Bool) (desc key : Bytes), d.duet.role ≠ .active →
    ∃ x, saOf (installSa d i suite pn rx desc key) i = some x ∧ x.pn = pn ∧ x.suite = suite ∧ x.deleting = false ∧
      x.exhausted = false ∧ (∀ k, k ≠ i → (saOf (installSa d i suite pn rx desc key) k).isSome = (saOf d k).isSome)) ∧
  (∀ (r : Fin 64) (s : State) (f : Fetched) (rest : List Fetched) (buf : Bytes) (i : Nat) (c : Sc) (x : Sa) (d : Device),
    Runs s.dev r 0x0104 anyRight saOwn f rest → i = leField f.desc 20 3 → leField f.desc 24 1 = 1 →
    scOf s.dev (i / 4) = some c → c.rx = false → saOf s.dev i = some x → x.deleting = false → saQuarantined s.dev i = false →
    suiteBad (scSuite s.dev (i / 4)) 1 f.desc = none → x.pn < leField f.desc 28 8 → s.dev.duet.role = .solo →
    d = setSa (taken s.dev r rest) i { x with pn := leField f.desc 28 8, dirty := true } →
    exec (.saInstall r buf) s = .next (s.having (completed d (originOf s.dev r f) 0x0104 f.desc buf (fit 16 [1#8]) none))) ∧
  (∀ (n : Fin 1024) (val : W32) (s : State), ∃ e, exec (.prsSecyPnThreshHiWrite n val) s = .next (s.having e) ∧
    reg e (0x142004 + 8 * n.val) = val ∧
    Tbl.getD e.ms.thresholds n 0 = (reg s.dev (0x142000 + 8 * n.val)).toNat + 2 ^ 32 * val.toNat ∧
    e.ms.sas = s.dev.ms.sas ∧ SameWork { e with ms := s.dev.ms } s.dev)

/-! ## Key turns and SA deletion (R225-R254) -/

/-- R225-R229, R248-R254: SA_ENABLE_TX changes the encoding AN at once and completes when no frame of the old SA waits;
SA_DELETE takes the SA out of use and erases it when its fence clears or, at 10 ms, after dropping the frames that hold
it. -/
def Obligations.EnableAndDeleteSa : Prop :=
  (∀ (r : Fin 64) (s : State) (f : Fetched) (rest : List Fetched) (o : Origin) (i : Nat) (c : Sc) (x : Sa),
    Runs s.dev r 0x0105 anyRight saIndexOwn f rest → o = originOf s.dev r f → i = leField f.desc 20 3 →
    scOf s.dev (i / 4) = some c → saOf s.dev i = some x → x.deleting = false → c.rx = false → x.exhausted = false →
    c.armed = none → c.encAn ≠ some (i % 4) → s.dev.duet.role = .solo →
    ∃ e, exec (.saEnableTx r) s = .next (s.having e) ∧
      scOf e (i / 4) = some { c with encAn := some (i % 4), armed := none } ∧
      (∀ k, k ≠ i / 4 → scOf e k = scOf s.dev k) ∧
      e.ms.switches = s.dev.ms.switches ++
        [{ origin := some o, sc := i / 4, oldAn := c.encAn, an := i % 4, start := s.dev.prs.nextNo }] ∧
      e.ms.sas = s.dev.ms.sas ∧ e.key = s.dev.key ∧ e.regs = s.dev.regs) ∧
  (∀ (c : Fin 65536) (s : State) (x : TxSwitch) (o : Origin), s.dev.ms.switches = [x] → x.sc = c.val →
    x.origin = some o → x.oldAn = none →
    exec (.saEnableTxCommit c) s = .next (s.having (finish { s.dev with ms := { s.dev.ms with switches := [] } } o .ok
      ([1#8, 0xFF#8] ++ zeros 6 ++ leBytes 8 (nextPnOf s.dev (4 * c.val + x.an)))))) ∧
  (∀ (r : Fin 64) (s : State) (f : Fetched) (rest : List Fetched) (o : Origin) (i : Nat) (c : Sc) (x : Sa),
    Runs s.dev r 0x0106 anyRight saDeleteOwn f rest → o = originOf s.dev r f → i = leField f.desc 20 3 →
    scOf s.dev (i / 4) = some c → saOf s.dev i = some x → x.deleting = false → c.armed = none →
    (c.rx = true ∨ x.exhausted = true ∨ (byteAt f.desc 24).getLsbD 0 = true ∨ c.encAn ≠ some (i % 4)) →
    recFull s.dev i = false → roleStale s.dev = false →
    ∃ e, exec (.saDelete r) s = .next (s.having e) ∧ installed e i = false ∧
      (∀ k, k ≠ i → saOf e k = saOf s.dev k) ∧
      e.ms.deletions = s.dev.ms.deletions ++
        [{ origin := some o, desc := f.desc, sa := i, started := s.dev.clock, held := saHeld s.dev i }] ∧
      (∀ y, scOf e (i / 4) = some y → y.encAn ≠ some (i % 4)) ∧ e.key = s.dev.key ∧ e.regs = s.dev.regs) ∧
  (∀ (n : Fin 262144) (s : State) (x : Deletion), s.dev.ms.deletions = [x] → x.sa = n.val → saHeld s.dev n = false →
    exec (.drainFenceClear n) s = .next (s.having (finishDelete s.dev x))) ∧
  (∀ (n : Fin 262144) (s : State) (x : Deletion), s.dev.ms.deletions = [x] → x.sa = n.val → saHeld s.dev n = false →
    ∃ d, exec (.drainTimeout n) s = .next (s.having (finishDelete d x)) ∧ d.ms = s.dev.ms ∧
      d.clock = max s.dev.clock (x.started + 5000000)) ∧
  (∀ (d : Device) (x : Deletion), saOf (finishDelete d x) x.sa = none ∧
    (∀ y ∈ (finishDelete d x).ms.deletions, y.sa ≠ x.sa) ∧
    (∀ k, k ≠ x.sa → (saOf (finishDelete d x) k).isSome = (saOf d k).isSome))

/-- R230-R240: arming keeps the encoding AN and names the next one; a schedule for a later time waits in its group, a cancelled
one is gone, the tick is fixed 1 µs ahead, and at the tick an armed SC with a usable SA changes its encoding AN. -/
def Obligations.TurnsSwitchTheEncodingAn : Prop :=
  (∀ (r : Fin 64) (s : State) (f : Fetched) (rest : List Fetched) (c g an : Nat) (x : Sc),
    Runs s.dev r 0x0108 anyRight groupOwn f rest → c = leField f.desc 20 2 → g = leField f.desc 22 2 →
    an = leField f.desc 25 1 → leField f.desc 24 1 = 0 → scOf s.dev c = some x → x.rx = false →
    turnReady s.dev (4 * c + an) = true → x.encAn ≠ some an → (x.group = none ∨ x.group = some g) →
    Tbl.has s.dev.ms.turns g = false → roleStale s.dev = false →
    exec (.turnGroupSet r) s = .next (s.having (completed
      (setSc (taken s.dev r rest) c { x with group := some g, armed := some an }) (originOf s.dev r f) 0x0108 f.desc []
      (zeros 16) none))) ∧
  (∀ (r : Fin 64) (s : State) (f : Fetched) (rest : List Fetched) (g b t : Nat),
    Runs s.dev r 0x0107 anyRight scheduleOwn f rest → g = leField f.desc 20 2 → b = leField f.desc 22 1 →
    t = leField f.desc 24 6 * 1000000000 + leField f.desc 30 4 → leField f.desc 23 1 = 0 →
    armedMembers s.dev g ≠ [] → Tbl.has s.dev.ms.turns g = false → (tbase s.dev b).value < t * nsUnit →
    t * nsUnit ≤ (tbase s.dev b).value + 1000000000000000 * nsUnit → roleStale s.dev = false →
    exec (.keyTurnSchedule r) s = .next (s.having (completed { taken s.dev r rest with
      ms := { s.dev.ms with turns := Tbl.put s.dev.ms.turns g { base := b, at_ := t } } } (originOf s.dev r f) 0x0107 f.desc []
      (zeros 16) none))) ∧
  (∀ (r : Fin 64) (s : State) (f : Fetched) (rest : List Fetched) (g : Nat) (x : Turn),
    Runs s.dev r 0x0107 anyRight scheduleOwn f rest → g = leField f.desc 20 2 → leField f.desc 23 1 = 1 →
    Tbl.get? s.dev.ms.turns g = some x → roleStale s.dev = false →
    (x.tick = none → exec (.keyTurnSchedule r) s = .next (s.having (completed { taken s.dev r rest with
      ms := { s.dev.ms with turns := Tbl.del s.dev.ms.turns g } } (originOf s.dev r f) 0x0107 f.desc []
      (fit 16 [1#8]) none))) ∧
    (x.tick ≠ none → exec (.keyTurnSchedule r) s = .next (s.having (completed (taken s.dev r rest) (originOf s.dev r f)
      0x0107 f.desc [] (fit 16 [2#8]) none)))) ∧
  (∀ (g : Fin 4096) (s : State) (x : Turn), Tbl.get? s.dev.ms.turns g = some x → x.tick = none →
    s.dev.time.running = true →
    ∃ e tick, exec (.turnTickFix g) s = .next (s.having e) ∧ Tbl.get? e.ms.turns g = some { x with tick := some tick } ∧
      e.clock < tick ∧ e.ms.scs = s.dev.ms.scs ∧ e.key = s.dev.key) ∧
  (∀ (g : Fin 4096) (s : State) (x : Turn) (tick c an : Nat) (y : Sc), Tbl.get? s.dev.ms.turns g = some x →
    x.tick = some tick → armedMembers s.dev g = [(c, y)] → y.armed = some an → scOf s.dev c = some y →
    turnReady s.dev (4 * c + an) = true → s.dev.ms.holds = [] →
    ∃ e, exec (.turnTick g) s = .next (s.having e) ∧ scOf e c = some { y with encAn := some an, armed := none } ∧
      Tbl.has e.ms.turns g = false ∧ e.ms.sas = s.dev.ms.sas ∧ e.key = s.dev.key ∧
      counter e (devCtr 3) = counter s.dev (devCtr 3) + 1#64) ∧
  (∀ (d : Device) (g c an tick : Nat) (old : Option Nat), turnReady d (4 * c + an) = false →
    ∃ e, turnMember d g c an old tick false = (e, false) ∧ e.ms = d.ms ∧
      counter e (devCtr 5) = counter d (devCtr 5) + 1#64)

/-! ## Forwarding tables (R366-R393) -/

/-- R371-R374, R378, R387-R391: a known route is written in place and a route is deleted with the moves that close its place;
static addresses are added, deleted and flushed; each commit advances CLS_EPOCH. Ageing removes the dynamic entries
that are too old, and the scrub disables an entry of bad parity until it is repaired. -/
def Obligations.ForwardingTablesFollowCommands : Prop :=
  (∀ (r : Fin 64) (s : State) (f : Fetched) (rest : List Fetched) (x : Route) (i : Nat) (d : Device),
    Runs s.dev r 0x0200 anyRight (routeAddOwn s.dev) f rest → x = routeOf f.desc → x.len ≤ famBits x.v6 →
    x.pre % 2 ^ (famBits x.v6 - x.len) = 0 → (isClient s.dev x.port = true → x.secy = 0) →
    resultStatus s.dev x.port x.secy = none → findRoute s.dev x = some i → roleStale s.dev = false →
    d = bumpEpoch (setTcam (taken s.dev r rest) (Tbl.put s.dev.cls.tcam i { route := x })) →
    exec (.routeAdd r) s = .next (s.having (completed d (originOf s.dev r f) 0x0200 f.desc []
      (leBytes 2 i ++ leBytes 1 0 ++ [1#8] ++ leBytes 2 ((s.dev.cls.epoch + 1) % 65536)) none))) ∧
  (∀ (r : Fin 64) (s : State) (f : Fetched) (rest : List Fetched) (x : Route) (y : Device × Bytes),
    Runs s.dev r 0x0200 anyRight (routeAddOwn s.dev) f rest → x = routeOf f.desc → x.len ≤ famBits x.v6 →
    x.pre % 2 ^ (famBits x.v6 - x.len) = 0 → (isClient s.dev x.port = true → x.secy = 0) →
    resultStatus s.dev x.port x.secy = none → findRoute s.dev x = none → 2 ≤ tcamFree s.dev → roleStale s.dev = false →
    y = addRoute (taken s.dev r rest) x →
    exec (.routeAdd r) s = .next (s.having (completed y.1 (originOf s.dev r f) 0x0200 f.desc [] y.2 none)) ∧
    (findRoute y.1 x).isSome = true ∧ y.1.cls.epoch = (s.dev.cls.epoch + 1) % 65536 ∧ y.1.cls.mac = s.dev.cls.mac) ∧
  (∀ (r : Fin 64) (s : State) (f : Fetched) (rest : List Fetched) (i : Nat) (y : Device × Bytes),
    Runs s.dev r 0x0201 anyRight routeDelOwn f rest → findRoute s.dev (routeOf f.desc) = some i → roleStale s.dev = false →
    y = delRoute (taken s.dev r rest) (routeOf f.desc) i →
    exec (.routeDel r) s = .next (s.having (completed y.1 (originOf s.dev r f) 0x0201 f.desc [] y.2 none)) ∧
    y.1.cls.epoch = (s.dev.cls.epoch + 1) % 65536 ∧ y.1.cls.mac = s.dev.cls.mac) ∧
  (∀ (r : Fin 64) (s : State) (f : Fetched) (rest : List Fetched) (k : Nat) (old e : MacEnt),
    Runs s.dev r 0x0202 anyRight (macAddOwn s.dev) f rest →
    e = { domain := leField f.desc 20 2, mac := beField f.desc 28 6, port := leField f.desc 22 1
          secy := leField f.desc 24 2 % 1024, policer := leField f.desc 26 2, static := true, seen := s.dev.clock } →
    (isClient s.dev e.port = true → e.secy = 0) → resultStatus s.dev e.port e.secy = none →
    macFind s.dev e.domain e.mac = some (k, old) →
    exec (.macAdd r) s = .next (s.having (completed (bumpEpoch (setMac (taken s.dev r rest) k e)) (originOf s.dev r f)
      0x0202 f.desc [] (zeros 16) none))) ∧
  (∀ (r : Fin 64) (s : State) (f : Fetched) (rest : List Fetched) (k : Nat) (old : MacEnt),
    Runs s.dev r 0x0203 anyRight macDelOwn f rest →
    macFind s.dev (leField f.desc 20 2) (beField f.desc 28 6) = some (k, old) →
    exec (.macDel r) s = .next (s.having (completed (bumpEpoch (delMac (taken s.dev r rest) k)) (originOf s.dev r f)
      0x0203 f.desc [] (zeros 16) none))) ∧
  (∀ (r : Fin 64) (s : State) (f : Fetched) (rest : List Fetched) (d : Device),
    Runs s.dev r 0x0204 anyRight macFlushOwn f rest →
    d = bumpEpoch { taken s.dev r rest with cls := { s.dev.cls with
      mac := Tbl.keep s.dev.cls.mac (fun _ e => !flushes f.desc e) } } →
    exec (.macFlush r) s = .next (s.having (completed d (originOf s.dev r f) 0x0204 f.desc []
      (fit 16 (leBytes 4 (s.dev.cls.mac.filter (fun e => flushes f.desc e.2)).length)) none)) ∧
    (∀ e ∈ d.cls.mac, flushes f.desc e.2 = false) ∧ d.cls.tcam = s.dev.cls.tcam) ∧
  (∀ s : State, ageTime s.dev ≠ 0 → ∃ e, exec (.macAgeing []) s = .next (s.having e) ∧
    (∀ x : Nat × MacEnt, x ∈ e.cls.mac ↔ x ∈ s.dev.cls.mac ∧
      (x.2.static = true ∨ ageTick s.dev < x.2.seen + ageTime s.dev * 1000 * 500000)) ∧
    e.cls.tcam = s.dev.cls.tcam ∧ e.regs = s.dev.regs) ∧
  (∀ (u : TcamUpset) (s : State) (i : Nat) (x : TcamEnt), i = entryAt s.dev u.entry → Tbl.get? s.dev.cls.tcam i = some x →
    x.disabled = false → (∀ e ∈ s.dev.cls.tcam, e.2.badParity = true → e.2.disabled = true) →
    (s.dev.cls.tcam.map Prod.fst).Nodup →
    ∃ e, exec (.tcamScrub [u]) s = .next (s.having e) ∧
      Tbl.get? e.cls.tcam i = some { x with badParity := true, disabled := true, keyFlip := x.keyFlip ^^^ u.key
                                            maskFlip := x.maskFlip ^^^ u.mask } ∧
      (∀ k, k ≠ i → Tbl.get? e.cls.tcam k = Tbl.get? s.dev.cls.tcam k) ∧ SameWork { e with cls := s.dev.cls } s.dev) ∧
  (∀ (i : Fin 65536) (s : State) (x : TcamEnt), Tbl.get? s.dev.cls.tcam i = some x → x.disabled = true →
    bit (reg s.dev 0x101004) 31 = true →
    (x.lost = true → exec (.tcamRepaired i) s = .next s) ∧
    (x.lost = false → ∃ e, exec (.tcamRepaired i) s = .next (s.having e) ∧
      e.cls.tcam = Tbl.put s.dev.cls.tcam i { route := x.route } ∧ SameWork { e with cls := s.dev.cls } s.dev))

/-! ## The Galley (R403-R439) -/

/-- R425, R429, R431, R434-R439: policers and shapers take new parameters at their next refill, which fills each bucket by
its rate up to its burst; a queue's scheduling changes at once; a map change that waits takes effect at its timeout; a
hold that runs out drops the port's queued frames; the shed class moves with the queued work.
The corners of log 66 are the model's readings. -/
def Obligations.GalleyFollowsCommands : Prop :=
  (∀ (r : Fin 64) (s : State) (f : Fetched) (rest : List Fetched) (n : Nat) (c : PolicerCfg),
    Runs s.dev r 0x0210 anyRight policerOwn f rest → n = leField f.desc 20 2 → leField f.desc 22 1 ≠ 0 →
    policerRange f.desc = none →
    c = { mode := leField f.desc 22 1, aware := (byteAt f.desc 23).getLsbD 0
          coupled := leField f.desc 22 1 == 2 && (byteAt f.desc 23).getLsbD 1
          cir := leField f.desc 24 4, cbs := leField f.desc 28 4, pir := leField f.desc 32 4, pbs := leField f.desc 36 4 } →
    roleStale s.dev = false →
    exec (.policerSet r) s = .next (s.having (completed
      (setPolicer (taken s.dev r rest) n { policer s.dev n with next := some c }) (originOf s.dev r f) 0x0210 f.desc []
      (zeros 16) none))) ∧
  (∀ (r : Fin 64) (s : State) (f : Fetched) (rest : List Fetched) (k : Nat) (c : ShaperCfg) (x : Shaper),
    Runs s.dev r 0x0211 anyRight shaperOwn f rest → leField f.desc 20 1 = 0 → leField f.desc 22 2 < levelRange s.dev 0 →
    k = shaperKey 0 (leField f.desc 22 2) → x = Tbl.getD s.dev.gal.shapers k {} →
    c = { overhead := leField f.desc 21 1 == 1, rate := leField f.desc 24 4, burst := leField f.desc 28 4 } →
    c.rate ≤ maxRate → c.burst ≤ maxBurst → roleStale s.dev = false →
    exec (.shaperSet r) s = .next (s.having (completed { taken s.dev r rest with
      gal := { s.dev.gal with shapers := Tbl.put s.dev.gal.shapers k { x with next := some c } } } (originOf s.dev r f)
      0x0211 f.desc [] (zeros 16) none))) ∧
  (∀ (r : Fin 64) (s : State) (f : Fetched) (rest : List Fetched) (q w : Nat),
    Runs s.dev r 0x0212 anyRight queueOwn f rest → leField f.desc 20 1 = 0 → q = leField f.desc 22 2 →
    w = leField f.desc 26 2 → leField f.desc 21 1 = 0 → q < levelRange s.dev 0 → 1 ≤ w → w ≤ 255 →
    roleStale s.dev = false →
    exec (.queueSet r) s = .next (s.having (completed { taken s.dev r rest with
      gal := { s.dev.gal with cfg := Tbl.setD s.dev.gal.cfg q {} { strict := false, weight := w } } } (originOf s.dev r f)
      0x0212 f.desc [] (zeros 16) none))) ∧
  (∀ (ing eg : Fin 128) (s : State) (x : Remap) (g : Nat), s.dev.gal.remaps = [x] → x.eg = eg.val → x.ing = ing.val →
    x.group = some g → s.dev.prs.formes = [] →
    ∃ e, exec (.queueRemapTimeout ing eg) s = .next (s.having e) ∧
      Tbl.get? e.gal.map (pairKey eg ing) = some g ∧ e.gal.remaps = [] ∧
      e.clock = max s.dev.clock (x.started + 50000000) ∧ e.key = s.dev.key) ∧
  (∀ (s : State) (d : Device), d = settleMeters s.dev → exec .policerRefill s = .next (s.having { d with gal := { d.gal with
    policers := Tbl.mapVals d.gal.policers (fun _ x => policerRefill x) } })) ∧
  (∀ s : State, exec .shaperRefill s = .next (s.having { s.dev with gal := { s.dev.gal with
    shapers := Tbl.mapVals s.dev.gal.shapers (fun _ x => shaperRefill x) } })) ∧
  (∀ x : Policer, x.next = none → x.cfg.mode = 1 →
    (policerRefill x).tc = min (31250 * (x.cfg.cbs : Int)) (min (31250 * (x.cfg.cbs : Int)) x.tc + x.cfg.cir) ∧
    (policerRefill x).te = min (31250 * (x.cfg.pbs : Int)) (min (31250 * (x.cfg.pbs : Int)) x.te + x.cfg.pir)) ∧
  (∀ s : State, ∃ e, exec .shedClassUpdate s = .next (s.having e) ∧
    (8192 * pressesIn s.dev < queuedWork s.dev → e.prs.shed = min 7 (s.dev.prs.shed + 1)) ∧
    (queuedWork s.dev < 4096 * pressesIn s.dev → e.prs.shed = s.dev.prs.shed - 1) ∧
    e = { s.dev with prs := { s.dev.prs with shed := e.prs.shed } }) ∧
  (∀ (p : Fin 128) (s : State), (galPort s.dev p).holding = true → s.dev.prs.formes = [] →
    ∃ e, exec (.galleyHoldExpiry p) s = .next (s.having e) ∧ (galPort e p).holding = false ∧
      (galPort e p).dropping = true ∧ e.clock = max s.dev.clock ((galPort s.dev p).downAt + holdMs s.dev p * 500000) ∧
      e.key = s.dev.key)

/-! ## The cipher path (R111-R200, R406, R416, R663) -/

/-- R149, R150, R172, R173, R360: a Client frame of a LINK port whose SecY has an encoding SA enters its FIFO under that SecY
and SA for the paired Line port; a fixed-latency frame that would still meet an earlier one on the wire is dropped and
counted, any other has a launch time 480 ns ahead: it goes to its press at once and leaves then, waits where a turn or a
mark holds its SA, and leaves in the clear where no press ciphers it.
That lookups use the tables at the arrival's row is the model's reading (log 57). -/
def Obligations.FramesAreClassified : Prop :=
  (∀ (p : Fin 128) (fr : FrameIn) (s : State) (line n i : Nat) (y : SecY), takesFrames s.dev p = true →
    isLine s.dev p = false → isAggregate s.dev p = false → shadow s.dev = false → s.dev.prs.flPassed = [] →
    bit (reg s.dev (0x100400 + 4 * p.val)) 29 = false → s.dev.ms.owed = [] → s.dev.prs.formes = [] → s.dev.prs.stop = none → fifoOf s.dev p = [] → 64 ≤ frameLen fr.data → frameLen fr.data ≤ 16383 → fr.fcsOk = true →
    fr.whole = true → ptpMode s.dev p ≠ 2 → bypassType s.dev (etherType s.dev p fr.data) = false →
    line = (partner s.dev p).getD p → linkSecy s.dev line fr.data p = some (n, y) → encodingSa s.dev n = some i →
    ∃ e w, exec (.frameIngress p fr .clean) s = .next (s.having e) ∧ fifoOf e p = [w] ∧ w.secy = some n ∧
      w.sa = some i ∧ w.eg = line ∧ w.cls = y.cls ∧ w.data = fr.data ∧ w.dec = false ∧
      counter e (portCtr 50 p) = counter s.dev (portCtr 50 p) + 1#64 ∧ e.ms.sas = s.dev.ms.sas ∧ e.key = s.dev.key) ∧
  (∀ (p : Fin 128) (fr : FrameIn) (s : State) (d : Device) (w : Work) (q launch : Nat), takesFrames s.dev p = true →
    isFlFrame s.dev p fr.data = true → 64 ≤ frameLen fr.data → fr.fcsOk = true →
    (d, w) = enterStage2 (macReceive s.dev p fr).1 p fr true → q = (partner s.dev p).getD p → launch = s.dev.clock + 240 →
    flInService s.dev p = true → linkUp s.dev q = true →
    (launch < Tbl.getD s.dev.prs.flBusy q 0 →
      exec (.flFrame p fr) s = .next (s.having (dropNew (count d (portCtr 6 p)) w 2 false))) ∧
    (Tbl.getD s.dev.prs.flBusy q 0 ≤ launch → ∀ (d1 d2 : Device) (w1 : Work) (f : Nat) (x : Forme),
      classifyFl d w = (d1, .go w1) → (plainLen d1 w1 ≤ 16383 ∨ w1.whole = false) → w1.eg = q → w1.ing = p →
      w1.arrival = s.dev.clock → freeFlForme d1 w1 = some f →
      x = { w := stamped d1 (stamped d1 (stamped d1 w1 4) 5) 6, order := d1.prs.nextOrder, seq := (flowSeq d1 w1).2
            entered := true, launch := some launch } →
      d2 = setForme (flowSeq d1 w1).1 f x →
      (∀ (i : Nat) (a : Sa), ciphered d2 x.w = true → w1.sa = some i → saOf d2 i = some a → a.oos = false →
        (behindFl d2 x = true ∨ dispatchable d2 i x a = false →
          exec (.flFrame p fr) s = .next (s.having (noteMarkWait d2))) ∧
        (∀ (e : Device) (y : Forme), behindFl d2 x = false → dispatchable d2 i x a = true → pressIn d2 (flPress d2 p) = true →
          e = dispatchTo d2 f i (flPress d2 p) x a → forme? e f = some y →
          exec (.flFrame p fr) s = .next (s.having (noteMarkWait { e with prs := { e.prs with
            flBusy := Tbl.put e.prs.flBusy q (launch + wireTicks e q (outLen y)) } })))) ∧
      (ciphered d2 x.w = false → behindFl d2 x = false → w1.sa.all (fun i => (saOf d2 i).any (fun a => !a.oos)) = true →
        ∃ e y, exec (.flFrame p fr) s = .next (s.having e) ∧ forme? e f = some y ∧ y.stage = .sending ∧
          y.launch = some launch ∧ y.done = true ∧ y.out = clearOut d2 x.w ∧ launch ≤ Tbl.getD e.prs.flBusy q 0)))

/-- R118, R120-R127: of the ports that wait, the one whose pipe is due is served: the frame at the head of its FIFO takes a
forme and leaves the FIFO, and a context that is not cached is fetched; the fetch's end puts the context into the cache, and a
context that leaves its full set is read again where a frame waits for it. -/
def Obligations.FormesTakeFramesAndContexts : Prop :=
  (∀ (p : Fin 128) (s : State) (q : Nat) (w : Work) (rest : List Work) (f i : Nat) (a : Sa), fifoOf s.dev p ≠ [] →
    nextPort { s.dev with prs := { s.dev.prs with waiting :=
      (if s.dev.prs.waiting.contains p.val then s.dev.prs.waiting else s.dev.prs.waiting ++ [p.val]) } } = some q →
    fifoOf s.dev q = w :: rest → s.dev.prs.stop = none → canAllocate s.dev w = true → isAggregate s.dev q = false →
    firstFrom (fun k => !Tbl.has s.dev.prs.formes k) 0 16128 = some f →
    w.sa = some i → ciphered s.dev w = true → saOf s.dev i = some a → a.oos = false → inCache s.dev i = false →
    s.dev.prs.fetching.contains i = false →
    ∃ e x, exec (.formeAllocation p) s = .next (s.having e) ∧ fifoOf e q = rest ∧ e.prs.pipePtr = (q % 4 + 1) % 4 ∧
      (∀ k, k ≠ q → fifoOf e k = fifoOf s.dev k) ∧ forme? e f = some x ∧ x.stage = .wait ∧ x.w.sa = some i ∧
      x.w.data = w.data ∧ x.press = none ∧ e.prs.fetching = s.dev.prs.fetching ++ [i] ∧
      counter e (devCtr 0) = counter s.dev (devCtr 0) + 1#64 ∧
      (∀ k, k ≠ f → forme? e k = forme? s.dev k) ∧ e.ms = s.dev.ms ∧ e.key = s.dev.key) ∧
  (∀ (i : Fin 262144) (s : State) (a : Sa), s.dev.prs.fetching = [i.val] → saOf s.dev i = some a → a.oos = false →
    [ctxLine i 0, ctxLine i 1, recLine i].all (lineGood s.dev) = true → recGood s.dev i = true → s.dev.prs.flActive = [] →
    ∃ e, exec (.saFetchDone i { errors := [], upset := none }) s = .next (s.having e) ∧
      ((Tbl.getD s.dev.prs.cache (cacheSet i) []).length < 16 → e.prs.fetching = []) ∧
      (∀ k ∈ e.prs.fetching, k ≠ i.val ∧ contextWanted s.dev k = true) ∧
      inCache e i = true ∧ (saOf e i).isSome = true ∧ e.key.slots = s.dev.key.slots)

/-- R128, R130, R185, R187: an encrypt frame at the head of its SA goes to the chosen press with the SA's next PN, and the
SA's next PN grows by one; when the press is done the frame is complete and the press has counted it. -/
def Obligations.PressesCipherFrames : Prop :=
  (∀ (f : Fin 16384) (s : State) (x : Forme) (i m n : Nat) (a : Sa) (y : SecY) (c : Sc), forme? s.dev f = some x →
    x.stage = .wait → x.w.sa = some i → x.w.dec = false → x.w.fl = false → saOf s.dev i = some a → a.oos = false →
    a.exhausted = false → a.pn ≤ maxPn a.suite → ciphered s.dev x.w = true → dispatchable s.dev i x a = true →
    choosePress s.dev i = some m → x.w.secy = some n → heldUnder s.dev i = some (c, y) →
    ∃ e z b, exec (.pressDispatch f) s = .next (s.having e) ∧ forme? e f = some z ∧ z.stage = .press ∧ z.press = some m ∧
      z.pn = a.pn ∧ z.w.sa = some i ∧ saOf e i = some b ∧ b.pn = a.pn + 1 ∧ b.lastPn = a.pn ∧
      b.exhausted = decide (a.pn = maxPn a.suite) ∧ (∀ k, k ≠ i → saOf e k = saOf s.dev k) ∧
      (∀ k, k ≠ f.val → forme? e k = forme? s.dev k) ∧ e.key = s.dev.key) ∧
  (∀ (f : Fin 16384) (s : State) (x : Forme) (i m : Nat), forme? s.dev f = some x → x.press = some m → m < 24 →
    x.w.sa = some i → x.done = false → x.w.dec = false →
    (x.w.whole = true ∨ x.w.badFcs = false ∧ plainLen s.dev x.w ≤ 16383) →
    ∃ e z, exec (.pressComplete f) s = .next (s.having e) ∧ forme? e f = some z ∧ z.done = true ∧ z.settled = true ∧
      z.out = x.out ∧ z.pn = x.pn ∧ counter e (unitCtr 0 m) = counter s.dev (unitCtr 0 m) + 1#64 ∧ e.key.slots = s.dev.key.slots) ∧
  (∀ (f : Fin 16384) (s : State) (x : Forme), forme? s.dev f = some x → x.stage = .sending → x.w.dec = false →
    x.w.whole = false → x.w.fl = false → x.stomped = false →
    exec (.encStomped f false) s = .next (s.having (setForme (count s.dev (portCtr 2 x.w.ing)) f
      { x with stomped := true, w := { x.w with whole := true } })))

/-- R121, R135, R139, R147, R406, R416, R663, R664, R772: a released LINK frame enters its port's staging; a port's head starts; the
Galley's scheduler starts the frame it picks; at its end a frame leaves the port, is counted and frees its forme, with an
inverted FCS where the one it came with proved bad; a PTP frame that cannot start at its launch time is dropped and counted. -/
def Obligations.FramesLeaveTheirPorts : Prop :=
  (∀ (f : Fin 16384) (s : State) (x : Forme), forme? s.dev f = some x → x.stage = .press → behindFlow s.dev x = false →
    isAggregate s.dev x.w.eg = false → linkUp s.dev x.w.eg = true → stagedBytes s.dev x.w.eg + outLen x ≤ 262144 →
    ∃ e z, exec (.reorderRelease f) s = .next (s.having e) ∧ stagedOf e x.w.eg = stagedOf s.dev x.w.eg ++ [f.val] ∧
      forme? e f = some z ∧ z.stage = .queued ∧ z.out = x.out ∧ e.ms = s.dev.ms ∧ e.key = s.dev.key ∧ e.regs = s.dev.regs) ∧
  (∀ (p : Fin 128) (s : State) (f : Nat) (x : Forme) (rest : List Nat), linkUp s.dev p = true → isLink s.dev p = true →
    Tbl.has s.dev.prs.tx p = false → nextLaunch s.dev p = none → stagedOf s.dev p = f :: rest → forme? s.dev f = some x →
    stagedReady s.dev x = true → lateFault s.dev x.w = none →
    ∃ e z, exec (.stagedFrameEgress p) s = .next (s.having e) ∧ Tbl.get? e.prs.tx p = some f ∧ forme? e f = some z ∧
      z.stage = .sending ∧ e.ms = s.dev.ms ∧ e.key = s.dev.key ∧ e.regs = s.dev.regs) ∧
  (∀ (p : Fin 128) (s : State) (d : Device) (q f : Nat) (x : Forme), linkUp s.dev p = true → isAggregate s.dev p = true →
    Tbl.has s.dev.prs.tx p = false → schedulerPick s.dev p = some (d, q) → headOf d q = some (f, x) →
    tooOld s.dev p x = false → lateFault s.dev x.w = none → launchNear s.dev p = false →
    ∃ e z, exec (.galleyDequeue p .clean) s = .next (s.having e) ∧ Tbl.get? e.prs.tx p = some f ∧ forme? e f = some z ∧
      z.stage = .sending ∧ e.ms = s.dev.ms ∧ e.key = s.dev.key ∧ e.regs = s.dev.regs) ∧
  (∀ (p : Fin 128) (s : State), launchNear s.dev p = true → exec (.galleyDequeue p .clean) s = .next s) ∧
  (∀ (f : Fin 16384) (s : State) (x : Forme), forme? s.dev f = some x → x.stage = .sending → x.w.fl = false →
    x.done = true → x.settled = true → x.stomped = false → x.w.eg < 128 → muted s.dev = false →
    (x.w.whole = true ∨ x.w.badFcs = false ∧ plainLen s.dev x.w ≤ 16383) →
    ∃ e, exec (.frameTxEnd f) s = .next (s.having e) ∧ forme? e f = none ∧ Out.frame x.w.eg x.out false ∈ e.out ∧
      counter e (portCtr 51 x.w.eg) = counter s.dev (portCtr 51 x.w.eg) + 1#64 ∧ e.ms = s.dev.ms ∧ e.key = s.dev.key) ∧
  (∀ (f : Fin 16384) (s : State) (x : Forme), forme? s.dev f = some x → x.stage = .sending → x.w.fl = false →
    x.done = true → x.settled = true → x.w.whole = false → x.w.dec = false → x.w.badFcs = true → frameLen x.w.data ≤ 16383 →
    portRate s.dev x.w.ing ≠ 0 → x.w.ing < 128 → x.w.eg < 128 → muted s.dev = false →
    ∃ e, exec (.frameTxEnd f) s = .next (s.having e) ∧ forme? e f = none ∧ Out.frame x.w.eg x.out true ∈ e.out ∧
      counter e (portCtr 2 x.w.ing) = counter s.dev (portCtr 2 x.w.ing) + 1#64 ∧ e.ms = s.dev.ms ∧ e.key = s.dev.key) ∧
  (∀ (f : Fin 16384) (s : State) (x : Forme), forme? s.dev f = some x → x.stage = .sending → x.w.fl = false →
    x.done = true → x.settled = true → muted s.dev = true →
    ∃ e, exec (.frameTxEnd f) s = .next (s.having e) ∧ forme? e f = none ∧
      (∀ p data b, Out.frame p data b ∈ e.out → Out.frame p data b ∈ s.dev.out) ∧
      counter e (devCtr 60) = counter s.dev (devCtr 60) + 1#64) ∧
  (∀ (f : Fin 16384) (s : State) (x : Forme) (l : Nat), forme? s.dev f = some x → x.launch = some l → x.w.fl = false →
    x.stage ≠ .sending → x.w.eg < 128 → linkUp s.dev x.w.eg = false →
    ∃ e, exec (.ptpLaunchMiss f) s = .next (s.having e) ∧ forme? e f = none ∧
      counter e (portCtr 45 x.w.eg) = counter s.dev (portCtr 45 x.w.eg) + 1#64 ∧ e.key.slots = s.dev.key.slots)

/-! ## Knadra (R260-R268, R321-R356, R458) -/

/-- R260-R265, R339, R351-R356: an association is made, changed from its next superframes, deleted and viewed; a key from a slot becomes its next or current
record; a turn is announced at least nine superframes ahead, and is cancelled before its announcement has begun. -/
def Obligations.KnadraAssociationsFollowCommands : Prop :=
  (∀ (r : Fin 64) (s : State) (f : Fetched) (rest : List Fetched) (a : Nat) (x : Assoc),
    Runs s.dev r 0x0180 anyRight (assocOwn s.dev) f rest → a = assocNo f.desc → x = assocOf f.desc →
    isLine s.dev x.port = true → (isSdh s.dev x.port = true → containerStart s.dev x.port x.slot = true) →
    (isSdh s.dev x.port = false → x.slot = 0) → s.dev.svc.revoked.contains x.peer = false →
    Tbl.any s.dev.kn.assocs (fun b y => b != a && y.port == x.port && y.slot == x.slot) = false →
    scOf s.dev (49152 + a) = none → roleStale s.dev = false →
    (assoc? s.dev a = none → exec (.knAssocSet r) s = .next (s.having (completed (knCapacity (setAssoc (taken s.dev r rest) a
      { x with withheld := withholds s.dev x, began := s.dev.clock })) (originOf s.dev r f) 0x0180 f.desc [] (zeros 16)
      none))) ∧
    (∀ old, assoc? s.dev a = some old → old.deleting = none → assocDiffers old x = false →
      exec (.knAssocSet r) s = .next (s.having (completed (setAssoc (taken s.dev r rest) a
        { old with txPend := some x.txOn, rxPend := some (x.rxOn, x.nFail, x.mGood),
                   rxPendAt := s.dev.clock }) (originOf s.dev r f) 0x0180 f.desc []
        (zeros 16) none)))) ∧
  (∀ (r : Fin 64) (s : State) (f : Fetched) (rest : List Fetched) (o : Origin) (a : Nat) (x : Assoc),
    Runs s.dev r 0x0181 anyRight assocDelOwn f rest → o = originOf s.dev r f → a = assocNo f.desc →
    assoc? s.dev a = some x → x.deleting = none →
    (assocRecords a).any (fun i => (keyRec s.dev i).present && recFull s.dev i) = false → roleStale s.dev = false →
    exec (.knAssocDel r) s = .next (s.having (setAssoc (enterInflight (taken s.dev r rest) o 0x0181) a
      { x with deleting := some (o, s.dev.clock), turn := none, rxTurn := none, output := false, outputDue := none }))) ∧
  (∀ (a : Fin 16384) (s : State) (x : Assoc) (o : Origin) (t : Nat), assoc? s.dev a = some x → x.deleting = some (o, t) →
    ∃ e desc due, exec (.knAssocDelDone a) s = .next (s.having (mirrorThenPost e 0x0181 desc [] due)) ∧ due.origin = o ∧
      due.status = .ok ∧ assoc? e a = none ∧
      (∀ k, k ≠ a.val → (assoc? e k).isSome = (assoc? s.dev k).isSome) ∧ e.key.slots = s.dev.key.slots) ∧
  (∀ (r : Fin 64) (s : State) (f : Fetched) (rest : List Fetched) (buf key : Bytes) (a dir target : Nat) (x : Assoc)
      (d : Device),
    Runs s.dev r 0x0182 anyRight knKeyOwn f rest → a = assocNo f.desc → dir = leField f.desc 22 1 →
    target = leField f.desc 26 1 → leField f.desc 23 1 = 1 → (originOf s.dev r f).bufLen = 0 → assoc? s.dev a = some x →
    x.oos = false → x.deleting = none → quarantined s.dev (recLine (knRecord a x dir target)) = false →
    recFull s.dev (knRecord a x dir target) = false →
    (if target = 0 then curOf x dir else nextOf x dir) = none → (target = 1 → (curOf x dir).isSome = true) →
    (target = 0 → isSdh s.dev x.port = true → leField f.desc 27 1 ≤ 127) →
    slotKey (taken s.dev r rest) (cmdOwner s.dev r) 1 (leField f.desc 24 2) 24 32 [] = (d, .ok key) → roleStale d = false →
    exec (.knKeyInstall r buf) s = .next (s.having (completed (holdKey d a x dir target (leField f.desc 27 1) key)
      (originOf s.dev r f) 0x0182 f.desc buf (zeros 16) none))) ∧
  (∀ (r : Fin 64) (s : State) (f : Fetched) (rest : List Fetched) (a : Nat) (x : Assoc),
    Runs s.dev r 0x0183 anyRight knTurnOwn f rest → a = assocNo f.desc → assoc? s.dev a = some x →
    (leField f.desc 22 1 = 1 → x.oos = false → x.deleting = none → x.txNext ≠ none → x.turn = none →
      roleStale s.dev = false →
      exec (.knTurnSchedule r) s = .next (s.having (completed (setAssoc (taken s.dev r rest) a
        { x with turn := some (x.sfn + 9) }) (originOf s.dev r f) 0x0183 f.desc [] (fit 16 (leBytes 8 (x.sfn + 9)))
        none))) ∧
    (leField f.desc 22 1 = 2 → ∀ t, x.turn = some t → x.sfn + 8 < t →
      exec (.knTurnSchedule r) s = .next (s.having (completed (setAssoc (taken s.dev r rest) a { x with turn := none })
        (originOf s.dev r f) 0x0183 f.desc [] (fit 16 [1#8]) none)))) ∧
  (∀ (a : Fin 16384) (s : State) (x : Assoc) (t : Nat) (v : Bool), assoc? s.dev a = some x → x.outputDue = some (t, v) →
    exec (.knOutputChange a) s = .next (s.having (setAssoc (elapseTo s.dev t) a
      { x with output := v, outputDue := none, cut := some ((boundaryAfter s.dev x).1, v) }))) ∧
  (∀ (val : W32) (s : State) (x : Assoc), assoc? s.dev (bits val 13 0) = some x →
    ∃ e, exec (.frmKnSelWrite val) s = .next (s.having e) ∧ e.kn.view = knView x ∧ e.kn.assocs = s.dev.kn.assocs ∧
      SameWork { e with kn := s.dev.kn } s.dev)

/-- R324-R334, R336-R343: an association in service without a turn sends one superframe whose fields, cipher text and tag
come from its key, salt, member number and number, and counts the number up; the fields stand at rows 1-3 of column 15 and
row 4 of column 16 of the OTN frames, and at F2 and F3 of the SDH frames. A received superframe in RUN that passes
keeps RUN and expects the next number, one that fails counts a failure; either is delivered deciphered while the output is on.
The first superframe in ACQUIRE only predicts, by the model's reading (log 64). -/
def Obligations.SuperframesCipherAndCheck : Prop :=
  (∀ (a : Fin 16384) (payload carried key iv fields ct tag : Bytes) (s : State) (x : Assoc) (n own : Nat),
    assoc? s.dev a = some x → txInService x = true → x.turn = none → x.txPend = none → s.dev.duet.role ≠ .active →
    pathRuns s.dev = true → sourceHasAis s.dev x = false → payload.length ≤ txPayload s.dev x → n = x.sfn →
    n < 2 ^ 64 - 1 → recGood s.dev (knRecord a x 0 0) = true → muted s.dev = false → own = memberInUse s.dev →
    key = (keyRec s.dev (knRecord a x 0 0)).key → iv = knIv x.salt own n →
    fields = knFields (isSdh s.dev x.port) (if x.sent then x.tagPrev else zeroTag) (x.txCur.getD 0) 0 own n →
    ct = fit payload.length (gcmCrypt key iv payload) →
    tag = fit 16 (gcmTag key iv (fields.drop 16) ct) →
    ∃ e, exec (.knSuperframeTx a { payload := payload, carried := carried }) s = .next (s.having e) ∧ Out.superframe a fields ct tag ∈ e.out ∧
      (isSdh s.dev x.port = false →
        Out.frames x.port x.slot (otnFrames s.dev x.port n fields carried ct).2 ∈ e.out) ∧
      (isSdh s.dev x.port = true →
        Out.frames x.port x.slot (sdhFrames s.dev x.port x.slot (outSize s.dev x.slot) n fields carried ct).2 ∈ e.out) ∧
      assoc? e a = some { x with tagPrev := tag, sent := true, sfn := n + 1, began := s.dev.clock } ∧
      (∀ k, k ≠ a.val → assoc? e k = assoc? s.dev k) ∧ e.key = s.dev.key ∧ e.regs = s.dev.regs) ∧
  (∀ (d : Device) (p n k : Nat) (fields carried payload : Bytes), k < 64 →
    ∃ b : Bytes, (otnFrames d p n fields carried payload).2[k]? = some b ∧ b.length = 16320 ∧
      (∀ r, r < 3 → byteAt b (4080 * r + 14) = byteAt fields (4 * k + r)) ∧
      byteAt b (4080 * 3 + 15) = byteAt fields (4 * k + 3)) ∧
  (∀ (d : Device) (p i size n k : Nat) (fields carried payload : Bytes), k < 16 →
    ∃ b : Bytes, (sdhFrames d p i size n fields carried payload).2[k]? = some b ∧
      byteAt b 8 = byteAt fields (2 * k) ∧ byteAt b 10 = byteAt fields (2 * k + 1)) ∧
  (∀ (a : Fin 16384) (frames : List (Byte × Bytes)) (payload tag : Bytes) (s : State) (x : Assoc),
    assoc? s.dev a = some x → rxInService x = true → x.withheld = false → isSdh s.dev x.port = false →
    pathRuns s.dev = true → x.skip = 0 → x.outputDue = none → x.rxPend = none → x.rxState ≠ 1 → x.pred = none →
    ∃ e, exec (.knSuperframeRx a frames payload tag) s = .next (s.having e) ∧
      assoc? e a = some { x with pred := some (rxSfn false x (rxFields false 0 frames) + 1), rxAt := s.dev.clock
                                 cut := none } ∧
      counter e (portCtr 26 x.port) = counter s.dev (portCtr 26 x.port) + 1#64 ∧
      (∀ k, k ≠ a.val → assoc? e k = assoc? s.dev k) ∧ SameWork { e with kn := s.dev.kn } s.dev) ∧
  (∀ (a : Fin 16384) (frames : List (Byte × Bytes)) (f payload tag : Bytes) (s : State) (x : Assoc) (n : Nat),
    assoc? s.dev a = some x → rxInService x = true → x.withheld = false → isSdh s.dev x.port = false → x.port < 128 →
    pathRuns s.dev = true → x.skip = 0 → x.rxPend = none → payload.length ≤ rxPayload s.dev x →
    f = rxFields false 0 frames → x.pred = some n → x.rxTurn = none → recGood s.dev (knRecord a x 1 0) = true →
    (x.rxState = 1 → superframeCause s.dev x (knRecord a x 1 0) (x.rxCur.getD 0) n f payload tag = none →
      ∃ e y, exec (.knSuperframeRx a frames payload tag) s = .next (s.having e) ∧ assoc? e a = some y ∧ y.rxState = 1 ∧
        y.pred = some (n + 1) ∧ y.last = some n ∧ y.failRun = 0 ∧
        counter e (portCtr 24 x.port) = counter s.dev (portCtr 24 x.port) + 1#64 ∧ e.key = s.dev.key) ∧
    (∀ c, x.rxState = 1 → superframeCause s.dev x (knRecord a x 1 0) (x.rxCur.getD 0) n f payload tag = some c →
      x.rxNext = none → x.failRun + 1 < x.nFail → x.nFail ≤ 15 →
      ∃ e y, exec (.knSuperframeRx a frames payload tag) s = .next (s.having e) ∧ assoc? e a = some y ∧ y.rxState = 1 ∧
        y.pred = some (n + 1) ∧ y.failRun = x.failRun + 1 ∧
        counter e (portCtr 25 x.port) = counter s.dev (portCtr 25 x.port) + 1#64 ∧ e.key = s.dev.key) ∧
    (x.output = true → x.outputDue = none → x.cut = none → muted s.dev = false →
      ∃ e, exec (.knSuperframeRx a frames payload tag) s = .next (s.having e) ∧
        Out.clear a (fit payload.length (gcmCrypt (keyRec s.dev (knRecord a x 1 0)).key (knIv x.salt x.peer n) payload))
          ∈ e.out))

/-! ## Line framing and the TSI (R278-R318) -/

/-- R278-R283, R286-R288, R318: three patterns one frame apart bring an SDH port in frame, four errored words in a row take it out and 3 ms of it
raise LOF; a change of a defect is kept and its rise latched; accepted K bytes are kept. -/
def Obligations.FramingRaisesDefects : Prop :=
  (∀ (p : Fin 128) (s : State) (b n : Nat) (w : BitVec 48), isSdh s.dev p = true → (stream s.dev p 0).inFrame = false →
    (stream s.dev p 0).trackers = [] → n = frameBits s.dev p → w = 0xF6F6F6282828#48 →
    ∃ e, exec (.inFrame p 0 [(b, w), (b + n, w), (b + 2 * n, w)]) s = .next (s.having e) ∧ (stream e p 0).inFrame = true ∧
      (stream e p 0).since = s.dev.clock ∧ hasDefect e p 1 = false ∧ e.kn = s.dev.kn ∧ e.key = s.dev.key) ∧
  (∀ (p : Fin 128) (lane : Fin 21) (s : State) (b : Nat) (w : BitVec 48), (stream s.dev p lane).inFrame = false →
    (stream s.dev p lane).trackers = [] → (lane.val = 0 → w ≠ 0xF6F6F6282828#48) →
    (lane.val ≠ 0 → w >>> 8 ≠ 0xF6F6F62828#48) →
    ∃ e, exec (.inFrame p lane [(b, w)]) s = .next (s.having e) ∧ (stream e p lane).inFrame = false ∧
      (stream e p lane).trackers = [] ∧ SameWork { e with frm := s.dev.frm } s.dev) ∧
  (∀ (p : Fin 128) (s : State) (w0 w1 w2 w3 : BitVec 48), (stream s.dev p 0).inFrame = true →
    w0 ≠ 0xF6F6F6282828#48 → w1 ≠ 0xF6F6F6282828#48 → w2 ≠ 0xF6F6F6282828#48 → w3 ≠ 0xF6F6F6282828#48 →
    ∃ e, exec (.oof p { lane := 0, words := [w0, w1, w2, w3] }) s = .next (s.having e) ∧ (stream e p 0).inFrame = false ∧
      (stream e p 0).since = s.dev.clock ∧ hasDefect e p 1 = true ∧ e.kn = s.dev.kn ∧ e.key = s.dev.key) ∧
  (∀ (p : Fin 128) (s : State), (stream s.dev p 0).inFrame = false → hasDefect s.dev p 1 = true →
    ∃ e, exec (.lofTimer p) s = .next (s.having e) ∧ hasDefect e p 2 = true ∧
      e.clock = max s.dev.clock ((stream s.dev p 0).since + 1500000) ∧ e.key = s.dev.key) ∧
  (∀ (p : Fin 128) (s : State), (stream s.dev p 0).inFrame = true →
    ∃ e, exec (.lofTimer p) s = .next (s.having e) ∧ hasDefect e p 2 = false ∧
      e.clock = max s.dev.clock ((stream s.dev p 0).since + 1500000) ∧ e.key = s.dev.key) ∧
  (∀ (p : Fin 128) (slotNo : Fin 192) (code : Fin 64) (raised v : Bool) (seen : LineSeen) (s : State),
    isSdh s.dev p = true → 6 ≤ code.val → code.val ≤ 9 → v = detected s.dev p code raised seen →
    ∃ e, exec (.defectChange p slotNo code raised seen) s = .next (s.having e) ∧ hasDefect e p code = v ∧
      counter e (portCtr 18 p) = counter s.dev (portCtr 18 p) + BitVec.ofNat 64 seen.near ∧
      (v = true → hasDefect s.dev p code = false → bit (reg e (0xC0008 + 0x40 * p.val)) code = true) ∧
      e.key = s.dev.key ∧ e.ms = s.dev.ms) ∧
  (∀ (p : Fin 128) (k1 k2 : Byte) (s : State), isSdh s.dev p = true →
    Tbl.getD s.dev.frm.kbytes p 0 ≠ 256 * k1.toNat + k2.toNat →
    ∃ e, exec (.kbytesAccepted p k1 k2) s = .next (s.having e) ∧
      Tbl.getD e.frm.kbytes p 0 = 256 * k1.toNat + k2.toNat ∧ SameWork { e with frm := s.dev.frm } s.dev)

/-- R292, R296, R316: the third equal reception of a trace is accepted; a commit of the view writes the selected entry;
selecting an entry loads its masks into the view and changes no entry. -/
def Obligations.TracesAreAcceptedAndCommitted : Prop :=
  (∀ (p : Fin 12288) (msg : Bytes) (s : State) (x : Trace), isSdh s.dev p = true → x = trace s.dev 0 p → x.format = 1 →
    x.last = fit 64 msg → x.run = 2 → traceBlocked s.dev 0 p p = false →
    ∃ e, exec (.traceReception 0 p msg) s = .next (s.having e) ∧ (trace e 0 p).accepted = some (fit 64 msg) ∧
      (trace e 0 p).expected = x.expected ∧ (∀ k i, traceKey k i ≠ traceKey 0 p → trace e k i = trace s.dev k i) ∧
      e.key = s.dev.key ∧ e.ms = s.dev.ms) ∧
  (∀ (val : W32) (s : State), bit val 31 = true → selTx s.dev = false → formatOk (selKind s.dev) (bits val 1 0) = true →
    traceExists (selKind s.dev) (selIndex s.dev) = true →
    ∃ e, exec (.traceCommit val) s = .next (s.having e) ∧
      (trace e (selKind s.dev) (selIndex s.dev)).expected = viewText s.dev ∧
      (trace e (selKind s.dev) (selIndex s.dev)).format = bits val 1 0 ∧
      (trace e (selKind s.dev) (selIndex s.dev)).maskLo = reg s.dev 0xC4008 ∧
      (trace e (selKind s.dev) (selIndex s.dev)).maskHi = reg s.dev 0xC400C ∧ e.frm.trErr = false ∧
      e.key = s.dev.key ∧ e.ms = s.dev.ms) ∧
  (∀ (val : W32) (s : State), ∃ e, exec (.frmTrSelWrite val) s = .next (s.having e) ∧
    reg e 0xC4008 = (trace s.dev (selKind e) (selIndex e)).maskLo ∧
    reg e 0xC400C = (trace s.dev (selKind e) (selIndex e)).maskHi ∧ e.frm = s.dev.frm ∧ SameWork e s.dev)

/-- R306-R314: the standby page is written; a switch waits for its boundary, each SDH port takes its
entries from the new page once, and with the last one the pages have changed and the command completes. -/
def Obligations.PagesSwitchTogether : Prop :=
  (∀ (r : Fin 64) (s : State) (f : Fetched) (rest : List Fetched) (buf b : Bytes) (first n : Nat),
    Runs s.dev r 0x0280 anyRight pageOwn f rest → first = leField f.desc 22 2 → n = leField f.desc 24 2 →
    (originOf s.dev r f).bufLen = 4 * n → b = fit (4 * n) buf → leField f.desc 20 1 = 0 → s.dev.frm.active = true →
    first + n ≤ slotTotal s.dev → firstBadEntry b n = none → switchPending s.dev = false → roleStale s.dev = false →
    exec (.tsiPageWrite r buf) s = .next (s.having (completed { taken s.dev r rest with
      frm := { s.dev.frm with page0 := writePage s.dev.frm.page0 first n b } } (originOf s.dev r f) 0x0280 f.desc buf
      (zeros 16) none))) ∧
  (∀ (r : Fin 64) (s : State) (f : Fetched) (rest : List Fetched) (o : Origin) (p : Nat) (d : Device) (x : TsiSwitch),
    Runs s.dev r 0x0281 anyRight switchOwn f rest → o = originOf s.dev r f → p = leField f.desc 20 1 →
    isSdh s.dev p = true → firstInconsistent s.dev (standbyPage s.dev) = none → roleStale s.dev = false →
    switchPending s.dev = false → d = enterInflight (taken s.dev r rest) o 0x0281 →
    x = { origin := some o, refPort := p, copyBack := (byteAt f.desc 21).getLsbD 0, accepted := s.dev.clock
          internal := !(stream s.dev p 0).inFrame } →
    exec (.tsiSwitch r) s = .next (s.having { d with frm := { s.dev.frm with switch := some x } })) ∧
  (∀ (s : State) (x : TsiSwitch), s.dev.frm.switch = some x → x.boundary = none → x.internal = false →
    (stream s.dev x.refPort 0).inFrame = true →
    exec .tsiReferenceBoundary s = .next (s.having { s.dev with frm := { s.dev.frm with
      switch := some { x with boundary := some s.dev.clock } } })) ∧
  (∀ (p : Fin 128) (s : State) (x : TsiSwitch) (t : Nat), s.dev.frm.switch = some x → x.boundary = some t →
    isSdh s.dev p = true → x.changed.contains p.val = false →
    ((sdhPorts s.dev).all (fun q => (x.changed ++ [p.val]).contains q) = false →
      ∃ e, exec (.tsiPortPageChange p) s = .next (s.having e) ∧
        e.frm.switch = some { x with changed := x.changed ++ [p.val] } ∧ e.frm.active = s.dev.frm.active ∧
        e.frm.page0 = s.dev.frm.page0 ∧ e.frm.page1 = s.dev.frm.page1 ∧
        (∀ i, slotPort s.dev i = some p.val → connection e i = Tbl.getD (standbyPage s.dev) i 0#32) ∧
        (∀ i, slotPort s.dev i ≠ some p.val → connection e i = connection s.dev i) ∧ e.key = s.dev.key) ∧
    (s.dev.frm.later = [] → (sdhPorts s.dev).all (fun q => (x.changed ++ [p.val]).contains q) = true →
      ∃ e, exec (.tsiPortPageChange p) s = .next (s.having e) ∧ e.frm.active = !s.dev.frm.active ∧ e.frm.switch = none ∧
        counter e (devCtr 9) = counter s.dev (devCtr 9) + 1#64 ∧ e.key = s.dev.key))

/-! ## Lanes and Ethernet links (R730-R747) -/

/-- R736-R738, R747: a link comes up with every stage of its lanes, and goes down with its cause or by FORCE_DOWN; a lane
group's PLL takes its links down and, locked again, lets them start; a squelched output is released 1 ms after CDR lock.
That LINK_UP sets every stage at once is the model's reading (log 45). -/
def Obligations.LinksFollowTheirLanes : Prop :=
  (∀ (p : Fin 128) (up : BringUp) (s : State), isEth s.dev p = true → linkUp s.dev p = false →
    forceDown s.dev p = false → portsRun s.dev = true → pllLocked s.dev p = true →
    ∃ e, exec (.linkUp p up) s = .next (s.having e) ∧ linkUp e p = true ∧ (portLink e p).merge = up.verified ∧
      counter e (portCtr 62 p) = counter s.dev (portCtr 62 p) + BitVec.ofNat 64 up.restarts ∧
      (∀ n ∈ portLanes s.dev p, (laneOf e n).cdr = true ∧ (laneOf e n).block = true) ∧
      (∀ q, q ≠ p.val → linkUp e q = linkUp s.dev q) ∧ e.key.slots = s.dev.key.slots ∧ e.ms.secys = s.dev.ms.secys ∧
      e.ms.scs = s.dev.ms.scs ∧ (∀ k, (saOf e k).map Sa.pn = (saOf s.dev k).map Sa.pn) ∧
      (s.dev.prs.flPassed = [] → s.dev.prs.flActive = [] → e.ms = s.dev.ms)) ∧
  (∀ (p : Fin 128) (up : BringUp) (s : State), forceDown s.dev p = true ∨ pllLocked s.dev p = false →
    exec (.linkUp p up) s = .next s) ∧
  (∀ (p : Fin 128) (cause : Fin 9) (s : State), linkUp s.dev p = true →
    ∃ e, exec (.linkDown p cause) s = .next (s.having e) ∧ linkUp e p = false ∧ (portLink e p).cause = cause ∧
      (∀ q, q ≠ p.val → portLink e q = portLink s.dev q) ∧ e.key.slots = s.dev.key.slots ∧ e.glb = s.dev.glb) ∧
  (∀ (p : Fin 128) (val : W32) (s : State), bit val 0 = true → linkUp s.dev p = true →
    ∃ e, exec (.forceDownWrite p val) s = .next (s.having e) ∧ linkUp e p = false ∧ (portLink e p).cause = 8 ∧
      forceDown e p = true ∧ e.key.slots = s.dev.key.slots ∧ e.glb = s.dev.glb) ∧
  (∀ (g : Fin 8) (s : State), s.dev.glb.groupPll.getLsbD g = true →
    ∃ e, exec (.pllUnlock g) s = .next (s.having e) ∧ e.glb.groupPll = s.dev.glb.groupPll &&& ~~~(1#8 <<< g.val) ∧
      (∀ p ∈ groupPorts s.dev g, isEth s.dev p = true → linkUp e p = false) ∧ e.key.slots = s.dev.key.slots) ∧
  (∀ (g : Fin 8) (s : State), s.dev.glb.part.lanes ≤ 16 * g.val → exec (.groupPllRelock g) s = .next s) ∧
  (∀ (g : Fin 8) (s : State), 16 * g.val < s.dev.glb.part.lanes → ∃ e, exec (.groupPllRelock g) s = .next (s.having e) ∧
    e.glb.groupPll = s.dev.glb.groupPll ||| (1#8 <<< g.val) ∧ e.regs = s.dev.regs ∧ e.counters = s.dev.counters ∧
    SameWork { e with glb := s.dev.glb } s.dev) ∧
  (∀ (i : Fin 2) (s : State) (x : Lane), Tbl.getD s.dev.lane.squelched i false = true →
    x = laneOf s.dev (rclkLane s.dev i) → x.cdr = true →
    exec (.rclkSquelchRelease i) s = .next (s.having (setSquelch (elapseTo s.dev (x.cdrAt + 500000)) i false)))

/-- R733-R735, R742-R744: the three transmit taps of a lane never exceed 63 together; peaking set by hand is used; the
loopback, PRBS and margin commands act on their lane, and a scan's figures complete its command.
Figures that the spec leaves open are free values (log 2). -/
def Obligations.LaneMaintenance : Prop :=
  (∀ (lane : Fin 133) (val : W32) (s : State) (off : Nat), off = laneBase lane + 4 → (laneOf s.dev lane).ltOwned = false →
    fusedOff s.dev.glb.part off = false →
    ∃ e, exec (.laneEqWrite lane false val) s = .next (s.having e) ∧ bits (reg e off) 3 0 = bits val 3 0 ∧
      bits (reg e off) 21 16 = bits val 21 16 ∧
      bits (reg e off) 3 0 + max 16 (bits (reg e off) 13 8) + min 31 (bits (reg e off) 21 16) ≤ 63 ∧
      (∀ o, o ≠ off → reg e o = reg s.dev o) ∧ SameWork e s.dev) ∧
  (∀ (lane : Fin 133) (val : W32) (s : State), fusedOff s.dev.glb.part (laneBase lane + 4) = true →
    exec (.laneEqWrite lane false val) s = .next s) ∧
  (∀ (lane : Fin 133) (val : W32) (s : State), bit val 31 = false → (laneOf s.dev lane).cdr = true →
    fusedOff s.dev.glb.part (laneBase lane + 8) = false →
    ∃ e, exec (.laneEqWrite lane true val) s = .next (s.having e) ∧ (laneOf e lane).peakUsed = bits val 3 0 ∧
      bits (reg e (laneBase lane + 8)) 3 0 = bits val 3 0 ∧ SameWork { e with lane := s.dev.lane } s.dev) ∧
  (∀ (r : Fin 64) (s : State) (f : Fetched) (rest : List Fetched) (n k : Nat),
    Runs s.dev r 0x0400 anyRight loopOwn f rest → namedLane s.dev f.desc = some n → k = leField f.desc 22 1 → k ≠ 3 →
    (laneOf s.dev n).loopback ≠ 3 →
    exec (.loopbackSet r) s = .next (s.having (completed (setLane (taken s.dev r rest) n
      { laneOf s.dev n with loopback := k }) (originOf s.dev r f) 0x0400 f.desc [] (zeros 16) none))) ∧
  (∀ (r : Fin 64) (s : State) (f : Fetched) (rest : List Fetched) (n : Nat),
    Runs s.dev r 0x0401 anyRight prbsOwn f rest → namedLane s.dev f.desc = some n → leField f.desc 22 1 = 0 →
    exec (.prbsSet r) s = .next (s.having (completed (setLane (taken s.dev r rest) n
      { laneOf s.dev n with prbs := none }) (originOf s.dev r f) 0x0401 f.desc [] (zeros 16) none))) ∧
  (∀ (r : Fin 64) (s : State) (f : Fetched) (rest : List Fetched) (n pattern rate : Nat),
    Runs s.dev r 0x0401 anyRight prbsOwn f rest → namedLane s.dev f.desc = some n → pattern = leField f.desc 23 1 →
    rate = prbsRate s.dev n (leField f.desc 24 1) → decide (6 ≤ pattern) = pam4 rate →
    (leField f.desc 20 1 = 1 → leField f.desc 24 1 = 0) → leField f.desc 22 1 = 1 →
    exec (.prbsSet r) s = .next (s.having (completed (setLane (taken s.dev r rest) n
      { laneOf s.dev n with prbs := some { pattern := pattern, rate := rate } }) (originOf s.dev r f) 0x0401 f.desc []
      (zeros 16) none))) ∧
  (∀ (r : Fin 64) (s : State) (f : Fetched) (rest : List Fetched) (n : Nat) (o : Origin),
    Runs s.dev r 0x0403 anyRight marginOwn f rest → namedLane s.dev f.desc = some n → o = originOf s.dev r f →
    exec (.marginScan r) s = .next (s.having (enterInflight { taken s.dev r rest with
      lane := { s.dev.lane with scans := s.dev.lane.scans ++ [{ origin := o, lane := n }] } } o 0x0403))) ∧
  (∀ (lane : Fin 133) (w h : Fin 65536) (s : State) (x : Scan),
    s.dev.lane.scans.find? (fun x => x.lane == lane.val) = some x →
    ∃ e, exec (.marginScanDone lane w h) s = .next (s.having (finish e x.origin .ok (leBytes 2 w ++ leBytes 2 h ++
        [if pam4 (laneRate s.dev lane) then 3#8 else 1#8] ++ [if marginOk s.dev w h then 1#8 else 0#8]))) ∧
      e.lane.scans = s.dev.lane.scans.erase x ∧ (w.val < 256 → (laneOf e lane).width = w) ∧
      (h.val < 256 → (laneOf e lane).height = h) ∧ (∀ n, n ≠ lane.val → laneOf e n = laneOf s.dev n) ∧
      SameWork { e with lane := s.dev.lane } s.dev)

/-! ## The Duet (R555-R600, R739-R741) -/

/-- R739-R741, R570-R573, R598, R599: the duet link goes up stage by stage, loses and regains its clock, and going down it
counts and ends the peer's presence for an ACTIVE member; heartbeats go out with SEQ counting up, are heard, or are
counted and dropped; a standby finds them lost 1 ms after the last one and gives up 1 ms later; a held message is
dropped at its timeout; the self-test goes press by press; the health word follows the device.
What happens to a message while the link is not in state 5 is the model's reading (log 69). -/
def Obligations.DuetLinkAndHeartbeats : Prop :=
  (∀ (locked : BitVec 4) (s : State) (n : Nat), n = s.dev.lane.dlState → 1 ≤ n → n ≤ 4 →
    (n ≤ 2 ∨ locked = 0xF#4 →
      ∃ e, exec (.dlState locked) s = .next (s.having e) ∧ e.lane.dlState = n + 1 ∧ e.lane.dlForwarded = decide (n = 4) ∧
        e.lane.dlLocked = locked ∧ e.lane.lanes = s.dev.lane.lanes ∧ e.key = s.dev.key ∧ e.duet.role = s.dev.duet.role) ∧
    (3 ≤ n → locked ≠ 0xF#4 →
      exec (.dlState locked) s = .next (s.having { s.dev with lane := { s.dev.lane with dlLocked := locked } }))) ∧
  (∀ s : State, s.dev.lane.dlState = 1 → exec (.dlDetectRetry false) s = .next s ∧
    ∃ e, exec (.dlDetectRetry true) s = .next (s.having e) ∧ e.lane = { s.dev.lane with dlState := 2, dlForwarded := false } ∧
      SameWork { e with lane := s.dev.lane } s.dev) ∧
  (∀ s : State, s.dev.lane.dlState = 5 → s.dev.duet.role = .active → s.dev.duet.confirmed = true →
    s.dev.duet.beatLost = false → s.dev.duet.peerLost = false →
    ∃ e, exec .dlLinkDown s = .next (s.having e) ∧
      e.lane = { s.dev.lane with dlState := 1, dlForwarded := false, dlLocked := 0#4 } ∧ e.duet.beatLost = true ∧
      e.duet.peerLost = true ∧ counter e (devCtr2 2) = counter s.dev (devCtr2 2) + 1#64 ∧
      SameWork { e with lane := s.dev.lane } s.dev) ∧
  (∀ s : State, s.dev.lane.dlState = 5 → s.dev.lane.dlForwarded = true →
    ∃ e, exec .dlClockLoss s = .next (s.having e) ∧ e.lane = { s.dev.lane with dlForwarded := false } ∧
      counter e (unitCtr 18 0) = counter s.dev (unitCtr 18 0) + 1#64 ∧ SameWork { e with lane := s.dev.lane } s.dev) ∧
  (∀ s : State, s.dev.lane.dlState = 5 → s.dev.lane.dlForwarded = false →
    ∃ e, exec .dlClockReturn s = .next (s.having e) ∧ e.lane = { s.dev.lane with dlForwarded := true } ∧
      SameWork { e with lane := s.dev.lane } s.dev) ∧
  (∀ (s : State) (key : Bytes), s.dev.duet.linkKey = some key → s.dev.duet.confirmed = true → s.dev.duet.role ≠ .solo →
    s.dev.lane.dlState = 5 →
    ∃ e, exec .heartbeatSend s = .next (s.having e) ∧ e.duet = { s.dev.duet with txSeq := s.dev.duet.txSeq + 1 } ∧
      Out.duet (duetBytes s.dev key s.dev.duet.txSeq 0x10 false (leBytes 1 s.dev.duet.role.code ++
        leBytes 4 s.dev.duet.ownHealth.toNat ++ [if s.dev.duet.pinOut then 1#8 else 0#8])) ∈ e.out ∧ SameWork e s.dev) ∧
  (∀ (h : DuetHdr) (role : Fin 4) (health : W32) (pinOut : Bool) (s : State),
    (Heard s.dev h (.beat (roleOfCode role) health pinOut) → s.dev.duet.role ≠ .active →
      ∃ e, exec (.heartbeatRx h role health pinOut) s = .next (s.having e) ∧
        e.duet = { s.dev.duet with rxSeq := h.seq, lastBeat := s.dev.clock, beatLost := false
                                   peerRole := roleOfCode role, peerHealth := health } ∧ SameWork e s.dev) ∧
    (Heard s.dev h (.beat (roleOfCode role) health pinOut) → s.dev.duet.role = .active → s.dev.duet.peerLost = true → roleOfCode role = .syncing →
      20 ≤ pressesIn s.dev →
      ∃ e, exec (.heartbeatRx h role health pinOut) s = .next (s.having e) ∧ e.duet.peerLost = false ∧
        e.duet.selfGrant = false ∧ e.duet.lastBeat = s.dev.clock ∧ SameWork e s.dev) ∧
    (authentic s.dev h (.beat (roleOfCode role) health pinOut) = true → s.dev.duet.linkKey.isSome = true → s.dev.duet.confirmed = true → s.dev.duet.rxSeq < h.seq →
      h.epoch.toNat < s.dev.duet.epoch.toNat → exec (.heartbeatRx h role health pinOut) s =
        .next (s.having (count (heard s.dev h) (devCtr 46)))) ∧
    (authentic s.dev h (.beat (roleOfCode role) health pinOut) = false ∨ h.seq ≤ s.dev.duet.rxSeq →
      (s.dev.duet.discards.filter (fun t => s.dev.clock < t + 500000)).length < 15 →
      ∃ e, exec (.heartbeatRx h role health pinOut) s = .next (s.having e) ∧ e.duet.rxSeq = s.dev.duet.rxSeq ∧
        e.duet.peerRole = s.dev.duet.peerRole ∧ counter e (devCtr 45) = counter s.dev (devCtr 45) + 1#64 ∧
        SameWork e s.dev)) ∧
  (∀ s : State, s.dev.duet.role = .standby → s.dev.duet.confirmed = true → s.dev.duet.beatLost = false →
    s.dev.duet.pinInLow = true →
    exec .heartbeatLoss s = .next (s.having (setDuet (elapseTo s.dev (s.dev.duet.lastBeat + 500000)) { s.dev.duet with
      beatLost := true, lossAt := some (max s.dev.clock (s.dev.duet.lastBeat + 500000)) }))) ∧
  (∀ (s : State) (t : Nat), s.dev.duet.lossAt = some t → s.dev.duet.role = .standby → s.dev.duet.pinInLow = true →
    ∃ e, exec .heartbeatGiveUp s = .next (s.having e) ∧ e.duet.role = .syncing ∧ e.duet.lossAt = none ∧
      e.clock = max s.dev.clock (t + 500000) ∧ e.duet.epoch = s.dev.duet.epoch ∧ e.key = s.dev.key) ∧
  (∀ (s : State) (x : HeldMsg), s.dev.duet.held = [x] →
    exec .newerEpochHoldTimeout s = .next (s.having (count (setDuet (elapseTo s.dev (x.arrived + 500000))
      { s.dev.duet with held := [] }) (devCtr (if isTurnMsg x.msg then 6 else 46))))) ∧
  (∀ (found : ProofFindings) (s : State) (m : Nat), s.dev.duet.role = .standby → m = s.dev.duet.testPress.getD 0 →
    ∃ e, exec (.selftestStep found) s = .next (s.having e) ∧ e.duet.role = .standby ∧
      (m + 1 < pressCount s.dev → e.duet.testPress = some (m + 1) ∧ e.duet.cycles = s.dev.duet.cycles) ∧
      (pressCount s.dev ≤ m + 1 → e.duet.testPress = some 0 ∧ e.duet.cycles = s.dev.duet.cycles + 1)) ∧
  (∀ (found : ProofFindings) (s : State), s.dev.duet.role ≠ .standby → exec (.selftestStep found) s = .next s) ∧
  (∀ s : State, ∃ e, exec .healthWordUpdate s = .next (s.having e) ∧
    e.duet = { s.dev.duet with ownHealth := healthWord s.dev } ∧ bits e.duet.ownHealth 1 0 = s.dev.duet.role.code ∧
    bits e.duet.ownHealth 28 24 = pressesIn s.dev ∧ SameWork e s.dev)

/-- R244, R245, R572, R578-R587, R593, R594, R597: a standby applies each MIRROR or, where it cannot, falls back to SYNCING,
and BULK_END makes a good SYNCING member STANDBY; marks are kept, resynchronised PNs taken over, anchors matched, turn
intents held until their cut or timeout; STEP_DOWN and UNPAIR change the role; digests wait for their pair and, unequal,
begin a disagreement; proof results are kept for it. An ACTIVE member counts a MIRROR.
That an UNPAIR answers a DUET_PAIR that the peer refuses is the model's choice (log 94); the corners of logs 14, 65, 71, 75, 76 and 92
are its readings. -/
def Obligations.DuetStandbyApplies : Prop :=
  (∀ (h : DuetHdr) (desc buf : Bytes) (s : State), Heard s.dev h (.mirror (fit 64 desc) buf) →
    (s.dev.duet.role = .active →
      exec (.mirrorRx h desc buf) s = .next (s.having (count (heard s.dev h) (devCtr 47)))) ∧
    (s.dev.duet.role = .standby → s.dev.duet.bulkBad = false →
      (∀ t, applyMirror (heard s.dev h) (fit 64 desc) buf = some t →
        ∃ e, exec (.mirrorRx h desc buf) s = .next (s.having e) ∧ e.duet.bulkObjects = t.duet.bulkObjects + 1 ∧
          e.regs = t.regs ∧ SameWork e t) ∧
      (applyMirror (heard s.dev h) (fit 64 desc) buf = none →
        ∃ e, exec (.mirrorRx h desc buf) s = .next (s.having e) ∧ e.duet.role = .syncing ∧ e.duet.bulkBad = true ∧
          e.duet.pinOut = false ∧ e.key = s.dev.key))) ∧
  (∀ (h : DuetHdr) (s : State), Heard s.dev h .bulkEnd → s.dev.duet.role = .syncing → s.dev.duet.bulkBad = false →
    ∃ e, exec (.bulkEndRx h) s = .next (s.having e) ∧ e.duet.role = .standby ∧ e.duet.syncPct = 100 ∧
      e.duet.bulkAt = none ∧ e.duet.marks = s.dev.duet.marks ∧ e.key = s.dev.key ∧ e.ms = s.dev.ms ∧ e.regs = s.dev.regs) ∧
  (∀ (h : DuetHdr) (i m : Nat) (s : State), Heard s.dev h (.mark [(i, m)]) → s.dev.duet.role ≠ .active → i < 2 ^ 18 →
    ∃ e, exec (.markRx h [(i, m)]) s = .next (s.having e) ∧
      e.duet.marks = Tbl.put s.dev.duet.marks i { mark := m, pend := none } ∧ e.duet.knMarks = s.dev.duet.knMarks ∧
      counter e (devCtr 49) = counter s.dev (devCtr 49) + 1#64 ∧ SameWork e s.dev) ∧
  (∀ (h : DuetHdr) (i n : Nat) (ref : W64) (s : State) (x : Seen) (a : Sa), Heard s.dev h (.resync [(i, n, ref)]) → s.dev.duet.role ≠ .active →
    (s.dev.duet.history.flatMap Prod.snd).find? (fun y => y.sa == i && y.ref == ref) = some x → saOf s.dev i = some a →
    exec (.pnResyncRx h [(i, n, ref)]) s =
      .next (s.having (setSa (heard s.dev h) i { a with pn := a.pn + n - x.pn, dirty := true }))) ∧
  (∀ (h : DuetHdr) (p : Fin 128) (ref : W64) (w : Nat) (s : State), Heard s.dev h (.anchor p ref w) → s.dev.duet.role ≠ .active →
    ∃ e, exec (.anchorRx h p ref w) s = .next (s.having e) ∧
      (digestOf e p).anchored = (Tbl.getD s.dev.duet.history p []).any (fun x => x.ref == ref) ∧
      (∀ k, k ≠ p.val → digestOf e k = digestOf s.dev k) ∧ e.regs = s.dev.regs ∧ e.counters = s.dev.counters ∧
      SameWork { e with prs := s.dev.prs } s.dev) ∧
  (∀ (h : DuetHdr) (sc : Fin 65536) (an : Fin 4) (s : State), Heard s.dev h (.turnIntent sc an) → s.dev.duet.role ≠ .active →
    ∃ e, exec (.turnIntentRx h sc an) s = .next (s.having e) ∧
      e.ms = { s.dev.ms with holds := s.dev.ms.holds ++ [{ sc := sc, an := an, since := s.dev.clock, scheduled := false }] } ∧
      SameWork { e with ms := s.dev.ms } s.dev) ∧
  (∀ (h : DuetHdr) (sc : Fin 65536) (s : State) (x : Hold), Heard s.dev h (.turnCut sc []) → s.dev.duet.role ≠ .active →
    s.dev.ms.holds.find? (fun y => y.sc == sc.val) = some x → cutsOf s.dev sc = [] →
    ∃ e, exec (.turnCutRx h sc []) s = .next (s.having e) ∧ e.ms.holds = s.dev.ms.holds.erase x ∧
      (∀ c, scOf s.dev sc = some c → (scOf e sc).bind Sc.encAn =
        if installed s.dev (4 * sc.val + x.an) = true then some x.an else none) ∧ e.key = s.dev.key) ∧
  (∀ (sc : Fin 65536) (s : State) (x : Hold), s.dev.ms.holds.find? (fun y => y.sc == sc.val) = some x →
    ∃ e, exec (.shadowHoldTimeout sc) s = .next (s.having e) ∧
      e.ms.holds = s.dev.ms.holds.erase x ∧
      e.clock = max s.dev.clock (x.since + holdUs s.dev * 500) ∧
      (∀ c, scOf s.dev sc = some c → (scOf e sc).bind Sc.encAn =
        if installed s.dev (4 * sc.val + x.an) = true then some x.an else none) ∧ e.key = s.dev.key) ∧
  (∀ (g : Fin 4096) (s : State) (t : Turn), Tbl.get? s.dev.ms.turns g = some t → s.dev.time.running = true →
    shadow s.dev = true → s.dev.duet.role = .standby →
    ∃ e, exec (.standbyTurnHoldStart g) s = .next (s.having e) ∧
      (∀ k x, (k, x) ∈ armedMembers s.dev g → e.ms.holds.any (fun y => y.sc == k) = true) ∧
      e.clock = s.dev.clock + ticksUntil s.dev t.base t.at_ 20000 ∧ e.ms.scs = s.dev.ms.scs ∧ e.key = s.dev.key) ∧
  (∀ (h : DuetHdr) (s : State), Heard s.dev h .stepDown → s.dev.duet.role = .standby →
    ∃ e, exec (.stepDownRx h) s = .next (s.having e) ∧ e.duet.role = .syncing ∧ e.duet.pinOut = false ∧
      e.duet.epoch = s.dev.duet.epoch ∧ e.key = s.dev.key) ∧
  (∀ (h : DuetHdr) (s : State) (p : Pairing), s.dev.duet.pairing = some p → s.dev.duet.confirmed = false → p.outcome = none →
    ∃ n, exec (.unpairRx h) s = .next (s.having (setDuet s.dev { s.dev.duet with
      pairing := some { p with outcome := some (8, n) } })) ∧ 1 ≤ n ∧ n ≤ 7) ∧
  (∀ (h : DuetHdr) (s : State), Heard s.dev h .unpair →
    ∃ e, exec (.unpairRx h) s = .next (s.having e) ∧ e.duet.role = .solo ∧ e.duet.linkKey = none ∧
      e.duet.pairKey = none ∧ e.duet.confirmed = false ∧ e.duet.pairMember = none ∧
      e.duet.holdStart = some s.dev.clock ∧ e.duet.pinOut = s.dev.duet.pinOut ∧ e.key = s.dev.key) ∧
  (∀ (h : DuetHdr) (kind : Fin 2) (idx : Fin 16384) (w : Nat) (v : W64) (void : Bool) (s : State) (c : Closed),
    Heard s.dev h (.digest c) → c = { kind := kind, index := idx, window := w, sum := v, void := void, sas := [] } →
    (s.dev.duet.ownClosed.find? (sameWindow c) = none →
      exec (.digestRx h kind idx w v void) s = .next (s.having (setDuet (heard s.dev h)
        { (heard s.dev h).duet with peerClosed := s.dev.duet.peerClosed ++ [c] }))) ∧
    (∀ own, s.dev.duet.ownClosed.find? (sameWindow c) = some own → own.void = false → void = false →
      s.dev.duet.disagree = none →
      ∃ e, exec (.digestRx h kind idx w v void) s = .next (s.having e) ∧ e.duet.disagree.isSome = (own.sum != v) ∧
        counter e (devCtr 51) = counter s.dev (devCtr 51) + 1#64 ∧ SameWork e s.dev)) ∧
  (∀ (h : DuetHdr) (kind : Fin 2) (idx : Fin 16384) (w : Nat) (s : State), Heard s.dev h (.mismatch kind idx w) → s.dev.duet.disagree = none →
    exec (.mismatchRx h kind idx w) s = .next (s.having (setDuet (heard s.dev h) { (heard s.dev h).duet with
      disagree := some { started := s.dev.clock, own := none, peer := none } }))) ∧
  (∀ (h : DuetHdr) (flags : Byte) (s : State) (x : Disagree), Heard s.dev h (.proofResult flags.toNat) → s.dev.duet.disagree = some x → x.own = none →
    exec (.proofResultRx h flags) s = .next (s.having (setDuet (heard s.dev h) { (heard s.dev h).duet with
      disagree := some { x with peer := some flags.toNat } }))) ∧
  (∀ (found : ProofFindings) (s : State) (x : Disagree), s.dev.duet.disagree = some x → x.peer = none →
    found.badPresses = [] →
    ∃ e n, exec (.disagreeProofRunDone found) s = .next (s.having e) ∧
      e.duet.disagree = some { x with own := some n } ∧ n / 8 = 1 ∧ e.duet.role = s.dev.duet.role)

/-- R558-R561, R577, R581, R588-R596: a standby takes over on FAULT, on a pin that stays high or by switchover, with the next
role epoch and from its marks; pins follow; an ACTIVE member that loses its peer goes on alone.
That PEER_LOST is set at these takeovers and that a ready peer clears it are the model's readings (logs 72, 73). -/
def Obligations.DuetRolesChange : Prop :=
  (∀ (h : DuetHdr) (cause : Fin 5) (s : State), Heard s.dev h (.fault cause) → s.dev.duet.role = .standby →
    s.dev.duet.pinInLow = false →
    ∃ e, exec (.faultRx h cause) s = .next (s.having e) ∧ e.duet.role = .active ∧
      e.duet.epoch = s.dev.duet.epoch + 1#32 ∧ e.duet.pinOut = true ∧ e.duet.peerLost = true ∧ e.duet.takeover = none ∧
      (Tbl.sorted s.dev.ms.sas = true → s.dev.ms.holds = [] → ∀ i x m, saOf s.dev i = some x → x.deleting = false →
        isTxSa s.dev i = true → Tbl.get? s.dev.duet.marks i = some m → m.mark ≤ maxPn x.suite →
        (saOf e i).map Sa.pn = some m.mark)) ∧
  (∀ (h : DuetHdr) (epoch : W32) (s : State), Heard s.dev h (.switch epoch) → s.dev.duet.role = .standby →
    ∃ e, exec (.switchRx h epoch) s = .next (s.having e) ∧ e.duet.role = .active ∧ e.duet.epoch = epoch ∧
      e.duet.peerRole = .standby ∧ e.duet.pinOut = (s.dev.duet.pinOut || !s.dev.duet.pinInLow)) ∧
  (∀ s : State, s.dev.duet.role = .standby → s.dev.duet.pinInLow = false →
    ∃ e, exec .failoverInHigh s = .next (s.having e) ∧ e.duet.role = .active ∧ e.duet.pinOut = true ∧
      e.duet.epoch = s.dev.duet.epoch + 1#32 ∧ e.clock = max s.dev.clock (s.dev.duet.pinInHighSince + 25000)) ∧
  (∀ s : State, (s.dev.duet.takeover = none → s.dev.duet.lossAt = none → exec .failoverInRise s =
      .next (s.having (setDuet s.dev { s.dev.duet with pinInLow := false, pinInHighSince := s.dev.clock }))) ∧
    (s.dev.duet.takeover.isSome = true → ∃ e, exec .failoverInRise s = .next (s.having e) ∧ e.duet.pinOut = true ∧
      e.duet.takeover = none ∧ e.duet.pinInLow = false ∧ SameWork e s.dev)) ∧
  (∀ s : State, (s.dev.duet.role ≠ .solo → s.dev.duet.switching = none → exec .failoverInFall s =
      .next (s.having (setDuet s.dev { s.dev.duet with pinInLow := true }))) ∧
    (∀ x, s.dev.duet.role ≠ .solo → s.dev.duet.switching = some x → x.acked = true → exec .failoverInFall s =
      .next (s.having (finish (setDuet s.dev { s.dev.duet with pinInLow := true, switching := none }) x.origin .ok
        (leBytes 4 x.epoch.toNat)))) ∧
    (s.dev.duet.role = .solo → styled s.dev = true → s.dev.duet.pinOut = true →
      s.dev.clock ≤ s.dev.duet.assertedAt + 50000 →
      ∃ e, exec .failoverInFall s = .next (s.having e) ∧ e.duet.pinOut = false ∧ e.duet.pinInLow = true ∧
        e.duet.holdStart = some s.dev.clock ∧ e.duet.holdExtra ≤ 10 ^ 7 ∧ e.key = s.dev.key)) ∧
  (∀ s : State, s.dev.duet.role = .solo → styled s.dev = true → mayTransmit s.dev = true →
    s.dev.glb.bringUpEnds.isSome = true → s.dev.duet.pinOut = false → s.dev.duet.pinInLow = false →
    dpReady (elapseTo s.dev (holdoffEnd s.dev)) = true →
    ∃ e, exec .holdoffExpiry s = .next (s.having e) ∧ e.duet.pinOut = true ∧ e.duet.holdExtra = 0 ∧
      e.clock = max s.dev.clock (holdoffEnd s.dev) ∧ e.duet.role = .solo ∧ e.key = s.dev.key) ∧
  (∀ s : State, s.dev.duet.role = .active → s.dev.duet.peerLost = true → s.dev.duet.selfGrant = false →
    ∃ e, exec .peerLostWait s = .next (s.having e) ∧ e.duet.selfGrant = true ∧
      e.clock = max s.dev.clock (s.dev.duet.peerLostAt + 750000) ∧
      (∀ i m v q, Tbl.get? s.dev.duet.marks i = some m → m.pend = some (v, q) →
        Tbl.get? e.duet.marks i = some { mark := v, pend := none }) ∧ e.key = s.dev.key ∧ e.ms = s.dev.ms) ∧
  (∀ s : State, s.dev.duet.role = .active → peerPresent s.dev = true → s.dev.duet.peerRole = .syncing →
    s.dev.duet.beatLost = false → s.dev.duet.bulkSent = false →
    ∃ e, exec .bulkMirrorStart s = .next (s.having e) ∧ e.duet.bulkSent = true ∧
      e.duet.txSeq ≥ s.dev.duet.txSeq + 2 ∧ e.ms = { s.dev.ms with cuts := e.ms.cuts } ∧
      SameWork { e with ms := s.dev.ms } s.dev) ∧
  (∀ (h : DuetHdr) (q : Nat) (failed : Bool) (s : State) (w : MirrorWait), Heard s.dev h (.mirrorAck q failed) → s.dev.duet.role = .active →
    s.dev.duet.waits = [w] → s.dev.ms.intents = [] →
    (failed = false → w.seq = q → exec (.mirrorAckRx h q failed) s = .next (s.having (post (dropInflight (setDuet (heard s.dev h)
      { (heard s.dev h).duet with waits := [] }) w.due.origin) w.due))) ∧
    (failed = true → s.dev.duet.peerLost = false → ∃ e, exec (.mirrorAckRx h q failed) s = .next (s.having e) ∧ e.duet.peerLost = true ∧
      e.duet.waits = [] ∧ e.duet.role = .active ∧ e.key = s.dev.key)) ∧
  (∀ (s : State) (w : MirrorWait), s.dev.duet.role = .active → s.dev.duet.waits = [w] → s.dev.ms.intents = [] →
    s.dev.duet.peerLost = false →
    ∃ e, exec .mirrorAckTimeout s = .next (s.having e) ∧ e.duet.peerLost = true ∧ e.duet.waits = [] ∧
      e.clock = max s.dev.clock (w.sent + 1000000) ∧ e.key = s.dev.key) ∧
  (∀ (h : DuetHdr) (q i v : Nat) (s : State) (m : Mark), Heard s.dev h (.markAck q) → Tbl.get? s.dev.duet.marks i = some m →
    m.pend = some (v, q) → selfGrants s.dev = false →
    ∃ e, exec (.markAckRx h q) s = .next (s.having e) ∧ (Tbl.get? e.duet.marks i).map Mark.mark = some v ∧
      SameWork e s.dev) ∧
  (∀ (h : DuetHdr) (epoch : W32) (s : State) (x : Switching), Heard s.dev h (.switchAck epoch) → s.dev.duet.role = .active →
    s.dev.duet.switching = some x → x.epoch = epoch → x.acked = false →
    ∃ e, exec (.switchAckRx h epoch) s = .next (s.having e) ∧ e.duet.role = .standby ∧ e.duet.epoch = epoch ∧
      e.duet.pinOut = false ∧ e.duet.peerRole = .active ∧ e.duet.switching = some { x with acked := true } ∧
      e.key = s.dev.key) ∧
  (∀ (s : State) (x : Switching), s.dev.duet.switching = some x → x.acked = false →
    exec .switchAckTimeout s = .next (s.having (finish (setDuet (elapseTo s.dev (x.sent + 1000000))
      { s.dev.duet with switching := none }) x.origin .busyReferenced (zeros 16))))

/-- R564-R568, R596, R597: pairing goes from DUET_PAIR over HELLO and CONFIRM to the roles that the pins give, or ends with
its reason; DUET_SWITCHOVER sends SWITCH and DUET_UNPAIR leaves the Duet at once.
Reason 8 without a CONFIRM is the model's choice (log 17), as are the corner reasons of log 70. -/
def Obligations.DuetPairsAndUnpairs : Prop :=
  (∀ (r : Fin 64) (s : State) (f : Fetched) (rest : List Fetched) (w : Nat),
    Runs s.dev r 0x0380 anyRight pairOwn f rest → w = leField f.desc 24 2 → s.dev.boot.enrolled = true →
    style s.dev ≠ 0 → s.dev.duet.role = .solo → s.dev.duet.pairing = none → drbgOk s.dev = true →
    ∃ e p, exec (.duetPair r) s = .next (s.having (takeEarly e)) ∧ e.duet.early = s.dev.duet.early ∧ e.duet.pairing = some p ∧ p.origin = originOf s.dev r f ∧
      p.peer = leField f.desc 20 4 % 2 ^ 18 ∧ p.waitS = (if w = 0 then 10 else w) ∧ p.nonce = drbgBytes s.dev 32 ∧
      p.started = s.dev.clock ∧ p.hello = none ∧ p.outcome = none ∧ e.duet.role = .solo ∧ e.key = s.dev.key) ∧
  (∀ (hello : Hello) (s : State) (p : Pairing) (pair : Nat), s.dev.duet.pairing = some p → p.outcome = none →
    p.hello = none → pair = pairNumber s.dev hello → mayPair s.dev = true →
    ∃ e, exec (.helloRx hello) s = .next (s.having e) ∧ SameWork e s.dev ∧
      e.duet = { s.dev.duet with pairing := some (
        if (helloReason s.dev p hello pair).isNone && (pairKeys s.dev p hello).isSome then
          { p with hello := (pairKeys s.dev p hello).map (fun y => (y.1, y.2, hello.epoch, pair)) }
        else { p with outcome := some ((helloReason s.dev p hello pair).getD 3, 0) }) }) ∧
  (∀ (h : DuetHdr) (digest link key : Bytes) (epoch : W32) (pair : Nat) (s : State) (p : Pairing),
    s.dev.duet.pairing = some p → p.outcome = none → p.hello = some (link, key, epoch, pair) → mayPair s.dev = true →
    (confirmOk link p h digest = false ∨ fit 32 digest ≠ pairDigest s.dev →
      exec (.confirmRx h digest) s = .next (s.having (refusePair s.dev p 3))) ∧
    (confirmOk link p h digest = true → fit 32 digest = pairDigest s.dev →
      ∃ e, exec (.confirmRx h digest) s = .next (s.having e) ∧
        e.duet.role = (if s.dev.duet.pinOut then .active else .syncing) ∧ e.duet.linkKey = some link ∧
        e.duet.pairKey = some key ∧ e.duet.confirmed = true ∧ e.duet.pairMember = some pair ∧
        e.duet.peerMember = some p.peer ∧ e.duet.pairing = some { p with outcome := some (0, 0) } ∧
        e.duet.epoch = (if epoch.toNat < s.dev.duet.epoch.toNat then s.dev.duet.epoch else epoch) + 1#32 ∧
        e.key = s.dev.key)) ∧
  (∀ (hello : Hello) (h : DuetHdr) (digest : Bytes) (s : State), mayPair s.dev = false →
    (s.dev.duet.pairing.isSome = true → exec (.helloRx hello) s = .next s) ∧
    (s.dev.duet.pairing = none → peerPresent s.dev = false →
      exec (.helloRx hello) s = .next (s.having (setDuet s.dev { s.dev.duet with early := some hello }))) ∧ exec (.confirmRx h digest) s = .next s) ∧
  (∀ (s : State) (p : Pairing), s.dev.duet.pairing = some p → p.outcome = none →
    exec .pairWaitTimeout s = .next (s.having (setPairing (elapseTo s.dev (p.started + p.waitS * 500000000))
      { p with outcome := some (if p.hello.isSome then 8 else 1, 0) }))) ∧
  (∀ (s : State) (p : Pairing) (reason theirs : Nat), s.dev.duet.pairing = some p → p.outcome = some (reason, theirs) →
    ∃ e, exec .duetPairDone s = .next (s.having (finish e p.origin .ok (pairResult s.dev reason theirs))) ∧
      e.duet = { s.dev.duet with pairing := none } ∧ SameWork e s.dev) ∧
  (∀ (r : Fin 64) (s : State) (f : Fetched) (rest : List Fetched), Runs s.dev r 0x0381 anyRight switchoverOwn f rest →
    s.dev.duet.role = .active → peerPresent s.dev = true → s.dev.duet.peerRole = .standby →
    bits s.dev.duet.peerHealth 31 29 = 7 → s.dev.duet.disagree = none → s.dev.duet.switching = none →
    ∃ e, exec (.duetSwitchover r) s = .next (s.having e) ∧ e.duet.switching = some
      { origin := originOf s.dev r f, epoch := s.dev.duet.epoch + 1#32, sent := s.dev.clock } ∧ SameWork e s.dev) ∧
  (∀ (r : Fin 64) (s : State) (f : Fetched) (rest : List Fetched), Runs s.dev r 0x0382 anyRight switchoverOwn f rest →
    s.dev.duet.role ≠ .solo →
    ∃ e, exec (.duetUnpair r) s = .next (s.having (completed e (originOf s.dev r f) 0x0382 f.desc [] (zeros 16) none)) ∧
      e.duet.role = .solo ∧ e.duet.linkKey = none ∧ e.duet.pairKey = none ∧ e.duet.confirmed = false ∧
      e.duet.holdStart = some s.dev.clock ∧ e.duet.pinOut = s.dev.duet.pinOut ∧ e.key = s.dev.key)

/-! ## Every command -/

/-- R19, R20, R101, R103, R106, R769, Tables 1-4 and 2-5: before a descriptor command's own conditions its opcode and class
right are checked, then the mode and the personality of the ports it addresses, then the reserved bits in order of offset; a
command that fails one ends with that status and has no other effect, and one that is held back stays where it is. -/
def Obligations.DescriptorChecksInOrder : Prop :=
  (∀ (op r : Nat) (right : Device → Nat → Bool) (own : Bytes → List (Nat × Bool))
      (body : Origin → Bytes → Bytes → Device → Verdict) (buf : Bytes) (d : Device) (f : Fetched) (rest : List Fetched)
      (st : Status) (res : Bytes),
    (cmdRing d r).fetched = f :: rest → opcodeOf f.desc = op → heldBack d r op f = false →
    preCheck (taken d r rest) (cmdOwner d r) op (right (taken d r rest) (cmdOwner d r)) f.desc (own f.desc) =
      some (st, res) →
    runCommand op r right own body buf d = failed (taken d r rest) (originOf d r f) st res ∧
    SameWork (runCommand op r right own body buf d) d) ∧
  (∀ (op r : Nat) (right : Device → Nat → Bool) (own : Bytes → List (Nat × Bool))
      (body : Origin → Bytes → Bytes → Device → Verdict) (buf : Bytes) (d : Device) (f : Fetched) (rest : List Fetched),
    (cmdRing d r).fetched = f :: rest → heldBack d r op f = true → runCommand op r right own body buf d = d) ∧
  (∀ (d : Device) (fn op : Nat) (right q : Bool) (cls : CmdClass) (desc : Bytes) (own : List (Nat × Bool)),
    opInfo op = some (cls, q) →
    (classRight d fn cls = false ∨ right = false →
      preCheck d fn op right desc own = some (.badOpcode, zeros 16)) ∧
    (classRight d fn cls = true → right = true → modeAllows d cls = false ∨ portDenied d op desc = true →
      preCheck d fn op right desc own = some (.modeDenied, zeros 16)) ∧
    (classRight d fn cls = true → right = true → modeAllows d cls = true → portDenied d op desc = false →
      d.tmp.halted = false → d.pwr.holding = false → d.mem.trainFailed = false →
      ((byteAt desc 2).toNat &&& 0xF8 ≠ 0 → preCheck d fn op right desc own = some (.badField, leBytes 2 2)) ∧
      ((byteAt desc 2).toNat &&& 0xF8 = 0 → byteAt desc 3 ≠ 0#8 →
        preCheck d fn op right desc own = some (.badField, leBytes 2 3)) ∧
      ((byteAt desc 2).toNat &&& 0xF8 = 0 → byteAt desc 3 = 0#8 →
        (∀ k pre post, own = pre ++ (k, true) :: post → pre.all (fun e => !e.2) = true →
          preCheck d fn op right desc own = some (.badField, leBytes 2 k)) ∧
        (own.all (fun e => !e.2) = true → preCheck d fn op right desc own = none)))) ∧
  (∀ (r : Fin 64) (s : State) (f : Fetched) (rest : List Fetched), (cmdRing s.dev r).fetched = f :: rest →
    opcodeOf f.desc = 0x0100 → heldBack s.dev r 0x0100 f = false → cmdOwner s.dev r = 0 → s.dev.glb.mode = .provision →
    exec (.secySet r) s =
      .next (s.having (failed (taken s.dev r rest) (originOf s.dev r f) .modeDenied (zeros 16)))) ∧
  (∀ d : Device, modeAllows d .a = true ∧ modeAllows d .b = (d.glb.mode == .provision) ∧
    modeAllows d .c = (d.glb.mode == .locked) ∧ modeAllows d .h = (d.glb.mode != .locked) ∧
    modeAllows d .k = (d.glb.mode == .maintain) ∧ modeAllows d .l = (d.glb.mode != .locked) ∧
    (d.glb.mode = .aggregate → modeAllows d .d = true ∧ modeAllows d .e = false ∧ modeAllows d .f = true) ∧
    (d.glb.mode = .sdh → modeAllows d .d = false ∧ modeAllows d .e = true ∧ modeAllows d .g = true))

/-- R8, R10 and the register tables: after reset the queue is empty, FAILOVER_OUT_N is released, no fuse is blown, and the
registers hold the reset values of their tables.
The unblown fuses are the model's choice (log 3). -/
def Obligations.ResetState : Prop :=
  State.reset.pending = [] ∧ State.reset.dev.duet.pinOut = false ∧ State.reset.dev.duet.role = .solo ∧
  State.reset.dev.out = [] ∧ State.reset.fuses.rollback = 0 ∧ State.reset.fuses.field = false ∧
  FusesGrow Fuses.fresh State.reset.fuses ∧
  (∀ r : Fin 64, reg State.reset.dev (cmdCfgOff r) = 0x10000006#32 ∧ cmdEnabled State.reset.dev r = false) ∧
  (∀ f : Fin 15, reg State.reset.dev (0x11204 + 4 * f.val) = 0#32) ∧ reg State.reset.dev 0x11200 = 0xBF008000#32 ∧
  (∀ n : Fin 128, reg State.reset.dev (laneBase n + 4) = 0x3F00#32 ∧ reg State.reset.dev (laneBase n + 8) = 0xC0000008#32 ∧
    reg State.reset.dev (ethCfgOff n) = 0x000A0000#32) ∧
  reg State.reset.dev 0x200000 = 0x00140000#32 ∧ reg State.reset.dev 0x20004 = 0x04690000#32

/-- Every command answers a next state: it changes the device and, for an enrolment or a supplement, the fuses, and it
leaves the queue alone. On an empty queue one 2 ns tick passes, the model's choice (log 6). -/
def Obligations.EveryCommandAnswers : Prop :=
  (∀ (i : Instr) (s : State), ∃ e f, exec i s = .next { dev := e, fuses := f, pending := s.pending }) ∧
  (∀ (i : Instr) (s : State), i ≠ .domainEnrolDone → (∀ b, i ≠ .supplementInstallDone b) →
    ∃ e, exec i s = .next (s.having e)) ∧
  (∀ s : State, s.pending = [] → ∃ e, step s = .next (s.having e)) ∧
  (∀ s : State, s.pending = [] → s.dev.boot.restart = none →
    (∀ x ∈ s.dev.frm.rises ++ s.dev.frm.falls, x.2.count = 0) →
    (∀ p : Nat, isSdh s.dev p = true ∨ isOtn s.dev p = true → hasDefect s.dev p 16 = aisOut s.dev p) →
    ∃ e, step s = .next (s.having e) ∧ e.clock = s.dev.clock + 1 ∧
    e.rcd.opTime = s.dev.rcd.opTime + 2 ∧ e.regs = s.dev.regs ∧ e.key = s.dev.key ∧ e.ms = s.dev.ms ∧ e.duet = s.dev.duet)

/-- Tier 3. R679, R680: whatever has been blown stays blown: with the fuses of any earlier moment for `f`, every step keeps
that key, serial number and key hashes are as they were and that revocation bits, the rollback thermometer, FIELD and
DEBUG_KILL only grow. -/
def Obligations.FusesOnlyGrow : Prop :=
  ∀ (f : Fuses) (s t : State), FusesGrow f s.fuses → step s = .next t → FusesGrow f t.fuses
end

