-- ==== Sys2Proof/Laws/Table.lean ====
section
/-!
SUPPORT. Sparse tables: a read after a write, and the canonical form that every operation keeps.
-/
namespace Sys2Proof

variable {α β : Type}

/-- Every key of the table is above `k`. -/
def Tbl.above (k : Nat) (t : Tbl α) : Prop := ∀ e ∈ t, k < e.1

theorem Tbl.sorted_cons {k : Nat} {v : α} {t : Tbl α} (h : Tbl.sorted ((k, v) :: t) = true) :
    Tbl.sorted t = true ∧ Tbl.above k t := by
  induction t generalizing k v with
  | nil => exact ⟨rfl, fun _ h => absurd h (by simp)⟩
  | cons e t ih =>
    obtain ⟨k', v'⟩ := e
    simp only [Tbl.sorted, Bool.and_eq_true, decide_eq_true_eq] at h
    refine ⟨h.2, ?_⟩
    intro x hx
    rcases List.mem_cons.1 hx with rfl | hx
    · exact h.1
    · exact Nat.lt_trans h.1 ((ih h.2).2 x hx)

theorem Tbl.sorted_of {k : Nat} {v : α} {t : Tbl α} (h : Tbl.sorted t = true) (a : Tbl.above k t) :
    Tbl.sorted ((k, v) :: t) = true := by
  cases t with
  | nil => rfl
  | cons e t =>
    obtain ⟨k', v'⟩ := e
    simp only [Tbl.sorted, Bool.and_eq_true, decide_eq_true_eq]
    exact ⟨a (k', v') (List.mem_cons_self ..), h⟩

theorem Tbl.get?_put (t : Tbl α) (k : Nat) (v : α) : Tbl.get? (Tbl.put t k v) k = some v := by
  induction t with
  | nil => simp [Tbl.put, Tbl.get?]
  | cons e t ih =>
    obtain ⟨k', v'⟩ := e
    simp only [Tbl.put]
    split
    · simp [Tbl.get?]
    · split
      · simp [Tbl.get?]
      · rename_i h _
        simp [Tbl.get?, Ne.symm h, ih]

theorem Tbl.get?_put_ne (t : Tbl α) (k j : Nat) (v : α) (h : j ≠ k) : Tbl.get? (Tbl.put t k v) j = Tbl.get? t j := by
  induction t with
  | nil => simp [Tbl.put, Tbl.get?, Ne.symm h]
  | cons e t ih =>
    obtain ⟨k', v'⟩ := e
    simp only [Tbl.put]
    split
    · rename_i e; subst e; simp [Tbl.get?, Ne.symm h]
    · split
      · simp [Tbl.get?, Ne.symm h]
      · simp [Tbl.get?, ih]

theorem Tbl.above_put {k j : Nat} {v : α} {t : Tbl α} (a : Tbl.above k t) (h : k < j) : Tbl.above k (Tbl.put t j v) := by
  induction t with
  | nil => intro e he; simp [Tbl.put] at he; subst he; exact h
  | cons x t ih =>
    obtain ⟨k', v'⟩ := x
    have a1 : k < k' := a (k', v') (List.mem_cons_self ..)
    have a2 : Tbl.above k t := fun e he => a e (List.mem_cons_of_mem _ he)
    simp only [Tbl.put]
    split
    · intro e he
      rcases List.mem_cons.1 he with rfl | he
      · exact h
      · exact a2 e he
    · split
      · intro e he
        rcases List.mem_cons.1 he with rfl | he
        · exact h
        · exact a e he
      · intro e he
        rcases List.mem_cons.1 he with rfl | he
        · exact a1
        · exact ih a2 e he

/-- `put` keeps the canonical form. -/
theorem Tbl.sorted_put {t : Tbl α} (k : Nat) (v : α) (h : Tbl.sorted t = true) : Tbl.sorted (Tbl.put t k v) = true := by
  induction t with
  | nil => rfl
  | cons x t ih =>
    obtain ⟨k', v'⟩ := x
    have hc := Tbl.sorted_cons h
    simp only [Tbl.put]
    split
    · rename_i e; subst e; exact Tbl.sorted_of hc.1 hc.2
    · split
      · rename_i l
        refine Tbl.sorted_of h ?_
        intro e he
        rcases List.mem_cons.1 he with rfl | he
        · exact l
        · exact Nat.lt_trans l (hc.2 e he)
      · exact Tbl.sorted_of (ih hc.1) (Tbl.above_put hc.2 (by omega))

theorem Tbl.above_filter {k : Nat} {t : Tbl α} (p : Nat × α → Bool) (a : Tbl.above k t) : Tbl.above k (t.filter p) :=
  fun e he => a e (List.mem_filter.1 he).1

/-- Removing entries keeps the canonical form. -/
theorem Tbl.sorted_filter {t : Tbl α} (p : Nat × α → Bool) (h : Tbl.sorted t = true) :
    Tbl.sorted (α := α) (t.filter p) = true := by
  induction t with
  | nil => rfl
  | cons x t ih =>
    obtain ⟨k', v'⟩ := x
    have hc := Tbl.sorted_cons h
    simp only [List.filter_cons]
    split
    · exact Tbl.sorted_of (ih hc.1) (Tbl.above_filter p hc.2)
    · exact ih hc.1

theorem Tbl.sorted_del {t : Tbl α} (k : Nat) (h : Tbl.sorted t = true) : Tbl.sorted (Tbl.del t k) = true :=
  Tbl.sorted_filter _ h

theorem Tbl.sorted_setD [DecidableEq α] {t : Tbl α} (k : Nat) (dflt v : α) (h : Tbl.sorted t = true) :
    Tbl.sorted (Tbl.setD t k dflt v) = true := by
  unfold Tbl.setD
  split
  · exact Tbl.sorted_del k h
  · exact Tbl.sorted_put k v h

theorem Tbl.get?_del (t : Tbl α) (k : Nat) : Tbl.get? (Tbl.del t k) k = none := by
  induction t with
  | nil => rfl
  | cons e t ih =>
    obtain ⟨k', v'⟩ := e
    simp only [Tbl.del, List.filter_cons] at ih ⊢
    split
    · rename_i h
      simp only [bne_iff_ne, ne_eq] at h
      simp [Tbl.get?, h, ih]
    · exact ih

theorem Tbl.get?_del_ne (t : Tbl α) (k j : Nat) (h : j ≠ k) : Tbl.get? (Tbl.del t k) j = Tbl.get? t j := by
  induction t with
  | nil => rfl
  | cons e t ih =>
    obtain ⟨k', v'⟩ := e
    simp only [Tbl.del, List.filter_cons] at ih ⊢
    split
    · simp [Tbl.get?, ih]
    · rename_i hk
      simp at hk
      subst hk
      simp [Tbl.get?, Ne.symm h, ih]

/-- An array element reads as written. -/
theorem Tbl.getD_setD [DecidableEq α] (t : Tbl α) (k : Nat) (dflt v : α) :
    Tbl.getD (Tbl.setD t k dflt v) k dflt = v := by
  unfold Tbl.setD Tbl.getD
  split
  · rename_i h; simp [Tbl.get?_del, h]
  · simp [Tbl.get?_put]

/-- A write of one array element leaves the others. -/
theorem Tbl.getD_setD_ne [DecidableEq α] (t : Tbl α) (k j : Nat) (dflt v d : α) (h : j ≠ k) :
    Tbl.getD (Tbl.setD t k dflt v) j d = Tbl.getD t j d := by
  unfold Tbl.setD Tbl.getD
  split
  · simp [Tbl.get?_del_ne _ _ _ h]
  · simp [Tbl.get?_put_ne _ _ _ _ h]

@[simp] theorem Tbl.getD_put (t : Tbl α) (k : Nat) (v d : α) : Tbl.getD (Tbl.put t k v) k d = v := by
  simp [Tbl.getD, Tbl.get?_put]

theorem Tbl.getD_put_ne (t : Tbl α) (k j : Nat) (v d : α) (h : j ≠ k) :
    Tbl.getD (Tbl.put t k v) j d = Tbl.getD t j d := by
  simp [Tbl.getD, Tbl.get?_put_ne _ _ _ _ h]

theorem Tbl.has_put (t : Tbl α) (k : Nat) (v : α) : Tbl.has (Tbl.put t k v) k = true := by
  simp [Tbl.has, Tbl.get?_put]

end Sys2Proof
end

