-- ==== Sys2Proof/Laws/State.lean ====
section
/-!
SUPPORT. One lemma for each field of the device that an update leaves alone, and for the fields of a state under `idle`.
-/
namespace Sys2Proof.Machine

variable (d : Device)

@[simp] theorem setReg_clock (off : Nat) (v : W32) : (setReg d off v).clock = d.clock := rfl
@[simp] theorem setReg_glb (off : Nat) (v : W32) : (setReg d off v).glb = d.glb := rfl
@[simp] theorem setReg_hif (off : Nat) (v : W32) : (setReg d off v).hif = d.hif := rfl
@[simp] theorem setReg_rcd (off : Nat) (v : W32) : (setReg d off v).rcd = d.rcd := rfl
@[simp] theorem setReg_boot (off : Nat) (v : W32) : (setReg d off v).boot = d.boot := rfl
@[simp] theorem setReg_key (off : Nat) (v : W32) : (setReg d off v).key = d.key := rfl
@[simp] theorem setReg_svc (off : Nat) (v : W32) : (setReg d off v).svc = d.svc := rfl
@[simp] theorem setReg_mem (off : Nat) (v : W32) : (setReg d off v).mem = d.mem := rfl
@[simp] theorem setReg_tmp (off : Nat) (v : W32) : (setReg d off v).tmp = d.tmp := rfl
@[simp] theorem setReg_time (off : Nat) (v : W32) : (setReg d off v).time = d.time := rfl
@[simp] theorem setReg_lane (off : Nat) (v : W32) : (setReg d off v).lane = d.lane := rfl
@[simp] theorem setReg_pwr (off : Nat) (v : W32) : (setReg d off v).pwr = d.pwr := rfl
@[simp] theorem setReg_ms (off : Nat) (v : W32) : (setReg d off v).ms = d.ms := rfl
@[simp] theorem setReg_prs (off : Nat) (v : W32) : (setReg d off v).prs = d.prs := rfl
@[simp] theorem setReg_frm (off : Nat) (v : W32) : (setReg d off v).frm = d.frm := rfl
@[simp] theorem setReg_kn (off : Nat) (v : W32) : (setReg d off v).kn = d.kn := rfl
@[simp] theorem setReg_cls (off : Nat) (v : W32) : (setReg d off v).cls = d.cls := rfl
@[simp] theorem setReg_gal (off : Nat) (v : W32) : (setReg d off v).gal = d.gal := rfl
@[simp] theorem setReg_duet (off : Nat) (v : W32) : (setReg d off v).duet = d.duet := rfl
@[simp] theorem setReg_counters (off : Nat) (v : W32) : (setReg d off v).counters = d.counters := rfl
@[simp] theorem setReg_drawn (off : Nat) (v : W32) : (setReg d off v).drawn = d.drawn := rfl
@[simp] theorem setReg_lastRead (off : Nat) (v : W32) : (setReg d off v).lastRead = d.lastRead := rfl
@[simp] theorem setReg_out (off : Nat) (v : W32) : (setReg d off v).out = d.out := rfl

@[simp] theorem setBits_clock (off : Nat) (m v : W32) : (setBits d off m v).clock = d.clock := rfl
@[simp] theorem setBits_glb (off : Nat) (m v : W32) : (setBits d off m v).glb = d.glb := rfl
@[simp] theorem setBits_hif (off : Nat) (m v : W32) : (setBits d off m v).hif = d.hif := rfl
@[simp] theorem setBits_rcd (off : Nat) (m v : W32) : (setBits d off m v).rcd = d.rcd := rfl
@[simp] theorem setBits_boot (off : Nat) (m v : W32) : (setBits d off m v).boot = d.boot := rfl
@[simp] theorem setBits_key (off : Nat) (m v : W32) : (setBits d off m v).key = d.key := rfl
@[simp] theorem setBits_svc (off : Nat) (m v : W32) : (setBits d off m v).svc = d.svc := rfl
@[simp] theorem setBits_mem (off : Nat) (m v : W32) : (setBits d off m v).mem = d.mem := rfl
@[simp] theorem setBits_tmp (off : Nat) (m v : W32) : (setBits d off m v).tmp = d.tmp := rfl
@[simp] theorem setBits_time (off : Nat) (m v : W32) : (setBits d off m v).time = d.time := rfl
@[simp] theorem setBits_lane (off : Nat) (m v : W32) : (setBits d off m v).lane = d.lane := rfl
@[simp] theorem setBits_pwr (off : Nat) (m v : W32) : (setBits d off m v).pwr = d.pwr := rfl
@[simp] theorem setBits_ms (off : Nat) (m v : W32) : (setBits d off m v).ms = d.ms := rfl
@[simp] theorem setBits_prs (off : Nat) (m v : W32) : (setBits d off m v).prs = d.prs := rfl
@[simp] theorem setBits_frm (off : Nat) (m v : W32) : (setBits d off m v).frm = d.frm := rfl
@[simp] theorem setBits_kn (off : Nat) (m v : W32) : (setBits d off m v).kn = d.kn := rfl
@[simp] theorem setBits_cls (off : Nat) (m v : W32) : (setBits d off m v).cls = d.cls := rfl
@[simp] theorem setBits_gal (off : Nat) (m v : W32) : (setBits d off m v).gal = d.gal := rfl
@[simp] theorem setBits_duet (off : Nat) (m v : W32) : (setBits d off m v).duet = d.duet := rfl
@[simp] theorem setBits_counters (off : Nat) (m v : W32) : (setBits d off m v).counters = d.counters := rfl
@[simp] theorem setBits_drawn (off : Nat) (m v : W32) : (setBits d off m v).drawn = d.drawn := rfl
@[simp] theorem setBits_lastRead (off : Nat) (m v : W32) : (setBits d off m v).lastRead = d.lastRead := rfl
@[simp] theorem setBits_out (off : Nat) (m v : W32) : (setBits d off m v).out = d.out := rfl

@[simp] theorem count_clock (i n : Nat) : (count d i n).clock = d.clock := rfl
@[simp] theorem count_glb (i n : Nat) : (count d i n).glb = d.glb := rfl
@[simp] theorem count_hif (i n : Nat) : (count d i n).hif = d.hif := rfl
@[simp] theorem count_rcd (i n : Nat) : (count d i n).rcd = d.rcd := rfl
@[simp] theorem count_boot (i n : Nat) : (count d i n).boot = d.boot := rfl
@[simp] theorem count_key (i n : Nat) : (count d i n).key = d.key := rfl
@[simp] theorem count_svc (i n : Nat) : (count d i n).svc = d.svc := rfl
@[simp] theorem count_mem (i n : Nat) : (count d i n).mem = d.mem := rfl
@[simp] theorem count_tmp (i n : Nat) : (count d i n).tmp = d.tmp := rfl
@[simp] theorem count_time (i n : Nat) : (count d i n).time = d.time := rfl
@[simp] theorem count_lane (i n : Nat) : (count d i n).lane = d.lane := rfl
@[simp] theorem count_pwr (i n : Nat) : (count d i n).pwr = d.pwr := rfl
@[simp] theorem count_ms (i n : Nat) : (count d i n).ms = d.ms := rfl
@[simp] theorem count_prs (i n : Nat) : (count d i n).prs = d.prs := rfl
@[simp] theorem count_frm (i n : Nat) : (count d i n).frm = d.frm := rfl
@[simp] theorem count_kn (i n : Nat) : (count d i n).kn = d.kn := rfl
@[simp] theorem count_cls (i n : Nat) : (count d i n).cls = d.cls := rfl
@[simp] theorem count_gal (i n : Nat) : (count d i n).gal = d.gal := rfl
@[simp] theorem count_duet (i n : Nat) : (count d i n).duet = d.duet := rfl
@[simp] theorem count_regs (i n : Nat) : (count d i n).regs = d.regs := rfl
@[simp] theorem count_drawn (i n : Nat) : (count d i n).drawn = d.drawn := rfl
@[simp] theorem count_lastRead (i n : Nat) : (count d i n).lastRead = d.lastRead := rfl
@[simp] theorem count_out (i n : Nat) : (count d i n).out = d.out := rfl

@[simp] theorem send_clock (o : Out) : (send d o).clock = d.clock := rfl
@[simp] theorem send_glb (o : Out) : (send d o).glb = d.glb := rfl
@[simp] theorem send_hif (o : Out) : (send d o).hif = d.hif := rfl
@[simp] theorem send_rcd (o : Out) : (send d o).rcd = d.rcd := rfl
@[simp] theorem send_boot (o : Out) : (send d o).boot = d.boot := rfl
@[simp] theorem send_key (o : Out) : (send d o).key = d.key := rfl
@[simp] theorem send_svc (o : Out) : (send d o).svc = d.svc := rfl
@[simp] theorem send_mem (o : Out) : (send d o).mem = d.mem := rfl
@[simp] theorem send_tmp (o : Out) : (send d o).tmp = d.tmp := rfl
@[simp] theorem send_time (o : Out) : (send d o).time = d.time := rfl
@[simp] theorem send_lane (o : Out) : (send d o).lane = d.lane := rfl
@[simp] theorem send_pwr (o : Out) : (send d o).pwr = d.pwr := rfl
@[simp] theorem send_ms (o : Out) : (send d o).ms = d.ms := rfl
@[simp] theorem send_prs (o : Out) : (send d o).prs = d.prs := rfl
@[simp] theorem send_frm (o : Out) : (send d o).frm = d.frm := rfl
@[simp] theorem send_kn (o : Out) : (send d o).kn = d.kn := rfl
@[simp] theorem send_cls (o : Out) : (send d o).cls = d.cls := rfl
@[simp] theorem send_gal (o : Out) : (send d o).gal = d.gal := rfl
@[simp] theorem send_duet (o : Out) : (send d o).duet = d.duet := rfl
@[simp] theorem send_regs (o : Out) : (send d o).regs = d.regs := rfl
@[simp] theorem send_counters (o : Out) : (send d o).counters = d.counters := rfl
@[simp] theorem send_drawn (o : Out) : (send d o).drawn = d.drawn := rfl
@[simp] theorem send_lastRead (o : Out) : (send d o).lastRead = d.lastRead := rfl

@[simp] theorem drawn_clock (n : Nat) : (drawn d n).clock = d.clock := rfl
@[simp] theorem drawn_glb (n : Nat) : (drawn d n).glb = d.glb := rfl
@[simp] theorem drawn_hif (n : Nat) : (drawn d n).hif = d.hif := rfl
@[simp] theorem drawn_rcd (n : Nat) : (drawn d n).rcd = d.rcd := rfl
@[simp] theorem drawn_boot (n : Nat) : (drawn d n).boot = d.boot := rfl
@[simp] theorem drawn_key (n : Nat) : (drawn d n).key = d.key := rfl
@[simp] theorem drawn_svc (n : Nat) : (drawn d n).svc = d.svc := rfl
@[simp] theorem drawn_mem (n : Nat) : (drawn d n).mem = d.mem := rfl
@[simp] theorem drawn_tmp (n : Nat) : (drawn d n).tmp = d.tmp := rfl
@[simp] theorem drawn_time (n : Nat) : (drawn d n).time = d.time := rfl
@[simp] theorem drawn_lane (n : Nat) : (drawn d n).lane = d.lane := rfl
@[simp] theorem drawn_pwr (n : Nat) : (drawn d n).pwr = d.pwr := rfl
@[simp] theorem drawn_ms (n : Nat) : (drawn d n).ms = d.ms := rfl
@[simp] theorem drawn_prs (n : Nat) : (drawn d n).prs = d.prs := rfl
@[simp] theorem drawn_frm (n : Nat) : (drawn d n).frm = d.frm := rfl
@[simp] theorem drawn_kn (n : Nat) : (drawn d n).kn = d.kn := rfl
@[simp] theorem drawn_cls (n : Nat) : (drawn d n).cls = d.cls := rfl
@[simp] theorem drawn_gal (n : Nat) : (drawn d n).gal = d.gal := rfl
@[simp] theorem drawn_duet (n : Nat) : (drawn d n).duet = d.duet := rfl
@[simp] theorem drawn_regs (n : Nat) : (drawn d n).regs = d.regs := rfl
@[simp] theorem drawn_counters (n : Nat) : (drawn d n).counters = d.counters := rfl
@[simp] theorem drawn_lastRead (n : Nat) : (drawn d n).lastRead = d.lastRead := rfl
@[simp] theorem drawn_out (n : Nat) : (drawn d n).out = d.out := rfl

@[simp] theorem setCmdRing_clock (r : Nat) (x : CmdRing) : (setCmdRing d r x).clock = d.clock := rfl
@[simp] theorem setCmdRing_glb (r : Nat) (x : CmdRing) : (setCmdRing d r x).glb = d.glb := rfl
@[simp] theorem setCmdRing_rcd (r : Nat) (x : CmdRing) : (setCmdRing d r x).rcd = d.rcd := rfl
@[simp] theorem setCmdRing_boot (r : Nat) (x : CmdRing) : (setCmdRing d r x).boot = d.boot := rfl
@[simp] theorem setCmdRing_key (r : Nat) (x : CmdRing) : (setCmdRing d r x).key = d.key := rfl
@[simp] theorem setCmdRing_svc (r : Nat) (x : CmdRing) : (setCmdRing d r x).svc = d.svc := rfl
@[simp] theorem setCmdRing_mem (r : Nat) (x : CmdRing) : (setCmdRing d r x).mem = d.mem := rfl
@[simp] theorem setCmdRing_tmp (r : Nat) (x : CmdRing) : (setCmdRing d r x).tmp = d.tmp := rfl
@[simp] theorem setCmdRing_time (r : Nat) (x : CmdRing) : (setCmdRing d r x).time = d.time := rfl
@[simp] theorem setCmdRing_lane (r : Nat) (x : CmdRing) : (setCmdRing d r x).lane = d.lane := rfl
@[simp] theorem setCmdRing_pwr (r : Nat) (x : CmdRing) : (setCmdRing d r x).pwr = d.pwr := rfl
@[simp] theorem setCmdRing_ms (r : Nat) (x : CmdRing) : (setCmdRing d r x).ms = d.ms := rfl
@[simp] theorem setCmdRing_prs (r : Nat) (x : CmdRing) : (setCmdRing d r x).prs = d.prs := rfl
@[simp] theorem setCmdRing_frm (r : Nat) (x : CmdRing) : (setCmdRing d r x).frm = d.frm := rfl
@[simp] theorem setCmdRing_kn (r : Nat) (x : CmdRing) : (setCmdRing d r x).kn = d.kn := rfl
@[simp] theorem setCmdRing_cls (r : Nat) (x : CmdRing) : (setCmdRing d r x).cls = d.cls := rfl
@[simp] theorem setCmdRing_gal (r : Nat) (x : CmdRing) : (setCmdRing d r x).gal = d.gal := rfl
@[simp] theorem setCmdRing_duet (r : Nat) (x : CmdRing) : (setCmdRing d r x).duet = d.duet := rfl
@[simp] theorem setCmdRing_regs (r : Nat) (x : CmdRing) : (setCmdRing d r x).regs = d.regs := rfl
@[simp] theorem setCmdRing_counters (r : Nat) (x : CmdRing) : (setCmdRing d r x).counters = d.counters := rfl
@[simp] theorem setCmdRing_drawn (r : Nat) (x : CmdRing) : (setCmdRing d r x).drawn = d.drawn := rfl
@[simp] theorem setCmdRing_lastRead (r : Nat) (x : CmdRing) : (setCmdRing d r x).lastRead = d.lastRead := rfl
@[simp] theorem setCmdRing_out (r : Nat) (x : CmdRing) : (setCmdRing d r x).out = d.out := rfl

@[simp] theorem setCqRing_clock (m : Nat) (x : CqRing) : (setCqRing d m x).clock = d.clock := rfl
@[simp] theorem setCqRing_glb (m : Nat) (x : CqRing) : (setCqRing d m x).glb = d.glb := rfl
@[simp] theorem setCqRing_rcd (m : Nat) (x : CqRing) : (setCqRing d m x).rcd = d.rcd := rfl
@[simp] theorem setCqRing_boot (m : Nat) (x : CqRing) : (setCqRing d m x).boot = d.boot := rfl
@[simp] theorem setCqRing_key (m : Nat) (x : CqRing) : (setCqRing d m x).key = d.key := rfl
@[simp] theorem setCqRing_svc (m : Nat) (x : CqRing) : (setCqRing d m x).svc = d.svc := rfl
@[simp] theorem setCqRing_mem (m : Nat) (x : CqRing) : (setCqRing d m x).mem = d.mem := rfl
@[simp] theorem setCqRing_tmp (m : Nat) (x : CqRing) : (setCqRing d m x).tmp = d.tmp := rfl
@[simp] theorem setCqRing_time (m : Nat) (x : CqRing) : (setCqRing d m x).time = d.time := rfl
@[simp] theorem setCqRing_lane (m : Nat) (x : CqRing) : (setCqRing d m x).lane = d.lane := rfl
@[simp] theorem setCqRing_pwr (m : Nat) (x : CqRing) : (setCqRing d m x).pwr = d.pwr := rfl
@[simp] theorem setCqRing_ms (m : Nat) (x : CqRing) : (setCqRing d m x).ms = d.ms := rfl
@[simp] theorem setCqRing_prs (m : Nat) (x : CqRing) : (setCqRing d m x).prs = d.prs := rfl
@[simp] theorem setCqRing_frm (m : Nat) (x : CqRing) : (setCqRing d m x).frm = d.frm := rfl
@[simp] theorem setCqRing_kn (m : Nat) (x : CqRing) : (setCqRing d m x).kn = d.kn := rfl
@[simp] theorem setCqRing_cls (m : Nat) (x : CqRing) : (setCqRing d m x).cls = d.cls := rfl
@[simp] theorem setCqRing_gal (m : Nat) (x : CqRing) : (setCqRing d m x).gal = d.gal := rfl
@[simp] theorem setCqRing_duet (m : Nat) (x : CqRing) : (setCqRing d m x).duet = d.duet := rfl
@[simp] theorem setCqRing_regs (m : Nat) (x : CqRing) : (setCqRing d m x).regs = d.regs := rfl
@[simp] theorem setCqRing_counters (m : Nat) (x : CqRing) : (setCqRing d m x).counters = d.counters := rfl
@[simp] theorem setCqRing_drawn (m : Nat) (x : CqRing) : (setCqRing d m x).drawn = d.drawn := rfl
@[simp] theorem setCqRing_lastRead (m : Nat) (x : CqRing) : (setCqRing d m x).lastRead = d.lastRead := rfl
@[simp] theorem setCqRing_out (m : Nat) (x : CqRing) : (setCqRing d m x).out = d.out := rfl

@[simp] theorem setEvRing_clock (e : Nat) (x : EvRing) : (setEvRing d e x).clock = d.clock := rfl
@[simp] theorem setEvRing_glb (e : Nat) (x : EvRing) : (setEvRing d e x).glb = d.glb := rfl
@[simp] theorem setEvRing_rcd (e : Nat) (x : EvRing) : (setEvRing d e x).rcd = d.rcd := rfl
@[simp] theorem setEvRing_boot (e : Nat) (x : EvRing) : (setEvRing d e x).boot = d.boot := rfl
@[simp] theorem setEvRing_key (e : Nat) (x : EvRing) : (setEvRing d e x).key = d.key := rfl
@[simp] theorem setEvRing_svc (e : Nat) (x : EvRing) : (setEvRing d e x).svc = d.svc := rfl
@[simp] theorem setEvRing_mem (e : Nat) (x : EvRing) : (setEvRing d e x).mem = d.mem := rfl
@[simp] theorem setEvRing_tmp (e : Nat) (x : EvRing) : (setEvRing d e x).tmp = d.tmp := rfl
@[simp] theorem setEvRing_time (e : Nat) (x : EvRing) : (setEvRing d e x).time = d.time := rfl
@[simp] theorem setEvRing_lane (e : Nat) (x : EvRing) : (setEvRing d e x).lane = d.lane := rfl
@[simp] theorem setEvRing_pwr (e : Nat) (x : EvRing) : (setEvRing d e x).pwr = d.pwr := rfl
@[simp] theorem setEvRing_ms (e : Nat) (x : EvRing) : (setEvRing d e x).ms = d.ms := rfl
@[simp] theorem setEvRing_prs (e : Nat) (x : EvRing) : (setEvRing d e x).prs = d.prs := rfl
@[simp] theorem setEvRing_frm (e : Nat) (x : EvRing) : (setEvRing d e x).frm = d.frm := rfl
@[simp] theorem setEvRing_kn (e : Nat) (x : EvRing) : (setEvRing d e x).kn = d.kn := rfl
@[simp] theorem setEvRing_cls (e : Nat) (x : EvRing) : (setEvRing d e x).cls = d.cls := rfl
@[simp] theorem setEvRing_gal (e : Nat) (x : EvRing) : (setEvRing d e x).gal = d.gal := rfl
@[simp] theorem setEvRing_duet (e : Nat) (x : EvRing) : (setEvRing d e x).duet = d.duet := rfl
@[simp] theorem setEvRing_regs (e : Nat) (x : EvRing) : (setEvRing d e x).regs = d.regs := rfl
@[simp] theorem setEvRing_counters (e : Nat) (x : EvRing) : (setEvRing d e x).counters = d.counters := rfl
@[simp] theorem setEvRing_drawn (e : Nat) (x : EvRing) : (setEvRing d e x).drawn = d.drawn := rfl
@[simp] theorem setEvRing_lastRead (e : Nat) (x : EvRing) : (setEvRing d e x).lastRead = d.lastRead := rfl
@[simp] theorem setEvRing_out (e : Nat) (x : EvRing) : (setEvRing d e x).out = d.out := rfl

@[simp] theorem dropInflight_clock (o : Origin) : (dropInflight d o).clock = d.clock := rfl
@[simp] theorem dropInflight_glb (o : Origin) : (dropInflight d o).glb = d.glb := rfl
@[simp] theorem dropInflight_rcd (o : Origin) : (dropInflight d o).rcd = d.rcd := rfl
@[simp] theorem dropInflight_boot (o : Origin) : (dropInflight d o).boot = d.boot := rfl
@[simp] theorem dropInflight_key (o : Origin) : (dropInflight d o).key = d.key := rfl
@[simp] theorem dropInflight_svc (o : Origin) : (dropInflight d o).svc = d.svc := rfl
@[simp] theorem dropInflight_mem (o : Origin) : (dropInflight d o).mem = d.mem := rfl
@[simp] theorem dropInflight_tmp (o : Origin) : (dropInflight d o).tmp = d.tmp := rfl
@[simp] theorem dropInflight_time (o : Origin) : (dropInflight d o).time = d.time := rfl
@[simp] theorem dropInflight_lane (o : Origin) : (dropInflight d o).lane = d.lane := rfl
@[simp] theorem dropInflight_pwr (o : Origin) : (dropInflight d o).pwr = d.pwr := rfl
@[simp] theorem dropInflight_ms (o : Origin) : (dropInflight d o).ms = d.ms := rfl
@[simp] theorem dropInflight_prs (o : Origin) : (dropInflight d o).prs = d.prs := rfl
@[simp] theorem dropInflight_frm (o : Origin) : (dropInflight d o).frm = d.frm := rfl
@[simp] theorem dropInflight_kn (o : Origin) : (dropInflight d o).kn = d.kn := rfl
@[simp] theorem dropInflight_cls (o : Origin) : (dropInflight d o).cls = d.cls := rfl
@[simp] theorem dropInflight_gal (o : Origin) : (dropInflight d o).gal = d.gal := rfl
@[simp] theorem dropInflight_duet (o : Origin) : (dropInflight d o).duet = d.duet := rfl
@[simp] theorem dropInflight_regs (o : Origin) : (dropInflight d o).regs = d.regs := rfl
@[simp] theorem dropInflight_counters (o : Origin) : (dropInflight d o).counters = d.counters := rfl
@[simp] theorem dropInflight_drawn (o : Origin) : (dropInflight d o).drawn = d.drawn := rfl
@[simp] theorem dropInflight_lastRead (o : Origin) : (dropInflight d o).lastRead = d.lastRead := rfl
@[simp] theorem dropInflight_out (o : Origin) : (dropInflight d o).out = d.out := rfl

@[simp] theorem setBase_clock (b : Nat) (t : TBase) : (setBase d b t).clock = d.clock := rfl
@[simp] theorem setBase_glb (b : Nat) (t : TBase) : (setBase d b t).glb = d.glb := rfl
@[simp] theorem setBase_hif (b : Nat) (t : TBase) : (setBase d b t).hif = d.hif := rfl
@[simp] theorem setBase_rcd (b : Nat) (t : TBase) : (setBase d b t).rcd = d.rcd := rfl
@[simp] theorem setBase_boot (b : Nat) (t : TBase) : (setBase d b t).boot = d.boot := rfl
@[simp] theorem setBase_key (b : Nat) (t : TBase) : (setBase d b t).key = d.key := rfl
@[simp] theorem setBase_svc (b : Nat) (t : TBase) : (setBase d b t).svc = d.svc := rfl
@[simp] theorem setBase_mem (b : Nat) (t : TBase) : (setBase d b t).mem = d.mem := rfl
@[simp] theorem setBase_tmp (b : Nat) (t : TBase) : (setBase d b t).tmp = d.tmp := rfl
@[simp] theorem setBase_lane (b : Nat) (t : TBase) : (setBase d b t).lane = d.lane := rfl
@[simp] theorem setBase_pwr (b : Nat) (t : TBase) : (setBase d b t).pwr = d.pwr := rfl
@[simp] theorem setBase_ms (b : Nat) (t : TBase) : (setBase d b t).ms = d.ms := rfl
@[simp] theorem setBase_prs (b : Nat) (t : TBase) : (setBase d b t).prs = d.prs := rfl
@[simp] theorem setBase_frm (b : Nat) (t : TBase) : (setBase d b t).frm = d.frm := rfl
@[simp] theorem setBase_kn (b : Nat) (t : TBase) : (setBase d b t).kn = d.kn := rfl
@[simp] theorem setBase_cls (b : Nat) (t : TBase) : (setBase d b t).cls = d.cls := rfl
@[simp] theorem setBase_gal (b : Nat) (t : TBase) : (setBase d b t).gal = d.gal := rfl
@[simp] theorem setBase_duet (b : Nat) (t : TBase) : (setBase d b t).duet = d.duet := rfl
@[simp] theorem setBase_regs (b : Nat) (t : TBase) : (setBase d b t).regs = d.regs := rfl
@[simp] theorem setBase_counters (b : Nat) (t : TBase) : (setBase d b t).counters = d.counters := rfl
@[simp] theorem setBase_drawn (b : Nat) (t : TBase) : (setBase d b t).drawn = d.drawn := rfl
@[simp] theorem setBase_lastRead (b : Nat) (t : TBase) : (setBase d b t).lastRead = d.lastRead := rfl
@[simp] theorem setBase_out (b : Nat) (t : TBase) : (setBase d b t).out = d.out := rfl

@[simp] theorem setSlot_clock (i : Nat) (s : Slot) : (setSlot d i s).clock = d.clock := rfl
@[simp] theorem setSlot_glb (i : Nat) (s : Slot) : (setSlot d i s).glb = d.glb := rfl
@[simp] theorem setSlot_hif (i : Nat) (s : Slot) : (setSlot d i s).hif = d.hif := rfl
@[simp] theorem setSlot_rcd (i : Nat) (s : Slot) : (setSlot d i s).rcd = d.rcd := rfl
@[simp] theorem setSlot_boot (i : Nat) (s : Slot) : (setSlot d i s).boot = d.boot := rfl
@[simp] theorem setSlot_svc (i : Nat) (s : Slot) : (setSlot d i s).svc = d.svc := rfl
@[simp] theorem setSlot_mem (i : Nat) (s : Slot) : (setSlot d i s).mem = d.mem := rfl
@[simp] theorem setSlot_tmp (i : Nat) (s : Slot) : (setSlot d i s).tmp = d.tmp := rfl
@[simp] theorem setSlot_time (i : Nat) (s : Slot) : (setSlot d i s).time = d.time := rfl
@[simp] theorem setSlot_lane (i : Nat) (s : Slot) : (setSlot d i s).lane = d.lane := rfl
@[simp] theorem setSlot_pwr (i : Nat) (s : Slot) : (setSlot d i s).pwr = d.pwr := rfl
@[simp] theorem setSlot_ms (i : Nat) (s : Slot) : (setSlot d i s).ms = d.ms := rfl
@[simp] theorem setSlot_prs (i : Nat) (s : Slot) : (setSlot d i s).prs = d.prs := rfl
@[simp] theorem setSlot_frm (i : Nat) (s : Slot) : (setSlot d i s).frm = d.frm := rfl
@[simp] theorem setSlot_kn (i : Nat) (s : Slot) : (setSlot d i s).kn = d.kn := rfl
@[simp] theorem setSlot_cls (i : Nat) (s : Slot) : (setSlot d i s).cls = d.cls := rfl
@[simp] theorem setSlot_gal (i : Nat) (s : Slot) : (setSlot d i s).gal = d.gal := rfl
@[simp] theorem setSlot_duet (i : Nat) (s : Slot) : (setSlot d i s).duet = d.duet := rfl
@[simp] theorem setSlot_regs (i : Nat) (s : Slot) : (setSlot d i s).regs = d.regs := rfl
@[simp] theorem setSlot_counters (i : Nat) (s : Slot) : (setSlot d i s).counters = d.counters := rfl
@[simp] theorem setSlot_drawn (i : Nat) (s : Slot) : (setSlot d i s).drawn = d.drawn := rfl
@[simp] theorem setSlot_lastRead (i : Nat) (s : Slot) : (setSlot d i s).lastRead = d.lastRead := rfl
@[simp] theorem setSlot_out (i : Nat) (s : Slot) : (setSlot d i s).out = d.out := rfl

@[simp] theorem setKeyRec_clock (i : Nat) (r : KeyRec) : (setKeyRec d i r).clock = d.clock := rfl
@[simp] theorem setKeyRec_glb (i : Nat) (r : KeyRec) : (setKeyRec d i r).glb = d.glb := rfl
@[simp] theorem setKeyRec_hif (i : Nat) (r : KeyRec) : (setKeyRec d i r).hif = d.hif := rfl
@[simp] theorem setKeyRec_rcd (i : Nat) (r : KeyRec) : (setKeyRec d i r).rcd = d.rcd := rfl
@[simp] theorem setKeyRec_boot (i : Nat) (r : KeyRec) : (setKeyRec d i r).boot = d.boot := rfl
@[simp] theorem setKeyRec_svc (i : Nat) (r : KeyRec) : (setKeyRec d i r).svc = d.svc := rfl
@[simp] theorem setKeyRec_mem (i : Nat) (r : KeyRec) : (setKeyRec d i r).mem = d.mem := rfl
@[simp] theorem setKeyRec_tmp (i : Nat) (r : KeyRec) : (setKeyRec d i r).tmp = d.tmp := rfl
@[simp] theorem setKeyRec_time (i : Nat) (r : KeyRec) : (setKeyRec d i r).time = d.time := rfl
@[simp] theorem setKeyRec_lane (i : Nat) (r : KeyRec) : (setKeyRec d i r).lane = d.lane := rfl
@[simp] theorem setKeyRec_pwr (i : Nat) (r : KeyRec) : (setKeyRec d i r).pwr = d.pwr := rfl
@[simp] theorem setKeyRec_ms (i : Nat) (r : KeyRec) : (setKeyRec d i r).ms = d.ms := rfl
@[simp] theorem setKeyRec_prs (i : Nat) (r : KeyRec) : (setKeyRec d i r).prs = d.prs := rfl
@[simp] theorem setKeyRec_frm (i : Nat) (r : KeyRec) : (setKeyRec d i r).frm = d.frm := rfl
@[simp] theorem setKeyRec_kn (i : Nat) (r : KeyRec) : (setKeyRec d i r).kn = d.kn := rfl
@[simp] theorem setKeyRec_cls (i : Nat) (r : KeyRec) : (setKeyRec d i r).cls = d.cls := rfl
@[simp] theorem setKeyRec_gal (i : Nat) (r : KeyRec) : (setKeyRec d i r).gal = d.gal := rfl
@[simp] theorem setKeyRec_duet (i : Nat) (r : KeyRec) : (setKeyRec d i r).duet = d.duet := rfl
@[simp] theorem setKeyRec_regs (i : Nat) (r : KeyRec) : (setKeyRec d i r).regs = d.regs := rfl
@[simp] theorem setKeyRec_counters (i : Nat) (r : KeyRec) : (setKeyRec d i r).counters = d.counters := rfl
@[simp] theorem setKeyRec_drawn (i : Nat) (r : KeyRec) : (setKeyRec d i r).drawn = d.drawn := rfl
@[simp] theorem setKeyRec_lastRead (i : Nat) (r : KeyRec) : (setKeyRec d i r).lastRead = d.lastRead := rfl
@[simp] theorem setKeyRec_out (i : Nat) (r : KeyRec) : (setKeyRec d i r).out = d.out := rfl

@[simp] theorem setSa_clock (i : Nat) (x : Sa) : (setSa d i x).clock = d.clock := rfl
@[simp] theorem setSa_glb (i : Nat) (x : Sa) : (setSa d i x).glb = d.glb := rfl
@[simp] theorem setSa_hif (i : Nat) (x : Sa) : (setSa d i x).hif = d.hif := rfl
@[simp] theorem setSa_rcd (i : Nat) (x : Sa) : (setSa d i x).rcd = d.rcd := rfl
@[simp] theorem setSa_boot (i : Nat) (x : Sa) : (setSa d i x).boot = d.boot := rfl
@[simp] theorem setSa_key (i : Nat) (x : Sa) : (setSa d i x).key = d.key := rfl
@[simp] theorem setSa_svc (i : Nat) (x : Sa) : (setSa d i x).svc = d.svc := rfl
@[simp] theorem setSa_mem (i : Nat) (x : Sa) : (setSa d i x).mem = d.mem := rfl
@[simp] theorem setSa_tmp (i : Nat) (x : Sa) : (setSa d i x).tmp = d.tmp := rfl
@[simp] theorem setSa_time (i : Nat) (x : Sa) : (setSa d i x).time = d.time := rfl
@[simp] theorem setSa_lane (i : Nat) (x : Sa) : (setSa d i x).lane = d.lane := rfl
@[simp] theorem setSa_pwr (i : Nat) (x : Sa) : (setSa d i x).pwr = d.pwr := rfl
@[simp] theorem setSa_prs (i : Nat) (x : Sa) : (setSa d i x).prs = d.prs := rfl
@[simp] theorem setSa_frm (i : Nat) (x : Sa) : (setSa d i x).frm = d.frm := rfl
@[simp] theorem setSa_kn (i : Nat) (x : Sa) : (setSa d i x).kn = d.kn := rfl
@[simp] theorem setSa_cls (i : Nat) (x : Sa) : (setSa d i x).cls = d.cls := rfl
@[simp] theorem setSa_gal (i : Nat) (x : Sa) : (setSa d i x).gal = d.gal := rfl
@[simp] theorem setSa_duet (i : Nat) (x : Sa) : (setSa d i x).duet = d.duet := rfl
@[simp] theorem setSa_regs (i : Nat) (x : Sa) : (setSa d i x).regs = d.regs := rfl
@[simp] theorem setSa_counters (i : Nat) (x : Sa) : (setSa d i x).counters = d.counters := rfl
@[simp] theorem setSa_drawn (i : Nat) (x : Sa) : (setSa d i x).drawn = d.drawn := rfl
@[simp] theorem setSa_lastRead (i : Nat) (x : Sa) : (setSa d i x).lastRead = d.lastRead := rfl
@[simp] theorem setSa_out (i : Nat) (x : Sa) : (setSa d i x).out = d.out := rfl

@[simp] theorem setSc_clock (c : Nat) (x : Sc) : (setSc d c x).clock = d.clock := rfl
@[simp] theorem setSc_glb (c : Nat) (x : Sc) : (setSc d c x).glb = d.glb := rfl
@[simp] theorem setSc_hif (c : Nat) (x : Sc) : (setSc d c x).hif = d.hif := rfl
@[simp] theorem setSc_rcd (c : Nat) (x : Sc) : (setSc d c x).rcd = d.rcd := rfl
@[simp] theorem setSc_boot (c : Nat) (x : Sc) : (setSc d c x).boot = d.boot := rfl
@[simp] theorem setSc_key (c : Nat) (x : Sc) : (setSc d c x).key = d.key := rfl
@[simp] theorem setSc_svc (c : Nat) (x : Sc) : (setSc d c x).svc = d.svc := rfl
@[simp] theorem setSc_mem (c : Nat) (x : Sc) : (setSc d c x).mem = d.mem := rfl
@[simp] theorem setSc_tmp (c : Nat) (x : Sc) : (setSc d c x).tmp = d.tmp := rfl
@[simp] theorem setSc_time (c : Nat) (x : Sc) : (setSc d c x).time = d.time := rfl
@[simp] theorem setSc_lane (c : Nat) (x : Sc) : (setSc d c x).lane = d.lane := rfl
@[simp] theorem setSc_pwr (c : Nat) (x : Sc) : (setSc d c x).pwr = d.pwr := rfl
@[simp] theorem setSc_prs (c : Nat) (x : Sc) : (setSc d c x).prs = d.prs := rfl
@[simp] theorem setSc_frm (c : Nat) (x : Sc) : (setSc d c x).frm = d.frm := rfl
@[simp] theorem setSc_kn (c : Nat) (x : Sc) : (setSc d c x).kn = d.kn := rfl
@[simp] theorem setSc_cls (c : Nat) (x : Sc) : (setSc d c x).cls = d.cls := rfl
@[simp] theorem setSc_gal (c : Nat) (x : Sc) : (setSc d c x).gal = d.gal := rfl
@[simp] theorem setSc_duet (c : Nat) (x : Sc) : (setSc d c x).duet = d.duet := rfl
@[simp] theorem setSc_regs (c : Nat) (x : Sc) : (setSc d c x).regs = d.regs := rfl
@[simp] theorem setSc_counters (c : Nat) (x : Sc) : (setSc d c x).counters = d.counters := rfl
@[simp] theorem setSc_drawn (c : Nat) (x : Sc) : (setSc d c x).drawn = d.drawn := rfl
@[simp] theorem setSc_lastRead (c : Nat) (x : Sc) : (setSc d c x).lastRead = d.lastRead := rfl
@[simp] theorem setSc_out (c : Nat) (x : Sc) : (setSc d c x).out = d.out := rfl

@[simp] theorem putSecy_clock (s : Nat) (x : SecY) : (putSecy d s x).clock = d.clock := rfl
@[simp] theorem putSecy_glb (s : Nat) (x : SecY) : (putSecy d s x).glb = d.glb := rfl
@[simp] theorem putSecy_hif (s : Nat) (x : SecY) : (putSecy d s x).hif = d.hif := rfl
@[simp] theorem putSecy_rcd (s : Nat) (x : SecY) : (putSecy d s x).rcd = d.rcd := rfl
@[simp] theorem putSecy_boot (s : Nat) (x : SecY) : (putSecy d s x).boot = d.boot := rfl
@[simp] theorem putSecy_key (s : Nat) (x : SecY) : (putSecy d s x).key = d.key := rfl
@[simp] theorem putSecy_svc (s : Nat) (x : SecY) : (putSecy d s x).svc = d.svc := rfl
@[simp] theorem putSecy_mem (s : Nat) (x : SecY) : (putSecy d s x).mem = d.mem := rfl
@[simp] theorem putSecy_tmp (s : Nat) (x : SecY) : (putSecy d s x).tmp = d.tmp := rfl
@[simp] theorem putSecy_time (s : Nat) (x : SecY) : (putSecy d s x).time = d.time := rfl
@[simp] theorem putSecy_lane (s : Nat) (x : SecY) : (putSecy d s x).lane = d.lane := rfl
@[simp] theorem putSecy_pwr (s : Nat) (x : SecY) : (putSecy d s x).pwr = d.pwr := rfl
@[simp] theorem putSecy_prs (s : Nat) (x : SecY) : (putSecy d s x).prs = d.prs := rfl
@[simp] theorem putSecy_frm (s : Nat) (x : SecY) : (putSecy d s x).frm = d.frm := rfl
@[simp] theorem putSecy_kn (s : Nat) (x : SecY) : (putSecy d s x).kn = d.kn := rfl
@[simp] theorem putSecy_cls (s : Nat) (x : SecY) : (putSecy d s x).cls = d.cls := rfl
@[simp] theorem putSecy_gal (s : Nat) (x : SecY) : (putSecy d s x).gal = d.gal := rfl
@[simp] theorem putSecy_duet (s : Nat) (x : SecY) : (putSecy d s x).duet = d.duet := rfl
@[simp] theorem putSecy_regs (s : Nat) (x : SecY) : (putSecy d s x).regs = d.regs := rfl
@[simp] theorem putSecy_counters (s : Nat) (x : SecY) : (putSecy d s x).counters = d.counters := rfl
@[simp] theorem putSecy_drawn (s : Nat) (x : SecY) : (putSecy d s x).drawn = d.drawn := rfl
@[simp] theorem putSecy_lastRead (s : Nat) (x : SecY) : (putSecy d s x).lastRead = d.lastRead := rfl
@[simp] theorem putSecy_out (s : Nat) (x : SecY) : (putSecy d s x).out = d.out := rfl

@[simp] theorem setLane_clock (n : Nat) (x : Lane) : (setLane d n x).clock = d.clock := rfl
@[simp] theorem setLane_glb (n : Nat) (x : Lane) : (setLane d n x).glb = d.glb := rfl
@[simp] theorem setLane_hif (n : Nat) (x : Lane) : (setLane d n x).hif = d.hif := rfl
@[simp] theorem setLane_rcd (n : Nat) (x : Lane) : (setLane d n x).rcd = d.rcd := rfl
@[simp] theorem setLane_boot (n : Nat) (x : Lane) : (setLane d n x).boot = d.boot := rfl
@[simp] theorem setLane_key (n : Nat) (x : Lane) : (setLane d n x).key = d.key := rfl
@[simp] theorem setLane_svc (n : Nat) (x : Lane) : (setLane d n x).svc = d.svc := rfl
@[simp] theorem setLane_mem (n : Nat) (x : Lane) : (setLane d n x).mem = d.mem := rfl
@[simp] theorem setLane_tmp (n : Nat) (x : Lane) : (setLane d n x).tmp = d.tmp := rfl
@[simp] theorem setLane_time (n : Nat) (x : Lane) : (setLane d n x).time = d.time := rfl
@[simp] theorem setLane_pwr (n : Nat) (x : Lane) : (setLane d n x).pwr = d.pwr := rfl
@[simp] theorem setLane_ms (n : Nat) (x : Lane) : (setLane d n x).ms = d.ms := rfl
@[simp] theorem setLane_prs (n : Nat) (x : Lane) : (setLane d n x).prs = d.prs := rfl
@[simp] theorem setLane_frm (n : Nat) (x : Lane) : (setLane d n x).frm = d.frm := rfl
@[simp] theorem setLane_kn (n : Nat) (x : Lane) : (setLane d n x).kn = d.kn := rfl
@[simp] theorem setLane_cls (n : Nat) (x : Lane) : (setLane d n x).cls = d.cls := rfl
@[simp] theorem setLane_gal (n : Nat) (x : Lane) : (setLane d n x).gal = d.gal := rfl
@[simp] theorem setLane_duet (n : Nat) (x : Lane) : (setLane d n x).duet = d.duet := rfl
@[simp] theorem setLane_regs (n : Nat) (x : Lane) : (setLane d n x).regs = d.regs := rfl
@[simp] theorem setLane_counters (n : Nat) (x : Lane) : (setLane d n x).counters = d.counters := rfl
@[simp] theorem setLane_drawn (n : Nat) (x : Lane) : (setLane d n x).drawn = d.drawn := rfl
@[simp] theorem setLane_lastRead (n : Nat) (x : Lane) : (setLane d n x).lastRead = d.lastRead := rfl
@[simp] theorem setLane_out (n : Nat) (x : Lane) : (setLane d n x).out = d.out := rfl

@[simp] theorem setPress_clock (n : Nat) (x : Press) : (setPress d n x).clock = d.clock := rfl
@[simp] theorem setPress_glb (n : Nat) (x : Press) : (setPress d n x).glb = d.glb := rfl
@[simp] theorem setPress_hif (n : Nat) (x : Press) : (setPress d n x).hif = d.hif := rfl
@[simp] theorem setPress_rcd (n : Nat) (x : Press) : (setPress d n x).rcd = d.rcd := rfl
@[simp] theorem setPress_boot (n : Nat) (x : Press) : (setPress d n x).boot = d.boot := rfl
@[simp] theorem setPress_key (n : Nat) (x : Press) : (setPress d n x).key = d.key := rfl
@[simp] theorem setPress_svc (n : Nat) (x : Press) : (setPress d n x).svc = d.svc := rfl
@[simp] theorem setPress_mem (n : Nat) (x : Press) : (setPress d n x).mem = d.mem := rfl
@[simp] theorem setPress_tmp (n : Nat) (x : Press) : (setPress d n x).tmp = d.tmp := rfl
@[simp] theorem setPress_time (n : Nat) (x : Press) : (setPress d n x).time = d.time := rfl
@[simp] theorem setPress_lane (n : Nat) (x : Press) : (setPress d n x).lane = d.lane := rfl
@[simp] theorem setPress_pwr (n : Nat) (x : Press) : (setPress d n x).pwr = d.pwr := rfl
@[simp] theorem setPress_ms (n : Nat) (x : Press) : (setPress d n x).ms = d.ms := rfl
@[simp] theorem setPress_frm (n : Nat) (x : Press) : (setPress d n x).frm = d.frm := rfl
@[simp] theorem setPress_kn (n : Nat) (x : Press) : (setPress d n x).kn = d.kn := rfl
@[simp] theorem setPress_cls (n : Nat) (x : Press) : (setPress d n x).cls = d.cls := rfl
@[simp] theorem setPress_gal (n : Nat) (x : Press) : (setPress d n x).gal = d.gal := rfl
@[simp] theorem setPress_duet (n : Nat) (x : Press) : (setPress d n x).duet = d.duet := rfl
@[simp] theorem setPress_regs (n : Nat) (x : Press) : (setPress d n x).regs = d.regs := rfl
@[simp] theorem setPress_counters (n : Nat) (x : Press) : (setPress d n x).counters = d.counters := rfl
@[simp] theorem setPress_drawn (n : Nat) (x : Press) : (setPress d n x).drawn = d.drawn := rfl
@[simp] theorem setPress_lastRead (n : Nat) (x : Press) : (setPress d n x).lastRead = d.lastRead := rfl
@[simp] theorem setPress_out (n : Nat) (x : Press) : (setPress d n x).out = d.out := rfl

@[simp] theorem setRole_clock (r : Role) : (setRole d r).clock = d.clock := rfl
@[simp] theorem setRole_glb (r : Role) : (setRole d r).glb = d.glb := rfl
@[simp] theorem setRole_hif (r : Role) : (setRole d r).hif = d.hif := rfl
@[simp] theorem setRole_rcd (r : Role) : (setRole d r).rcd = d.rcd := rfl
@[simp] theorem setRole_boot (r : Role) : (setRole d r).boot = d.boot := rfl
@[simp] theorem setRole_key (r : Role) : (setRole d r).key = d.key := rfl
@[simp] theorem setRole_svc (r : Role) : (setRole d r).svc = d.svc := rfl
@[simp] theorem setRole_mem (r : Role) : (setRole d r).mem = d.mem := rfl
@[simp] theorem setRole_tmp (r : Role) : (setRole d r).tmp = d.tmp := rfl
@[simp] theorem setRole_time (r : Role) : (setRole d r).time = d.time := rfl
@[simp] theorem setRole_lane (r : Role) : (setRole d r).lane = d.lane := rfl
@[simp] theorem setRole_pwr (r : Role) : (setRole d r).pwr = d.pwr := rfl
@[simp] theorem setRole_ms (r : Role) : (setRole d r).ms = d.ms := rfl
@[simp] theorem setRole_prs (r : Role) : (setRole d r).prs = d.prs := rfl
@[simp] theorem setRole_frm (r : Role) : (setRole d r).frm = d.frm := rfl
@[simp] theorem setRole_kn (r : Role) : (setRole d r).kn = d.kn := rfl
@[simp] theorem setRole_cls (r : Role) : (setRole d r).cls = d.cls := rfl
@[simp] theorem setRole_gal (r : Role) : (setRole d r).gal = d.gal := rfl
@[simp] theorem setRole_regs (r : Role) : (setRole d r).regs = d.regs := rfl
@[simp] theorem setRole_counters (r : Role) : (setRole d r).counters = d.counters := rfl
@[simp] theorem setRole_drawn (r : Role) : (setRole d r).drawn = d.drawn := rfl
@[simp] theorem setRole_lastRead (r : Role) : (setRole d r).lastRead = d.lastRead := rfl
@[simp] theorem setRole_out (r : Role) : (setRole d r).out = d.out := rfl

@[simp] theorem setBatt_clock (b : Batt) : (setBatt d b).clock = d.clock := rfl
@[simp] theorem setBatt_glb (b : Batt) : (setBatt d b).glb = d.glb := rfl
@[simp] theorem setBatt_hif (b : Batt) : (setBatt d b).hif = d.hif := rfl
@[simp] theorem setBatt_rcd (b : Batt) : (setBatt d b).rcd = d.rcd := rfl
@[simp] theorem setBatt_boot (b : Batt) : (setBatt d b).boot = d.boot := rfl
@[simp] theorem setBatt_key (b : Batt) : (setBatt d b).key = d.key := rfl
@[simp] theorem setBatt_svc (b : Batt) : (setBatt d b).svc = d.svc := rfl
@[simp] theorem setBatt_mem (b : Batt) : (setBatt d b).mem = d.mem := rfl
@[simp] theorem setBatt_time (b : Batt) : (setBatt d b).time = d.time := rfl
@[simp] theorem setBatt_lane (b : Batt) : (setBatt d b).lane = d.lane := rfl
@[simp] theorem setBatt_pwr (b : Batt) : (setBatt d b).pwr = d.pwr := rfl
@[simp] theorem setBatt_ms (b : Batt) : (setBatt d b).ms = d.ms := rfl
@[simp] theorem setBatt_prs (b : Batt) : (setBatt d b).prs = d.prs := rfl
@[simp] theorem setBatt_frm (b : Batt) : (setBatt d b).frm = d.frm := rfl
@[simp] theorem setBatt_kn (b : Batt) : (setBatt d b).kn = d.kn := rfl
@[simp] theorem setBatt_cls (b : Batt) : (setBatt d b).cls = d.cls := rfl
@[simp] theorem setBatt_gal (b : Batt) : (setBatt d b).gal = d.gal := rfl
@[simp] theorem setBatt_duet (b : Batt) : (setBatt d b).duet = d.duet := rfl
@[simp] theorem setBatt_regs (b : Batt) : (setBatt d b).regs = d.regs := rfl
@[simp] theorem setBatt_counters (b : Batt) : (setBatt d b).counters = d.counters := rfl
@[simp] theorem setBatt_drawn (b : Batt) : (setBatt d b).drawn = d.drawn := rfl
@[simp] theorem setBatt_lastRead (b : Batt) : (setBatt d b).lastRead = d.lastRead := rfl
@[simp] theorem setBatt_out (b : Batt) : (setBatt d b).out = d.out := rfl

/-- `withDev` answers the state with another device; fuses and queue stay. -/
theorem withDev_eq (s : State) (e : Device) : s.withDev e = .next { s with dev := e } := rfl

/-! ## What was written reads back -/

@[simp] theorem reg_setReg (off : Nat) (v : W32) : reg (setReg d off v) off = v := by
  unfold reg setReg
  exact Tbl.getD_setD ..

theorem reg_setReg_ne (off off' : Nat) (v : W32) (h : off' ≠ off) : reg (setReg d off v) off' = reg d off' := by
  unfold reg setReg
  exact Tbl.getD_setD_ne _ _ _ _ _ _ h

@[simp] theorem reg_setBits (off : Nat) (m v : W32) :
    reg (setBits d off m v) off = (reg d off &&& ~~~m) ||| (v &&& m) := reg_setReg ..

theorem reg_setBits_ne (off off' : Nat) (m v : W32) (h : off' ≠ off) : reg (setBits d off m v) off' = reg d off' :=
  reg_setReg_ne _ _ _ _ h

@[simp] theorem cmdRing_setCmdRing (r : Nat) (x : CmdRing) : cmdRing (setCmdRing d r x) r = x := Tbl.getD_setD ..
@[simp] theorem cqRing_setCqRing (m : Nat) (x : CqRing) : cqRing (setCqRing d m x) m = x := Tbl.getD_setD ..
@[simp] theorem evRing_setEvRing (e : Nat) (x : EvRing) : evRing (setEvRing d e x) e = x := Tbl.getD_setD ..
@[simp] theorem tbase_setBase (b : Nat) (t : TBase) : tbase (setBase d b t) b = t := Tbl.getD_setD ..
@[simp] theorem slot_setSlot (i : Nat) (x : Slot) : slot (setSlot d i x) i = x := Tbl.getD_setD ..
@[simp] theorem keyRec_setKeyRec (i : Nat) (x : KeyRec) : keyRec (setKeyRec d i x) i = x := Tbl.getD_setD ..
@[simp] theorem saOf_setSa (i : Nat) (x : Sa) : saOf (setSa d i x) i = some x := Tbl.get?_put ..
@[simp] theorem scOf_setSc (c : Nat) (x : Sc) : scOf (setSc d c x) c = some x := Tbl.get?_put ..
@[simp] theorem secy_putSecy (n : Nat) (x : SecY) : secy (putSecy d n x) n = some x := Tbl.get?_put ..
@[simp] theorem laneOf_setLane (n : Nat) (x : Lane) : laneOf (setLane d n x) n = x := Tbl.getD_setD ..
@[simp] theorem press_setPress (n : Nat) (x : Press) : press (setPress d n x) n = x := Tbl.getD_setD ..

end Sys2Proof.Machine
end

