-- ==== Sys2Proof/Laws/Frame.lean ====
section
/-!
SUPPORT. What reporting leaves alone: counters, event records, interrupts, completions and mirror messages change nothing
that a command works on.
-/
namespace Sys2Proof.Machine

theorem SameWork.refl (d : Device) : SameWork d d := by constructor <;> rfl

theorem SameWork.symm {a b : Device} (h : SameWork a b) : SameWork b a := by
  constructor
  all_goals first
    | exact h.clock.symm | exact h.glb.symm | exact h.boot.symm | exact h.key.symm | exact h.svc.symm | exact h.mem.symm
    | exact h.tmp.symm | exact h.time.symm | exact h.lane.symm | exact h.pwr.symm | exact h.ms.symm | exact h.prs.symm
    | exact h.frm.symm | exact h.kn.symm | exact h.cls.symm | exact h.gal.symm | exact h.role.symm | exact h.epoch.symm
    | exact h.drawn.symm

theorem SameWork.trans {a b c : Device} (h : SameWork a b) (k : SameWork b c) : SameWork a c :=
  ⟨h.clock.trans k.clock, h.glb.trans k.glb, h.boot.trans k.boot, h.key.trans k.key, h.svc.trans k.svc,
    h.mem.trans k.mem, h.tmp.trans k.tmp, h.time.trans k.time, h.lane.trans k.lane, h.pwr.trans k.pwr, h.ms.trans k.ms,
    h.prs.trans k.prs, h.frm.trans k.frm, h.kn.trans k.kn, h.cls.trans k.cls, h.gal.trans k.gal, h.role.trans k.role,
    h.epoch.trans k.epoch, h.drawn.trans k.drawn⟩

theorem count_same (d : Device) (i n : Nat) : SameWork (count d i n) d := by constructor <;> rfl
theorem send_same (d : Device) (o : Out) : SameWork (send d o) d := by constructor <;> rfl
theorem setReg_same (d : Device) (off : Nat) (v : W32) : SameWork (setReg d off v) d := by constructor <;> rfl
theorem setBits_same (d : Device) (off : Nat) (m v : W32) : SameWork (setBits d off m v) d := by constructor <;> rfl
theorem setCmdRing_same (d : Device) (r : Nat) (x : CmdRing) : SameWork (setCmdRing d r x) d := by constructor <;> rfl
theorem setCqRing_same (d : Device) (m : Nat) (x : CqRing) : SameWork (setCqRing d m x) d := by constructor <;> rfl
theorem dropInflight_same (d : Device) (o : Origin) : SameWork (dropInflight d o) d := by constructor <;> rfl

theorem emitRaw_same (d : Device) (src : Source) (t : Nat) (p : Bytes) : SameWork (emitRaw d src t p) d := by
  unfold emitRaw
  simp only
  (repeat' split) <;> (constructor <;> rfl)

theorem reportDrops_same (d : Device) (src : Source) : SameWork (reportDrops d src) d := by
  unfold reportDrops
  split
  · split
    · exact (emitRaw_same ..).trans (by constructor <;> rfl)
    · exact .refl d
  · exact .refl d

/-- An event record touches the recorder and its counters only. -/
theorem emit_same (d : Device) (src : Source) (t : Nat) (p : Bytes) : SameWork (emit d src t p) d := by
  unfold emit
  split
  · exact .refl d
  · exact (reportDrops_same ..).trans (emitRaw_same ..)

theorem raiseVector_same (d : Device) (f v : Nat) : SameWork (raiseVector d f v) d := by
  unfold raiseVector
  split
  · constructor <;> rfl
  · exact .refl d

theorem signalCq_same (d : Device) (m : Nat) (now : Bool) : SameWork (signalCq d m now) d := by
  unfold signalCq
  simp only
  split
  · exact (raiseVector_same ..).trans (setCqRing_same ..)
  · exact setCqRing_same ..

theorem foldl_same {α : Type} (l : List α) (g : Device → α → Device) (h : ∀ d a, SameWork (g d a) d) (d : Device) :
    SameWork (l.foldl g d) d := by
  induction l generalizing d with
  | nil => exact .refl d
  | cons a l ih => exact (ih (g d a)).trans (h d a)

theorem markStall_same (d : Device) (m : Nat) : SameWork (markStall d m) d := by
  have h : ∀ e : Device, SameWork ((List.range 64).foldl (fun d r =>
      if mappedTo d m r then setBits d (cmdStatusOff r) (mask 2 2) (mask 2 2) else d) e) e := by
    intro e
    apply foldl_same
    intro d a
    split
    · exact setBits_same ..
    · exact .refl d
  unfold markStall
  simp only
  split
  · exact (setCqRing_same ..).trans (h d)
  · exact h d

theorem ite_same {c : Prop} [Decidable c] {a b d : Device} (ha : SameWork a d) (hb : SameWork b d) :
    SameWork (if c then a else b) d := by
  split
  · exact ha
  · exact hb

theorem writeEntry_same (d : Device) (m size : Nat) (due : Due) : SameWork (writeEntry d m size due) d := by
  unfold writeEntry
  simp only
  refine ite_same ?_ ?_
  · refine (markStall_same ..).trans ((signalCq_same ..).trans ((setCqRing_same ..).trans ?_))
    exact (setCmdRing_same ..).trans (send_same ..)
  · refine (signalCq_same ..).trans ((setCqRing_same ..).trans ?_)
    exact (setCmdRing_same ..).trans (send_same ..)

theorem drainCq_same (l : List Due) (d : Device) (m : Nat) : SameWork (drainCq d m l) d := by
  induction l generalizing d with
  | nil => exact setCqRing_same ..
  | cons due rest ih =>
    unfold drainCq
    split
    · split
      · split
        · exact setCqRing_same ..
        · exact (ih _).trans (writeEntry_same ..)
      · exact ih d
    · exact ih d

theorem countRejected_same (d : Device) (due : Due) : SameWork (countRejected d due) d := by
  unfold countRejected
  exact ite_same (count_same ..) (.refl d)

theorem granting_same (d : Device) (r op : Nat) : SameWork (granting d r op) d := by
  unfold granting
  (repeat' split) <;> (first | exact .refl d | (constructor <;> rfl))

/-- A completion that falls due touches the rings only. -/
theorem post_same (d : Device) (due : Due) : SameWork (post d due) d := by
  unfold post
  simp only
  split
  · exact .refl d
  · split
    · exact .refl d
    · split
      · exact .refl d
      · exact (drainCq_same ..).trans (countRejected_same ..)

theorem outputDue_same (d : Device) (o : Origin) (res : Bytes) (out : Option Bytes) :
    SameWork (outputDue d o res out).1 d := by
  unfold outputDue
  split
  · exact .refl d
  · split
    · rename_i h
      unfold writeBuf at h
      split at h
      · cases h
      · split at h <;> (injection h with h; subst h; first | exact .refl d | exact send_same ..)
    · exact .refl d

theorem sendDuet_same (d : Device) (t : Nat) (a : Bool) (p : Bytes) : SameWork (sendDuet d t a p) d := by
  unfold sendDuet
  split
  · exact .refl d
  · unfold putDuet
    split <;> (constructor <;> rfl)

theorem sendMirror_same (d : Device) (p : Bytes) : SameWork (sendMirror d p) d :=
  (count_same ..).trans (sendDuet_same ..)

theorem mirrorThenPost_same (d : Device) (op : Nat) (desc buf : Bytes) (due : Due) :
    SameWork (mirrorThenPost d op desc buf due) d := by
  have drop : ∀ e, SameWork e d → SameWork (post (dropInflight e due.origin) due) d :=
    fun e h => ((post_same ..).trans (dropInflight_same ..)).trans h
  have g := granting_same d due.origin.ring op
  unfold mirrorThenPost
  simp only
  split
  · have h := (foldl_same (mirrorParts (granting d due.origin.ring op) op (mirroredDesc op desc due) buf) sendMirror
      sendMirror_same (granting d due.origin.ring op)).trans g
    split
    · exact SameWork.trans (by constructor <;> rfl) h
    · exact drop _ h
  · exact drop _ g

/-- Ending a command OK changes nothing that the command worked on. -/
theorem completed_same (e : Device) (o : Origin) (op : Nat) (desc buf res : Bytes) (out : Option Bytes) :
    SameWork (completed e o op desc buf res out) e :=
  (mirrorThenPost_same ..).trans (outputDue_same ..)

theorem failed_same (e : Device) (o : Origin) (st : Status) (res : Bytes) : SameWork (failed e o st res) e := post_same ..

theorem finish_same (d : Device) (o : Origin) (st : Status) (res : Bytes) : SameWork (finish d o st res) d :=
  (post_same ..).trans (dropInflight_same ..)

theorem finishOut_same (d : Device) (o : Origin) (res : Bytes) (out : Option Bytes) :
    SameWork (finishOut d o res out) d :=
  ((post_same ..).trans (dropInflight_same ..)).trans (outputDue_same ..)

theorem taken_same (d : Device) (r : Nat) (rest : List Fetched) : SameWork (taken d r rest) d := by
  constructor <;> rfl

end Sys2Proof.Machine
end

