-- ==== Sys2Proof/Laws/Run.lean ====
section
/-!
SUPPORT. What a descriptor command does, by its body's verdict: the one place where `runCommand` is unfolded.
-/
namespace Sys2Proof.Machine

variable {d : Device} {r op : Nat} {right : Device → Nat → Bool} {own : Bytes → List (Nat × Bool)}
  {body : Origin → Bytes → Bytes → Device → Verdict} {buf : Bytes} {f : Fetched} {rest : List Fetched}

theorem runCommand_runs (h : Runs d r op right own f rest) :
    runCommand op r right own body buf d =
      (match body (originOf d r f) f.desc (fit (originOf d r f).bufLen buf) (taken d r rest) with
       | .wait => d
       | .fail e st res => failed e (originOf d r f) st res
       | .done e res out => completed e (originOf d r f) op f.desc buf res out
       | .accept e => e) := by
  have hc := h.checks
  simp only [runCommand, h.front, h.opcode, h.free, ne_eq, not_true_eq_false, Bool.false_eq_true, or_self, ↓reduceIte]
  simp only [show (originOf d r f).fn = cmdOwner d r from rfl, hc]
  rfl

theorem runCommand_done (h : Runs d r op right own f rest) {e : Device} {res : Bytes} {out : Option Bytes}
    (hb : body (originOf d r f) f.desc (fit (originOf d r f).bufLen buf) (taken d r rest) = .done e res out) :
    runCommand op r right own body buf d = completed e (originOf d r f) op f.desc buf res out := by
  rw [runCommand_runs h, hb]

theorem runCommand_fail (h : Runs d r op right own f rest) {e : Device} {st : Status} {res : Bytes}
    (hb : body (originOf d r f) f.desc (fit (originOf d r f).bufLen buf) (taken d r rest) = .fail e st res) :
    runCommand op r right own body buf d = failed e (originOf d r f) st res := by
  rw [runCommand_runs h, hb]

theorem runCommand_accept (h : Runs d r op right own f rest) {e : Device}
    (hb : body (originOf d r f) f.desc (fit (originOf d r f).bufLen buf) (taken d r rest) = .accept e) :
    runCommand op r right own body buf d = e := by
  rw [runCommand_runs h, hb]

/-- A ring whose fetched list is empty has no command to run. -/
theorem runCommand_empty (h : (cmdRing d r).fetched = []) : runCommand op r right own body buf d = d := by
  simp [runCommand, h]

end Sys2Proof.Machine
end

