-- ==== Sys2Proof/WellFormed.lean ====
section
/-!
DEFINITION. The shapes that a command's operands have. A command of another shape cannot come from outside; the machine
still gives it a meaning.
-/
namespace Sys2Proof

/-- A descriptor fetch brings 1 to 16 descriptors of 64 bytes (R74, R85, Table 2-7). -/
def FetchReply.wf : FetchReply → Bool
  | .ok descs => 1 ≤ descs.length && descs.length ≤ 16 && descs.all (fun x => x.length == 64)
  | .fail _ => true

/-- Four tamper loops (Table 14-9). -/
def StartUp.wf (x : StartUp) : Bool := x.loops.length == 4

/-- A frame has its addresses and a type or length. -/
def FrameIn.wf (x : FrameIn) : Bool := 14 ≤ x.data.length

/-- SEQ is 64 bits wide (R569). -/
def DuetHdr.wf (h : DuetHdr) : Bool := h.seq < 2 ^ 64

/-- Lengths of the HELLO fields (R566). -/
def Hello.wf (h : Hello) : Bool :=
  h.nonce.length == 32 && h.point.length == 65 && h.sig.length == 64 && h.digest.length == 32

/-- A received superframe has 16 frames with nine path overhead bytes each, or 64 with eight OPU overhead bytes and the four of
GCC1 and GCC2; its tag is 16 bytes (R324-R333). -/
def superframeShape (frames : List (Byte × Bytes)) (tag : Bytes) : Bool :=
  tag.length == 16 && ((frames.length == 16 && frames.all (fun e => e.2.length == 9))
    || (frames.length == 64 && frames.all (fun e => e.2.length == 12)))

/-- The operands of a command have their shape. -/
def Instr.wf : Instr → Bool
  | .resetN _ start => start.wf
  | .bootReset _ start => start.wf
  /- set-up registers are 32 bits wide (R7) -/
  | .registerWrite _ off _ => off.toNat % 4 == 0
  | .descriptorFetch reply => reply.wf
  | .frameIngress _ frame _ => frame.wf
  | .flFrame _ frame => frame.wf
  | .knSuperframeRx _ frames _ tag => superframeShape frames tag
  /- at most four magnetic sensors (Table 14-8) -/
  | .magConversion readings => readings.length ≤ 4
  | .heartbeatRx h _ _ _ => h.wf
  | .faultRx h _ => h.wf
  | .stepDownRx h => h.wf
  | .switchRx h _ => h.wf
  | .switchAckRx h _ => h.wf
  | .unpairRx h => h.wf
  | .helloRx hello => hello.wf
  | .confirmRx h digest => h.wf && digest.length == 32
  | .mirrorRx h desc _ => h.wf && desc.length == 64
  | .mirrorAckRx h _ _ => h.wf
  | .bulkEndRx h => h.wf
  | .markRx h _ => h.wf
  | .markAckRx h _ => h.wf
  | .pnResyncRx h _ => h.wf
  | .anchorRx h _ _ _ => h.wf
  | .turnIntentRx h _ _ => h.wf
  | .turnCutRx h _ _ => h.wf
  | .digestRx h _ _ _ _ _ => h.wf
  | .mismatchRx h _ _ _ => h.wf
  | .proofResultRx h _ => h.wf
  | _ => true

end Sys2Proof
end

