-- ==== Sys2Proof/Tests/Slice0.lean ====
section
/-!
SUPPORT. Tests: for every statement a state and operands that meet its hypotheses, the spec's worked examples, and
operands of another shape than a command's.
-/
namespace Sys2Proof.Tests
open Sys2Proof.Machine

set_option linter.unusedVariables false
set_option maxRecDepth 4000

/-! ## States of the tests -/

/-- Ports 0 and 1: LINK, 10GBASE-R; 2 and 3: AGGREGATE, 10GBASE-R; 4: OTN, OTU2; 5 and 6: SDH, STM-64. Even ports and 5
are Line ports. -/
def testPorts : Tbl PortCfg :=
  [(0, { firstLane := 0, lanes := 1, type := 2, line := true, partner := 1, flags := 0 }),
   (1, { firstLane := 1, lanes := 1, type := 2, line := false, partner := 0, flags := 0 }),
   (2, { firstLane := 32, lanes := 1, type := 2, line := true, partner := 255, flags := 0 }),
   (3, { firstLane := 33, lanes := 1, type := 2, line := false, partner := 255, flags := 0 }),
   (4, { firstLane := 64, lanes := 1, type := 0x20, line := true, partner := 255, flags := 0 }),
   (5, { firstLane := 80, lanes := 1, type := 0x13, line := true, partner := 255, flags := 0 }),
   (6, { firstLane := 81, lanes := 1, type := 0x13, line := false, partner := 255, flags := 0 })]

/-- A device in mode MIXED whose start-up and bring-up have ended. -/
def up : Device :=
  { clock := 1000
    glb := { mode := .mixed, bringUpEnds := some 0, rootLock := true, refclkOk := true, groupPll := 0xFF#8, awake := true }
    boot := { ended := true, enrolled := true
              profile := { mode := .mixed, groups := [1, 0, 2, 0, 3, 4, 0, 0], ports := testPorts } }
    time := { running := true }
    duet := { pinOut := true } }

def inMode (m : Mode) : Device := { up with glb := { up.glb with mode := m } }

def on (d : Device) : State := { dev := d, fuses := Fuses.fresh, pending := [] }

/-- A descriptor with its own bytes from offset 20. -/
def fet (op len : Nat) (own : Bytes) : Fetched :=
  { order := 0, desc := fit 64 (leBytes 2 op ++ zeros 2 ++ leBytes 4 7 ++ leBytes 8 0x1000 ++ leBytes 4 len ++ own) }

/-- The descriptor stands at the front of ring 0, of function 0. -/
def withCmd (d : Device) (f : Fetched) : State := on (setCmdRing d 0 { fetched := [f] })

/-- A command may begin. -/
def runsB (d : Device) (r op : Nat) (right : Device → Nat → Bool) (own : Bytes → List (Nat × Bool)) (f : Fetched)
    (rest : List Fetched) : Bool :=
  (cmdRing d r).fetched == f :: rest && opcodeOf f.desc == op && !heldBack d r op f
    && (preCheck (taken d r rest) (cmdOwner d r) op (right (taken d r rest) (cmdOwner d r)) f.desc (own f.desc)).isNone

theorem runs_of {d : Device} {r op : Nat} {right : Device → Nat → Bool} {own : Bytes → List (Nat × Bool)} {f : Fetched}
    {rest : List Fetched} (h : runsB d r op right own f rest = true) : Runs d r op right own f rest := by
  simp only [runsB, Bool.and_eq_true, beq_iff_eq, Bool.not_eq_true', Option.isNone_iff_eq_none] at h
  exact ⟨h.1.1.1, h.1.1.2, h.1.2, h.2⟩

def heardB (d : Device) (h : DuetHdr) (m : DuetMsg) : Bool :=
  authentic d h m && d.duet.linkKey.isSome && d.duet.confirmed && decide (d.duet.rxSeq < h.seq) && h.epoch == d.duet.epoch

theorem heard_of {d : Device} {h : DuetHdr} {m : DuetMsg} (k : heardB d h m = true) : Heard d h m := by
  simp only [heardB, Bool.and_eq_true, decide_eq_true_eq, beq_iff_eq] at k
  exact ⟨k.1.1.1.1, k.1.1.1.2, k.1.1.2, k.1.2, k.2⟩

def org : Origin := { ring := 0, fn := 0, tag := 7, flags := 0#8, order := 0, epoch := 0, bufAddr := 0x1000, bufLen := 0 }

/-- A job of an opcode with its own descriptor bytes. -/
def jobOf (op len : Nat) (own buf : Bytes) : Job :=
  { origin := { org with bufLen := len }, opcode := op, desc := (fet op len own).desc, buf := buf }

def ptpUp : Device :=
  { up with regs := [(0x220100, 0xC0000000#32), (0x22040C, 0x80000000#32)], lane := { ports := [(3, { up := true })] } }

def drbgUp : Device := { up with svc := { drbgReady := true } }

def tree0 : Tree := { root := [], identity := zeros 48, slotCheck := [], journal := [], duetPair := [], imageSalt := [] }

/-- Slot 5 holds an AES-256 key with attributes `a`. -/
def slotUp (a : W16) : Device :=
  { drbgUp with key := { slots := [(5, { state := 1, key := zeros 32, type := 1, len := 32, attr := a, gen := 3#32 })] } }

/-- A slot whose CHECK is another value than the one computed. -/
def badSlotUp : Device :=
  { up with key := { slots := [(5, { state := 1, key := zeros 32, type := 1, len := 32
                                     check := checkValue up 1 (zeros 32) 0#16 0#32 + 1#32 })] } }

theorem badSlot_check : checkValue badSlotUp (slot badSlotUp 5).type (slot badSlotUp 5).key (slot badSlotUp 5).attr
    (slot badSlotUp 5).gen ≠ (slot badSlotUp 5).check := by
  show checkValue up 1 (zeros 32) 0#16 0#32 ≠ checkValue up 1 (zeros 32) 0#16 0#32 + 1#32
  intro h
  have := congrArg BitVec.toNat h
  simp only [BitVec.toNat_add, BitVec.toNat_ofNat] at this
  omega

/-- Slot 5 may be exported, slot 6 wraps; both carry their CHECK. -/
def exportUp : Device :=
  { up with key := { slots := [(5, { state := 1, key := zeros 32, type := 1, len := 32, attr := 0x400#16
                                     check := checkValue up 1 (zeros 32) 0x400#16 0#32 }),
                               (6, { state := 1, key := zeros 32, type := 1, len := 32, attr := 4#16
                                     check := checkValue up 1 (zeros 32) 4#16 0#32 })] } }

/-- Both engines of each kind are busy. -/
def busyUp : Device :=
  { drbgUp with svc := { drbgReady := true, symRun := [(0, jobOf 0x300 0 [] []), (1, jobOf 0x300 0 [] [])]
                         pkRun := [(0, jobOf 0x302 0 [] []), (1, jobOf 0x302 0 [] [])] } }

def exportDesc : Fetched := fet 0x313 40 [5#8, 0#8, 6#8, 0#8]

theorem verify_good {d : Device} {i : Nat} {x : Slot} (h : slot d i = x)
    (k : checkValue d x.type x.key x.attr x.gen = x.check) (s : x.state = 1) : verifySlot d i 0 = (d, true) := by
  subst h
  simp [verifySlot, s, k]

theorem export_ok (d : Device) (h : d = { busyUp with key := exportUp.key }) :
    exportCheck (taken (withCmd d exportDesc).dev 0 []) (cmdOwner (withCmd d exportDesc).dev 0)
      (slotNo exportDesc.desc 20) (slotNo exportDesc.desc 22) (originOf (withCmd d exportDesc).dev 0 exportDesc).bufLen =
    (taken (withCmd d exportDesc).dev 0 [], none) := by
  subst h
  generalize hd : taken (withCmd { busyUp with key := exportUp.key } exportDesc).dev 0 [] = e
  have h5 : verifySlot e 5 0 = (e, true) := by
    subst hd
    exact verify_good (x := { state := 1, key := zeros 32, type := 1, len := 32, attr := 0x400#16
                              check := checkValue up 1 (zeros 32) 0x400#16 0#32 }) rfl rfl rfl
  have h6 : verifySlot e 6 0 = (e, true) := by
    subst hd
    exact verify_good (x := { state := 1, key := zeros 32, type := 1, len := 32, attr := 4#16
                              check := checkValue up 1 (zeros 32) 4#16 0#32 }) rfl rfl rfl
  have e5 : slotNo exportDesc.desc 20 = 5 := by decide
  have e6 : slotNo exportDesc.desc 22 = 6 := by decide
  have s5 : stale e 5 = false := by subst hd; decide
  have s6 : stale e 6 = false := by subst hd; decide
  have g : exportSlots e (cmdOwner (withCmd { busyUp with key := exportUp.key } exportDesc).dev 0) 5 6
      (fun i => (slot e i).state == 0) = (e, none) := by
    unfold exportSlots
    rw [if_neg (by decide), if_neg (by subst hd; decide), if_neg (by subst hd; decide), if_neg (by subst hd; decide)]
    simp [bothGood, h5, h6, s5, s6]
  rw [e5, e6]
  unfold exportCheck
  simp only [g]
  rw [if_neg (by subst hd; decide)]

/-- An ECDSA verification under the point G of a signature of an all-zero digest: r = s = x(G) passes. -/
def verifyJob : Job :=
  jobOf 0x301 161 [1#8] ([4#8] ++ beBytes 32 p256.gx ++ beBytes 32 p256.gy ++ zeros 32 ++ beBytes 32 (p256.gx % p256.n)
    ++ beBytes 32 (p256.gx % p256.n))

def start0 : StartUp :=
  { speed := 4, width := 8, trainFail := none, drbgFail := none, plls := 0xFF#8, sris := false, offNs := 0
    retained := true, loops := [0, 0, 0, 0] }

/-- The member certificate of the identity of `tree0` on a device with fresh fuses, unsigned. -/
def testCert : Bytes :=
  leBytes 2 1 ++ leBytes 2 148 ++ leBytes 4 5 ++ leBytes 8 Fuses.fresh.dieId.toNat ++ [4#8] ++ beBytes 32 p256.gx
    ++ beBytes 32 p256.gy ++ zeros 67

/-- The device has the identity of `tree0`. -/
def identUp : Device :=
  { drbgUp with key := { tree := some tree0 }
                tmp := { identity := true } }

/-- An image whose length field at `at_` fits. -/
def image (at_ n len : Nat) : Bytes := zeros at_ ++ leBytes n len ++ zeros (len - at_ - n)

/-- Every source has this response and filter. -/
def sensors (response n : Nat) : List Sensor := List.replicate 18 { response := response, n := n, w := 10 }
def guarded (response n : Nat) : Device := { up with tmp := { sensors := sensors response n } }

def secy1 : SecY :=
  { port := 2, suite := 0, protect := true, tagMode := 0, conf := 0, validate := 2, replay := false, implicitRx := false
    cls := 0, clearTags := 0, window := 0, txVlan := 0 }
def sa1 : Sa := { suite := 0, salt := [], ssci := 0#32, pn := 9 }
def tx1 : Sc := { secy := 5, rx := false, sci := 0x123#64 }

/-- SecY 5 on Line port 2, transmit SC 3 with AN `an` encoding, and SAs 12 and 13. -/
def msUp (an : Option Nat) : Device :=
  { up with ms := { secys := [(5, secy1)], scs := [(3, { tx1 with encAn := an })], sas := [(12, sa1), (13, sa1)] } }

/-- As `msUp none`, without SAs. -/
def noSa : Device := { up with ms := { secys := [(5, secy1)], scs := [(3, tx1)] } }


/-- A 64-byte frame with FCS, of EtherType 0x0800. -/
def frame1 : FrameIn := { data := zeros 12 ++ [8#8] ++ zeros 47, whole := true, fcsOk := true }

/-- Ports 0 to 3 are up; SecY 5 on Line port 0 takes untagged frames, and encodes under SA 12. -/
def linkDev : Device :=
  { up with lane := { ports := [(0, { up := true }), (1, { up := true }), (2, { up := true }), (3, { up := true })] }
            ms := { secys := [(5, { secy1 with port := 0, txVlan := 0xFFF })]
                    scs := [(3, { tx1 with encAn := some 0 })]
                    sas := [(12, sa1)] } }

def clientWork : Work :=
  { dec := false, ing := 1, no := 0, arrival := 900, stamp := 0, data := frame1.data, whole := true, eg := 0, cls := 0
    action := 0, secy := some 5, sa := some 12, epoch := 0, yellow := false, sampled := false, win := none, times := [] }

/-- A forme at a stage, of a frame from Client port 1 to its Line port. -/
def formeAt (st : Stage) : Forme := { w := clientWork, order := 0, seq := 0, stage := st }

def withForme (d : Device) (f : Nat) (x : Forme) : Device := { d with prs := { d.prs with formes := [(f, x)] } }

/-- Fixed-latency forwarding of EtherType 0x0800 between Client port 1 and Line port 0. -/
def flUp (busy : Nat) : Device :=
  { linkDev with regs := [(0x140300, 5#32), (0x140304, 5#32), (0x140504, 0x00080800#32)]
                 prs := { flPassed := [0, 1], flActive := [0, 1], flBusy := [(0, busy)] } }

def assoc1 : Assoc :=
  { port := 4, slot := 0, txOn := true, rxOn := true, nFail := 3, mGood := 2, peer := 9, txStart := 1, rxHi := 0
    salt := zeros 12, sfn := 41, txCur := some 6, rxCur := some 6, rxState := 1 }

/-- Association 2 on OTN port 4; the key records of both directions carry their CHECK. -/
def knUp (x : Assoc) : Device :=
  { up with kn := { assocs := [(2, x)] }
            key := { records := [(196616, { present := true, key := zeros 32, type := 1
                                            check := checkValue up 1 (zeros 32) 0x80#16 0#32 }),
                                 (196618, { present := true, key := zeros 32, type := 1
                                            check := checkValue up 1 (zeros 32) 0x80#16 0#32 })] } }

theorem recGood_of {d : Device} {i : Nat} {x : KeyRec} (h : keyRec d i = x)
    (k : checkValue d x.type x.key 0x80#16 x.gen = x.check) : recGood d i = true := by
  subst h
  simp [recGood, k]

/-- The fields of a superframe of association 2 from its peer, numbered 50, under key index 6. -/
def goodHead : Bytes := knFields false zeroTag 6 0 9 50

/-- The frames that carry them: byte i stands in frame i / 4, in rows 1 to 3 of column 15 or in row 4 of column 16. -/
def goodFrames : List (Byte × Bytes) :=
  (List.range 64).map (fun k => (BitVec.ofNat 8 k,
    [byteAt goodHead (4 * k), 0#8, byteAt goodHead (4 * k + 1), 0#8, byteAt goodHead (4 * k + 2), 0#8, 0#8,
     byteAt goodHead (4 * k + 3)]))

theorem goodFrames_fields : rxFields false 0 goodFrames = goodHead := by decide

def goodTag : Bytes := gcmTag (zeros 32) (knIv (zeros 12) 9 50) (goodHead.drop 16) []

theorem goodHead_passes : superframeCause (knUp { assoc1 with pred := some 50 })
    { assoc1 with pred := some 50 } (knRecord 2 { assoc1 with pred := some 50 } 1 0) 6 50 goodHead [] goodTag = none := by
  unfold superframeCause
  rw [if_neg (by decide), if_neg (by decide), if_neg (by decide)]
  have h : tagOk (knUp { assoc1 with pred := some 50 }) { assoc1 with pred := some 50 }
      (knRecord 2 { assoc1 with pred := some 50 } 1 0) 50 goodHead [] goodTag = true := beq_self_eq_true _
  rw [h]
  rfl

/-- Ports 0 and 1 are a LINK pair at 1000BASE-X whose fixed-latency class is in service; base 0's agent runs on them. -/
def expressUp : Device :=
  { ptpUp with
    regs := [(0x220100, 0xC0000000#32), (0x220404, 0x80000000#32)]
    boot := { up.boot with profile := { up.boot.profile with
      ports := [(0, { firstLane := 0, lanes := 1, type := 1, line := true, partner := 1, flags := 0 }),
                (1, { firstLane := 1, lanes := 1, type := 1, line := false, partner := 0, flags := 0 })] } }
    prs := { flPassed := [0, 1], flActive := [0, 1] }
    lane := { ports := [(0, { up := true }), (1, { up := true })] } }

/-- Line port 2's PTP messages are enciphered under SecY 5, which encodes under SA 12. -/
def agentMs (m : MacSec) : Device :=
  { ptpUp with regs := [(0x220100, 0xC0000000#32), (0x220408, 0x80000000#32), (0x141008, 0x80050000#32)]
               lane := { ports := [(2, { up := true })] }
               ms := m }

/-- A frame to Line port 2 waits in queue 16, its class's queue. -/
def galUp : Device :=
  { linkDev with prs := { formes := [(7, { formeAt .queued with done := true, settled := true, w := { clientWork with eg := 2 } })] }
                 gal := { queues := [(16, [7])] } }

def duetBase : Duet := { role := .standby, linkKey := some (zeros 32), confirmed := true }

/-- A member of a Duet of style `st`, with its link active. -/
def duetUp (st : Nat) (x : Duet) : Device :=
  { up with duet := x
            lane := { dlState := 5, dlForwarded := true }
            boot := { up.boot with profile := { up.boot.profile with style := st } } }

def hdr : DuetHdr := { epoch := 0#32, seq := 5 }
def pairing1 : Pairing := { origin := org, peer := 7, waitS := 10, started := 5, nonce := zeros 32, scalar := zeros 32 }
def hello1 : Hello :=
  { member := 8, cert := [], nonce := [], point := [], sig := [], part := 0#16, epoch := 0#32, pinOut := false, digest := []
    inUse := 8 }
def closed1 : Closed := { kind := 0, index := 3, window := 2, sum := 9#64, void := false, sas := [] }
def found0 : ProofFindings := { badPresses := [], badTcam := [], badMac := [], upsetSlots := [], upsetRecs := [] }
def testDue : Due := dueOf up org .ok (zeros 16) false

/-! ## A state and operands for every clause with hypotheses -/

/-- A GCM job in reverse with the given tag. -/
def gcmJob (tag : Bytes) : Job := jobOf 0x300 24 [1#8, 1#8, 0#8, 0#8, 0#8, 0#8, 0#8, 0#8, 12#8, 12#8] (zeros 12 ++ tag)

theorem gcmJob_result (tag : Bytes) (h : slice (zeros 12 ++ tag) 12 12 = tag) :
    symResult [] (gcmJob tag).desc (gcmJob tag).buf =
      if fit 12 (gcmTag [] (zeros 12) [] []) = tag then (some (fit 0 (gcmCrypt [] (zeros 12) [])), 0)
      else (none, 0) := by
  generalize hd : (fet 0x300 24 [1#8, 1#8, 0#8, 0#8, 0#8, 0#8, 0#8, 0#8, 12#8, 12#8]).desc = desc
  have e1 : leField desc 20 1 = 1 := by subst hd; decide
  have e2 : (byteAt desc 21).getLsbD 0 = true := by subst hd; decide
  have e3 : leField desc 24 2 = 0 := by subst hd; decide
  have e4 : leField desc 26 2 = 0 := by subst hd; decide
  have e5 : leField desc 28 1 = 12 := by subst hd; decide
  have e6 : leField desc 29 1 = 12 := by subst hd; decide
  have s1 : slice (zeros 12 ++ tag) 0 12 = zeros 12 := rfl
  have s2 : slice (zeros 12 ++ tag) 12 0 = [] := rfl
  show symResult [] (gcmJob tag).desc (zeros 12 ++ tag) = _
  have hg : (gcmJob tag).desc = desc := hd
  rw [hg]
  simp only [symResult, e1, e2, e3, e4, e5, e6, s1, s2, h, Nat.add_zero, if_true]

theorem wit_JobsEndWithTheirResult_2 : ∃ (e : Fin 2) (s : State) (j : Job) (k : Nat),
    Tbl.get? s.dev.svc.symRun e = some j ∧ j.opcode = 0x0300 ∧ symMode j ≤ 3 ∧
    symResult j.res.key j.desc j.buf = (none, k) := by
  by_cases h : fit 12 (gcmTag [] (zeros 12) [] []) = zeros 12
  · refine ⟨0, on { up with svc := { symRun := [(0, gcmJob (List.replicate 12 1#8))] } },
      gcmJob (List.replicate 12 1#8), 0, by decide, by decide, by decide, ?_⟩
    exact (gcmJob_result _ (by decide)).trans (if_neg (by rw [h]; decide))
  · refine ⟨0, on { up with svc := { symRun := [(0, gcmJob (zeros 12))] } }, gcmJob (zeros 12), 0, by decide, by decide,
      by decide, ?_⟩
    exact (gcmJob_result _ (by decide)).trans (if_neg h)

/-- Slot 0 holds a data-plane AES-128 key that carries its CHECK. -/
def planeUp : Device :=
  { noSa with key := { slots := [(0, { state := 1, key := zeros 16, type := 1, len := 16, attr := 0x80#16
                                       check := checkValue up 1 (zeros 16) 0x80#16 0#32 })] } }

def saTest : Fetched := fet 0x104 0 ([12#8, 0#8, 0#8, 0#8, 0#8, 1#8, 0#8, 0#8, 1#8])

theorem planeKey : slotKey (taken (withCmd planeUp saTest).dev 0 []) 0 1 0 26 16 [] =
    (taken (withCmd planeUp saTest).dev 0 [], .ok (zeros 16)) := by
  generalize hd : taken (withCmd planeUp saTest).dev 0 [] = e
  have h : verifySlot e 0 0 = (e, true) := by
    subst hd
    exact verify_good (x := { state := 1, key := zeros 16, type := 1, len := 16, attr := 0x80#16
                              check := checkValue up 1 (zeros 16) 0x80#16 0#32 }) rfl rfl rfl
  have g : goodAndFresh e 0 = (e, none) := by
    have : stale e 0 = false := by subst hd; decide
    simp [goodAndFresh, h, this]
  unfold slotKey
  rw [if_neg (by subst hd; decide), if_neg (by subst hd; decide), if_neg (by simp)]
  simp only [g]
  rw [if_neg (by decide), if_pos (by subst hd; decide)]
  have : (slot e 0).key = zeros 16 := by subst hd; rfl
  rw [this]

theorem wit_MacsecObjectsFollowCommands_6 : ∃ (r : Fin 64) (s : State) (f : Fetched) (rest : List Fetched) (key : Bytes)
    (i len : Nat) (c : Sc) (d : Device),
    Runs s.dev r 0x0104 anyRight saOwn f rest ∧ i = leField f.desc 20 3 ∧ leField f.desc 24 1 = 0 ∧
    leField f.desc 25 1 = 1 ∧ (originOf s.dev r f).bufLen = 0 ∧ scOf s.dev (i / 4) = some c ∧ saOf s.dev i = none ∧
    saQuarantined s.dev i = false ∧ suiteBad (scSuite s.dev (i / 4)) 0 f.desc = none ∧
    len = suiteKeyLen (scSuite s.dev (i / 4)) ∧
    slotKey (taken s.dev r rest) (cmdOwner s.dev r) 1 (leField f.desc 26 2) 26 len [] = (d, .ok key) ∧
    pinFull s.dev i = false ∧ roleStale d = false :=
  ⟨0, withCmd planeUp saTest, saTest, [], zeros 16, 12, 16, tx1, taken (withCmd planeUp saTest).dev 0 [],
   runs_of (by decide), by decide, by decide, by decide, by decide, by decide, by decide, by decide, by decide, by decide,
   planeKey, by decide, by decide⟩

/-- What `flFrame` works with on the frame `frame1` that comes to Client port 1 of `u`. -/
def flDev (u : Device) : Device := (enterStage2 (macReceive u 1 frame1).1 1 frame1 true).1
def flWork (u : Device) : Work := (enterStage2 (macReceive u 1 frame1).1 1 frame1 true).2
def flSeen (u : Device) : Device := (classifyFl (flDev u) (flWork u)).1
def flGo (u : Device) (sa : Option Nat) : Work :=
  { flWork u with secy := some 5, cls := 0, sa := sa, eg := 0, cut := if u.duet.role = .solo then 0 else 1 }
def flNew (u : Device) (sa : Option Nat) : Forme :=
  { w := stamped (flSeen u) (stamped (flSeen u) (stamped (flSeen u) (flGo u sa) 4) 5) 6, order := (flSeen u).prs.nextOrder
    seq := (flowSeq (flSeen u) (flGo u sa)).2, entered := true, launch := some 1240 }
def flTaken (u : Device) (sa : Option Nat) : Device := setForme (flowSeq (flSeen u) (flGo u sa)).1 16128 (flNew u sa)

/-- As `flUp 0`, on a member that is ACTIVE and has no mark acknowledged. -/
def flMarked : Device := { flUp 0 with duet := { role := .active } }

/-- As `flUp 0`, with a SecY that does not protect. -/
def flClear : Device :=
  { flUp 0 with ms := { (flUp 0).ms with secys := [(5, { secy1 with port := 0, txVlan := 0xFFF, protect := false })] } }

theorem wit_FramesAreClassified_3 : ∃ (p : Fin 128) (fr : FrameIn) (s : State) (d : Device) (w : Work) (q launch : Nat)
    (d1 d2 : Device) (w1 : Work) (f : Nat) (x : Forme) (i : Nat) (a : Sa),
    takesFrames s.dev p = true ∧ isFlFrame s.dev p fr.data = true ∧ 64 ≤ frameLen fr.data ∧ fr.fcsOk = true ∧
    (d, w) = enterStage2 (macReceive s.dev p fr).1 p fr true ∧ q = (partner s.dev p).getD p ∧
    launch = s.dev.clock + 240 ∧ flInService s.dev p = true ∧ linkUp s.dev q = true ∧
    Tbl.getD s.dev.prs.flBusy q 0 ≤ launch ∧ classifyFl d w = (d1, .go w1) ∧
    (plainLen d1 w1 ≤ 16383 ∨ w1.whole = false) ∧ w1.eg = q ∧ w1.ing = p ∧ w1.arrival = s.dev.clock ∧
    freeFlForme d1 w1 = some f ∧
    x = { w := stamped d1 (stamped d1 (stamped d1 w1 4) 5) 6, order := d1.prs.nextOrder, seq := (flowSeq d1 w1).2
          entered := true, launch := some launch } ∧
    d2 = setForme (flowSeq d1 w1).1 f x ∧
    ciphered d2 x.w = true ∧ w1.sa = some i ∧ saOf d2 i = some a ∧ a.oos = false ∧
    (behindFl d2 x = true ∨ dispatchable d2 i x a = false) :=
  ⟨1, frame1, on flMarked, flDev flMarked, flWork flMarked, 0, 1240, flSeen flMarked, flTaken flMarked (some 12),
   flGo flMarked (some 12), 16128, flNew flMarked (some 12), 12, sa1, by decide, by decide, by decide, by decide, rfl,
   by decide, by decide, by decide, by decide, by decide, rfl, .inl (by decide), by decide, by decide, by decide, by decide,
   rfl, rfl, by decide, by decide, by decide, by decide, .inr (by decide)⟩

theorem wit_FramesAreClassified_4 : ∃ (p : Fin 128) (fr : FrameIn) (s : State) (d : Device) (w : Work) (q launch : Nat)
    (d1 d2 : Device) (w1 : Work) (f : Nat) (x : Forme) (i : Nat) (a : Sa) (e : Device) (y : Forme),
    takesFrames s.dev p = true ∧ isFlFrame s.dev p fr.data = true ∧ 64 ≤ frameLen fr.data ∧ fr.fcsOk = true ∧
    (d, w) = enterStage2 (macReceive s.dev p fr).1 p fr true ∧ q = (partner s.dev p).getD p ∧
    launch = s.dev.clock + 240 ∧ flInService s.dev p = true ∧ linkUp s.dev q = true ∧
    Tbl.getD s.dev.prs.flBusy q 0 ≤ launch ∧ classifyFl d w = (d1, .go w1) ∧
    (plainLen d1 w1 ≤ 16383 ∨ w1.whole = false) ∧ w1.eg = q ∧ w1.ing = p ∧ w1.arrival = s.dev.clock ∧
    freeFlForme d1 w1 = some f ∧
    x = { w := stamped d1 (stamped d1 (stamped d1 w1 4) 5) 6, order := d1.prs.nextOrder, seq := (flowSeq d1 w1).2
          entered := true, launch := some launch } ∧
    d2 = setForme (flowSeq d1 w1).1 f x ∧
    ciphered d2 x.w = true ∧ w1.sa = some i ∧ saOf d2 i = some a ∧ a.oos = false ∧ behindFl d2 x = false ∧
    dispatchable d2 i x a = true ∧ pressIn d2 (flPress d2 p) = true ∧
    e = dispatchTo d2 f i (flPress d2 p) x a ∧ forme? e f = some y :=
  ⟨1, frame1, on (flUp 0), flDev (flUp 0), flWork (flUp 0), 0, 1240, flSeen (flUp 0), flTaken (flUp 0) (some 12),
   flGo (flUp 0) (some 12), 16128, flNew (flUp 0) (some 12), 12, sa1, _, _, by decide, by decide, by decide, by decide, rfl,
   by decide, by decide, by decide, by decide, by decide, rfl, .inl (by decide), by decide, by decide, by decide, by decide,
   rfl, rfl, by decide, by decide, by decide, by decide, by decide, by decide, by decide, rfl, rfl⟩

theorem wit_FramesAreClassified_5 : ∃ (p : Fin 128) (fr : FrameIn) (s : State) (d : Device) (w : Work) (q launch : Nat)
    (d1 d2 : Device) (w1 : Work) (f : Nat) (x : Forme),
    takesFrames s.dev p = true ∧ isFlFrame s.dev p fr.data = true ∧ 64 ≤ frameLen fr.data ∧ fr.fcsOk = true ∧
    (d, w) = enterStage2 (macReceive s.dev p fr).1 p fr true ∧ q = (partner s.dev p).getD p ∧
    launch = s.dev.clock + 240 ∧ flInService s.dev p = true ∧ linkUp s.dev q = true ∧
    Tbl.getD s.dev.prs.flBusy q 0 ≤ launch ∧ classifyFl d w = (d1, .go w1) ∧
    (plainLen d1 w1 ≤ 16383 ∨ w1.whole = false) ∧ w1.eg = q ∧ w1.ing = p ∧ w1.arrival = s.dev.clock ∧
    freeFlForme d1 w1 = some f ∧
    x = { w := stamped d1 (stamped d1 (stamped d1 w1 4) 5) 6, order := d1.prs.nextOrder, seq := (flowSeq d1 w1).2
          entered := true, launch := some launch } ∧
    d2 = setForme (flowSeq d1 w1).1 f x ∧
    ciphered d2 x.w = false ∧ behindFl d2 x = false ∧ w1.sa.all (fun i => (saOf d2 i).any (fun a => !a.oos)) = true :=
  ⟨1, frame1, on flClear, flDev flClear, flWork flClear, 0, 1240, flSeen flClear, flTaken flClear (some 12),
   flGo flClear (some 12), 16128, flNew flClear (some 12), by decide, by decide, by decide, by decide, rfl,
   by decide, by decide, by decide, by decide, by decide, rfl, .inl (by decide), by decide, by decide, by decide, by decide,
   rfl, rfl, by decide, by decide, by decide⟩

/-- Association 2 without a current transmit record, and a data-plane AES-256 key in slot 0. -/
def knKeyUp : Device :=
  { knUp { assoc1 with txCur := none } with
    key := { slots := [(0, { state := 1, key := zeros 32, type := 1, len := 32, attr := 0x80#16
                             check := checkValue up 1 (zeros 32) 0x80#16 0#32 })] } }

def knKeyTest : Fetched := fet 0x182 0 [2#8, 0#8, 0#8, 1#8, 0#8, 0#8, 0#8, 6#8]

theorem knPlaneKey : slotKey (taken (withCmd knKeyUp knKeyTest).dev 0 []) 0 1 0 24 32 [] =
    (taken (withCmd knKeyUp knKeyTest).dev 0 [], .ok (zeros 32)) := by
  generalize hd : taken (withCmd knKeyUp knKeyTest).dev 0 [] = e
  have h : verifySlot e 0 0 = (e, true) := by
    subst hd
    exact verify_good (x := { state := 1, key := zeros 32, type := 1, len := 32, attr := 0x80#16
                              check := checkValue up 1 (zeros 32) 0x80#16 0#32 }) rfl rfl rfl
  have g : goodAndFresh e 0 = (e, none) := by
    have : stale e 0 = false := by subst hd; decide
    simp [goodAndFresh, h, this]
  unfold slotKey
  rw [if_neg (by subst hd; decide), if_neg (by subst hd; decide), if_neg (by simp)]
  simp only [g]
  rw [if_neg (by decide), if_pos (by subst hd; decide)]
  have : (slot e 0).key = zeros 32 := by subst hd; rfl
  rw [this]

theorem wit_KnadraAssociationsFollowCommands_5 : ∃ (r : Fin 64) (s : State) (f : Fetched) (rest : List Fetched)
    (key : Bytes) (a dir target : Nat) (x : Assoc) (d : Device),
    Runs s.dev r 0x0182 anyRight knKeyOwn f rest ∧ a = assocNo f.desc ∧ dir = leField f.desc 22 1 ∧
    target = leField f.desc 26 1 ∧ leField f.desc 23 1 = 1 ∧ (originOf s.dev r f).bufLen = 0 ∧ assoc? s.dev a = some x ∧
    x.oos = false ∧ x.deleting = none ∧ quarantined s.dev (recLine (knRecord a x dir target)) = false ∧
    (if target = 0 then curOf x dir else nextOf x dir) = none ∧ (target = 1 → (curOf x dir).isSome = true) ∧
    (target = 0 → isSdh s.dev x.port = true → leField f.desc 27 1 ≤ 127) ∧
    slotKey (taken s.dev r rest) (cmdOwner s.dev r) 1 (leField f.desc 24 2) 24 32 [] = (d, .ok key) ∧ roleStale d = false :=
  ⟨0, withCmd knKeyUp knKeyTest, knKeyTest, [], zeros 32, 2, 0, 0, { assoc1 with txCur := none },
   taken (withCmd knKeyUp knKeyTest).dev 0 [], runs_of (by decide), by decide, by decide, by decide, by decide, by decide,
   by decide, by decide, by decide, by decide, by decide, by decide, by decide, knPlaneKey, by decide⟩

theorem wit_StepRunsFrontCommand :
    (∃ (c : Instr) (rest : List Instr) (s : State),
      s.pending = c :: rest) :=
  ⟨.nop 0, [], { on up with pending := [.nop 0] }, by decide⟩

theorem wit_NopAndStatusComplete :
    (∃ (r : Fin 64) (s : State) (f : Fetched) (rest : List Fetched),
      (cmdRing s.dev r).fetched = f :: rest ∧ opInfo (opcodeOf f.desc) = none ∧
      heldBack s.dev r (opcodeOf f.desc) f = false) ∧
    (∃ (r : Fin 64) (s : State) (f : Fetched) (rest : List Fetched),
      Runs s.dev r 0x0000 anyRight (fun _ => []) f rest) ∧
    (∃ (r : Fin 64) (s : State) (f : Fetched) (rest : List Fetched) (n : Nat),
      Runs s.dev r 0x0002 anyRight ringStatusOwn f rest ∧ n = (byteAt f.desc 20).toNat % 64 ∧
      leField f.desc 21 1 = 1 ∧ cqOwner s.dev n = cmdOwner s.dev r) :=
  ⟨⟨0, (withCmd up (fet 0x0003 0 ([]))), (fet 0x0003 0 ([])), [], by decide, by decide, by decide⟩,
   ⟨0, (withCmd up (fet 0x0000 0 ([]))), (fet 0x0000 0 ([])), [], runs_of (by decide)⟩,
   ⟨0, (withCmd up (fet 0x0002 0 ([5#8, 1#8]))), (fet 0x0002 0 ([5#8, 1#8])), [], _, runs_of (by decide), rfl,
    by decide, by decide⟩⟩

theorem wit_AbortEndsWaiting :
    (∃ (r : Fin 64) (s : State) (f : Fetched) (rest : List Fetched) (n : Nat),
      Runs s.dev r 0x0001 anyRight (fun desc => zeroBits desc 24 0xC0 :: zeroFrom desc 25 63) f rest ∧
      n = (byteAt f.desc 24).toNat % 64 ∧ cmdOwner s.dev n = cmdOwner s.dev r ∧
      abortTarget (taken s.dev r rest) n (leField f.desc 20 4) = none) ∧
    (∃ (r : Fin 64) (s : State) (f : Fetched) (rest : List Fetched) (n : Nat) (g : Fetched) (e : _) (e2 : _),
      Runs s.dev r 0x0001 anyRight (fun desc => zeroBits desc 24 0xC0 :: zeroFrom desc 25 63) f rest ∧
      n = (byteAt f.desc 24).toNat % 64 ∧ cmdOwner s.dev n = cmdOwner s.dev r ∧
      abortTarget (taken s.dev r rest) n (leField f.desc 20 4) = some (.waiting g) ∧
      abortable (opcodeOf g.desc) = true ∧
      e = svcCtrAborts (setCmdRing (taken s.dev r rest) n { cmdRing (taken s.dev r rest) n with fetched := (cmdRing (taken s.dev r rest) n).fetched.filter (fun x => x.order != g.order) }) ∧
      e2 = post e (dueOf e (originOf e n g) .aborted (zeros 16) false) ∧
      (cqRing e2 (cmdCq e2 n)).due.any (fun u => u.origin == originOf e n g) = false) ∧
    (∃ (r : Fin 64) (s : State) (f : Fetched) (rest : List Fetched) (n : Nat) (g : Fetched) (e : _) (e2 : _),
      Runs s.dev r 0x0001 anyRight (fun desc => zeroBits desc 24 0xC0 :: zeroFrom desc 25 63) f rest ∧
      n = (byteAt f.desc 24).toNat % 64 ∧ cmdOwner s.dev n = cmdOwner s.dev r ∧
      abortTarget (taken s.dev r rest) n (leField f.desc 20 4) = some (.waiting g) ∧
      abortable (opcodeOf g.desc) = true ∧
      e = svcCtrAborts (setCmdRing (taken s.dev r rest) n { cmdRing (taken s.dev r rest) n with fetched := (cmdRing (taken s.dev r rest) n).fetched.filter (fun x => x.order != g.order) }) ∧
      e2 = post e (dueOf e (originOf e n g) .aborted (zeros 16) false) ∧
      (cqRing e2 (cmdCq e2 n)).due.any (fun u => u.origin == originOf e n g) = true) :=
  ⟨⟨0, (withCmd up (fet 0x0001 0 (leBytes 4 9))), (fet 0x0001 0 (leBytes 4 9)), [], _, runs_of (by decide), rfl,
    by decide, by decide⟩,
   ⟨1,
    (on (setCmdRing (setCmdRing (inMode .provision) 0 { fetched := [fet 0x300 0 []] }) 1 { fetched := [fet 1 0 (leBytes 4 7)] })),
    (fet 1 0 (leBytes 4 7)), [], _, (fet 0x300 0 []), _, _, runs_of (by decide), rfl, by decide, by decide,
    by decide, rfl, rfl, by decide⟩,
   ⟨1,
    (on (setCqRing (setCmdRing (setCmdRing { inMode .provision with regs := [(0x1080C, 0x80000001#32), (0x10014, 0#32), (cmdCfgOff 1, 0x10006#32), (cqCtrlOff 0, 0x80000000#32), (cqCtrlOff 1, 0x80000000#32)] } 0 { fetched := [fet 0x300 0 []] }) 1 { fetched := [fet 1 0 (leBytes 4 7)] }) 0 { head := 1 })),
    (fet 1 0 (leBytes 4 7)), [], _, (fet 0x300 0 []), _, _, runs_of (by decide), rfl, by decide, by decide,
    by decide, rfl, rfl, by decide⟩⟩

theorem wit_DoorbellsMoveTheirRing :
    (∃ (f : Fin 16) (n : Fin 64) (val : W32) (s : State),
      cmdOwner s.dev n = f.val ∧ inSize (cmdSize s.dev n) (bits val 15 0) = true) ∧
    (∃ (f : Fin 16) (n : Fin 64) (val : W32) (s : State),
      ((cmdOwner s.dev n ≠ f.val ∨ inSize (cmdSize s.dev n) (bits val 15 0) = false))) ∧
    (∃ (f : Fin 16) (m : Fin 64) (val : W32) (s : State),
      cqOwner s.dev m = f.val ∧ inSize (cqSize s.dev m) (bits val 15 0) = true ∧ (cqRing s.dev m).due = [] ∧
      s.dev.hif.abortWaits = [] ∧
      cqFull (setCqRing s.dev m { cqRing s.dev m with head := bits val 15 0 }) m = false ∧
      cqFull s.dev m = false ∧ (cqRing s.dev m).stallSince = none) ∧
    (∃ (f : Fin 16) (m : Fin 64) (val : W32) (s : State) (t : Nat),
      cqOwner s.dev m = f.val ∧ inSize (cqSize s.dev m) (bits val 15 0) = true ∧ (cqRing s.dev m).due = [] ∧
      s.dev.hif.abortWaits = [] ∧
      cqFull (setCqRing s.dev m { cqRing s.dev m with head := bits val 15 0 }) m = false ∧
      cqFull s.dev m = true ∧ (cqRing s.dev m).stallSince = some t) ∧
    (∃ (f : Fin 16) (m : Fin 64) (val : W32) (s : State),
      ((cqOwner s.dev m ≠ f.val ∨ inSize (cqSize s.dev m) (bits val 15 0) = false))) ∧
    (∃ (e4 : Fin 4) (val : W32) (s : State),
      inSize ((evSize s.dev e4).map (· / 8)) (bits val 20 0) = true ∧ (evRing s.dev e4).unreported = 0) ∧
    (∃ (f : Fin 16) (e4 : Fin 4) (val : W32) (s : State),
      ((f.val ≠ 0 ∨ inSize ((evSize s.dev e4).map (· / 8)) (bits val 20 0) = false))) ∧
    (∃ (val : W32) (s : State),
      inSize (sampleSize s.dev) (bits val 15 0) = true) ∧
    (∃ (f : Fin 16) (val : W32) (s : State),
      ((f.val ≠ 0 ∨ inSize (sampleSize s.dev) (bits val 15 0) = false))) :=
  ⟨⟨0, 3, 63#32, (on up), by decide, by decide⟩,
   ⟨0, 3, 64#32, (on up), Or.inr (by decide)⟩,
   ⟨0, 63, 63#32, (on up), by decide, by decide, by decide, by decide, by decide, by decide, by decide⟩,
   ⟨0, 0, 63#32, (on (setCqRing up 0 { head := 1, stallSince := some 5 })), 5, by decide, by decide, by decide,
    by decide, by decide, by decide, by decide⟩,
   ⟨1, 63, 63#32, (on up), Or.inl (by decide)⟩,
   ⟨3, 511#32, (on up), by decide, by decide⟩,
   ⟨0, 3, 512#32, (on up), Or.inr (by decide)⟩,
   ⟨0xFFF#32, (on up), by decide⟩,
   ⟨0, 0x1000#32, (on up), Or.inr (by decide)⟩⟩

theorem wit_EnableResetsIndices :
    (∃ (n : Fin 64) (val : W32) (s : State),
      bit val 0 = true ∧ cmdEnabled s.dev n = false ∧ bit (reg s.dev (cmdStatusOff n)) 0 = false) ∧
    (∃ (n : Fin 64) (val : W32) (s : State),
      bit val 31 = true ∧ cqEnabled s.dev n = false) ∧
    (∃ (n : Fin 64) (val : W32) (s : State),
      n.val < 4 ∧ bit val 31 = true ∧ evEnabled s.dev n = false) ∧
    (∃ (val : W32) (s : State),
      bit val 31 = true ∧ evEnabled s.dev 4 = false) ∧
    (∃ (n : Fin 64) (k : Fin 2) (off : Nat),
      off = 0x10000 + 0x20 * n.val + 4 * k.val) ∧
    (∃ (n : Fin 64) (k : Fin 2) (off : Nat),
      off = 0x10000 + 0x20 * n.val + 4 * k.val ∧ n.val < 5) :=
  ⟨⟨63, 1#32, (on up), by decide, by decide, by decide⟩,
   ⟨63, 0x80000000#32, (on up), by decide, by decide⟩,
   ⟨3, 0x8000000C#32, (on up), by decide, by decide, by decide⟩,
   ⟨0x80000006#32, (on up), by decide, by decide⟩,
   ⟨63, 1, 0x107E4, by decide⟩,
   ⟨4, 1, 0x10084, by decide, by decide⟩⟩

theorem wit_FetchVisitsNextRing :
    (∃ (s : State) (r : Nat),
      nextRing s.dev = some r ∧ r < 64) :=
  ⟨(on (setCmdRing { up with regs := [(0x1000C, 1#32), (0x1080C, 0x80000001#32)] } 0 { tail := 3 })), 0, by decide,
    by decide⟩

theorem wit_CoalescingRaisesVector :
    (∃ (m : Fin 64) (s : State) (t : Nat),
      t = field s.dev (cqCtrlOff m) 19 8 ∧ t ≠ 0 ∧ (cqRing s.dev m).unsignalled ≠ 0 ∧
      (cqRing s.dev m).firstAt + t * 500 ≤ s.dev.clock ∧
      ownsVector s.dev (cqOwner s.dev m) (field s.dev (cqCfgOff m) 22 16) = true) :=
  ⟨2, (on (setCqRing { up with regs := [(0x1084C, 0x80000101#32)] } 2 { unsignalled := 1, firstAt := 0 })), _, rfl,
    by decide, by decide, by decide, by decide⟩

theorem wit_SealLocksOnce :
    (∃ (s : State),
      s.dev.glb.sealed = false) ∧
    (∃ (s : State) (val : W32),
      ((val ≠ 0x5EA1#32 ∨ s.dev.glb.sealed = true))) :=
  ⟨⟨(on up), by decide⟩,
   ⟨(on up), 1#32, by decide⟩⟩

theorem wit_RegisterWriteByAccessCode :
    (∃ (off : BitVec 22) (i : RegInfo),
      regInfo? off.toNat = some i ∧ 0x180000 ≤ off.toNat ∧ off.toNat < 0x210000 ∧ off.toNat ≠ 0x1C0004) ∧
    (∃ (i : RegInfo) (k : Nat),
      k < 32 ∧ i.rw &&& i.w1c = 0#32 ∧ i.rwl &&& i.w1c = 0#32 ∧ bit i.rw k = true) ∧
    (∃ (i : RegInfo) (k : Nat),
      k < 32 ∧ i.rw &&& i.w1c = 0#32 ∧ i.rwl &&& i.w1c = 0#32 ∧ bit i.rwl k = true ∧ bit i.rw k = false) ∧
    (∃ (i : RegInfo) (k : Nat),
      k < 32 ∧ i.rw &&& i.w1c = 0#32 ∧ i.rwl &&& i.w1c = 0#32 ∧ bit i.w1c k = true) ∧
    (∃ (i : RegInfo) (k : Nat),
      k < 32 ∧ i.rw &&& i.w1c = 0#32 ∧ i.rwl &&& i.w1c = 0#32 ∧ bit i.rw k = false ∧ bit i.rwl k = false ∧
      bit i.w1c k = false) ∧
    (∃ (f : Fin 16),
      f.val ≠ 0) :=
  ⟨⟨0x180100#22, regN 0x180100 4 128 (mask 30 11) (mask 6 0) 0 0x06432041#32, by decide, by decide, by decide,
    by decide⟩,
   ⟨regN 0x220100 0x40 4 (mask 31 27 ||| mask 23 15 ||| mask 6 0) (mask 8 8) (mask 26 26) 0, 31, by decide,
    by decide, by decide, by decide⟩,
   ⟨regN 0x220100 0x40 4 (mask 31 27 ||| mask 23 15 ||| mask 6 0) (mask 8 8) (mask 26 26) 0, 8, by decide,
    by decide, by decide, by decide, by decide⟩,
   ⟨regN 0x220100 0x40 4 (mask 31 27 ||| mask 23 15 ||| mask 6 0) (mask 8 8) (mask 26 26) 0, 26, by decide,
    by decide, by decide, by decide⟩,
   ⟨regN 0x220100 0x40 4 (mask 31 27 ||| mask 23 15 ||| mask 6 0) (mask 8 8) (mask 26 26) 0, 7, by decide,
    by decide, by decide, by decide, by decide, by decide⟩,
   ⟨1, by decide⟩⟩

theorem wit_ReadsLatchHighHalf :
    (∃ (f : Fin 16) (s : State),
      counterAccess s.dev f = true) ∧
    (∃ (f : Fin 16) (s : State),
      counterAccess s.dev f = false) :=
  ⟨⟨0, (on up), by decide⟩,
   ⟨1, (on { up with regs := [(0x11204, 0#32)] }), by decide⟩⟩

theorem wit_HostSteersBase :
    (∃ (b : Fin 4) (val : W32) (s : State) (e : Device),
      agentOn s.dev b = false ∧ e = plainWrite s.dev (ctlOff b + 8) val) ∧
    (∃ (b : Fin 4) (s : State),
      agentOn s.dev b = false) ∧
    (∃ (b : Fin 4) (s : State),
      agentOn s.dev b = true) :=
  ⟨⟨3, 0x7F#32, (on up), _, by decide, rfl⟩,
   ⟨3, (on up), by decide⟩,
   ⟨0, (on { up with regs := [(0x220100, 0xC0000000#32)] }), by decide⟩⟩

theorem wit_BaseControlAndSnapshot :
    (∃ (b : Fin 4) (s : State),
      agentOn s.dev b = false) :=
  ⟨2, (on up), by decide⟩

theorem wit_TriggersAndCaptures :
    (∃ (u : Fin 8) (val : W32) (s : State) (e : Device) (n : Nat),
      bit val 31 = true ∧ trgEnabled s.dev u = false ∧ e = plainWrite s.dev (trgOff u) val ∧
      n = firstFire (trgStart e u) (trgPeriod e u) (tbase e (trgBase e u)).value) ∧
    (∃ (u : Fin 8) (val : W32) (s : State) (e : Device),
      bit val 31 = false ∧ e = plainWrite s.dev (trgOff u) val) ∧
    (∃ (period : Nat),
      0 < period) ∧
    (∃ (start : Nat) (period : Nat) (value : Nat),
      0 < period ∧ start * nsUnit < value) ∧
    (∃ (u : Fin 8) (s : State) (p : Nat) (v : Nat),
      (trg s.dev u).running = true ∧ trgEnabled s.dev u = true ∧ s.dev.time.running = true ∧ p = trgPeriod s.dev u ∧
      v = (tbase s.dev (trgBase s.dev u)).value ∧ (trg s.dev u).next * nsUnit ≤ v) ∧
    (∃ (u : Fin 8) (s : State) (t : Nat),
      (trg s.dev u).pulseEnd = some t ∧ t ≤ s.dev.clock) ∧
    (∃ (i : Fin 4) (falling : Bool) (s : State) (c : W32),
      c = reg s.dev (capOff i) ∧ bit c 31 = true ∧ bit c 28 = falling ∧ (Tbl.getD s.dev.time.cap i {}).at_ = 0) ∧
    (∃ (i : Fin 4) (falling : Bool) (s : State) (c : W32),
      c = reg s.dev (capOff i) ∧ bit c 31 = true ∧ bit c 28 = falling ∧
      (Tbl.getD s.dev.time.cap i {}).at_ = s.dev.clock + 1) :=
  ⟨⟨7, 0xC0000000#32, (on up), _, _, by decide, by decide, rfl, rfl⟩,
   ⟨7, 0x40000000#32, (on (setTrg up 7 { running := true, pulseEnd := some 2000 })), _, by decide, rfl⟩,
   ⟨3, by decide⟩,
   ⟨5, 3, 10 ^ 30, by decide, by decide⟩,
   ⟨0,
    (on (setBase (setTrg { up with regs := [(0x220800, 0x80000000#32)] } 0 { running := true, next := 0 }) 0 { value := 10 ^ 30 })),
    _, _, by decide, by decide, by decide, rfl, rfl, by decide⟩,
   ⟨0, (on (setTrg up 0 { pulseEnd := some 5 })), 5, by decide, by decide⟩,
   ⟨3, true, (on { up with regs := [(0x220930, 0x90000000#32)] }), _, rfl, by decide, by decide, by decide⟩,
   ⟨3, false, (on { up with regs := [(0x220930, 0x80000000#32)], time := { cap := [(3, { at_ := 1001 })] } }), _,
    rfl, by decide, by decide, by decide⟩⟩

theorem wit_AgentFollowsMaster :
    (∃ (p : Fin 128) (m : PtpMsg) (s : State),
      agentPort s.dev p = true ∧ m.offset = none) ∧
    (∃ (p : Fin 128) (m : PtpMsg) (s : State) (o : Int),
      agentPort s.dev p = true ∧ m.offset = some o ∧ m.slave = true ∧ maySlave s.dev p = true ∧ 1000000 < o.natAbs) ∧
    (∃ (b : Fin 4) (s : State),
      agentOn s.dev b = true ∧ (tbase s.dev b).lastSync + 1500000000 ≤ s.dev.clock) ∧
    (∃ (p : Fin 128) (s : State),
      agentPort s.dev p = true ∧ isLine s.dev p = false ∧ allExpress s.dev p = false ∧ muted s.dev = false ∧
      bit (reg s.dev (ctlOff (ptpBase s.dev p))) 27 = false) ∧
    (∃ (p : Fin 128) (s : State),
      agentPort s.dev p = true ∧ isLine s.dev p = false ∧ allExpress s.dev p = false ∧ muted s.dev = true) ∧
    (∃ (p : Fin 128) (s : State) (data : Bytes),
      agentPort s.dev p = true ∧ isLine s.dev p = false ∧ allExpress s.dev p = true ∧
      bit (reg s.dev (ctlOff (ptpBase s.dev p))) 27 = false ∧
      data = fit 60 (Config.agentFrame p 0 (bits (reg s.dev (ctlOff (ptpBase s.dev p))) 23 16) s.dev.clock)) ∧
    (∃ (p : Fin 128) (s : State) (k : Nat) (i : Nat) (y : SecY),
      agentPort s.dev p = true ∧ isLine s.dev p = true ∧ bit (reg s.dev (ctlOff (ptpBase s.dev p))) 27 = false ∧
      bit (msPort s.dev p) 31 = true ∧ k = bits (msPort s.dev p) 25 16 ∧ allExpress s.dev p = false ∧
      flFits s.dev p k = true ∧ s.dev.ms.owed = [] ∧ secy s.dev k = some y ∧ y.port = p.val ∧
      encodingSa s.dev k = some i) ∧
    (∃ (p : Fin 128) (s : State) (k : Nat),
      agentPort s.dev p = true ∧ isLine s.dev p = true ∧ bit (reg s.dev (ctlOff (ptpBase s.dev p))) 27 = false ∧
      bit (msPort s.dev p) 31 = true ∧ k = bits (msPort s.dev p) 25 16 ∧ allExpress s.dev p = false ∧
      flFits s.dev p k = true ∧ s.dev.ms.owed = [] ∧ secy s.dev k = none) :=
  ⟨⟨3, { type := 1, slave := false, offset := none }, (on ptpUp), by decide, by decide⟩,
   ⟨3, { type := 0, slave := true, offset := some 1000001 }, (on ptpUp), 1000001, by decide, by decide, by decide,
    by decide, by decide⟩,
   ⟨0, (on { ptpUp with clock := 1500000000 }), by decide, by decide⟩,
   ⟨3, (on ptpUp), by decide, by decide, by decide, by decide, by decide⟩,
   ⟨3, (on { ptpUp with tmp := { halted := true } }), by decide, by decide, by decide, by decide⟩,
   ⟨1, (on expressUp), _, by decide, by decide, by decide, by decide, rfl⟩,
   ⟨2, (on (agentMs (msUp (some 0)).ms)), 5, 12, secy1, by decide, by decide, by decide, by decide, by decide,
    by decide, by decide, by decide, by decide, by decide, by decide⟩,
   ⟨2, (on (agentMs {})), 5, by decide, by decide, by decide, by decide, by decide, by decide, by decide, by decide,
    by decide⟩⟩

theorem wit_SlotDeleteErases :
    (∃ (r : Fin 64) (s : State) (f : Fetched) (rest : List Fetched) (i : Nat) (o : Origin),
      Runs s.dev r 0x0312 anyRight slotOnlyOwn f rest ∧ i = slotNo16 f.desc 20 ∧ o = originOf s.dev r f ∧
      slotInRange s.dev (cmdOwner s.dev r) i = false) ∧
    (∃ (r : Fin 64) (s : State) (f : Fetched) (rest : List Fetched) (i : Nat) (o : Origin),
      Runs s.dev r 0x0312 anyRight slotOnlyOwn f rest ∧ i = slotNo16 f.desc 20 ∧ o = originOf s.dev r f ∧
      slotInRange s.dev (cmdOwner s.dev r) i = true ∧ genFull s.dev i = true) ∧
    (∃ (r : Fin 64) (s : State) (f : Fetched) (rest : List Fetched) (i : Nat) (o : Origin),
      Runs s.dev r 0x0312 anyRight slotOnlyOwn f rest ∧ i = slotNo16 f.desc 20 ∧ o = originOf s.dev r f ∧
      slotInRange s.dev (cmdOwner s.dev r) i = true ∧ genFull s.dev i = false ∧ mirrorRole s.dev i = true) ∧
    (∃ (r : Fin 64) (s : State) (f : Fetched) (rest : List Fetched) (i : Nat) (o : Origin),
      Runs s.dev r 0x0312 anyRight slotOnlyOwn f rest ∧ i = slotNo16 f.desc 20 ∧ o = originOf s.dev r f ∧
      slotInRange s.dev (cmdOwner s.dev r) i = true ∧ genFull s.dev i = false ∧ mirrorRole s.dev i = false) :=
  ⟨⟨0, (withCmd { up with regs := [(0x1C0100, 0#32)] } (fet 0x0312 0 ([5#8]))), (fet 0x0312 0 ([5#8])), [], _, _,
    runs_of (by decide), rfl, rfl, by decide⟩,
   ⟨0,
    (withCmd { drbgUp with key := { slots := [(5, { state := 1, key := zeros 32, type := 1, len := 32, gen := 0xFFFFFFFF#32 })] } } (fet 0x0312 0 ([5#8]))),
    (fet 0x0312 0 ([5#8])), [], _, _, runs_of (by decide), rfl, rfl, by decide, by decide⟩,
   ⟨0, (withCmd { drbgUp with duet := { up.duet with role := .standby } } (fet 0x0312 0 ([0#8, 3#8]))),
    (fet 0x0312 0 ([0#8, 3#8])), [], _, _, runs_of (by decide), rfl, rfl, by decide, by decide, by decide⟩,
   ⟨0, (withCmd (slotUp 0#16) (fet 0x0312 0 ([5#8]))), (fet 0x0312 0 ([5#8])), [], _, _, runs_of (by decide), rfl,
    rfl, by decide, by decide, by decide⟩⟩

theorem wit_KeyInvalidateStalesChildren :
    (∃ (r : Fin 64) (s : State) (f : Fetched) (rest : List Fetched) (i : Nat) (g : W32),
      Runs s.dev r 0x0314 anyRight slotOnlyOwn f rest ∧ i = slotNo16 f.desc 20 ∧ g = (slot s.dev i).gen + 1#32 ∧
      slotInRange s.dev (cmdOwner s.dev r) i = true ∧ (slot s.dev i).state ≠ 0 ∧ genFull s.dev i = false ∧
      mirrorRole s.dev i = false) ∧
    (∃ (d : Device) (i : Nat) (k : Nat),
      (slot d k).parent = some (i, (slot d i).gen) ∧ k ≠ i) :=
  ⟨⟨0, (withCmd (slotUp 0#16) (fet 0x0314 0 ([5#8]))), (fet 0x0314 0 ([5#8])), [], _, _, runs_of (by decide), rfl,
    rfl, by decide, by decide, by decide, by decide⟩,
   ⟨{ up with key := { slots := [(7, { parent := some (5, 0#32) })] } }, 5, 7, by decide, by decide⟩⟩

theorem wit_SlotWritesFillEmptySlot :
    (∃ (r : Fin 64) (s : State) (f : Fetched) (rest : List Fetched) (i : Nat),
      Runs s.dev r 0x0310 anyRight importOwn f rest ∧ i = slotNo f.desc 20 ∧ leField f.desc 22 1 = 1 ∧
      leField f.desc 23 1 = 1 ∧ (originOf s.dev r f).bufLen = 32 ∧ s.dev.glb.mode = .provision ∧
      slotInRange s.dev (cmdOwner s.dev r) i = true ∧ (slot s.dev i).state = 0 ∧
      (slot s.dev i).reserved = false ∧ attrBad 1 (leField f.desc 26 2) i = false ∧
      mirrorBad (leField f.desc 26 2) i none = false ∧ genFull s.dev i = false ∧ mirrorRole s.dev i = false) ∧
    (∃ (r : Fin 64) (s : State) (f : Fetched) (rest : List Fetched) (i : Nat) (n : Nat),
      Runs s.dev r 0x0311 anyRight generateOwn f rest ∧ i = slotNo16 f.desc 20 ∧ leField f.desc 22 1 = 2 ∧
      n = leField f.desc 26 1 ∧ (originOf s.dev r f).bufLen = 0 ∧
      slotInRange s.dev (cmdOwner s.dev r) i = true ∧ (slot s.dev i).state = 0 ∧
      (slot s.dev i).reserved = false ∧ attrBad 2 (leField f.desc 24 2) i = false ∧
      mirrorBad (leField f.desc 24 2) i none = false ∧ drbgOk s.dev = true ∧ genFull s.dev i = false ∧
      mirrorRole s.dev i = false) ∧
    (∃ (i : Nat) (k : _),
      k ≠ i) :=
  ⟨⟨0, (withCmd (inMode .provision) (fet 0x0310 32 ([255#8, 1#8, 1#8, 1#8]))),
    (fet 0x0310 32 ([255#8, 1#8, 1#8, 1#8])), [], _, runs_of (by decide), rfl, by decide, by decide, by decide,
    by decide, by decide, by decide, by decide, by decide, by decide, by decide, by decide⟩,
   ⟨0, (withCmd drbgUp (fet 0x0311 0 ([2#8, 0#8, 2#8, 0#8, 0#8, 0#8, 64#8]))),
    (fet 0x0311 0 ([2#8, 0#8, 2#8, 0#8, 0#8, 0#8, 64#8])), [], _, _, runs_of (by decide), rfl, by decide, rfl,
    by decide, by decide, by decide, by decide, by decide, by decide, by decide, by decide, by decide⟩,
   ⟨6, 5, by decide⟩⟩

theorem wit_SweepMarksBadSlots :
    (∃ (val : W32) (i : Nat),
      i = bits val 9 0) ∧
    (∃ (s : State),
      bit (reg s.dev 0x1C0020) 31 = true ∧
      ((∀ k : Nat, (slot s.dev k).state = 1 → checkValue s.dev (slot s.dev k).type (slot s.dev k).key (slot s.dev k).attr (slot s.dev k).gen = (slot s.dev k).check))) ∧
    (∃ (d : Device) (i : Nat),
      (slot d i).state = 1 ∧ (slot d i).gen ≠ 0xFFFFFFFF#32 ∧
      checkValue d (slot d i).type (slot d i).key (slot d i).attr (slot d i).gen ≠ (slot d i).check) ∧
    (∃ (d : Device) (i : Nat) (k : _),
      (slot d i).state = 1 ∧ (slot d i).gen ≠ 0xFFFFFFFF#32 ∧
      checkValue d (slot d i).type (slot d i).key (slot d i).attr (slot d i).gen ≠ (slot d i).check ∧ k ≠ i) :=
  ⟨⟨5#32, _, rfl⟩,
   ⟨(on up), by decide, fun k h => absurd h (by show ¬ ((0 : Nat) = 1); decide)⟩,
   ⟨badSlotUp, 5, by decide, by decide, badSlot_check⟩,
   ⟨badSlotUp, 5, 6, by decide, by decide, badSlot_check, by decide⟩⟩

theorem wit_AttestAndExportComplete :
    (∃ (r : Fin 64) (s : State) (f : Fetched) (rest : List Fetched) (x : Device × Job),
      Runs s.dev r 0x0010 anyRight attestOwn f rest ∧ (originOf s.dev r f).bufLen = 276 ∧ s.dev.tmp.identity = true ∧
      drbgOk s.dev = true ∧
      x = accepted (taken s.dev r rest) { origin := originOf s.dev r f, opcode := 0x0010, desc := f.desc, buf := fit 276 [] } ∧
      freeEngine s.dev.svc.pkRun = none ∧ pkWaiting s.dev < 64) ∧
    (∃ (r : Fin 64) (s : State) (f : Fetched) (rest : List Fetched) (x : Device × Job) (k : _),
      Runs s.dev r 0x0010 anyRight attestOwn f rest ∧ (originOf s.dev r f).bufLen = 276 ∧ s.dev.tmp.identity = true ∧
      drbgOk s.dev = true ∧
      x = accepted (taken s.dev r rest) { origin := originOf s.dev r f, opcode := 0x0010, desc := f.desc, buf := fit 276 [] } ∧
      freeEngine s.dev.svc.pkRun = some k ∧ s.dev.svc.pkQueue = []) ∧
    (∃ (e : Fin 2) (s : State) (j : Job) (t : Tree) (d : Device) (body : Bytes),
      Tbl.get? s.dev.svc.pkRun e = some j ∧ s.dev.key.tree = some t ∧ j.opcode = 0x0010 ∧
      body = attestBodyBytes s.dev s.fuses t (slice j.desc 24 32) ∧
      d = count (leavePk (drbgRequest s.dev 40) e) (unitCtr 9 e)) ∧
    (∃ (r : Fin 64) (s : State) (f : Fetched) (rest : List Fetched) (x : Device × Job),
      Runs s.dev r 0x0313 anyRight exportOwn f rest ∧
      exportCheck (taken s.dev r rest) (cmdOwner s.dev r) (slotNo16 f.desc 20) (slotNo16 f.desc 22) (originOf s.dev r f).bufLen = (taken s.dev r rest, none) ∧
      freeEngine s.dev.svc.symRun = none ∧ s.dev.svc.symQueue.length < 256 ∧
      x = accepted (taken s.dev r rest) { origin := originOf s.dev r f, opcode := 0x0313, desc := f.desc, buf := fit (originOf s.dev r f).bufLen [] }) ∧
    (∃ (e : Fin 2) (s : State) (j : Job) (w : Bytes),
      Tbl.get? s.dev.svc.symRun e = some j ∧ j.opcode = 0x0313 ∧ w = wrapKey j.res.type j.res.wrap j.res.key) :=
  ⟨⟨0, (withCmd { busyUp with tmp := { identity := true } } (fet 0x0010 276 ([]))), (fet 0x0010 276 ([])), [], _,
    runs_of (by decide), by decide, by decide, by decide, rfl, by decide, by decide⟩,
   ⟨0, (withCmd { drbgUp with tmp := { identity := true } } (fet 0x0010 276 ([]))), (fet 0x0010 276 ([])), [], _, 0,
    runs_of (by decide), by decide, by decide, by decide, rfl, by decide, by decide⟩,
   ⟨1,
    (on { drbgUp with key := { tree := some tree0 }, svc := { drbgUp.svc with pkRun := [(1, jobOf 0x10 276 [] [])] } }),
    jobOf 0x10 276 [] [], tree0, _, _, by decide, by decide, by decide, rfl, rfl⟩,
   ⟨0, (withCmd { busyUp with key := exportUp.key } exportDesc), exportDesc, [], _, runs_of (by decide),
    export_ok _ rfl, by decide, by decide, rfl⟩,
   ⟨0, (on { up with svc := { symRun := [(0, jobOf 0x313 40 [] [])] } }), jobOf 0x313 40 [] [], _, by decide,
    by decide, rfl⟩⟩

theorem wit_JobsAcceptedInOrder :
    (∃ (r : Fin 64) (s : State) (f : Fetched) (rest : List Fetched) (buf : Bytes) (o : Origin) (x : Device × Job),
      Runs s.dev r 0x0300 anyRight symOwn f rest ∧ o = originOf s.dev r f ∧ leField f.desc 20 1 = 5 ∧
      (byteAt f.desc 21).getLsbD 0 = false ∧ symLenBad o f.desc = none ∧
      x = accepted (taken s.dev r rest) { origin := o, opcode := 0x0300, desc := f.desc, buf := fit o.bufLen buf } ∧
      freeEngine s.dev.svc.symRun = none ∧ s.dev.svc.symQueue.length < 256) ∧
    (∃ (r : Fin 64) (s : State) (f : Fetched) (rest : List Fetched) (buf : Bytes) (o : Origin) (x : Device × Job)
        (k : _),
      Runs s.dev r 0x0300 anyRight symOwn f rest ∧ o = originOf s.dev r f ∧ leField f.desc 20 1 = 5 ∧
      (byteAt f.desc 21).getLsbD 0 = false ∧ symLenBad o f.desc = none ∧
      x = accepted (taken s.dev r rest) { origin := o, opcode := 0x0300, desc := f.desc, buf := fit o.bufLen buf } ∧
      freeEngine s.dev.svc.symRun = some k ∧ s.dev.svc.symQueue = []) ∧
    (∃ (r : Fin 64) (s : State) (f : Fetched) (rest : List Fetched) (buf : Bytes) (o : Origin) (x : Device × Job),
      Runs s.dev r 0x0301 anyRight pkOwn f rest ∧ o = originOf s.dev r f ∧ leField f.desc 20 1 = 1 ∧
      leField f.desc 21 1 = 0 ∧ o.bufLen = pkBufLen (some p256) f.desc ∧
      x = accepted (taken s.dev r rest) { origin := o, opcode := 0x0301, desc := f.desc, buf := fit o.bufLen buf } ∧
      freeEngine s.dev.svc.pkRun = none ∧ pkWaiting s.dev < 64) ∧
    (∃ (r : Fin 64) (s : State) (f : Fetched) (rest : List Fetched) (buf : Bytes) (o : Origin) (x : Device × Job)
        (k : _),
      Runs s.dev r 0x0301 anyRight pkOwn f rest ∧ o = originOf s.dev r f ∧ leField f.desc 20 1 = 1 ∧
      leField f.desc 21 1 = 0 ∧ o.bufLen = pkBufLen (some p256) f.desc ∧
      x = accepted (taken s.dev r rest) { origin := o, opcode := 0x0301, desc := f.desc, buf := fit o.bufLen buf } ∧
      freeEngine s.dev.svc.pkRun = some k ∧ s.dev.svc.pkQueue = [] ∧ drbgOk s.dev = true) ∧
    (∃ (r : Fin 64) (s : State) (f : Fetched) (rest : List Fetched) (buf : Bytes) (o : Origin) (x : Device × Job)
        (n : Nat),
      Runs s.dev r 0x0302 anyRight curveOwn f rest ∧ o = originOf s.dev r f ∧ leField f.desc 20 1 ≤ 7 ∧
      1 ≤ leField f.desc 21 1 ∧ leField f.desc 21 1 ≤ 4 ∧ n = leField f.desc 22 2 ∧ 224 ≤ n ∧ n ≤ 521 ∧
      o.bufLen = 6 * ((n + 7) / 8) ∧ s.dev.key.slots = [] ∧
      x = accepted (taken s.dev r rest) { origin := o, opcode := 0x0302, desc := f.desc, buf := fit o.bufLen buf } ∧
      freeEngine s.dev.svc.pkRun = none ∧ pkWaiting s.dev < 64) ∧
    (∃ (r : Fin 64) (s : State) (f : Fetched) (rest : List Fetched) (buf : Bytes) (o : Origin) (x : Device × Job)
        (n : Nat) (k : _),
      Runs s.dev r 0x0302 anyRight curveOwn f rest ∧ o = originOf s.dev r f ∧ leField f.desc 20 1 ≤ 7 ∧
      1 ≤ leField f.desc 21 1 ∧ leField f.desc 21 1 ≤ 4 ∧ n = leField f.desc 22 2 ∧ 224 ≤ n ∧ n ≤ 521 ∧
      o.bufLen = 6 * ((n + 7) / 8) ∧ s.dev.key.slots = [] ∧
      x = accepted (taken s.dev r rest) { origin := o, opcode := 0x0302, desc := f.desc, buf := fit o.bufLen buf } ∧
      freeEngine s.dev.svc.pkRun = some k ∧ s.dev.svc.pkQueue = [] ∧ drbgOk s.dev = true) ∧
    (∃ (r : Fin 64) (s : State) (f : Fetched) (rest : List Fetched) (o : Origin) (x : Device × Job),
      Runs s.dev r 0x0303 anyRight drbgOwn f rest ∧ o = originOf s.dev r f ∧ 1 ≤ o.bufLen ∧ o.bufLen ≤ 65536 ∧
      drbgOk s.dev = true ∧
      x = accepted (taken s.dev r rest) { origin := o, opcode := 0x0303, desc := f.desc, buf := fit o.bufLen [] }) ∧
    (∃ (r : Fin 64) (s : State) (f : Fetched) (rest : List Fetched) (buf : Bytes) (b : Bytes) (o : Origin)
        (x : Device × Job),
      Runs s.dev r 0x0304 anyRight (fun desc => zeroFrom desc 20 63) f rest ∧ o = originOf s.dev r f ∧
      s.dev.boot.enrolled = true ∧ b = fit o.bufLen buf ∧ o.bufLen = 16 + 4 * leField b 2 2 + 64 ∧
      updateShapeOk b = true ∧ s.dev.svc.revSeq < leField b 8 8 ∧
      x = accepted (taken s.dev r rest) { origin := o, opcode := 0x0304, desc := f.desc, buf := b } ∧
      freeEngine s.dev.svc.pkRun = none ∧ pkWaiting s.dev < 64) ∧
    (∃ (r : Fin 64) (s : State) (f : Fetched) (rest : List Fetched) (buf : Bytes) (b : Bytes) (o : Origin)
        (x : Device × Job) (k : _),
      Runs s.dev r 0x0304 anyRight (fun desc => zeroFrom desc 20 63) f rest ∧ o = originOf s.dev r f ∧
      s.dev.boot.enrolled = true ∧ b = fit o.bufLen buf ∧ o.bufLen = 16 + 4 * leField b 2 2 + 64 ∧
      updateShapeOk b = true ∧ s.dev.svc.revSeq < leField b 8 8 ∧
      x = accepted (taken s.dev r rest) { origin := o, opcode := 0x0304, desc := f.desc, buf := b } ∧
      freeEngine s.dev.svc.pkRun = some k ∧ s.dev.svc.pkQueue = []) :=
  ⟨⟨0, (withCmd busyUp (fet 0x0300 3 ([5#8, 0#8, 0#8, 0#8, 3#8, 0#8] ++ zeros 22 ++ [32#8]))),
    (fet 0x0300 3 ([5#8, 0#8, 0#8, 0#8, 3#8, 0#8] ++ zeros 22 ++ [32#8])), [], [1#8, 2#8, 3#8], _, _,
    runs_of (by decide), rfl, by decide, by decide, by decide, rfl, by decide, by decide⟩,
   ⟨0, (withCmd up (fet 0x0300 3 ([5#8, 0#8, 0#8, 0#8, 3#8, 0#8] ++ zeros 22 ++ [32#8]))),
    (fet 0x0300 3 ([5#8, 0#8, 0#8, 0#8, 3#8, 0#8] ++ zeros 22 ++ [32#8])), [], [1#8, 2#8, 3#8], _, _, 0,
    runs_of (by decide), rfl, by decide, by decide, by decide, rfl, by decide, by decide⟩,
   ⟨0, (withCmd busyUp (fet 0x0301 161 ([1#8]))), (fet 0x0301 161 ([1#8])), [], zeros 161, _, _,
    runs_of (by decide), rfl, by decide, by decide, by decide, rfl, by decide, by decide⟩,
   ⟨0, (withCmd drbgUp (fet 0x0301 161 ([1#8]))), (fet 0x0301 161 ([1#8])), [], zeros 161, _, _, 0,
    runs_of (by decide), rfl, by decide, by decide, by decide, rfl, by decide, by decide, by decide⟩,
   ⟨0, (withCmd busyUp (fet 0x0302 168 ([7#8, 1#8, 224#8, 0#8]))), (fet 0x0302 168 ([7#8, 1#8, 224#8, 0#8])), [],
    zeros 168, _, _, _, runs_of (by decide), rfl, by decide, by decide, by decide, rfl, by decide, by decide,
    by decide, by decide, rfl, by decide, by decide⟩,
   ⟨0, (withCmd drbgUp (fet 0x0302 168 ([7#8, 1#8, 224#8, 0#8]))), (fet 0x0302 168 ([7#8, 1#8, 224#8, 0#8])), [],
    zeros 168, _, _, _, 0, runs_of (by decide), rfl, by decide, by decide, by decide, rfl, by decide, by decide,
    by decide, by decide, rfl, by decide, by decide, by decide⟩,
   ⟨0, (withCmd drbgUp (fet 0x0303 65536 ([]))), (fet 0x0303 65536 ([])), [], _, _, runs_of (by decide), rfl,
    by decide, by decide, by decide, rfl⟩,
   ⟨0, (withCmd busyUp (fet 0x0304 84 ([]))), (fet 0x0304 84 ([])), [],
    [1#8, 0#8, 1#8, 0#8, 0#8, 0#8, 0#8, 0#8, 1#8], _, _, _, runs_of (by decide), rfl, by decide, rfl, by decide,
    by decide, by decide, rfl, by decide, by decide⟩,
   ⟨0, (withCmd up (fet 0x0304 84 ([]))), (fet 0x0304 84 ([])), [], [1#8, 0#8, 1#8, 0#8, 0#8, 0#8, 0#8, 0#8, 1#8],
    _, _, _, 0, runs_of (by decide), rfl, by decide, rfl, by decide, by decide, by decide, rfl, by decide,
    by decide⟩⟩

theorem wit_EnginesServeInOrder :
    (∃ (i : Fin 2) (s : State) (j : Job) (rest : List Job),
      freeEngine s.dev.svc.symRun = some i.val ∧ s.dev.svc.symQueue = j :: rest ∧ j.opcode = 0x0300 ∧ 5 ≤ symMode j ∧
      symMode j ≤ 7) ∧
    (∃ (i : Fin 2) (s : State) (j : Job) (rest : List Job),
      freeEngine s.dev.svc.pkRun = some i.val ∧ s.dev.svc.pkQueue = j :: rest ∧ j.opcode = 0x0302 ∧
      drbgOk s.dev = true) ∧
    (∃ (e : Fin 2) (s : State) (long : Job) (l : Job) (j : Job) (d : Device),
      Tbl.get? s.dev.svc.pkRun e = some long ∧ longJob long = true ∧ Tbl.has s.dev.svc.yielded e = false ∧
      s.dev.svc.pkQueue = [j] ∧ shortJob j = true ∧ drbgOk s.dev = true ∧ leField j.desc 20 1 = 1 ∧
      long.points < yieldPoints long ∧ engineTime long (yieldAt long (long.points + 1)) ≤ s.dev.clock ∧
      l = { long with points := long.points + 1, spent := long.spent + (s.dev.clock - long.started) } ∧
      d = { s.dev with svc := { s.dev.svc with pkQueue := [], yielded := Tbl.put (Tbl.put s.dev.svc.yielded e (l, [])) e (l, []), pkRun := Tbl.put (Tbl.put s.dev.svc.pkRun e { long with points := long.points + 1 }) e { j with started := s.dev.clock } } }) ∧
    (∃ (e : Fin 2) (s : State) (long : Job),
      Tbl.get? s.dev.svc.pkRun e = some long ∧ longJob long = true ∧ Tbl.has s.dev.svc.yielded e = false ∧
      s.dev.svc.pkQueue = [] ∧ long.points < yieldPoints long ∧
      engineTime long (yieldAt long (long.points + 1)) ≤ s.dev.clock) ∧
    (∃ (e : Fin 2) (s : State) (long : Job),
      Tbl.get? s.dev.svc.pkRun e = some long ∧ longJob long = true ∧ Tbl.has s.dev.svc.yielded e = false ∧
      s.dev.svc.pkQueue = [] ∧ yieldPoints long ≤ long.points) :=
  ⟨⟨0, (on { up with svc := { symQueue := [jobOf 0x300 0 [7#8] []] } }), jobOf 0x300 0 [7#8] [], [], by decide,
    by decide, by decide, by decide, by decide⟩,
   ⟨0, (on { drbgUp with svc := { drbgReady := true, pkQueue := [jobOf 0x302 0 [] []] } }), jobOf 0x302 0 [] [], [],
    by decide, by decide, by decide, by decide⟩,
   ⟨1,
    (on { drbgUp with clock := 100000, svc := { drbgReady := true, pkQueue := [jobOf 0x301 0 [1#8] []], pkRun := [(1, jobOf 0x301 0 [4#8, 0#8, 0#8, 0#8, 0#8, 64#8] [])] } }),
    jobOf 0x301 0 [4#8, 0#8, 0#8, 0#8, 0#8, 64#8] [], _, jobOf 0x301 0 [1#8] [], _, by decide, by decide,
    by decide, by decide, by decide, by decide, by decide, by decide, by decide, rfl, rfl⟩,
   ⟨0,
    (on { drbgUp with clock := 100000, svc := { drbgReady := true, pkRun := [(0, jobOf 0x301 0 [4#8, 0#8, 0#8, 0#8, 0#8, 64#8] [])] } }),
    jobOf 0x301 0 [4#8, 0#8, 0#8, 0#8, 0#8, 64#8] [], by decide, by decide, by decide, by decide, by decide,
    by decide⟩,
   ⟨0,
    (on { drbgUp with svc := { drbgReady := true, pkRun := [(0, { jobOf 0x301 0 [4#8, 0#8, 0#8, 0#8, 0#8, 64#8] [] with points := 8 })] } }),
    { jobOf 0x301 0 [4#8, 0#8, 0#8, 0#8, 0#8, 64#8] [] with points := 8 }, by decide, by decide, by decide,
    by decide, by decide⟩⟩

theorem wit_JobsEndWithTheirResult :
    (∃ (e : Fin 2) (s : State) (j : Job) (out : Bytes) (k : Nat) (d : Device) (d1 : Device),
      Tbl.get? s.dev.svc.symRun e = some j ∧ j.opcode = 0x0300 ∧ symMode j ≤ 3 ∧
      symResult j.res.key j.desc j.buf = (some out, k) ∧
      d = count (count (leaveSym s.dev e) (unitCtr 7 e)) (unitCtr 8 e) (leField j.desc 24 2) ∧
      writeBuf d j.origin (leField j.desc 40 8) (leField j.desc 48 4) out = some d1) ∧
    (∃ (e : Fin 2) (s : State) (j : Job) (d : Device) (ok : Bool),
      Tbl.get? s.dev.svc.pkRun e = some j ∧ j.opcode = 0x0301 ∧ leField j.desc 20 1 = 1 ∧ leField j.desc 21 1 = 0 ∧
      j.started + 48000 ≤ s.dev.clock ∧ d = count (leavePk (drbgRequest s.dev 80) e) (unitCtr 9 e) ∧
      pkResult (some p256) (drbgBytes s.dev 80) j.res.key j.desc j.buf = .ok (.verdict ok)) ∧
    (∃ (e : Fin 2) (s : State) (j : Job) (c : Curve) (d : Device),
      Tbl.get? s.dev.svc.pkRun e = some j ∧ j.opcode = 0x0302 ∧ c = curveOf j.desc j.buf ∧
      j.started + curveMicros c.bits * 500 ≤ s.dev.clock ∧
      d = count (leavePk (drbgRequest s.dev 8448) e) (unitCtr 9 e)) ∧
    (∃ (s : State) (j : Job) (rest : List Job),
      s.dev.svc.drbgQueue = j :: rest ∧ drbgOk s.dev = true ∧ (byteAt j.desc 20).getLsbD 0 = false) ∧
    (∃ (s : State),
      drbgOk s.dev = true ∧ s.dev.svc.reseedAt + reseedS s.dev * 500000000 ≤ s.dev.clock) ∧
    (∃ (s : State),
      s.dev.svc.drbgStopped = none) ∧
    (∃ (e : Fin 2) (s : State) (j : Job) (a : Bytes) (n : Nat) (d : Device),
      Tbl.get? s.dev.svc.pkRun e = some j ∧ j.opcode = 0x0304 ∧ j.started + 48000 ≤ s.dev.clock ∧
      d = count (leavePk s.dev e) (unitCtr 9 e) ∧ authority d = some a ∧ n = j.buf.length - 64 ∧
      d.svc.revSeq < leField j.buf 8 8 ∧ d.kn.assocs = []) :=
  ⟨⟨0, (on { up with svc := { symRun := [(0, jobOf 0x300 0 [0#8] [])] } }), jobOf 0x300 0 [0#8] [], _, _, _, _,
    by decide, by decide, by decide, rfl, rfl, rfl⟩,
   ⟨0, (on { up with clock := 48000, svc := { pkRun := [(0, verifyJob)] } }), verifyJob, _, true, by decide,
    by decide, by decide, by decide, by decide, rfl, by rfl⟩,
   ⟨0, (on { up with clock := 550000, svc := { pkRun := [(0, jobOf 0x302 0 [] [])] } }), jobOf 0x302 0 [] [], _, _,
    by decide, by decide, rfl, by decide, rfl⟩,
   ⟨(on { drbgUp with svc := { drbgReady := true, drbgQueue := [jobOf 0x303 5 [] []] } }), jobOf 0x303 5 [] [], [],
    by decide, by decide, by decide⟩,
   ⟨(on { drbgUp with clock := 5000000000 }), by decide, by decide⟩,
   ⟨(on drbgUp), by decide⟩,
   ⟨0,
    (on { up with clock := 48000, boot := { up.boot with flash := { enrolment := some { authority := [], cert := [], tag := [] } } }, svc := { pkRun := [(0, jobOf 0x304 84 [] (fit 84 (zeros 8 ++ [1#8])))] } }),
    jobOf 0x304 84 [] (fit 84 (zeros 8 ++ [1#8])), [], _, _, by decide, by decide, by decide, rfl, by decide,
    rfl, by decide, by decide⟩⟩

theorem wit_RecorderReports :
    (∃ (r : Fin 64) (s : State) (f : Fetched) (rest : List Fetched) (o : Origin) (x : Scanned) (max : Nat)
        (first : Nat),
      Runs s.dev r 0x0011 (fun _ fn => fn == 0) eventReadOwn f rest ∧ o = originOf s.dev r f ∧
      max = leField f.desc 32 4 ∧ 1 ≤ max ∧ max ≤ 4096 ∧ o.bufLen % 8 = 0 ∧ 520 ≤ o.bufLen ∧
      o.bufLen ≤ max * 520 ∧ first = leField f.desc 28 4 ∧
      findRecords s.dev (leField f.desc 20 1) (leField f.desc 24 4) ≠ [] ∧
      x = scanRecords (leField f.desc 20 1) (leField f.desc 24 4) max o.bufLen ((byteAt f.desc 21).getLsbD 0) ((findRecords s.dev (leField f.desc 20 1) (leField f.desc 24 4)).filter (fun g => first ≤ g.seq)) { dev := taken s.dev r rest, next := first }) ∧
    (∃ (r : Fin 64) (s : State) (f : Fetched) (rest : List Fetched) (first : Nat) (n : Nat),
      Runs s.dev r 0x0012 counterAccess (fun desc => zeroFrom desc 28 63) f rest ∧ first = leField f.desc 20 4 ∧
      n = leField f.desc 24 4 ∧ 1 ≤ n ∧ n ≤ 16384 ∧ first + n ≤ 131072 ∧
      (originOf s.dev r f).bufLen = 16 + 8 * n) ∧
    (∃ (s : State),
      s.dev.boot.ended = true ∧ s.dev.rcd.journalReady = true ∧ s.dev.rcd.dropped = []) ∧
    (∃ (s : State) (t : Tree),
      s.dev.rcd.journalReady = true ∧ s.dev.key.tree = some t) :=
  ⟨⟨0,
    (withCmd { up with rcd := { ring := [{ source := .tamper, type := 2, seq := 0#32, powerCycles := 0#32, opTimeUs := 0, domain := none, payload := [1#8, 2#8], delivered := false, journalled := false }] } } (fet 0x0011 520 ([1#8, 0#8, 0#8, 0#8, 0#8, 0#8, 0#8, 0#8, 0#8, 0#8, 0#8, 0#8, 1#8]))),
    (fet 0x0011 520 ([1#8, 0#8, 0#8, 0#8, 0#8, 0#8, 0#8, 0#8, 0#8, 0#8, 0#8, 0#8, 1#8])), [], _, _, _, _,
    runs_of (by decide), rfl, rfl, by decide, by decide, by decide, by decide, by decide, rfl, by decide, rfl⟩,
   ⟨0, (withCmd up (fet 0x0012 24 (leBytes 4 131071 ++ leBytes 4 1))),
    (fet 0x0012 24 (leBytes 4 131071 ++ leBytes 4 1)), [], _, _, runs_of (by decide), rfl, rfl, by decide,
    by decide, by decide, by decide⟩,
   ⟨(on { up with rcd := { journalReady := true, ring := [{ source := .tamper, type := 2, seq := 0#32, powerCycles := 0#32, opTimeUs := 0, domain := none, payload := [1#8, 2#8], delivered := false, journalled := false }] } }),
    by decide, by decide, by decide⟩,
   ⟨(on { up with rcd := { journalReady := true, opUnverified := true }, key := { tree := some tree0 } }), tree0,
    by decide, by decide⟩⟩

theorem wit_StatsReadWritesRecords :
    (∃ (r : Fin 64) (s : State) (f : Fetched) (rest : List Fetched) (first : Nat) (n : Nat),
      Runs s.dev r 0x0013 anyRight statsOwn f rest ∧ first = leField f.desc 20 3 ∧ n = leField f.desc 24 4 ∧
      (originOf s.dev r f).bufLen = 128 * n ∧ 1 ≤ n ∧ n ≤ 4096 ∧ first + n ≤ 262144) ∧
    (∃ (r : Fin 64) (s : State) (f : Fetched) (rest : List Fetched) (first : Nat) (n : Nat) (o : Origin),
      Runs s.dev r 0x0013 anyRight statsOwn f rest ∧ first = leField f.desc 20 3 ∧ n = leField f.desc 24 4 ∧
      o = originOf s.dev r f ∧ o.bufLen ≠ 128 * n) ∧
    (∃ (r : Fin 64) (s : State) (f : Fetched) (rest : List Fetched) (first : Nat) (n : Nat) (o : Origin),
      Runs s.dev r 0x0013 anyRight statsOwn f rest ∧ first = leField f.desc 20 3 ∧ n = leField f.desc 24 4 ∧
      o = originOf s.dev r f ∧ o.bufLen = 128 * n ∧ ((n = 0 ∨ 4096 < n))) ∧
    (∃ (r : Fin 64) (s : State) (f : Fetched) (rest : List Fetched) (first : Nat) (n : Nat) (o : Origin),
      Runs s.dev r 0x0013 anyRight statsOwn f rest ∧ first = leField f.desc 20 3 ∧ n = leField f.desc 24 4 ∧
      o = originOf s.dev r f ∧ o.bufLen = 128 * n ∧ 1 ≤ n ∧ n ≤ 4096 ∧ 262144 < first + n) :=
  ⟨⟨0, (withCmd up (fet 0x0013 128 (leBytes 4 262143 ++ leBytes 4 1))),
    (fet 0x0013 128 (leBytes 4 262143 ++ leBytes 4 1)), [], _, _, runs_of (by decide), rfl, rfl, by decide,
    by decide, by decide, by decide⟩,
   ⟨0, (withCmd up (fet 0x0013 127 (leBytes 4 0 ++ leBytes 4 1))), (fet 0x0013 127 (leBytes 4 0 ++ leBytes 4 1)),
    [], _, _, _, runs_of (by decide), rfl, rfl, rfl, by decide⟩,
   ⟨0, (withCmd up (fet 0x0013 524416 (leBytes 4 0 ++ leBytes 4 4097))),
    (fet 0x0013 524416 (leBytes 4 0 ++ leBytes 4 4097)), [], _, _, _, runs_of (by decide), rfl, rfl, rfl,
    by decide, Or.inr (by decide)⟩,
   ⟨0, (withCmd up (fet 0x0013 256 (leBytes 4 262143 ++ leBytes 4 2))),
    (fet 0x0013 256 (leBytes 4 262143 ++ leBytes 4 2)), [], _, _, _, runs_of (by decide), rfl, rfl, rfl,
    by decide, by decide, by decide, by decide⟩⟩

theorem wit_WritebackKeepsTotals :
    (∃ (s : State),
      Tbl.sorted s.dev.ms.acc = true) :=
  ⟨(on { up with ms := { acc := [(16, 5#64), (35, 0xFFFFFFFFFFFFFFFF#64)], stats := [(35, 2#64)] } }), by decide⟩

theorem wit_ResetsAndSupplies :
    (∃ (start : StartUp) (s : State) (d : Device),
      d = resetDevice s.dev start) ∧
    (∃ (s : State),
      s.dev.tmp.mainPower = true) ∧
    (∃ (val : W32),
      val ≠ 0x5E7A#32) ∧
    (∃ (f : Fin 16) (s : State),
      f.val ≠ 0 ∧ s.dev.hif.abortWaits = []) ∧
    (∃ (s : State),
      s.dev.tmp.pwrfail = false ∧ s.dev.tmp.mainPower = true ∧ s.dev.duet.role ≠ .active ∧
      s.dev.rcd.journalReady = true) :=
  ⟨⟨start0, (on up), _, rfl⟩,
   ⟨(on up), by decide⟩,
   ⟨0#32, by decide⟩,
   ⟨1, (on up), by decide, by decide⟩,
   ⟨(on { up with rcd := { journalReady := true, ring := [{ source := .tamper, type := 2, seq := 0#32, powerCycles := 0#32, opTimeUs := 0, domain := none, payload := [1#8, 2#8], delivered := false, journalled := false }] } }),
    by decide, by decide, by decide, by decide⟩⟩

theorem wit_StartUpChoosesMode :
    (∃ (d : Device) (bbk : Bytes),
      d.tmp.batt.signature = true ∧ d.tmp.batt.bbk = some bbk ∧ d.boot.ended = false) ∧
    (∃ (d : Device) (bbk : Bytes),
      d.tmp.batt.signature = true ∧ d.tmp.batt.bbk = some bbk ∧ d.boot.ended = false ∧ d.tmp.batt.latch = true ∧
      d.tmp.batt.grant = false) ∧
    (∃ (f : Fuses) (d : Device) (start : StartUp) (bbk : Bytes) (b : _),
      d.tmp.batt.signature = true ∧ d.tmp.batt.bbk = some bbk ∧ d.boot.ended = false ∧ d.tmp.batt.latch = false ∧
      b = (startUp f d start).boot) :=
  ⟨⟨{ up with boot := {}, tmp := { batt := { signature := true, bbk := some (zeros 32), latch := false } } },
    zeros 32, by decide, by decide, by decide⟩,
   ⟨{ up with boot := {}, tmp := { batt := { signature := true, bbk := some (zeros 32), latch := true } } },
    zeros 32, by decide, by decide, by decide, by decide, by decide⟩,
   ⟨Fuses.fresh,
    { up with boot := {}, tmp := { batt := { signature := true, bbk := some (zeros 32), latch := false } } },
    start0, zeros 32, _, by decide, by decide, by decide, by decide, rfl⟩⟩

theorem wit_EnrolmentAndSupplements :
    (∃ (r : Fin 64) (s : State) (f : Fetched) (rest : List Fetched) (buf : Bytes) (b : Bytes) (o : Origin) (x : Enrol),
      Runs s.dev r 0x0020 anyRight (fun desc => zeroBits desc 20 0xFC :: zeroFrom desc 21 63) f rest ∧
      o = originOf s.dev r f ∧ o.bufLen = 216 ∧ b = fit 216 buf ∧ allZero (slice b 65 3) = true ∧
      certIsOwn s.dev s.fuses (slice b 68 148) = true ∧ s.dev.boot.flash.enrolment = none ∧
      s.dev.boot.enrol = none ∧
      x = { origin := o, enterField := (byteAt f.desc 20).getLsbD 0, debugKill := (byteAt f.desc 20).getLsbD 1, buf := b }) ∧
    (∃ (s : State) (x : Enrol),
      s.dev.boot.enrol = some x ∧ s.dev.key.tree.isSome = true) ∧
    (∃ (r : Fin 64) (s : State) (f : Fetched) (rest : List Fetched) (buf : Bytes) (b : Bytes) (x : Enrolment)
        (d : Device),
      Runs s.dev r 0x0021 anyRight (fun desc => zeroFrom desc 20 63) f rest ∧ s.dev.boot.enrolled = true ∧
      s.dev.boot.flash.enrolment = some x ∧ (originOf s.dev r f).bufLen = 148 ∧ b = fit 148 buf ∧
      certIsOwn s.dev s.fuses b = true ∧ certMember b = certMember x.cert ∧
      d = elapse (taken s.dev r rest) 48000) ∧
    (∃ (r : Fin 64) (s : State) (f : Fetched) (rest : List Fetched) (buf : Bytes) (b : Bytes) (o : Origin)
        (x : Install),
      Runs s.dev r 0x0022 anyRight suppOwn f rest ∧ o = originOf s.dev r f ∧ b = fit o.bufLen buf ∧
      o.bufLen = leField b 8 4 ∧ s.dev.boot.suppSlot ≠ leField f.desc 20 1 ∧
      leField f.desc 22 1 / 2 ^ suppKey b % 2 = 0 ∧ s.dev.boot.suppInstall = none ∧
      x = { origin := o, index := leField f.desc 20 1, advance := (byteAt f.desc 21).getLsbD 0, revoke := leField f.desc 22 1, image := b }) ∧
    (∃ (s : State) (x : Install),
      s.dev.boot.suppInstall = some x ∧ x.index = 0) :=
  ⟨⟨0,
    (withCmd { identUp with glb := (inMode .provision).glb, boot := { up.boot with enrolled := false } } (fet 0x0020 216 ([1#8]))),
    (fet 0x0020 216 ([1#8])), [], zeros 68 ++ testCert, _, _, _, runs_of (by decide), rfl, by decide, rfl,
    by decide, by decide, by decide, by decide, rfl⟩,
   ⟨(on { identUp with boot := { up.boot with enrol := some { origin := org, enterField := true, debugKill := false, buf := zeros 216 } } }),
    { origin := org, enterField := true, debugKill := false, buf := zeros 216 }, by decide, by decide⟩,
   ⟨0,
    (withCmd { identUp with glb := (inMode .provision).glb, boot := { up.boot with flash := { enrolment := some { authority := zeros 65, cert := testCert, tag := [] } } } } (fet 0x0021 148 ([]))),
    (fet 0x0021 148 ([])), [], testCert, _, { authority := zeros 65, cert := testCert, tag := [] }, _,
    runs_of (by decide), by decide, by decide, by decide, rfl, by decide, by decide, rfl⟩,
   ⟨0,
    (withCmd { inMode .provision with boot := { up.boot with suppSlot := 1 } } (fet 0x0022 256 ([0#8, 1#8, 0#8]))),
    (fet 0x0022 256 ([0#8, 1#8, 0#8])), [], image 8 4 256, _, _, _, runs_of (by decide), rfl, rfl, by decide,
    by decide, by decide, by decide, rfl⟩,
   ⟨(on { identUp with boot := { up.boot with suppInstall := some { origin := org, index := 0, advance := true, revoke := 8, image := image 8 4 256 } } }),
    { origin := org, index := 0, advance := true, revoke := 8, image := image 8 4 256 }, by decide, by decide⟩⟩

theorem wit_ProfilesAndRestart :
    (∃ (r : Fin 64) (s : State) (f : Fetched) (rest : List Fetched) (buf : Bytes) (b : Bytes) (o : Origin)
        (x : Install) (c : Nat × Nat),
      Runs s.dev r 0x0023 anyRight profInstallOwn f rest ∧ o = originOf s.dev r f ∧ b = fit o.bufLen buf ∧
      o.bufLen = leField b 6 2 ∧ profileInUse s.dev (leField f.desc 20 1) = false ∧
      s.dev.boot.profInstall = none ∧ c = (profileCheck s.dev s.fuses b).getD (0, 0) ∧
      x = { origin := o, index := leField f.desc 20 1, advance := false, revoke := 0, image := b }) ∧
    (∃ (s : State) (x : Install),
      s.dev.boot.profInstall = some x) ∧
    (∃ (r : Fin 64) (us : Fin 300001) (s : State) (f : Fetched) (rest : List Fetched) (i : Nat) (g : Region)
        (d : Device) (c : Nat × Nat),
      Runs s.dev r 0x0038 anyRight profInstallOwn f rest ∧ i = leField f.desc 20 1 ∧
      Tbl.get? s.dev.boot.flash.profiles i = some g ∧ s.dev.duet.role = .solo ∧
      selectDenied s.dev (some g.image) = false ∧ c = (profileCheck s.dev s.fuses g.image).getD (0, 0) ∧
      s.dev.boot.restart = none ∧
      d = beginRestart (enterInflight (taken s.dev r rest) (originOf s.dev r f) 0x0038) (originOf s.dev r f) i (readProfile g.image) us.val) ∧
    (∃ (s : State) (x : Restart),
      s.dev.boot.restart = some x ∧ s.pending = [] ∧ s.dev.clock + 1 < x.ends) ∧
    (∃ (s : State) (x : Restart),
      s.dev.boot.restart = some x ∧ s.pending = [] ∧ x.ends ≤ s.dev.clock + 1) :=
  ⟨⟨0, (withCmd (inMode .provision) (fet 0x0023 128 ([3#8]))), (fet 0x0023 128 ([3#8])), [], image 6 2 128, _, _, _,
    _, runs_of (by decide), rfl, rfl, by decide, by decide, by decide, rfl, rfl⟩,
   ⟨(on { identUp with boot := { up.boot with profInstall := some { origin := org, index := 2, advance := false, revoke := 0, image := image 6 2 128 } } }),
    { origin := org, index := 2, advance := false, revoke := 0, image := image 6 2 128 }, by decide⟩,
   ⟨0, 5,
    (withCmd { up with boot := { up.boot with flash := { profiles := [(3, { image := image 6 2 128, tag := [] })] } } } (fet 0x0038 0 ([3#8]))),
    (fet 0x0038 0 ([3#8])), [], _, { image := image 6 2 128, tag := [] }, _, _, runs_of (by decide), rfl,
    by decide, by decide, by decide, rfl, by decide, rfl⟩,
   ⟨(on { up with boot := { up.boot with restart := some { origin := org, index := 3, profile := { mode := .link }, us := 5, ends := 5000 } } }),
    { origin := org, index := 3, profile := { mode := .link }, us := 5, ends := 5000 }, by decide, by decide,
    by decide⟩,
   ⟨(on { up with boot := { up.boot with restart := some { origin := org, index := 3, profile := { mode := .link }, us := 5, ends := 1001 } } }),
    { origin := org, index := 3, profile := { mode := .link }, us := 5, ends := 1001 }, by decide, by decide,
    by decide⟩⟩

theorem wit_RebuildFreesQuarantine :
    (∃ (r : Fin 64) (s : State) (f : Fetched) (rest : List Fetched) (o : Origin) (l : List Quar) (d : Device),
      Runs s.dev r 0x0320 anyRight rebuildOwn f rest ∧ o = originOf s.dev r f ∧ leField f.desc 20 1 = 0 ∧
      leField f.desc 21 1 ≠ topLevel s.dev ∧
      l = s.dev.mem.quar.filter (fun q => q.level == leField f.desc 21 1 && q.node == leField f.desc 24 3) ∧
      l ≠ [] ∧
      d = { taken s.dev r rest with mem := { s.dev.mem with quar := s.dev.mem.quar.map (fun q => if l.contains q then { q with rebuilding := true } else q), rebuilds := s.dev.mem.rebuilds ++ [{ origin := o, nodes := l, roots := [] }] } }) ∧
    (∃ (s : State) (x : Rebuild) (rest : List Rebuild) (q : Quar),
      s.dev.mem.rebuilds = x :: rest ∧ x.nodes = [q] ∧ x.roots = []) ∧
    (∃ (s : State),
      bit (reg s.dev 0x1E0000) 31 = true ∧ s.dev.mem.ready = true) ∧
    (∃ (s : State) (line : Nat),
      bit (reg s.dev 0x1E0000) 31 = true ∧ s.dev.mem.ready = true ∧ line < 0xC0000 ∧ lineWritten s.dev line = true ∧
      quarantined s.dev line = false ∧ s.dev.mem.poison.length < 1024) :=
  ⟨⟨0,
    (withCmd { up with mem := { quar := [{ level := 0, node := 5 }, { level := 1, node := 5 }] } } (fet 0x0320 0 ([0#8, 0#8, 0#8, 0#8, 5#8]))),
    (fet 0x0320 0 ([0#8, 0#8, 0#8, 0#8, 5#8])), [], _, _, _, runs_of (by decide), rfl, by decide, by decide,
    rfl, by decide, rfl⟩,
   ⟨(on { up with mem := { quar := [{ level := 0, node := 5, rebuilding := true }, { level := 1, node := 5 }], poison := [321, 5], rebuilds := [{ origin := org, nodes := [{ level := 0, node := 5 }], roots := [] }] } }),
    { origin := org, nodes := [{ level := 0, node := 5 }], roots := [] }, [], { level := 0, node := 5 },
    by decide, by decide, by decide⟩,
   ⟨(on { up with regs := [(0x1E0000, 0x80000000#32)], mem := { ready := true } }), by decide, by decide⟩,
   ⟨(on { up with regs := [(0x1E0000, 0x80000000#32)], mem := { ready := true, groups := [(0, { major := 1, minors := [] })] } }),
    7, by decide, by decide, by decide, by decide, by decide, by decide⟩⟩

theorem wit_ProofRunsJudgePresses :
    (∃ (r : Fin 64) (s : State) (f : Fetched) (rest : List Fetched) (o : Origin),
      Runs s.dev r 0x0402 anyRight proofOwn f rest ∧ o = originOf s.dev r f ∧ s.dev.glb.part ≠ .lvt0800E) ∧
    (∃ (s : State) (o : Origin) (desc : Bytes) (rest : List (Origin × Bytes)),
      s.dev.prs.proofs = (o, desc) :: rest ∧ leField desc 20 1 = 1 ∧
      s.dev.cls.tcam.all (fun e => !e.2.badParity) = true) ∧
    (∃ (s : State) (o : Origin) (desc : Bytes) (rest : List (Origin × Bytes)) (m : Fin 24),
      s.dev.prs.proofs = (o, desc) :: rest ∧ leField desc 20 1 = 0 ∧ leField desc 21 3 = 2 ^ m.val ∧
      m.val < pressCount s.dev ∧ pressIn s.dev m = true) ∧
    (∃ (s : State) (o : Origin) (desc : Bytes) (rest : List (Origin × Bytes)) (m : Fin 24),
      s.dev.prs.proofs = (o, desc) :: rest ∧ leField desc 20 1 = 0 ∧ leField desc 21 3 = 2 ^ m.val ∧
      m.val < pressCount s.dev) :=
  ⟨⟨0, (withCmd (inMode .maintain) (fet 0x0402 0 ([2#8]))), (fet 0x0402 0 ([2#8])), [], _, runs_of (by decide), rfl,
    by decide⟩,
   ⟨(on { up with prs := { proofs := [(org, (fet 0x402 0 [1#8]).desc)], presses := [(5, {})] } }), org,
    (fet 0x402 0 [1#8]).desc, [], by decide, by decide, by decide⟩,
   ⟨(on { up with prs := { proofs := [(org, (fet 0x402 0 [0#8, 32#8]).desc)], presses := [(5, {})] } }), org,
    (fet 0x402 0 [0#8, 32#8]).desc, [], 5, by decide, by decide, by decide, by decide, by decide⟩,
   ⟨(on { up with prs := { proofs := [(org, (fet 0x402 0 [0#8, 32#8]).desc)], presses := [(5, {})] } }), org,
    (fet 0x402 0 [0#8, 32#8]).desc, [], 5, by decide, by decide, by decide, by decide⟩⟩

theorem wit_EventsFilterIntoAlarms :
    (∃ (s : State) (x : TamperHit),
      5 < x.source.val ∧ sourceArmed s.dev s.fuses x.source x.reading.toNat = true ∧ source s.dev x.source = {} ∧
      2 ≤ (sensor s.dev x.source).n) ∧
    (∃ (s : State) (x : TamperHit),
      5 < x.source.val ∧ sourceArmed s.dev s.fuses x.source x.reading.toNat = true ∧ source s.dev x.source = {} ∧
      (sensor s.dev x.source).n ≤ 1 ∧ effective s.dev x.source = 0) ∧
    (∃ (s : State) (x : TamperHit),
      5 < x.source.val ∧ sourceArmed s.dev s.fuses x.source x.reading.toNat = true ∧ source s.dev x.source = {} ∧
      (sensor s.dev x.source).n ≤ 1 ∧ effective s.dev x.source = 2 ∧ s.dev.glb.mode ≠ .locked ∧
      s.dev.tmp.applied = none) ∧
    (∃ (s : State),
      s.dev.tmp.mainPower = true) ∧
    (∃ (a : Fin 65536) (b : Fin 65536) (c : Fin 65536) (e4 : Fin 65536) (s : State),
      bit (magCfg s.dev) 11 = false ∧ s.dev.tmp.mainPower = true ∧ a.val ≤ 10 * s.dev.tmp.thresh ∧
      b.val ≤ 10 * s.dev.tmp.thresh ∧ c.val ≤ 10 * s.dev.tmp.thresh ∧ e4.val ≤ 10 * s.dev.tmp.thresh) ∧
    (∃ (n : Fin 18) (s : State) (t : Nat) (l : List Nat),
      (source s.dev n).raised = true ∧ (source s.dev n).events = t :: l) :=
  ⟨⟨(on (guarded 2 2)), { source := 8, reading := 0#32 }, by decide, by decide, by decide, by decide⟩,
   ⟨(on (guarded 0 1)), { source := 8, reading := 0#32 }, by decide, by decide, by decide, by decide, by decide⟩,
   ⟨(on (guarded 2 1)), { source := 8, reading := 0#32 }, by decide, by decide, by decide, by decide, by decide,
    by decide, by decide⟩,
   ⟨(on up), by decide⟩,
   ⟨50, 0, 1, 50, (on up), by decide, by decide, by decide, by decide, by decide, by decide⟩,
   ⟨7, (on { up with tmp := { sources := [(7, { events := [900], raised := true, raisedAt := 900 })] } }), 900, [],
    by decide, by decide⟩⟩

theorem wit_ZeroiseErasesSecrets :
    (∃ (s : State) (x : TamperHit),
      sourceArmed s.dev s.fuses x.source x.reading.toNat = true ∧ s.dev.tmp.mainPower = true ∧
      source s.dev x.source = {} ∧ (sensor s.dev x.source).n ≤ 1 ∧ effective s.dev x.source = 3) :=
  ⟨(on (guarded 3 1)), { source := 8, reading := 0#32 }, by decide, by decide, by decide, by decide, by decide⟩

theorem wit_BatteryAndIdentity :
    (∃ (s : State),
      s.dev.tmp.mainPower = false) ∧
    (∃ (n : Fin 5) (s : State),
      s.dev.tmp.mainPower = false ∧ n.val < 4) ∧
    (∃ (s : State),
      s.dev.tmp.mainPower = true) ∧
    (∃ (s : State) (t : Nat),
      s.dev.tmp.zeroWait = some t ∧ zeroQuiet s.dev = true ∧ s.dev.svc.drbgStopped = none) ∧
    (∃ (r : Fin 64) (s : State) (f : Fetched) (rest : List Fetched) (buf : Bytes) (b : Bytes) (o : Origin) (t : Tree),
      Runs s.dev r 0x0030 anyRight (fun desc => zeroFrom desc 20 63) f rest ∧ o = originOf s.dev r f ∧
      o.bufLen = 148 ∧ b = fit 148 buf ∧ s.dev.tmp.identity = true ∧ s.dev.key.tree = some t ∧
      firstDiffer (slice b 0 84) (authExpected s.dev s.fuses t) 84 = none) ∧
    (∃ (s : State) (o : Origin) (buf : Bytes) (rest : List (Origin × Bytes)) (x : Enrolment),
      s.dev.tmp.requests = (o, buf) :: rest ∧ s.dev.boot.flash.enrolment = some x) ∧
    (∃ (m : Fin 24) (s : State),
      (press s.dev m).out = true ∧ (press s.dev m).passes = 0 ∧
      (((source s.dev (10 + m.val % 4)).raised = false ∨ effective s.dev (10 + m.val % 4) ≠ 1))) :=
  ⟨⟨(on { up with tmp := { mainPower := false, batt := { bbk := some (zeros 32) } } }), by decide⟩,
   ⟨2, (on { up with tmp := { mainPower := false, batt := { bbk := some (zeros 32), log := [0#64] } } }), by decide,
    by decide⟩,
   ⟨(on up), by decide⟩,
   ⟨(on { up with tmp := { zeroWait := some 5 } }), 5, by decide, by decide, by decide⟩,
   ⟨0, (withCmd { identUp with glb := (inMode .locked).glb } (fet 0x0030 148 ([]))), (fet 0x0030 148 ([])), [],
    leBytes 2 1 ++ leBytes 2 148 ++ leBytes 4 (glbId .lvt1600E) ++ testCert.drop 8, _, _, tree0,
    runs_of (by decide), rfl, by decide, rfl, by decide, by decide, by decide⟩,
   ⟨(on { identUp with boot := { up.boot with flash := { enrolment := some { authority := zeros 65, cert := testCert, tag := [] } } }, tmp := { identity := true, requests := [(org, testCert)] } }),
    org, testCert, [], { authority := zeros 65, cert := testCert, tag := [] }, by decide, by decide⟩,
   ⟨5, (on { up with prs := { presses := [(5, { out := true })] } }), by decide, by decide, Or.inl (by decide)⟩⟩

theorem wit_ArbiterKeepsBudget :
    (∃ (demand : Fin 2048) (s : State) (d : Device) (k : Nat),
      d = rollWindow { s.dev with pwr := { s.dev.pwr with demand := demand.val } } ∧
      10 * s.dev.pwr.budget < demand.val ∧ nextStep { d with pwr := { d.pwr with belowSince := none } } = some k) ∧
    (∃ (s : State) (t : Nat),
      s.dev.pwr.belowSince = some t ∧ s.dev.pwr.step ≠ 0 ∧ ((s.dev.pwr.step ≠ 5 ∨ 100 ≤ s.dev.pwr.limitPct))) ∧
    (∃ (s : State),
      s.dev.pwr.step = 5 ∧ overBudget s.dev = true) ∧
    (∃ (s : State),
      s.dev.pwr.step = 5 ∧ overBudget s.dev = false ∧ wellBelow s.dev = true) ∧
    (∃ (s : State),
      overBudget s.dev = true ∧ nextStep s.dev = none ∧ s.dev.pwr.step ≠ 5 ∧ s.dev.pwr.unmetAt = 0) ∧
    (∃ (val : W32) (s : State),
      bit val 31 = true ∧ s.dev.pwr.holding = false ∧ s.dev.duet.role = .solo ∧ trafficMode s.dev = true) ∧
    (∃ (val : W32) (s : State),
      bit val 31 = false ∧ s.dev.pwr.holding = true) ∧
    (∃ (tj : Fin 65536) (s : State),
      tj.val < 32768 ∧ tjWarn s.dev ≤ (tj.val : Int) ∧ s.dev.pwr.hot = false) :=
  ⟨⟨1500,
    (on { up with regs := [(0x1E0000, 0x80000000#32)], mem := { ready := true }, pwr := { budget := 60, belowSince := some 3 } }),
    _, 3, rfl, by decide, by decide⟩,
   ⟨(on { up with regs := [(0x1E0000, 0x80000000#32)], mem := { ready := true }, pwr := { budget := 60, step := 5, belowSince := some 7 } }),
    7, by decide, by decide, Or.inr (by decide)⟩,
   ⟨(on { up with regs := [(0x1E0000, 0x80000000#32)], mem := { ready := true }, pwr := { step := 5, demand := 700 } }),
    by decide, by decide⟩,
   ⟨(on { up with regs := [(0x1E0000, 0x80000000#32)], mem := { ready := true }, pwr := { step := 5, demand := 300, limitPct := 42 } }),
    by decide, by decide, by decide⟩,
   ⟨(on { up with glb := { up.glb with mode := .link }, pwr := { demand := 700 } }), by decide, by decide,
    by decide, by decide⟩,
   ⟨0x80000000#32, (on up), by decide, by decide, by decide, by decide⟩,
   ⟨0#32, (on { up with pwr := { holding := true } }), by decide, by decide⟩,
   ⟨1000, (on up), by decide, by decide, by decide⟩⟩

theorem wit_MacsecObjectsFollowCommands :
    (∃ (r : Fin 64) (s : State) (f : Fetched) (rest : List Fetched) (n : Nat) (x : SecY),
      Runs s.dev r 0x0100 anyRight secyOwn f rest ∧ n = leField f.desc 20 2 ∧ x = secyOf f.desc ∧
      isLine s.dev x.port = true ∧ x.implicitRx = false ∧ isLink s.dev x.port = false ∧ secy s.dev n = none ∧
      (companions s.dev n x.port).length < 64 ∧ roleStale s.dev = false) ∧
    (∃ (r : Fin 64) (s : State) (f : Fetched) (rest : List Fetched) (n : Nat),
      Runs s.dev r 0x0101 anyRight secyDelOwn f rest ∧ n = leField f.desc 20 2 ∧ (secy s.dev n).isSome = true ∧
      Tbl.any s.dev.ms.scs (fun _ c => c.secy == n) = false ∧ flPortsOf s.dev n = [] ∧ roleStale s.dev = false) ∧
    (∃ (r : Fin 64) (s : State) (f : Fetched) (rest : List Fetched) (c : Nat) (n : Nat) (y : SecY) (sci : W64),
      Runs s.dev r 0x0102 anyRight scOwn f rest ∧ c = leField f.desc 20 2 ∧ n = leField f.desc 22 2 % 1024 ∧
      leField f.desc 24 1 = 0 ∧ sci = BitVec.ofNat 64 (beField f.desc 28 8) ∧ secy s.dev n = some y ∧
      scExcluded s.dev c = false ∧ scHasSa s.dev c = false ∧ scOf s.dev c = none ∧
      scClash s.dev c n y false sci = none ∧ roleStale s.dev = false) ∧
    (∃ (r : Fin 64) (s : State) (f : Fetched) (rest : List Fetched) (c : Nat),
      Runs s.dev r 0x0103 anyRight (fun desc => zeroFrom desc 22 63) f rest ∧ c = leField f.desc 20 2 ∧
      (scOf s.dev c).isSome = true ∧ scHasSa s.dev c = false ∧ roleStale s.dev = false) ∧
    (∃ (d : Device),
      d.duet.role ≠ .active) ∧
    (∃ (r : Fin 64) (s : State) (f : Fetched) (rest : List Fetched) (i : Nat) (c : Sc) (x : Sa) (d : Device),
      Runs s.dev r 0x0104 anyRight saOwn f rest ∧ i = leField f.desc 20 3 ∧ leField f.desc 24 1 = 1 ∧
      scOf s.dev (i / 4) = some c ∧ c.rx = false ∧ saOf s.dev i = some x ∧ x.deleting = false ∧
      saQuarantined s.dev i = false ∧ suiteBad (scSuite s.dev (i / 4)) 1 f.desc = none ∧
      x.pn < leField f.desc 28 8 ∧ s.dev.duet.role = .solo ∧
      d = setSa (taken s.dev r rest) i { x with pn := leField f.desc 28 8, dirty := true }) :=
  ⟨⟨0, (withCmd up (fet 0x0100 0 ([5#8, 0#8, 2#8, 0#8, 1#8]))), (fet 0x0100 0 ([5#8, 0#8, 2#8, 0#8, 1#8])), [], _,
    _, runs_of (by decide), rfl, rfl, by decide, by decide, by decide, by decide, by decide, by decide⟩,
   ⟨0, (withCmd { up with ms := { secys := [(5, secy1)] } } (fet 0x0101 0 ([5#8]))), (fet 0x0101 0 ([5#8])), [], _,
    runs_of (by decide), rfl, by decide, by decide, by decide, by decide⟩,
   ⟨0,
    (withCmd { up with ms := { secys := [(5, secy1)] } } (fet 0x0102 0 ([3#8, 0#8, 5#8, 0#8, 0#8, 0#8, 0#8, 0#8, 1#8, 2#8]))),
    (fet 0x0102 0 ([3#8, 0#8, 5#8, 0#8, 0#8, 0#8, 0#8, 0#8, 1#8, 2#8])), [], _, _, secy1, _,
    runs_of (by decide), rfl, rfl, by decide, rfl, by decide, by decide, by decide, by decide, by decide,
    by decide⟩,
   ⟨0, (withCmd noSa (fet 0x0103 0 ([3#8]))), (fet 0x0103 0 ([3#8])), [], _, runs_of (by decide), rfl, by decide,
    by decide, by decide⟩,
   ⟨up, by decide⟩,
   ⟨0, (withCmd (msUp (some 0)) (fet 0x0104 0 ([12#8, 0#8, 0#8, 0#8, 1#8, 0#8, 0#8, 0#8, 10#8]))),
    (fet 0x0104 0 ([12#8, 0#8, 0#8, 0#8, 1#8, 0#8, 0#8, 0#8, 10#8])), [], _, { tx1 with encAn := some 0 }, sa1,
    _, runs_of (by decide), rfl, by decide, by decide, by decide, by decide, by decide, by decide, by decide,
    by decide, by decide, rfl⟩⟩

theorem wit_EnableAndDeleteSa :
    (∃ (r : Fin 64) (s : State) (f : Fetched) (rest : List Fetched) (o : Origin) (i : Nat) (c : Sc) (x : Sa),
      Runs s.dev r 0x0105 anyRight saIndexOwn f rest ∧ o = originOf s.dev r f ∧ i = leField f.desc 20 3 ∧
      scOf s.dev (i / 4) = some c ∧ saOf s.dev i = some x ∧ x.deleting = false ∧ c.rx = false ∧
      x.exhausted = false ∧ c.armed = none ∧ c.encAn ≠ some (i % 4) ∧ s.dev.duet.role = .solo) ∧
    (∃ (c : Fin 65536) (s : State) (x : TxSwitch) (o : Origin),
      s.dev.ms.switches = [x] ∧ x.sc = c.val ∧ x.origin = some o ∧ x.oldAn = none) ∧
    (∃ (r : Fin 64) (s : State) (f : Fetched) (rest : List Fetched) (o : Origin) (i : Nat) (c : Sc) (x : Sa),
      Runs s.dev r 0x0106 anyRight saDeleteOwn f rest ∧ o = originOf s.dev r f ∧ i = leField f.desc 20 3 ∧
      scOf s.dev (i / 4) = some c ∧ saOf s.dev i = some x ∧ x.deleting = false ∧ c.armed = none ∧
      ((c.rx = true ∨ x.exhausted = true ∨ (byteAt f.desc 24).getLsbD 0 = true ∨ c.encAn ≠ some (i % 4))) ∧
      recFull s.dev i = false ∧ roleStale s.dev = false) ∧
    (∃ (n : Fin 262144) (s : State) (x : Deletion),
      s.dev.ms.deletions = [x] ∧ x.sa = n.val ∧ saHeld s.dev n = false) ∧
    (∃ (x : Deletion) (k : _),
      k ≠ x.sa) :=
  ⟨⟨0, (withCmd (msUp (some 1)) (fet 0x0105 0 ([12#8]))), (fet 0x0105 0 ([12#8])), [], _, _,
    { tx1 with encAn := some 1 }, sa1, runs_of (by decide), rfl, rfl, by decide, by decide, by decide,
    by decide, by decide, by decide, by decide, by decide⟩,
   ⟨3,
    (on { msUp (some 1) with ms := { (msUp (some 1)).ms with switches := [{ origin := some org, sc := 3, oldAn := none, an := 1, start := 0 }] } }),
    { origin := some org, sc := 3, oldAn := none, an := 1, start := 0 }, org, by decide, by decide, by decide,
    by decide⟩,
   ⟨0, (withCmd (msUp (some 0)) (fet 0x0106 0 ([12#8, 0#8, 0#8, 0#8, 1#8]))),
    (fet 0x0106 0 ([12#8, 0#8, 0#8, 0#8, 1#8])), [], _, _, { tx1 with encAn := some 0 }, sa1,
    runs_of (by decide), rfl, rfl, by decide, by decide, by decide, by decide,
    Or.inr (Or.inr (Or.inl (by decide))), by decide, by decide⟩,
   ⟨12,
    (on { msUp none with ms := { (msUp none).ms with sas := [(12, { sa1 with deleting := true }), (13, sa1)], deletions := [{ origin := some org, desc := (fet 0x106 0 [12#8]).desc, sa := 12, started := 5, held := true }] } }),
    { origin := some org, desc := (fet 0x106 0 [12#8]).desc, sa := 12, started := 5, held := true }, by decide,
    by decide, by decide⟩,
   ⟨{ origin := some org, desc := [], sa := 12, started := 5, held := true }, 13, by decide⟩⟩

theorem wit_TurnsSwitchTheEncodingAn :
    (∃ (r : Fin 64) (s : State) (f : Fetched) (rest : List Fetched) (c : Nat) (g : Nat) (an : Nat) (x : Sc),
      Runs s.dev r 0x0108 anyRight groupOwn f rest ∧ c = leField f.desc 20 2 ∧ g = leField f.desc 22 2 ∧
      an = leField f.desc 25 1 ∧ leField f.desc 24 1 = 0 ∧ scOf s.dev c = some x ∧ x.rx = false ∧
      turnReady s.dev (4 * c + an) = true ∧ x.encAn ≠ some an ∧ ((x.group = none ∨ x.group = some g)) ∧
      Tbl.has s.dev.ms.turns g = false ∧ roleStale s.dev = false) ∧
    (∃ (r : Fin 64) (s : State) (f : Fetched) (rest : List Fetched) (g : Nat) (b : Nat) (t : Nat),
      Runs s.dev r 0x0107 anyRight scheduleOwn f rest ∧ g = leField f.desc 20 2 ∧ b = leField f.desc 22 1 ∧
      t = leField f.desc 24 6 * 1000000000 + leField f.desc 30 4 ∧ leField f.desc 23 1 = 0 ∧
      armedMembers s.dev g ≠ [] ∧ Tbl.has s.dev.ms.turns g = false ∧ (tbase s.dev b).value < t * nsUnit ∧
      t * nsUnit ≤ (tbase s.dev b).value + 1000000000000000 * nsUnit ∧ roleStale s.dev = false) ∧
    (∃ (r : Fin 64) (s : State) (f : Fetched) (rest : List Fetched) (g : Nat) (x : Turn),
      Runs s.dev r 0x0107 anyRight scheduleOwn f rest ∧ g = leField f.desc 20 2 ∧ leField f.desc 23 1 = 1 ∧
      Tbl.get? s.dev.ms.turns g = some x ∧ roleStale s.dev = false ∧ x.tick = none) ∧
    (∃ (r : Fin 64) (s : State) (f : Fetched) (rest : List Fetched) (g : Nat) (x : Turn),
      Runs s.dev r 0x0107 anyRight scheduleOwn f rest ∧ g = leField f.desc 20 2 ∧ leField f.desc 23 1 = 1 ∧
      Tbl.get? s.dev.ms.turns g = some x ∧ roleStale s.dev = false ∧ x.tick ≠ none) ∧
    (∃ (g : Fin 4096) (s : State) (x : Turn),
      Tbl.get? s.dev.ms.turns g = some x ∧ x.tick = none ∧ s.dev.time.running = true) ∧
    (∃ (g : Fin 4096) (s : State) (x : Turn) (tick : Nat) (c : Nat) (an : Nat) (y : Sc),
      Tbl.get? s.dev.ms.turns g = some x ∧ x.tick = some tick ∧ armedMembers s.dev g = [(c, y)] ∧ y.armed = some an ∧
      scOf s.dev c = some y ∧ turnReady s.dev (4 * c + an) = true ∧ s.dev.ms.holds = []) ∧
    (∃ (d : Device) (c : Nat) (an : Nat),
      turnReady d (4 * c + an) = false) :=
  ⟨⟨0, (withCmd (msUp (some 0)) (fet 0x0108 0 ([3#8, 0#8, 7#8, 0#8, 0#8, 1#8]))),
    (fet 0x0108 0 ([3#8, 0#8, 7#8, 0#8, 0#8, 1#8])), [], _, _, _, { tx1 with encAn := some 0 },
    runs_of (by decide), rfl, rfl, rfl, by decide, by decide, by decide, by decide, by decide,
    Or.inl (by decide), by decide, by decide⟩,
   ⟨0,
    (withCmd { msUp (some 0) with ms := { (msUp (some 0)).ms with scs := [(3, { tx1 with encAn := some 0, group := some 7, armed := some 1 })], turns := [] } } (fet 0x0107 0 ([7#8, 0#8, 1#8, 0#8, 1#8]))),
    (fet 0x0107 0 ([7#8, 0#8, 1#8, 0#8, 1#8])), [], _, _, _, runs_of (by decide), rfl, rfl, rfl, by decide,
    by decide, by decide, by decide, by decide, by decide⟩,
   ⟨0,
    (withCmd { msUp (some 0) with ms := { (msUp (some 0)).ms with scs := [(3, { tx1 with encAn := some 0, group := some 7, armed := some 1 })], turns := [(7, { base := 1, at_ := 1000000000 })] } } (fet 0x0107 0 ([7#8, 0#8, 0#8, 1#8]))),
    (fet 0x0107 0 ([7#8, 0#8, 0#8, 1#8])), [], _, { base := 1, at_ := 1000000000 }, runs_of (by decide), rfl,
    by decide, by decide, by decide, by decide⟩,
   ⟨0,
    (withCmd { msUp (some 0) with ms := { (msUp (some 0)).ms with scs := [(3, { tx1 with encAn := some 0, group := some 7, armed := some 1 })], turns := [(7, { base := 1, at_ := 1000000000, tick := some 2000 })] } } (fet 0x0107 0 ([7#8, 0#8, 0#8, 1#8]))),
    (fet 0x0107 0 ([7#8, 0#8, 0#8, 1#8])), [], _, { base := 1, at_ := 1000000000, tick := some 2000 },
    runs_of (by decide), rfl, by decide, by decide, by decide, by decide⟩,
   ⟨7,
    (on { msUp (some 0) with ms := { (msUp (some 0)).ms with scs := [(3, { tx1 with encAn := some 0, group := some 7, armed := some 1 })], turns := [(7, { base := 1, at_ := 1000000000 })] } }),
    { base := 1, at_ := 1000000000 }, by decide, by decide, by decide⟩,
   ⟨7,
    (on { msUp (some 0) with ms := { (msUp (some 0)).ms with scs := [(3, { tx1 with encAn := some 0, group := some 7, armed := some 1 })], turns := [(7, { base := 1, at_ := 1000000000, tick := some 2000 })] } }),
    { base := 1, at_ := 1000000000, tick := some 2000 }, 2000, 3, 1,
    { tx1 with encAn := some 0, group := some 7, armed := some 1 }, by decide, by decide, by decide, by decide,
    by decide, by decide, by decide⟩,
   ⟨noSa, 3, 1, by decide⟩⟩

theorem wit_ForwardingTablesFollowCommands :
    (∃ (r : Fin 64) (s : State) (f : Fetched) (rest : List Fetched) (x : Route) (i : Nat) (d : Device),
      Runs s.dev r 0x0200 anyRight (routeAddOwn s.dev) f rest ∧ x = routeOf f.desc ∧ x.len ≤ famBits x.v6 ∧
      x.pre % 2 ^ (famBits x.v6 - x.len) = 0 ∧ ((isClient s.dev x.port = true → x.secy = 0)) ∧
      resultStatus s.dev x.port x.secy = none ∧ findRoute s.dev x = some i ∧ roleStale s.dev = false ∧
      d = bumpEpoch (setTcam (taken s.dev r rest) (Tbl.put s.dev.cls.tcam i { route := x }))) ∧
    (∃ (r : Fin 64) (s : State) (f : Fetched) (rest : List Fetched) (x : Route) (y : Device × Bytes),
      Runs s.dev r 0x0200 anyRight (routeAddOwn s.dev) f rest ∧ x = routeOf f.desc ∧ x.len ≤ famBits x.v6 ∧
      x.pre % 2 ^ (famBits x.v6 - x.len) = 0 ∧ ((isClient s.dev x.port = true → x.secy = 0)) ∧
      resultStatus s.dev x.port x.secy = none ∧ findRoute s.dev x = none ∧ 2 ≤ tcamFree s.dev ∧
      roleStale s.dev = false ∧ y = addRoute (taken s.dev r rest) x) ∧
    (∃ (r : Fin 64) (s : State) (f : Fetched) (rest : List Fetched) (i : Nat) (y : Device × Bytes),
      Runs s.dev r 0x0201 anyRight routeDelOwn f rest ∧ findRoute s.dev (routeOf f.desc) = some i ∧
      roleStale s.dev = false ∧ y = delRoute (taken s.dev r rest) (routeOf f.desc) i) ∧
    (∃ (r : Fin 64) (s : State) (f : Fetched) (rest : List Fetched) (k : Nat) (old : MacEnt) (e : MacEnt),
      Runs s.dev r 0x0202 anyRight (macAddOwn s.dev) f rest ∧
      e = { domain := leField f.desc 20 2, mac := beField f.desc 28 6, port := leField f.desc 22 1, secy := leField f.desc 24 2 % 1024, policer := leField f.desc 26 2, static := true, seen := s.dev.clock } ∧
      ((isClient s.dev e.port = true → e.secy = 0)) ∧ resultStatus s.dev e.port e.secy = none ∧
      macFind s.dev e.domain e.mac = some (k, old)) ∧
    (∃ (r : Fin 64) (s : State) (f : Fetched) (rest : List Fetched) (k : Nat) (old : MacEnt),
      Runs s.dev r 0x0203 anyRight macDelOwn f rest ∧
      macFind s.dev (leField f.desc 20 2) (beField f.desc 28 6) = some (k, old)) ∧
    (∃ (r : Fin 64) (s : State) (f : Fetched) (rest : List Fetched) (d : Device),
      Runs s.dev r 0x0204 anyRight macFlushOwn f rest ∧
      d = bumpEpoch { taken s.dev r rest with cls := { s.dev.cls with mac := Tbl.keep s.dev.cls.mac (fun _ e => !flushes f.desc e) } }) ∧
    (∃ (s : State),
      ageTime s.dev ≠ 0) ∧
    (∃ (u : TcamUpset) (s : State) (i : Nat) (x : TcamEnt),
      i = entryAt s.dev u.entry ∧ Tbl.get? s.dev.cls.tcam i = some x ∧ x.disabled = false ∧
      ((∀ e ∈ s.dev.cls.tcam, e.2.badParity = true → e.2.disabled = true)) ∧ (s.dev.cls.tcam.map Prod.fst).Nodup) ∧
    (∃ (i : Fin 65536) (s : State) (x : TcamEnt),
      Tbl.get? s.dev.cls.tcam i = some x ∧ x.disabled = true ∧ bit (reg s.dev 0x101004) 31 = true ∧ x.lost = true) ∧
    (∃ (i : Fin 65536) (s : State) (x : TcamEnt),
      Tbl.get? s.dev.cls.tcam i = some x ∧ x.disabled = true ∧ bit (reg s.dev 0x101004) 31 = true ∧ x.lost = false) :=
  ⟨⟨0,
    (withCmd { up with cls := { tcam := [(9, { route := { table := 0, v6 := false, len := 8, pre := 0x0A000000, port := 3, secy := 0, policer := 0 } })], mac := [] } } (fet 0x0200 0 ([0#8, 4#8, 8#8, 0#8, 3#8] ++ zeros 7 ++ [10#8]))),
    (fet 0x0200 0 ([0#8, 4#8, 8#8, 0#8, 3#8] ++ zeros 7 ++ [10#8])), [], _, 9, _, runs_of (by decide), rfl,
    by decide, by decide, fun _ => by decide, by decide, by decide, by decide, rfl⟩,
   ⟨0, (withCmd up (fet 0x0200 0 ([0#8, 4#8, 8#8, 0#8, 3#8] ++ zeros 7 ++ [10#8]))),
    (fet 0x0200 0 ([0#8, 4#8, 8#8, 0#8, 3#8] ++ zeros 7 ++ [10#8])), [], _, _, runs_of (by decide), rfl,
    by decide, by decide, fun _ => by decide, by decide, by decide, by decide, by decide, rfl⟩,
   ⟨0,
    (withCmd { up with cls := { tcam := [(9, { route := { table := 0, v6 := false, len := 8, pre := 0x0A000000, port := 3, secy := 0, policer := 0 } })], mac := [] } } (fet 0x0201 0 ([0#8, 4#8, 8#8] ++ zeros 9 ++ [10#8]))),
    (fet 0x0201 0 ([0#8, 4#8, 8#8] ++ zeros 9 ++ [10#8])), [], 9, _, runs_of (by decide), by decide, by decide,
    rfl⟩,
   ⟨0,
    (withCmd { up with cls := { tcam := [(9, { route := { table := 0, v6 := false, len := 8, pre := 0x0A000000, port := 3, secy := 0, policer := 0 } })], mac := [(4, { domain := 1, mac := 0x112233445566, port := 3, secy := 0, policer := 0, static := false, seen := 7 })] } } (fet 0x0202 0 ([1#8, 0#8, 3#8, 0#8, 0#8, 0#8, 0#8, 0#8, 0x11#8, 0x22#8, 0x33#8, 0x44#8, 0x55#8, 0x66#8]))),
    (fet 0x0202 0 ([1#8, 0#8, 3#8, 0#8, 0#8, 0#8, 0#8, 0#8, 0x11#8, 0x22#8, 0x33#8, 0x44#8, 0x55#8, 0x66#8])),
    [], 4,
    { domain := 1, mac := 0x112233445566, port := 3, secy := 0, policer := 0, static := false, seen := 7 }, _,
    runs_of (by decide), rfl, fun _ => by decide, by decide, by decide⟩,
   ⟨0,
    (withCmd { up with cls := { tcam := [(9, { route := { table := 0, v6 := false, len := 8, pre := 0x0A000000, port := 3, secy := 0, policer := 0 } })], mac := [(4, { domain := 1, mac := 0x112233445566, port := 3, secy := 0, policer := 0, static := false, seen := 7 })] } } (fet 0x0203 0 ([1#8, 0#8, 0#8, 0#8, 0#8, 0#8, 0#8, 0#8, 0x11#8, 0x22#8, 0x33#8, 0x44#8, 0x55#8, 0x66#8]))),
    (fet 0x0203 0 ([1#8, 0#8, 0#8, 0#8, 0#8, 0#8, 0#8, 0#8, 0x11#8, 0x22#8, 0x33#8, 0x44#8, 0x55#8, 0x66#8])),
    [], 4,
    { domain := 1, mac := 0x112233445566, port := 3, secy := 0, policer := 0, static := false, seen := 7 },
    runs_of (by decide), by decide⟩,
   ⟨0,
    (withCmd { up with cls := { tcam := [(9, { route := { table := 0, v6 := false, len := 8, pre := 0x0A000000, port := 3, secy := 0, policer := 0 } })], mac := [(4, { domain := 1, mac := 0x112233445566, port := 3, secy := 0, policer := 0, static := false, seen := 7 })] } } (fet 0x0204 0 ([2#8, 0#8, 0#8, 0#8, 1#8]))),
    (fet 0x0204 0 ([2#8, 0#8, 0#8, 0#8, 1#8])), [], _, runs_of (by decide), rfl⟩,
   ⟨(on { up with regs := [(0x101000, 300#32)], cls := { mac := [(4, { domain := 1, mac := 0x112233445566, port := 3, secy := 0, policer := 0, static := false, seen := 7 })] } }),
    by decide⟩,
   ⟨{ entry := 9, key := 5#160 },
    (on { up with cls := { tcam := [(9, { route := { table := 0, v6 := false, len := 8, pre := 0x0A000000, port := 3, secy := 0, policer := 0 } })], mac := [] } }),
    9,
    { route := { table := 0, v6 := false, len := 8, pre := 0x0A000000, port := 3, secy := 0, policer := 0 } },
    by decide, by decide, by decide, by decide, by decide⟩,
   ⟨9,
    (on { up with regs := [(0x101004, 0x80000000#32)], cls := { tcam := [(9, { route := { table := 0, v6 := false, len := 8, pre := 0x0A000000, port := 3, secy := 0, policer := 0 }, badParity := true, disabled := true , lost := true })] } }),
    { route := { table := 0, v6 := false, len := 8, pre := 0x0A000000, port := 3, secy := 0, policer := 0 }, badParity := true, disabled := true , lost := true },
    by decide, by decide, by decide, by decide⟩,
   ⟨9,
    (on { up with regs := [(0x101004, 0x80000000#32)], cls := { tcam := [(9, { route := { table := 0, v6 := false, len := 8, pre := 0x0A000000, port := 3, secy := 0, policer := 0 }, badParity := true, disabled := true })] } }),
    { route := { table := 0, v6 := false, len := 8, pre := 0x0A000000, port := 3, secy := 0, policer := 0 }, badParity := true, disabled := true },
    by decide, by decide, by decide, by decide⟩⟩

theorem wit_GalleyFollowsCommands :
    (∃ (r : Fin 64) (s : State) (f : Fetched) (rest : List Fetched) (n : Nat) (c : PolicerCfg),
      Runs s.dev r 0x0210 anyRight policerOwn f rest ∧ n = leField f.desc 20 2 ∧ leField f.desc 22 1 ≠ 0 ∧
      policerRange f.desc = none ∧
      c = { mode := leField f.desc 22 1, aware := (byteAt f.desc 23).getLsbD 0, coupled := leField f.desc 22 1 == 2 && (byteAt f.desc 23).getLsbD 1, cir := leField f.desc 24 4, cbs := leField f.desc 28 4, pir := leField f.desc 32 4, pbs := leField f.desc 36 4 } ∧
      roleStale s.dev = false) ∧
    (∃ (r : Fin 64) (s : State) (f : Fetched) (rest : List Fetched) (k : Nat) (c : ShaperCfg) (x : Shaper),
      Runs s.dev r 0x0211 anyRight shaperOwn f rest ∧ leField f.desc 20 1 = 0 ∧
      leField f.desc 22 2 < levelRange s.dev 0 ∧ k = shaperKey 0 (leField f.desc 22 2) ∧
      x = Tbl.getD s.dev.gal.shapers k {} ∧
      c = { overhead := leField f.desc 21 1 == 1, rate := leField f.desc 24 4, burst := leField f.desc 28 4 } ∧
      c.rate ≤ maxRate ∧ c.burst ≤ maxBurst ∧ roleStale s.dev = false) ∧
    (∃ (r : Fin 64) (s : State) (f : Fetched) (rest : List Fetched) (q : Nat) (w : Nat),
      Runs s.dev r 0x0212 anyRight queueOwn f rest ∧ leField f.desc 20 1 = 0 ∧ q = leField f.desc 22 2 ∧
      w = leField f.desc 26 2 ∧ leField f.desc 21 1 = 0 ∧ q < levelRange s.dev 0 ∧ 1 ≤ w ∧ w ≤ 255 ∧
      roleStale s.dev = false) ∧
    (∃ (ing : Fin 128) (eg : Fin 128) (s : State) (x : Remap) (g : Nat),
      s.dev.gal.remaps = [x] ∧ x.eg = eg.val ∧ x.ing = ing.val ∧ x.group = some g ∧ s.dev.prs.formes = []) ∧
    (∃ (s : State) (d : Device),
      d = settleMeters s.dev) ∧
    (∃ (x : Policer),
      x.next = none ∧ x.cfg.mode = 1) ∧
    (∃ (p : Fin 128) (s : State),
      (galPort s.dev p).holding = true ∧ s.dev.prs.formes = []) :=
  ⟨⟨0,
    (withCmd up (fet 0x0210 0 ([5#8, 0#8, 1#8, 0#8, 100#8, 0#8, 0#8, 0#8, 7#8, 0#8, 0#8, 0#8, 100#8, 0#8, 0#8, 0#8, 9#8]))),
    (fet 0x0210 0 ([5#8, 0#8, 1#8, 0#8, 100#8, 0#8, 0#8, 0#8, 7#8, 0#8, 0#8, 0#8, 100#8, 0#8, 0#8, 0#8, 9#8])),
    [], _, _, runs_of (by decide), rfl, by decide, by decide, rfl, by decide⟩,
   ⟨0, (withCmd up (fet 0x0211 0 ([0#8, 1#8, 0xFF#8, 3#8, 100#8, 0#8, 0#8, 0#8, 7#8]))),
    (fet 0x0211 0 ([0#8, 1#8, 0xFF#8, 3#8, 100#8, 0#8, 0#8, 0#8, 7#8])), [], _, _, _, runs_of (by decide),
    by decide, by decide, rfl, rfl, rfl, by decide, by decide, by decide⟩,
   ⟨0, (withCmd up (fet 0x0212 0 ([0#8, 0#8, 0xFF#8, 3#8, 0#8, 0#8, 255#8]))),
    (fet 0x0212 0 ([0#8, 0#8, 0xFF#8, 3#8, 0#8, 0#8, 255#8])), [], _, _, runs_of (by decide), by decide, rfl,
    rfl, by decide, by decide, by decide, by decide, by decide⟩,
   ⟨2, 3,
    (on { up with gal := { remaps := [{ origin := none, desc := [], ing := 2, eg := 3, group := some 6, started := 5 }] } }),
    { origin := none, desc := [], ing := 2, eg := 3, group := some 6, started := 5 }, 6, by decide, by decide,
    by decide, by decide, by decide⟩,
   ⟨(on up), _, rfl⟩,
   ⟨{ cfg := { mode := 1, aware := false, coupled := false, cir := 5, cbs := 1, pir := 7, pbs := 1 }, tc := 31249, te := 3 },
    by decide, by decide⟩,
   ⟨2, (on { up with gal := { ports := [(2, { holding := true, downAt := 7 })] } }), by decide, by decide⟩⟩

theorem wit_FramesAreClassified :
    (∃ (p : Fin 128) (fr : FrameIn) (s : State) (line : Nat) (n : Nat) (i : Nat) (y : SecY),
      takesFrames s.dev p = true ∧ isLine s.dev p = false ∧ isAggregate s.dev p = false ∧ shadow s.dev = false ∧
      s.dev.prs.flPassed = [] ∧ bit (reg s.dev (0x100400 + 4 * p.val)) 29 = false ∧ s.dev.ms.owed = [] ∧
      s.dev.prs.formes = [] ∧ s.dev.prs.stop = none ∧ fifoOf s.dev p = [] ∧ 64 ≤ frameLen fr.data ∧
      frameLen fr.data ≤ 16383 ∧ fr.fcsOk = true ∧ fr.whole = true ∧ ptpMode s.dev p ≠ 2 ∧
      bypassType s.dev (etherType s.dev p fr.data) = false ∧ line = (partner s.dev p).getD p ∧
      linkSecy s.dev line fr.data p = some (n, y) ∧ encodingSa s.dev n = some i) ∧
    (∃ (p : Fin 128) (fr : FrameIn) (s : State) (d : Device) (w : Work) (q : Nat) (launch : Nat),
      takesFrames s.dev p = true ∧ isFlFrame s.dev p fr.data = true ∧ 64 ≤ frameLen fr.data ∧ fr.fcsOk = true ∧
      (d, w) = enterStage2 (macReceive s.dev p fr).1 p fr true ∧ q = (partner s.dev p).getD p ∧
      launch = s.dev.clock + 240 ∧ flInService s.dev p = true ∧ linkUp s.dev q = true ∧
      launch < Tbl.getD s.dev.prs.flBusy q 0) :=
  ⟨⟨1, frame1, (on linkDev), _, 5, 12, { secy1 with port := 0, txVlan := 0xFFF }, by decide, by decide, by decide,
    by decide, by decide, by decide, by decide, by decide, by decide, by decide, by decide, by decide,
    by decide, by decide, by decide, by decide, rfl, by decide, by decide⟩,
   ⟨1, frame1, (on (flUp 2000)), (enterStage2 (macReceive (flUp 2000) 1 frame1).1 1 frame1 true).1,
    (enterStage2 (macReceive (flUp 2000) 1 frame1).1 1 frame1 true).2, _, _, by decide, by decide, by decide,
    by decide, rfl, rfl, rfl, by decide, by decide, by decide⟩⟩

theorem wit_FormesTakeFramesAndContexts :
    (∃ (p : Fin 128) (s : State) (q : Nat) (w : Work) (rest : List Work) (f : Nat) (i : Nat) (a : Sa),
      fifoOf s.dev p ≠ [] ∧
      nextPort { s.dev with prs := { s.dev.prs with waiting := (if s.dev.prs.waiting.contains p.val then s.dev.prs.waiting else s.dev.prs.waiting ++ [p.val]) } } = some q ∧
      fifoOf s.dev q = w :: rest ∧ s.dev.prs.stop = none ∧ canAllocate s.dev w = true ∧
      isAggregate s.dev q = false ∧ firstFrom (fun k => !Tbl.has s.dev.prs.formes k) 0 16128 = some f ∧
      w.sa = some i ∧ ciphered s.dev w = true ∧ saOf s.dev i = some a ∧ a.oos = false ∧
      inCache s.dev i = false ∧ s.dev.prs.fetching.contains i = false) ∧
    (∃ (i : Fin 262144) (s : State) (a : Sa),
      s.dev.prs.fetching = [i.val] ∧ saOf s.dev i = some a ∧ a.oos = false ∧
      [ctxLine i 0, ctxLine i 1, recLine i].all (lineGood s.dev) = true ∧ recGood s.dev i = true ∧
      s.dev.prs.flActive = []) :=
  ⟨⟨1, (on { linkDev with prs := { fifo := [(1, [clientWork])] } }), 1, clientWork, [], 0, 12, sa1, by decide,
    by decide, by decide, by decide, by decide, by decide, by decide, by decide, by decide, by decide,
    by decide, by decide, by decide⟩,
   ⟨12,
    (on { linkDev with prs := { fetching := [12] }, key := { records := [(12, { present := true, key := zeros 16, check := checkValue up 0 (zeros 16) 0x80#16 0#32 })] } }),
    sa1, by decide, by decide, by decide, by decide, recGood_of rfl rfl, by decide⟩⟩

theorem wit_PressesCipherFrames :
    (∃ (f : Fin 16384) (s : State) (x : Forme) (i : Nat) (m : Nat) (n : Nat) (a : Sa) (y : SecY) (c : Sc),
      forme? s.dev f = some x ∧ x.stage = .wait ∧ x.w.sa = some i ∧ x.w.dec = false ∧ x.w.fl = false ∧
      saOf s.dev i = some a ∧ a.oos = false ∧ a.exhausted = false ∧ a.pn ≤ maxPn a.suite ∧
      ciphered s.dev x.w = true ∧ dispatchable s.dev i x a = true ∧ choosePress s.dev i = some m ∧
      x.w.secy = some n ∧ heldUnder s.dev i = some (c, y)) ∧
    (∃ (f : Fin 16384) (s : State) (x : Forme) (i : Nat) (m : Nat),
      forme? s.dev f = some x ∧ x.press = some m ∧ m < 24 ∧ x.w.sa = some i ∧ x.done = false ∧ x.w.dec = false ∧
      ((x.w.whole = true ∨ x.w.badFcs = false ∧ plainLen s.dev x.w ≤ 16383))) ∧
    (∃ (f : Fin 16384) (s : State) (x : Forme),
      forme? s.dev f = some x ∧ x.stage = .sending ∧ x.w.dec = false ∧ x.w.whole = false ∧ x.w.fl = false ∧
      x.stomped = false) :=
  ⟨⟨7, (on (withForme { linkDev with prs := { cache := [(12, [12])] } } 7 (formeAt .wait))), (formeAt .wait), 12, 0,
    5, sa1, { secy1 with port := 0, txVlan := 0xFFF }, { tx1 with encAn := some 0 }, by decide, by decide,
    by decide, by decide, by decide, by decide, by decide, by decide, by decide, by decide, by decide,
    by decide, by decide, by decide⟩,
   ⟨7, (on (withForme linkDev 7 { formeAt .press with press := some 3, out := [1#8] })),
    { formeAt .press with press := some 3, out := [1#8] }, 12, 3, by decide, by decide, by decide, by decide,
    by decide, by decide, by decide⟩,
   ⟨7, (on (withForme linkDev 7 { formeAt .sending with w := { clientWork with whole := false } })),
    { formeAt .sending with w := { clientWork with whole := false } }, by decide, by decide, by decide,
    by decide, by decide, by decide⟩⟩

theorem wit_FramesLeaveTheirPorts :
    (∃ (f : Fin 16384) (s : State) (x : Forme),
      forme? s.dev f = some x ∧ x.stage = .press ∧ behindFlow s.dev x = false ∧ isAggregate s.dev x.w.eg = false ∧
      linkUp s.dev x.w.eg = true ∧ stagedBytes s.dev x.w.eg + outLen x ≤ 262144) ∧
    (∃ (p : Fin 128) (s : State) (f : Nat) (x : Forme) (rest : List Nat),
      linkUp s.dev p = true ∧ isLink s.dev p = true ∧ Tbl.has s.dev.prs.tx p = false ∧ nextLaunch s.dev p = none ∧
      stagedOf s.dev p = f :: rest ∧ forme? s.dev f = some x ∧ stagedReady s.dev x = true ∧
      lateFault s.dev x.w = none) ∧
    (∃ (p : Fin 128) (s : State) (d : Device) (q : Nat) (f : Nat) (x : Forme),
      linkUp s.dev p = true ∧ isAggregate s.dev p = true ∧ Tbl.has s.dev.prs.tx p = false ∧
      schedulerPick s.dev p = some (d, q) ∧ headOf d q = some (f, x) ∧ tooOld s.dev p x = false ∧
      lateFault s.dev x.w = none ∧ launchNear s.dev p = false) ∧
    (∃ (p : Fin 128) (s : State),
      launchNear s.dev p = true) ∧
    (∃ (f : Fin 16384) (s : State) (x : Forme),
      forme? s.dev f = some x ∧ x.stage = .sending ∧ x.w.fl = false ∧ x.done = true ∧ x.settled = true ∧
      x.stomped = false ∧ x.w.eg < 128 ∧ muted s.dev = false ∧
      ((x.w.whole = true ∨ x.w.badFcs = false ∧ plainLen s.dev x.w ≤ 16383))) ∧
    (∃ (f : Fin 16384) (s : State) (x : Forme),
      forme? s.dev f = some x ∧ x.stage = .sending ∧ x.w.fl = false ∧ x.done = true ∧ x.settled = true ∧
      x.w.whole = false ∧ x.w.dec = false ∧ x.w.badFcs = true ∧ frameLen x.w.data ≤ 16383 ∧
      portRate s.dev x.w.ing ≠ 0 ∧ x.w.ing < 128 ∧ x.w.eg < 128 ∧ muted s.dev = false) ∧
    (∃ (f : Fin 16384) (s : State) (x : Forme),
      forme? s.dev f = some x ∧ x.stage = .sending ∧ x.w.fl = false ∧ x.done = true ∧ x.settled = true ∧
      muted s.dev = true) ∧
    (∃ (f : Fin 16384) (s : State) (x : Forme) (l : Nat),
      forme? s.dev f = some x ∧ x.launch = some l ∧ x.w.fl = false ∧ x.stage ≠ .sending ∧ x.w.eg < 128 ∧
      linkUp s.dev x.w.eg = false) :=
  ⟨⟨7, (on (withForme linkDev 7 (formeAt .press))), (formeAt .press), by decide, by decide, by decide, by decide,
    by decide, by decide⟩,
   ⟨0, (on { linkDev with prs := { formes := [(7, formeAt .queued)], staged := [(0, [7])] } }), 7,
    (formeAt .queued), [], by decide, by decide, by decide, by decide, by decide, by decide, by decide,
    by decide⟩,
   ⟨2, (on galUp), ((schedulerPick galUp 2).getD (up, 0)).1, 16, 7,
    { formeAt .queued with done := true, settled := true, w := { clientWork with eg := 2 } }, by decide,
    by decide, by decide, rfl, by decide, by decide, by decide, by decide⟩,
   ⟨2,
    (on { linkDev with prs := { formes := [(7, { formeAt .queued with launch := some 1003 })], staged := [(2, [7])] } }),
    by decide⟩,
   ⟨7, (on (withForme linkDev 7 { formeAt .sending with done := true, settled := true, out := [1#8, 2#8] })),
    { formeAt .sending with done := true, settled := true, out := [1#8, 2#8] }, by decide, by decide, by decide,
    by decide, by decide, by decide, by decide, by decide, by decide⟩,
   ⟨7,
    (on (withForme linkDev 7 { formeAt .sending with done := true, settled := true, out := [1#8, 2#8], w := { clientWork with whole := false, badFcs := true } })),
    { formeAt .sending with done := true, settled := true, out := [1#8, 2#8], w := { clientWork with whole := false, badFcs := true } },
    by decide, by decide, by decide, by decide, by decide, by decide, by decide, by decide, by decide,
    by decide, by decide, by decide, by decide⟩,
   ⟨7,
    (on (withForme { linkDev with tmp := { halted := true } } 7 { formeAt .sending with done := true, settled := true, out := [1#8, 2#8] })),
    { formeAt .sending with done := true, settled := true, out := [1#8, 2#8] }, by decide, by decide, by decide,
    by decide, by decide, by decide⟩,
   ⟨7, (on (withForme linkDev 7 { formeAt .queued with launch := some 5, w := { clientWork with eg := 6 } })),
    { formeAt .queued with launch := some 5, w := { clientWork with eg := 6 } }, 5, by decide, by decide,
    by decide, by decide, by decide, by decide⟩⟩

theorem wit_KnadraAssociationsFollowCommands :
    (∃ (r : Fin 64) (s : State) (f : Fetched) (rest : List Fetched) (a : Nat) (x : Assoc),
      Runs s.dev r 0x0180 anyRight (assocOwn s.dev) f rest ∧ a = assocNo f.desc ∧ x = assocOf f.desc ∧
      isLine s.dev x.port = true ∧ ((isSdh s.dev x.port = true → containerStart s.dev x.port x.slot = true)) ∧
      ((isSdh s.dev x.port = false → x.slot = 0)) ∧ s.dev.svc.revoked.contains x.peer = false ∧
      Tbl.any s.dev.kn.assocs (fun b y => b != a && y.port == x.port && y.slot == x.slot) = false ∧
      scOf s.dev (49152 + a) = none ∧ roleStale s.dev = false ∧ assoc? s.dev a = none) ∧
    (∃ (r : Fin 64) (s : State) (f : Fetched) (rest : List Fetched) (a : Nat) (x : Assoc) (old : _),
      Runs s.dev r 0x0180 anyRight (assocOwn s.dev) f rest ∧ a = assocNo f.desc ∧ x = assocOf f.desc ∧
      isLine s.dev x.port = true ∧ ((isSdh s.dev x.port = true → containerStart s.dev x.port x.slot = true)) ∧
      ((isSdh s.dev x.port = false → x.slot = 0)) ∧ s.dev.svc.revoked.contains x.peer = false ∧
      Tbl.any s.dev.kn.assocs (fun b y => b != a && y.port == x.port && y.slot == x.slot) = false ∧
      scOf s.dev (49152 + a) = none ∧ roleStale s.dev = false ∧ assoc? s.dev a = some old ∧
      old.deleting = none ∧ assocDiffers old x = false) ∧
    (∃ (r : Fin 64) (s : State) (f : Fetched) (rest : List Fetched) (o : Origin) (a : Nat) (x : Assoc),
      Runs s.dev r 0x0181 anyRight assocDelOwn f rest ∧ o = originOf s.dev r f ∧ a = assocNo f.desc ∧
      assoc? s.dev a = some x ∧ x.deleting = none ∧
      (assocRecords a).any (fun i => (keyRec s.dev i).present && recFull s.dev i) = false ∧
      roleStale s.dev = false) ∧
    (∃ (a : Fin 16384) (s : State) (x : Assoc) (o : Origin) (t : Nat),
      assoc? s.dev a = some x ∧ x.deleting = some (o, t)) ∧
    (∃ (r : Fin 64) (s : State) (f : Fetched) (rest : List Fetched) (a : Nat) (x : Assoc),
      Runs s.dev r 0x0183 anyRight knTurnOwn f rest ∧ a = assocNo f.desc ∧ assoc? s.dev a = some x ∧
      leField f.desc 22 1 = 1 ∧ x.oos = false ∧ x.deleting = none ∧ x.txNext ≠ none ∧ x.turn = none ∧
      roleStale s.dev = false) ∧
    (∃ (r : Fin 64) (s : State) (f : Fetched) (rest : List Fetched) (a : Nat) (x : Assoc) (t : _),
      Runs s.dev r 0x0183 anyRight knTurnOwn f rest ∧ a = assocNo f.desc ∧ assoc? s.dev a = some x ∧
      leField f.desc 22 1 = 2 ∧ x.turn = some t ∧ x.sfn + 8 < t) ∧
    (∃ (a : Fin 16384) (s : State) (x : Assoc) (t : Nat) (v : Bool),
      assoc? s.dev a = some x ∧ x.outputDue = some (t, v)) ∧
    (∃ (val : W32) (s : State) (x : Assoc),
      assoc? s.dev (bits val 13 0) = some x) :=
  ⟨⟨0, (withCmd up (fet 0x0180 0 ([2#8, 0#8, 4#8, 3#8, 0#8, 0#8, 0x23#8, 0#8, 9#8, 0#8, 0#8, 0#8, 1#8]))),
    (fet 0x0180 0 ([2#8, 0#8, 4#8, 3#8, 0#8, 0#8, 0x23#8, 0#8, 9#8, 0#8, 0#8, 0#8, 1#8])), [], _, _,
    runs_of (by decide), rfl, rfl, by decide, by decide, by decide, by decide, by decide, by decide, by decide,
    by decide⟩,
   ⟨0,
    (withCmd (knUp assoc1) (fet 0x0180 0 ([2#8, 0#8, 4#8, 3#8, 0#8, 0#8, 0x23#8, 0#8, 9#8, 0#8, 0#8, 0#8, 1#8]))),
    (fet 0x0180 0 ([2#8, 0#8, 4#8, 3#8, 0#8, 0#8, 0x23#8, 0#8, 9#8, 0#8, 0#8, 0#8, 1#8])), [], _, _, assoc1,
    runs_of (by decide), rfl, rfl, by decide, by decide, by decide, by decide, by decide, by decide, by decide,
    by decide, by decide, by decide⟩,
   ⟨0, (withCmd (knUp assoc1) (fet 0x0181 0 ([2#8]))), (fet 0x0181 0 ([2#8])), [], _, _, assoc1,
    runs_of (by decide), rfl, rfl, by decide, by decide, by decide, by decide⟩,
   ⟨2, (on (knUp { assoc1 with deleting := some (org, 5) })), { assoc1 with deleting := some (org, 5) }, org, 5,
    by decide, by decide⟩,
   ⟨0, (withCmd (knUp { assoc1 with txNext := some 7 }) (fet 0x0183 0 ([2#8, 0#8, 1#8]))),
    (fet 0x0183 0 ([2#8, 0#8, 1#8])), [], _, { assoc1 with txNext := some 7 }, runs_of (by decide), rfl,
    by decide, by decide, by decide, by decide, by decide, by decide, by decide⟩,
   ⟨0, (withCmd (knUp { assoc1 with turn := some 60 }) (fet 0x0183 0 ([2#8, 0#8, 2#8]))),
    (fet 0x0183 0 ([2#8, 0#8, 2#8])), [], _, { assoc1 with turn := some 60 }, 60, runs_of (by decide), rfl,
    by decide, by decide, by decide, by decide⟩,
   ⟨2, (on (knUp { assoc1 with outputDue := some (5000, true) })), { assoc1 with outputDue := some (5000, true) },
    5000, true, by decide, by decide⟩,
   ⟨2#32, (on (knUp assoc1)), assoc1, by decide⟩⟩

theorem wit_SuperframesCipherAndCheck :
    (∃ (a : Fin 16384) (payload : Bytes) (key : Bytes) (iv : Bytes) (fields : Bytes) (ct : Bytes) (tag : Bytes)
        (s : State) (x : Assoc) (n : Nat) (own : Nat),
      assoc? s.dev a = some x ∧ txInService x = true ∧ x.turn = none ∧ x.txPend = none ∧ s.dev.duet.role ≠ .active ∧
      pathRuns s.dev = true ∧ sourceHasAis s.dev x = false ∧ payload.length ≤ txPayload s.dev x ∧ n = x.sfn ∧
      n < 2 ^ 64 - 1 ∧ recGood s.dev (knRecord a x 0 0) = true ∧ muted s.dev = false ∧ own = memberInUse s.dev ∧
      key = (keyRec s.dev (knRecord a x 0 0)).key ∧ iv = knIv x.salt own n ∧
      fields = knFields (isSdh s.dev x.port) (if x.sent then x.tagPrev else zeroTag) (x.txCur.getD 0) 0 own n ∧
      ct = fit payload.length (gcmCrypt key iv payload) ∧ tag = fit 16 (gcmTag key iv (fields.drop 16) ct)) ∧
    (∃ (k : Nat),
      k < 64) ∧
    (∃ (k : Nat),
      k < 16) ∧
    (∃ (a : Fin 16384) (s : State) (x : Assoc),
      assoc? s.dev a = some x ∧ rxInService x = true ∧ x.withheld = false ∧ isSdh s.dev x.port = false ∧
      pathRuns s.dev = true ∧ x.skip = 0 ∧ x.outputDue = none ∧ x.rxPend = none ∧ x.rxState ≠ 1 ∧ x.pred = none) ∧
    (∃ (a : Fin 16384) (frames : List (Byte × Bytes)) (f : Bytes) (payload : Bytes) (tag : Bytes) (s : State)
        (x : Assoc) (n : Nat),
      assoc? s.dev a = some x ∧ rxInService x = true ∧ x.withheld = false ∧ isSdh s.dev x.port = false ∧
      x.port < 128 ∧ pathRuns s.dev = true ∧ x.skip = 0 ∧ x.rxPend = none ∧ payload.length ≤ rxPayload s.dev x ∧
      f = rxFields false 0 frames ∧ x.pred = some n ∧ x.rxTurn = none ∧
      recGood s.dev (knRecord a x 1 0) = true ∧ x.rxState = 1 ∧
      superframeCause s.dev x (knRecord a x 1 0) (x.rxCur.getD 0) n f payload tag = none) ∧
    (∃ (a : Fin 16384) (frames : List (Byte × Bytes)) (f : Bytes) (payload : Bytes) (tag : Bytes) (s : State)
        (x : Assoc) (n : Nat) (c : _),
      assoc? s.dev a = some x ∧ rxInService x = true ∧ x.withheld = false ∧ isSdh s.dev x.port = false ∧
      x.port < 128 ∧ pathRuns s.dev = true ∧ x.skip = 0 ∧ x.rxPend = none ∧ payload.length ≤ rxPayload s.dev x ∧
      f = rxFields false 0 frames ∧ x.pred = some n ∧ x.rxTurn = none ∧
      recGood s.dev (knRecord a x 1 0) = true ∧ x.rxState = 1 ∧
      superframeCause s.dev x (knRecord a x 1 0) (x.rxCur.getD 0) n f payload tag = some c ∧ x.rxNext = none ∧
      x.failRun + 1 < x.nFail ∧ x.nFail ≤ 15) ∧
    (∃ (a : Fin 16384) (frames : List (Byte × Bytes)) (f : Bytes) (payload : Bytes) (s : State) (x : Assoc) (n : Nat),
      assoc? s.dev a = some x ∧ rxInService x = true ∧ x.withheld = false ∧ isSdh s.dev x.port = false ∧
      x.port < 128 ∧ pathRuns s.dev = true ∧ x.skip = 0 ∧ x.rxPend = none ∧ payload.length ≤ rxPayload s.dev x ∧
      f = rxFields false 0 frames ∧ x.pred = some n ∧ x.rxTurn = none ∧
      recGood s.dev (knRecord a x 1 0) = true ∧ x.output = true ∧ x.outputDue = none ∧ x.cut = none ∧
      muted s.dev = false) :=
  ⟨⟨2, [5#8], _, _, _, _, _, (on (knUp assoc1)), assoc1, _, _, by decide, by decide, by decide, by decide,
    by decide, by decide, by decide, by decide, rfl, by decide, recGood_of rfl rfl, by decide, rfl, rfl, rfl,
    rfl, rfl, rfl⟩,
   ⟨63, by decide⟩,
   ⟨15, by decide⟩,
   ⟨2, (on (knUp { assoc1 with rxState := 0 })), { assoc1 with rxState := 0 }, by decide, by decide, by decide,
    by decide, by decide, by decide, by decide, by decide, by decide, by decide⟩,
   ⟨2, goodFrames, (rxFields false 0 goodFrames), [], goodTag, (on (knUp { assoc1 with pred := some 50 })),
    { assoc1 with pred := some 50 }, 50, by decide, by decide, by decide, by decide, by decide, by decide,
    by decide, by decide, by decide, by decide, by decide, by decide, recGood_of rfl rfl, by decide,
    (congrArg (fun f => superframeCause (knUp { assoc1 with pred := some 50 }) { assoc1 with pred := some 50 } (knRecord 2 { assoc1 with pred := some 50 } 1 0) 6 50 f [] goodTag) goodFrames_fields).trans goodHead_passes⟩,
   ⟨2, [], _, [], [], (on (knUp { assoc1 with pred := some 50 })), { assoc1 with pred := some 50 }, 50, 2,
    by decide, by decide, by decide, by decide, by decide, by decide, by decide, by decide, by decide, rfl,
    by decide, by decide, recGood_of rfl rfl, by decide, by decide, by decide, by decide, by decide⟩,
   ⟨2, [], _, [], (on (knUp { assoc1 with pred := some 50, output := true })),
    { assoc1 with pred := some 50, output := true }, 50, by decide, by decide, by decide, by decide, by decide,
    by decide, by decide, by decide, by decide, rfl, by decide, by decide, recGood_of rfl rfl, by decide,
    by decide, by decide, by decide⟩⟩

theorem wit_FramingRaisesDefects :
    (∃ (p : Fin 128) (s : State) (n : Nat) (w : BitVec 48),
      isSdh s.dev p = true ∧ (stream s.dev p 0).inFrame = false ∧ (stream s.dev p 0).trackers = [] ∧
      n = frameBits s.dev p ∧ w = 0xF6F6F6282828#48) ∧
    (∃ (p : Fin 128) (lane : Fin 21) (s : State) (w : BitVec 48),
      (stream s.dev p lane).inFrame = false ∧ (stream s.dev p lane).trackers = [] ∧
      ((lane.val = 0 → w ≠ 0xF6F6F6282828#48)) ∧ ((lane.val ≠ 0 → w >>> 8 ≠ 0xF6F6F62828#48))) ∧
    (∃ (p : Fin 128) (s : State) (w0 : BitVec 48) (w1 : BitVec 48) (w2 : BitVec 48) (w3 : BitVec 48),
      (stream s.dev p 0).inFrame = true ∧ w0 ≠ 0xF6F6F6282828#48 ∧ w1 ≠ 0xF6F6F6282828#48 ∧ w2 ≠ 0xF6F6F6282828#48 ∧
      w3 ≠ 0xF6F6F6282828#48) ∧
    (∃ (p : Fin 128) (s : State),
      (stream s.dev p 0).inFrame = false ∧ hasDefect s.dev p 1 = true) ∧
    (∃ (p : Fin 128) (s : State),
      (stream s.dev p 0).inFrame = true) ∧
    (∃ (p : Fin 128) (code : Fin 64) (raised : Bool) (v : Bool) (seen : LineSeen) (s : State),
      isSdh s.dev p = true ∧ 6 ≤ code.val ∧ code.val ≤ 9 ∧ v = detected s.dev p code raised seen) ∧
    (∃ (p : Fin 128) (k1 : Byte) (k2 : Byte) (s : State),
      isSdh s.dev p = true ∧ Tbl.getD s.dev.frm.kbytes p 0 ≠ 256 * k1.toNat + k2.toNat) :=
  ⟨⟨5, (on up), _, 0xF6F6F6282828#48, by decide, by decide, by decide, rfl, by decide⟩,
   ⟨5, 0, (on up), 0#48, by decide, by decide, by decide, by decide⟩,
   ⟨5, (on { up with frm := { streams := [(5, { inFrame := true, since := 7 })] } }), 0xF6F6F6282829#48,
    0xF6F6F6282829#48, 0#48, 1#48, by decide, by decide, by decide, by decide, by decide⟩,
   ⟨5, (on { up with frm := { defects := [(5, 2#32)], streams := [(5, { since := 7 })] } }), by decide, by decide⟩,
   ⟨5, (on { up with frm := { defects := [(5, 4#32)], streams := [(5, { inFrame := true, since := 7 })] } }),
    by decide⟩,
   ⟨5, 7, true, _, {}, (on up), by decide, by decide, by decide, rfl⟩,
   ⟨5, 1, 2, (on up), by decide, by decide⟩⟩

theorem wit_TracesAreAcceptedAndCommitted :
    (∃ (p : Fin 12288) (msg : Bytes) (s : State) (x : Trace),
      isSdh s.dev p = true ∧ x = trace s.dev 0 p ∧ x.format = 1 ∧ x.last = fit 64 msg ∧ x.run = 2 ∧
      traceBlocked s.dev 0 p p = false) ∧
    (∃ (val : W32) (s : State),
      bit val 31 = true ∧ selTx s.dev = false ∧ formatOk (selKind s.dev) (bits val 1 0) = true ∧
      traceExists (selKind s.dev) (selIndex s.dev) = true) :=
  ⟨⟨5, [65#8],
    (on { up with frm := { defects := [(5, 0#32)], traces := [(5, { format := 1, last := fit 64 [65#8], run := 2 })] } }),
    _, by decide, rfl, by decide, by decide, by decide, by decide⟩,
   ⟨0x80000001#32, (on { up with regs := [(0xC4000, 5#32), (0xC4008, 77#32), (0xC4040, 0x41424344#32)] }),
    by decide, by decide, by decide, by decide⟩⟩

theorem wit_PagesSwitchTogether :
    (∃ (r : Fin 64) (s : State) (f : Fetched) (rest : List Fetched) (buf : Bytes) (b : Bytes) (first : Nat) (n : Nat),
      Runs s.dev r 0x0280 anyRight pageOwn f rest ∧ first = leField f.desc 22 2 ∧ n = leField f.desc 24 2 ∧
      (originOf s.dev r f).bufLen = 4 * n ∧ b = fit (4 * n) buf ∧ leField f.desc 20 1 = 0 ∧
      s.dev.frm.active = true ∧ first + n ≤ slotTotal s.dev ∧ firstBadEntry b n = none ∧
      switchPending s.dev = false ∧ roleStale s.dev = false) ∧
    (∃ (r : Fin 64) (s : State) (f : Fetched) (rest : List Fetched) (o : Origin) (p : Nat) (d : Device) (x : TsiSwitch),
      Runs s.dev r 0x0281 anyRight switchOwn f rest ∧ o = originOf s.dev r f ∧ p = leField f.desc 20 1 ∧
      isSdh s.dev p = true ∧ firstInconsistent s.dev (standbyPage s.dev) = none ∧ roleStale s.dev = false ∧
      switchPending s.dev = false ∧ d = enterInflight (taken s.dev r rest) o 0x0281 ∧
      x = { origin := some o, refPort := p, copyBack := (byteAt f.desc 21).getLsbD 0, accepted := s.dev.clock, internal := !(stream s.dev p 0).inFrame }) ∧
    (∃ (s : State) (x : TsiSwitch),
      s.dev.frm.switch = some x ∧ x.boundary = none ∧ x.internal = false ∧ (stream s.dev x.refPort 0).inFrame = true) ∧
    (∃ (p : Fin 128) (s : State) (x : TsiSwitch) (t : Nat),
      s.dev.frm.switch = some x ∧ x.boundary = some t ∧ isSdh s.dev p = true ∧ x.changed.contains p.val = false ∧
      (sdhPorts s.dev).all (fun q => (x.changed ++ [p.val]).contains q) = false) ∧
    (∃ (p : Fin 128) (s : State) (x : TsiSwitch) (t : Nat),
      s.dev.frm.switch = some x ∧ x.boundary = some t ∧ isSdh s.dev p = true ∧ x.changed.contains p.val = false ∧
      s.dev.frm.later = [] ∧ (sdhPorts s.dev).all (fun q => (x.changed ++ [p.val]).contains q) = true) :=
  ⟨⟨0, (withCmd { up with frm := { active := true } } (fet 0x0280 8 ([0#8, 0#8, 3#8, 0#8, 2#8]))),
    (fet 0x0280 8 ([0#8, 0#8, 3#8, 0#8, 2#8])), [], zeros 8, _, _, _, runs_of (by decide), rfl, rfl, by decide,
    rfl, by decide, by decide, by decide, by decide, by decide, by decide⟩,
   ⟨0, (withCmd up (fet 0x0281 0 ([5#8]))), (fet 0x0281 0 ([5#8])), [], _, _, _, _, runs_of (by decide), rfl, rfl,
    by decide, by decide, by decide, by decide, rfl, rfl⟩,
   ⟨(on { up with frm := { switch := some { origin := none, refPort := 5, copyBack := false, accepted := 7 }, streams := [(5, { inFrame := true })] } }),
    { origin := none, refPort := 5, copyBack := false, accepted := 7 }, by decide, by decide, by decide,
    by decide⟩,
   ⟨5,
    (on { up with frm := { switch := some { origin := none, refPort := 5, copyBack := false, accepted := 7, boundary := some 9 } } }),
    { origin := none, refPort := 5, copyBack := false, accepted := 7, boundary := some 9 }, 9, by decide,
    by decide, by decide, by decide, by decide⟩,
   ⟨6,
    (on { up with frm := { page1 := [(3, 5#32)], switch := some { origin := none, refPort := 5, copyBack := true, accepted := 7, boundary := some 9, changed := [5] } } }),
    { origin := none, refPort := 5, copyBack := true, accepted := 7, boundary := some 9, changed := [5] }, 9,
    by decide, by decide, by decide, by decide, by decide, by decide⟩⟩

theorem wit_LinksFollowTheirLanes :
    (∃ (p : Fin 128) (s : State),
      isEth s.dev p = true ∧ linkUp s.dev p = false ∧ forceDown s.dev p = false ∧ portsRun s.dev = true ∧
      pllLocked s.dev p = true) ∧
    (∃ (p : Fin 128) (s : State),
      (forceDown s.dev p = true ∨ pllLocked s.dev p = false)) ∧
    (∃ (p : Fin 128) (s : State),
      linkUp s.dev p = true) ∧
    (∃ (p : Fin 128) (val : W32) (s : State),
      bit val 0 = true ∧ linkUp s.dev p = true) ∧
    (∃ (g : Fin 8) (s : State),
      s.dev.glb.groupPll.getLsbD g = true) ∧
    (∃ (g : Fin 8) (s : State),
      s.dev.glb.part.lanes ≤ 16 * g.val) ∧
    (∃ (g : Fin 8) (s : State),
      16 * g.val < s.dev.glb.part.lanes) ∧
    (∃ (i : Fin 2) (s : State) (x : Lane),
      Tbl.getD s.dev.lane.squelched i false = true ∧ x = laneOf s.dev (rclkLane s.dev i) ∧ x.cdr = true) :=
  ⟨⟨0, (on up), by decide, by decide, by decide, by decide, by decide⟩,
   ⟨0, (on { up with glb := { up.glb with groupPll := 0#8 } }), Or.inr (by decide)⟩,
   ⟨0, (on linkDev), by decide⟩,
   ⟨0, 1#32, (on linkDev), by decide, by decide⟩,
   ⟨0, (on linkDev), by decide⟩,
   ⟨4, (on { up with glb := { up.glb with part := .lvt0800E } }), by decide⟩,
   ⟨0, (on up), by decide⟩,
   ⟨0, (on { linkDev with lane := { squelched := [(0, true)], lanes := [(0, { cdr := true, cdrAt := 3 })] } }), _,
    by decide, rfl, by decide⟩⟩

theorem wit_LaneMaintenance :
    (∃ (lane : Fin 133) (s : State) (off : Nat),
      off = laneBase lane + 4 ∧ (laneOf s.dev lane).ltOwned = false ∧ fusedOff s.dev.glb.part off = false) ∧
    (∃ (lane : Fin 133) (s : State),
      fusedOff s.dev.glb.part (laneBase lane + 4) = true) ∧
    (∃ (lane : Fin 133) (val : W32) (s : State),
      bit val 31 = false ∧ (laneOf s.dev lane).cdr = true ∧ fusedOff s.dev.glb.part (laneBase lane + 8) = false) ∧
    (∃ (r : Fin 64) (s : State) (f : Fetched) (rest : List Fetched) (n : Nat) (k : Nat),
      Runs s.dev r 0x0400 anyRight loopOwn f rest ∧ namedLane s.dev f.desc = some n ∧ k = leField f.desc 22 1 ∧
      k ≠ 3 ∧ (laneOf s.dev n).loopback ≠ 3) ∧
    (∃ (r : Fin 64) (s : State) (f : Fetched) (rest : List Fetched) (n : Nat),
      Runs s.dev r 0x0401 anyRight prbsOwn f rest ∧ namedLane s.dev f.desc = some n ∧ leField f.desc 22 1 = 0) ∧
    (∃ (r : Fin 64) (s : State) (f : Fetched) (rest : List Fetched) (n : Nat) (pattern : Nat) (rate : Nat),
      Runs s.dev r 0x0401 anyRight prbsOwn f rest ∧ namedLane s.dev f.desc = some n ∧ pattern = leField f.desc 23 1 ∧
      rate = prbsRate s.dev n (leField f.desc 24 1) ∧ decide (6 ≤ pattern) = pam4 rate ∧
      ((leField f.desc 20 1 = 1 → leField f.desc 24 1 = 0)) ∧ leField f.desc 22 1 = 1) ∧
    (∃ (r : Fin 64) (s : State) (f : Fetched) (rest : List Fetched) (n : Nat) (o : Origin),
      Runs s.dev r 0x0403 anyRight marginOwn f rest ∧ namedLane s.dev f.desc = some n ∧ o = originOf s.dev r f) ∧
    (∃ (lane : Fin 133) (s : State) (x : Scan),
      s.dev.lane.scans.find? (fun x => x.lane == lane.val) = some x) :=
  ⟨⟨3, (on up), 0x40C04, by decide, by decide, by decide⟩,
   ⟨64, (on { up with glb := { up.glb with part := .lvt0800E } }), by decide⟩,
   ⟨3, 0x5#32, (on { up with lane := { lanes := [(3, { cdr := true })] } }), by decide, by decide, by decide⟩,
   ⟨0, (withCmd (inMode .maintain) (fet 0x0400 0 ([0#8, 1#8, 2#8]))), (fet 0x0400 0 ([0#8, 1#8, 2#8])), [], 1, _,
    runs_of (by decide), by decide, rfl, by decide, by decide⟩,
   ⟨0, (withCmd (inMode .maintain) (fet 0x0401 0 ([0#8, 1#8, 0#8, 3#8]))), (fet 0x0401 0 ([0#8, 1#8, 0#8, 3#8])),
    [], 1, runs_of (by decide), by decide, by decide⟩,
   ⟨0, (withCmd (inMode .maintain) (fet 0x0401 0 ([0#8, 1#8, 1#8, 3#8]))), (fet 0x0401 0 ([0#8, 1#8, 1#8, 3#8])),
    [], 1, _, _, runs_of (by decide), by decide, rfl, rfl, by decide, by decide, by decide⟩,
   ⟨0, (withCmd (inMode .maintain) (fet 0x0403 0 ([0#8, 1#8, 20#8]))), (fet 0x0403 0 ([0#8, 1#8, 20#8])), [], 1, _,
    runs_of (by decide), by decide, rfl⟩,
   ⟨3, (on { inMode .maintain with lane := { scans := [{ origin := org, lane := 3 }] } }),
    { origin := org, lane := 3 }, by decide⟩⟩

theorem wit_DuetLinkAndHeartbeats :
    (∃ (locked : BitVec 4) (s : State) (n : Nat),
      n = s.dev.lane.dlState ∧ 1 ≤ n ∧ n ≤ 4 ∧ (n ≤ 2 ∨ locked = 0xF#4)) ∧
    (∃ (locked : BitVec 4) (s : State) (n : Nat),
      n = s.dev.lane.dlState ∧ 1 ≤ n ∧ n ≤ 4 ∧ 3 ≤ n ∧ locked ≠ 0xF#4) ∧
    (∃ (s : State),
      s.dev.lane.dlState = 1) ∧
    (∃ (s : State),
      s.dev.lane.dlState = 5 ∧ s.dev.duet.role = .active ∧ s.dev.duet.confirmed = true ∧ s.dev.duet.beatLost = false ∧
      s.dev.duet.peerLost = false) ∧
    (∃ (s : State),
      s.dev.lane.dlState = 5 ∧ s.dev.lane.dlForwarded = true) ∧
    (∃ (s : State),
      s.dev.lane.dlState = 5 ∧ s.dev.lane.dlForwarded = false) ∧
    (∃ (s : State) (key : Bytes),
      s.dev.duet.linkKey = some key ∧ s.dev.duet.confirmed = true ∧ s.dev.duet.role ≠ .solo ∧ s.dev.lane.dlState = 5) ∧
    (∃ (h : DuetHdr) (role : Fin 4) (health : W32) (pinOut : Bool) (s : State),
      Heard s.dev h (.beat (roleOfCode role) health pinOut) ∧ s.dev.duet.role ≠ .active) ∧
    (∃ (h : DuetHdr) (role : Fin 4) (health : W32) (pinOut : Bool) (s : State),
      Heard s.dev h (.beat (roleOfCode role) health pinOut) ∧ s.dev.duet.role = .active ∧ s.dev.duet.peerLost = true ∧
      roleOfCode role = .syncing ∧ 20 ≤ pressesIn s.dev) ∧
    (∃ (h : DuetHdr) (role : Fin 4) (health : W32) (pinOut : Bool) (s : State),
      authentic s.dev h (.beat (roleOfCode role) health pinOut) = true ∧ s.dev.duet.linkKey.isSome = true ∧
      s.dev.duet.confirmed = true ∧ s.dev.duet.rxSeq < h.seq ∧ h.epoch.toNat < s.dev.duet.epoch.toNat) ∧
    (∃ (h : DuetHdr) (role : Fin 4) (health : W32) (pinOut : Bool) (s : State),
      (authentic s.dev h (.beat (roleOfCode role) health pinOut) = false ∨ h.seq ≤ s.dev.duet.rxSeq) ∧
      (s.dev.duet.discards.filter (fun t => s.dev.clock < t + 500000)).length < 15) ∧
    (∃ (s : State),
      s.dev.duet.role = .standby ∧ s.dev.duet.confirmed = true ∧ s.dev.duet.beatLost = false ∧
      s.dev.duet.pinInLow = true) ∧
    (∃ (s : State) (t : Nat),
      s.dev.duet.lossAt = some t ∧ s.dev.duet.role = .standby ∧ s.dev.duet.pinInLow = true) ∧
    (∃ (s : State) (x : HeldMsg),
      s.dev.duet.held = [x]) ∧
    (∃ (s : State) (m : Nat),
      s.dev.duet.role = .standby ∧ m = s.dev.duet.testPress.getD 0) ∧
    (∃ (s : State),
      s.dev.duet.role ≠ .standby) :=
  ⟨⟨0xF#4, (on { up with lane := { dlState := 4 } }), 4, by decide, by decide, by decide, Or.inr rfl⟩,
   ⟨0x7#4, (on { up with lane := { dlState := 3 } }), 3, by decide, by decide, by decide, by decide, by decide⟩,
   ⟨(on { up with lane := { dlState := 1 } }), by decide⟩,
   ⟨(on (duetUp 0 { duetBase with role := .active })), by decide, by decide, by decide, by decide, by decide⟩,
   ⟨(on (duetUp 0 duetBase)), by decide, by decide⟩,
   ⟨(on { duetUp 0 duetBase with lane := { dlState := 5 } }), by decide, by decide⟩,
   ⟨(on (duetUp 0 duetBase)), zeros 32, by decide, by decide, by decide, by decide⟩,
   ⟨hdr, 2, 0x1234#32, true, (on (duetUp 0 { duetBase with role := .syncing })), heard_of (by decide), by decide⟩,
   ⟨hdr, 3, 0x1234#32, true, (on (duetUp 0 { duetBase with role := .active, peerLost := true })),
    heard_of (by decide), by decide, by decide, by decide, by decide⟩,
   ⟨hdr, 2, 0x1234#32, true, (on (duetUp 0 { duetBase with epoch := 3#32 })), by decide, by decide, by decide,
    by decide, by decide⟩,
   ⟨{ hdr with seq := 0 }, 2, 0x1234#32, true, (on (duetUp 0 { duetBase with discards := [999, 998] })),
    Or.inr (by decide), by decide⟩,
   ⟨(on (duetUp 0 { duetBase with pinInLow := true })), by decide, by decide, by decide, by decide⟩,
   ⟨(on (duetUp 0 { duetBase with pinInLow := true, lossAt := some 7 })), 7, by decide, by decide, by decide⟩,
   ⟨(on (duetUp 0 { duetBase with held := [{ msg := .stepDown, epoch := 4#32, seq := 9, arrived := 3 }] })),
    { msg := .stepDown, epoch := 4#32, seq := 9, arrived := 3 }, by decide⟩,
   ⟨(on (duetUp 0 { duetBase with testPress := some 23 })), 23, by decide, by decide⟩,
   ⟨(on up), by decide⟩⟩

theorem wit_DuetStandbyApplies :
    (∃ (h : DuetHdr) (desc : Bytes) (buf : Bytes) (s : State),
      Heard s.dev h (.mirror (fit 64 desc) buf) ∧ s.dev.duet.role = .active) ∧
    (∃ (h : DuetHdr) (desc : Bytes) (buf : Bytes) (s : State) (t : _),
      Heard s.dev h (.mirror (fit 64 desc) buf) ∧ s.dev.duet.role = .standby ∧ s.dev.duet.bulkBad = false ∧
      applyMirror (heard s.dev h) (fit 64 desc) buf = some t) ∧
    (∃ (h : DuetHdr) (desc : Bytes) (buf : Bytes) (s : State),
      Heard s.dev h (.mirror (fit 64 desc) buf) ∧ s.dev.duet.role = .standby ∧ s.dev.duet.bulkBad = false ∧
      applyMirror (heard s.dev h) (fit 64 desc) buf = none) ∧
    (∃ (h : DuetHdr) (s : State),
      Heard s.dev h .bulkEnd ∧ s.dev.duet.role = .syncing ∧ s.dev.duet.bulkBad = false) ∧
    (∃ (h : DuetHdr) (i : Nat) (m : Nat) (s : State),
      Heard s.dev h (.mark [(i, m)]) ∧ s.dev.duet.role ≠ .active ∧ i < 2 ^ 18) ∧
    (∃ (h : DuetHdr) (i : Nat) (n : Nat) (ref : W64) (s : State) (x : Seen) (a : Sa),
      Heard s.dev h (.resync [(i, n, ref)]) ∧ s.dev.duet.role ≠ .active ∧
      (s.dev.duet.history.flatMap Prod.snd).find? (fun y => y.sa == i && y.ref == ref) = some x ∧
      saOf s.dev i = some a) ∧
    (∃ (h : DuetHdr) (p : Fin 128) (ref : W64) (w : Nat) (s : State),
      Heard s.dev h (.anchor p ref w) ∧ s.dev.duet.role ≠ .active) ∧
    (∃ (h : DuetHdr) (sc : Fin 65536) (an : Fin 4) (s : State),
      Heard s.dev h (.turnIntent sc an) ∧ s.dev.duet.role ≠ .active) ∧
    (∃ (h : DuetHdr) (sc : Fin 65536) (s : State) (x : Hold),
      Heard s.dev h (.turnCut sc []) ∧ s.dev.duet.role ≠ .active ∧
      s.dev.ms.holds.find? (fun y => y.sc == sc.val) = some x ∧ cutsOf s.dev sc = []) ∧
    (∃ (sc : Fin 65536) (s : State) (x : Hold),
      s.dev.ms.holds.find? (fun y => y.sc == sc.val) = some x) ∧
    (∃ (g : Fin 4096) (s : State) (t : Turn),
      Tbl.get? s.dev.ms.turns g = some t ∧ s.dev.time.running = true ∧ shadow s.dev = true ∧
      s.dev.duet.role = .standby) ∧
    (∃ (h : DuetHdr) (s : State),
      Heard s.dev h .stepDown ∧ s.dev.duet.role = .standby) ∧
    (∃ (s : State) (p : Pairing),
      s.dev.duet.pairing = some p ∧ s.dev.duet.confirmed = false ∧ p.outcome = none) ∧
    (∃ (h : DuetHdr) (s : State),
      Heard s.dev h .unpair) ∧
    (∃ (h : DuetHdr) (kind : Fin 2) (idx : Fin 16384) (w : Nat) (v : W64) (void : Bool) (s : State) (c : Closed),
      Heard s.dev h (.digest c) ∧ c = { kind := kind, index := idx, window := w, sum := v, void := void, sas := [] } ∧
      s.dev.duet.ownClosed.find? (sameWindow c) = none) ∧
    (∃ (h : DuetHdr) (kind : Fin 2) (idx : Fin 16384) (w : Nat) (v : W64) (void : Bool) (s : State) (c : Closed)
        (own : _),
      Heard s.dev h (.digest c) ∧ c = { kind := kind, index := idx, window := w, sum := v, void := void, sas := [] } ∧
      s.dev.duet.ownClosed.find? (sameWindow c) = some own ∧ own.void = false ∧ void = false ∧
      s.dev.duet.disagree = none) ∧
    (∃ (h : DuetHdr) (kind : Fin 2) (idx : Fin 16384) (w : Nat) (s : State),
      Heard s.dev h (.mismatch kind idx w) ∧ s.dev.duet.disagree = none) ∧
    (∃ (h : DuetHdr) (flags : Byte) (s : State) (x : Disagree),
      Heard s.dev h (.proofResult flags.toNat) ∧ s.dev.duet.disagree = some x ∧ x.own = none) ∧
    (∃ (found : ProofFindings) (s : State) (x : Disagree),
      s.dev.duet.disagree = some x ∧ x.peer = none ∧ found.badPresses = []) :=
  ⟨⟨hdr, [], [], (on (duetUp 0 { duetBase with role := .active })), heard_of (by decide), by decide⟩,
   ⟨hdr, (fet 0x312 0 [5#8]).desc, [], (on (duetUp 0 duetBase)), deleteSlot (heard (duetUp 0 duetBase) hdr) 5,
    heard_of (by decide), by decide, by decide, rfl⟩,
   ⟨hdr, (fet 0xFFFF 0 []).desc, [], (on (duetUp 0 duetBase)), heard_of (by decide), by decide, by decide, by decide⟩,
   ⟨hdr, (on (duetUp 0 { duetBase with role := .syncing })), heard_of (by decide), by decide, by decide⟩,
   ⟨hdr, 262143, 77, (on (duetUp 0 duetBase)), heard_of (by decide), by decide, by decide⟩,
   ⟨hdr, 12, 3, 5#64,
    (on { duetUp 1 { duetBase with history := [(0, [{ ref := 5#64, sa := 12, pn := 9, at_ := 1, no := 0, val := none }])] } with ms := (msUp none).ms }),
    { ref := 5#64, sa := 12, pn := 9, at_ := 1, no := 0, val := none }, sa1, heard_of (by decide), by decide,
    by decide, by decide⟩,
   ⟨hdr, 3, 5#64, 2,
    (on (duetUp 0 { duetBase with history := [(3, [{ ref := 5#64, sa := 12, pn := 9, at_ := 1, no := 0, val := none }])] })),
    heard_of (by decide), by decide⟩,
   ⟨hdr, 3, 1, (on { duetUp 1 duetBase with ms := (msUp (some 0)).ms }), heard_of (by decide), by decide⟩,
   ⟨hdr, 3,
    (on { duetUp 1 duetBase with ms := { (msUp (some 0)).ms with holds := [{ sc := 3, an := 1, since := 5, scheduled := false }] } }),
    { sc := 3, an := 1, since := 5, scheduled := false }, heard_of (by decide), by decide, by decide, by decide⟩,
   ⟨3,
    (on { duetUp 1 duetBase with ms := { (msUp (some 0)).ms with holds := [{ sc := 3, an := 1, since := 5, scheduled := false }] } }),
    { sc := 3, an := 1, since := 5, scheduled := false }, by decide⟩,
   ⟨7,
    (on { duetUp 1 duetBase with ms := { (msUp (some 0)).ms with scs := [(3, { tx1 with encAn := some 0, group := some 7, armed := some 1 })], turns := [(7, { base := 1, at_ := 1000000000 })] } }),
    { base := 1, at_ := 1000000000 }, by decide, by decide, by decide, by decide⟩,
   ⟨hdr, (on (duetUp 0 duetBase)), heard_of (by decide), by decide⟩,
   ⟨(on (duetUp 1 { pairing := some pairing1 })), pairing1, by decide, by decide, by decide⟩,
   ⟨hdr, (on (duetUp 0 duetBase)), heard_of (by decide)⟩,
   ⟨hdr, 0, 3, 2, 9#64, false, (on (duetUp 0 duetBase)), _, heard_of (by decide), rfl, by decide⟩,
   ⟨hdr, 0, 3, 2, 8#64, false, (on (duetUp 0 { duetBase with ownClosed := [closed1] })), _, closed1,
    heard_of (by decide), rfl, by decide, by decide, by decide, by decide⟩,
   ⟨hdr, 0, 3, 2, (on (duetUp 0 duetBase)), heard_of (by decide), by decide⟩,
   ⟨hdr, 8#8, (on (duetUp 0 { duetBase with disagree := some { started := 3, own := none, peer := none } })),
    { started := 3, own := none, peer := none }, heard_of (by decide), by decide, by decide⟩,
   ⟨found0, (on (duetUp 0 { duetBase with disagree := some { started := 3, own := none, peer := none } })),
    { started := 3, own := none, peer := none }, by decide, by decide, by decide⟩⟩

theorem wit_DuetRolesChange :
    (∃ (h : DuetHdr) (cause : Fin 5) (s : State),
      Heard s.dev h (.fault cause) ∧ s.dev.duet.role = .standby ∧ s.dev.duet.pinInLow = false) ∧
    (∃ (h : DuetHdr) (epoch : W32) (s : State),
      Heard s.dev h (.switch epoch) ∧ s.dev.duet.role = .standby) ∧
    (∃ (s : State),
      s.dev.duet.role = .standby ∧ s.dev.duet.pinInLow = false) ∧
    (∃ (s : State),
      s.dev.duet.takeover = none ∧ s.dev.duet.lossAt = none) ∧
    (∃ (s : State),
      s.dev.duet.takeover.isSome = true) ∧
    (∃ (s : State),
      s.dev.duet.role ≠ .solo ∧ s.dev.duet.switching = none) ∧
    (∃ (s : State) (x : _),
      s.dev.duet.role ≠ .solo ∧ s.dev.duet.switching = some x ∧ x.acked = true) ∧
    (∃ (s : State),
      s.dev.duet.role = .solo ∧ styled s.dev = true ∧ s.dev.duet.pinOut = true ∧
      s.dev.clock ≤ s.dev.duet.assertedAt + 50000) ∧
    (∃ (s : State),
      s.dev.duet.role = .solo ∧ styled s.dev = true ∧ mayTransmit s.dev = true ∧ s.dev.glb.bringUpEnds.isSome = true ∧
      s.dev.duet.pinOut = false ∧ s.dev.duet.pinInLow = false ∧
      dpReady (elapseTo s.dev (holdoffEnd s.dev)) = true) ∧
    (∃ (s : State),
      s.dev.duet.role = .active ∧ s.dev.duet.peerLost = true ∧ s.dev.duet.selfGrant = false) ∧
    (∃ (s : State),
      s.dev.duet.role = .active ∧ peerPresent s.dev = true ∧ s.dev.duet.peerRole = .syncing ∧
      s.dev.duet.beatLost = false ∧ s.dev.duet.bulkSent = false) ∧
    (∃ (h : DuetHdr) (q : Nat) (failed : Bool) (s : State) (w : MirrorWait),
      Heard s.dev h (.mirrorAck q failed) ∧ s.dev.duet.role = .active ∧ s.dev.duet.waits = [w] ∧
      s.dev.ms.intents = [] ∧ failed = false ∧ w.seq = q) ∧
    (∃ (h : DuetHdr) (q : Nat) (failed : Bool) (s : State) (w : MirrorWait),
      Heard s.dev h (.mirrorAck q failed) ∧ s.dev.duet.role = .active ∧ s.dev.duet.waits = [w] ∧
      s.dev.ms.intents = [] ∧ failed = true ∧ s.dev.duet.peerLost = false) ∧
    (∃ (s : State) (w : MirrorWait),
      s.dev.duet.role = .active ∧ s.dev.duet.waits = [w] ∧ s.dev.ms.intents = [] ∧ s.dev.duet.peerLost = false) ∧
    (∃ (h : DuetHdr) (q : Nat) (i : Nat) (v : Nat) (s : State) (m : Mark),
      Heard s.dev h (.markAck q) ∧ Tbl.get? s.dev.duet.marks i = some m ∧ m.pend = some (v, q) ∧
      selfGrants s.dev = false) ∧
    (∃ (h : DuetHdr) (epoch : W32) (s : State) (x : Switching),
      Heard s.dev h (.switchAck epoch) ∧ s.dev.duet.role = .active ∧ s.dev.duet.switching = some x ∧ x.epoch = epoch ∧
      x.acked = false) ∧
    (∃ (s : State) (x : Switching),
      s.dev.duet.switching = some x ∧ x.acked = false) :=
  ⟨⟨hdr, 2, (on (duetUp 0 { duetBase with pinInLow := false })), heard_of (by decide), by decide, by decide⟩,
   ⟨hdr, 9#32, (on (duetUp 0 duetBase)), heard_of (by decide), by decide⟩,
   ⟨(on (duetUp 0 duetBase)), by decide, by decide⟩,
   ⟨(on up), by decide, by decide⟩,
   ⟨(on (duetUp 1 { duetBase with takeover := some { sign := 0, cause := 0, dropped := 0 } })), by decide⟩,
   ⟨(on (duetUp 0 duetBase)), by decide, by decide⟩,
   ⟨(on (duetUp 0 { duetBase with switching := some { origin := org, epoch := 4#32, sent := 7, acked := true } })),
    { origin := org, epoch := 4#32, sent := 7, acked := true }, by decide, by decide, by decide⟩,
   ⟨(on (duetUp 1 { pinOut := true, assertedAt := 900 })), by decide, by decide, by decide, by decide⟩,
   ⟨(on (duetUp 1 {})), by decide, by decide, by decide, by decide, by decide, by decide, by decide⟩,
   ⟨(on (duetUp 0 { duetBase with role := .active, peerLost := true, marks := [(12, { mark := 5, pend := some (9, 3) })] })),
    by decide, by decide, by decide⟩,
   ⟨(on (duetUp 0 { duetBase with role := .active, peerRole := .syncing })), by decide, by decide, by decide,
    by decide, by decide⟩,
   ⟨hdr, 9, _,
    (on (duetUp 0 { duetBase with role := .active, waits := [{ seq := 9, sent := 7, due := testDue }] })),
    { seq := 9, sent := 7, due := testDue }, heard_of (by decide), by decide, by decide, by decide, rfl,
    by decide⟩,
   ⟨hdr, 9, _,
    (on (duetUp 0 { duetBase with role := .active, waits := [{ seq := 9, sent := 7, due := testDue }] })),
    { seq := 9, sent := 7, due := testDue }, heard_of (by decide), by decide, by decide, by decide, rfl,
    by decide⟩,
   ⟨(on (duetUp 0 { duetBase with role := .active, waits := [{ seq := 9, sent := 7, due := testDue }] })),
    { seq := 9, sent := 7, due := testDue }, by decide, by decide, by decide, by decide⟩,
   ⟨hdr, 3, 12, 9,
    (on (duetUp 0 { duetBase with role := .active, peerRole := .standby, marks := [(12, { mark := 5, pend := some (9, 3) })] })),
    { mark := 5, pend := some (9, 3) }, heard_of (by decide), by decide, by decide, by decide⟩,
   ⟨hdr, 4#32,
    (on (duetUp 0 { duetBase with role := .active, switching := some { origin := org, epoch := 4#32, sent := 7 } })),
    { origin := org, epoch := 4#32, sent := 7 }, heard_of (by decide), by decide, by decide, by decide,
    by decide⟩,
   ⟨(on (duetUp 0 { duetBase with role := .active, switching := some { origin := org, epoch := 4#32, sent := 7 } })),
    { origin := org, epoch := 4#32, sent := 7 }, by decide, by decide⟩⟩

theorem wit_DuetPairsAndUnpairs :
    (∃ (r : Fin 64) (s : State) (f : Fetched) (rest : List Fetched) (w : Nat),
      Runs s.dev r 0x0380 anyRight pairOwn f rest ∧ w = leField f.desc 24 2 ∧ s.dev.boot.enrolled = true ∧
      style s.dev ≠ 0 ∧ s.dev.duet.role = .solo ∧ s.dev.duet.pairing = none ∧ drbgOk s.dev = true) ∧
    (∃ (hello : Hello) (s : State) (p : Pairing) (pair : Nat),
      s.dev.duet.pairing = some p ∧ p.outcome = none ∧ p.hello = none ∧ pair = pairNumber s.dev hello ∧
      mayPair s.dev = true) ∧
    (∃ (h : DuetHdr) (digest : Bytes) (link : Bytes) (key : Bytes) (epoch : W32) (pair : Nat) (s : State) (p : Pairing),
      s.dev.duet.pairing = some p ∧ p.outcome = none ∧ p.hello = some (link, key, epoch, pair) ∧
      mayPair s.dev = true ∧ (confirmOk link p h digest = false ∨ fit 32 digest ≠ pairDigest s.dev)) ∧
    (∃ (h : DuetHdr) (digest : Bytes) (link : Bytes) (key : Bytes) (epoch : W32) (pair : Nat) (s : State) (p : Pairing),
      s.dev.duet.pairing = some p ∧ p.outcome = none ∧ p.hello = some (link, key, epoch, pair) ∧
      mayPair s.dev = true ∧ confirmOk link p h digest = true ∧ fit 32 digest = pairDigest s.dev) ∧
    (∃ (s : State),
      mayPair s.dev = false ∧ s.dev.duet.pairing.isSome = true) ∧
    (∃ (s : State),
      mayPair s.dev = false ∧ s.dev.duet.pairing = none ∧ peerPresent s.dev = false) ∧
    (∃ (s : State),
      mayPair s.dev = false) ∧
    (∃ (s : State) (p : Pairing),
      s.dev.duet.pairing = some p ∧ p.outcome = none) ∧
    (∃ (s : State) (p : Pairing) (reason : Nat) (theirs : Nat),
      s.dev.duet.pairing = some p ∧ p.outcome = some (reason, theirs)) ∧
    (∃ (r : Fin 64) (s : State) (f : Fetched) (rest : List Fetched),
      Runs s.dev r 0x0381 anyRight switchoverOwn f rest ∧ s.dev.duet.role = .active ∧ peerPresent s.dev = true ∧
      s.dev.duet.peerRole = .standby ∧ bits s.dev.duet.peerHealth 31 29 = 7 ∧ s.dev.duet.disagree = none ∧
      s.dev.duet.switching = none) ∧
    (∃ (r : Fin 64) (s : State) (f : Fetched) (rest : List Fetched),
      Runs s.dev r 0x0382 anyRight switchoverOwn f rest ∧ s.dev.duet.role ≠ .solo) :=
  ⟨⟨0, (withCmd { duetUp 1 { } with svc := { drbgReady := true } } (fet 0x0380 0 ([7#8]))), (fet 0x0380 0 ([7#8])),
    [], _, runs_of (by decide), rfl, by decide, by decide, by decide, by decide, by decide⟩,
   ⟨hello1, (on (duetUp 1 { pairing := some pairing1 })), pairing1, _, by decide, by decide, by decide, rfl,
    by decide⟩,
   ⟨{ hdr with wire := some [] }, [], zeros 32, zeros 32, 3#32, 5,
    (on (duetUp 1 { pairing := some { pairing1 with hello := some (zeros 32, zeros 32, 3#32, 5) } })),
    { pairing1 with hello := some (zeros 32, zeros 32, 3#32, 5) }, by decide, by decide, by decide, by decide,
    Or.inl rfl⟩,
   ⟨hdr, pairDigest up, zeros 32, zeros 32, 3#32, 5,
    (on (duetUp 1 { pairing := some { pairing1 with hello := some (zeros 32, zeros 32, 3#32, 5) } })),
    { pairing1 with hello := some (zeros 32, zeros 32, 3#32, 5) }, by decide, by decide, by decide, by decide,
    by decide, fit_fit _ _⟩,
   ⟨(on { inMode .maintain with duet := { pairing := some pairing1 } }), by decide, by decide⟩,
   ⟨(on (inMode .maintain)), by decide, by decide, by decide⟩,
   ⟨(on (inMode .maintain)), by decide⟩,
   ⟨(on (duetUp 1 { pairing := some pairing1 })), pairing1, by decide, by decide⟩,
   ⟨(on (duetUp 1 { pairing := some { pairing1 with outcome := some (3, 0) } })),
    { pairing1 with outcome := some (3, 0) }, 3, 0, by decide, by decide⟩,
   ⟨0,
    (withCmd (duetUp 0 { duetBase with role := .active, peerRole := .standby, peerHealth := 0xE0000000#32 }) (fet 0x0381 0 ([]))),
    (fet 0x0381 0 ([])), [], runs_of (by decide), by decide, by decide, by decide, by decide, by decide,
    by decide⟩,
   ⟨0, (withCmd (duetUp 0 duetBase) (fet 0x0382 0 ([]))), (fet 0x0382 0 ([])), [], runs_of (by decide), by decide⟩⟩

theorem wit_DescriptorChecksInOrder :
    (∃ (op : Nat) (r : Nat) (right : Device → Nat → Bool) (own : Bytes → List (Nat × Bool)) (d : Device) (f : Fetched)
        (rest : List Fetched) (st : Status) (res : Bytes),
      (cmdRing d r).fetched = f :: rest ∧ opcodeOf f.desc = op ∧ heldBack d r op f = false ∧
      preCheck (taken d r rest) (cmdOwner d r) op (right (taken d r rest) (cmdOwner d r)) f.desc (own f.desc) = some (st, res)) ∧
    (∃ (op : Nat) (r : Nat) (d : Device) (f : Fetched) (rest : List Fetched),
      (cmdRing d r).fetched = f :: rest ∧ heldBack d r op f = true) ∧
    (∃ (d : Device) (fn : Nat) (op : Nat) (right : Bool) (q : Bool) (cls : CmdClass),
      opInfo op = some (cls, q) ∧ (classRight d fn cls = false ∨ right = false)) ∧
    (∃ (d : Device) (fn : Nat) (op : Nat) (right : Bool) (q : Bool) (cls : CmdClass) (desc : Bytes),
      opInfo op = some (cls, q) ∧ classRight d fn cls = true ∧ right = true ∧
      (modeAllows d cls = false ∨ portDenied d op desc = true)) ∧
    (∃ (d : Device) (fn : Nat) (op : Nat) (right : Bool) (q : Bool) (cls : CmdClass) (desc : Bytes),
      opInfo op = some (cls, q) ∧ classRight d fn cls = true ∧ right = true ∧ modeAllows d cls = true ∧
      portDenied d op desc = false ∧ d.tmp.halted = false ∧ d.pwr.holding = false ∧ d.mem.trainFailed = false ∧
      (byteAt desc 2).toNat &&& 0xF8 ≠ 0) ∧
    (∃ (d : Device) (fn : Nat) (op : Nat) (right : Bool) (q : Bool) (cls : CmdClass) (desc : Bytes),
      opInfo op = some (cls, q) ∧ classRight d fn cls = true ∧ right = true ∧ modeAllows d cls = true ∧
      portDenied d op desc = false ∧ d.tmp.halted = false ∧ d.pwr.holding = false ∧ d.mem.trainFailed = false ∧
      (byteAt desc 2).toNat &&& 0xF8 = 0 ∧ byteAt desc 3 ≠ 0#8) ∧
    (∃ (d : Device) (fn : Nat) (op : Nat) (right : Bool) (q : Bool) (cls : CmdClass) (desc : Bytes)
        (own : List (Nat × Bool)) (k : _) (pre : _) (post : _),
      opInfo op = some (cls, q) ∧ classRight d fn cls = true ∧ right = true ∧ modeAllows d cls = true ∧
      portDenied d op desc = false ∧ d.tmp.halted = false ∧ d.pwr.holding = false ∧ d.mem.trainFailed = false ∧
      (byteAt desc 2).toNat &&& 0xF8 = 0 ∧ byteAt desc 3 = 0#8 ∧ own = pre ++ (k, true) :: post ∧
      pre.all (fun e => !e.2) = true) ∧
    (∃ (d : Device) (fn : Nat) (op : Nat) (right : Bool) (q : Bool) (cls : CmdClass) (desc : Bytes)
        (own : List (Nat × Bool)),
      opInfo op = some (cls, q) ∧ classRight d fn cls = true ∧ right = true ∧ modeAllows d cls = true ∧
      portDenied d op desc = false ∧ d.tmp.halted = false ∧ d.pwr.holding = false ∧ d.mem.trainFailed = false ∧
      (byteAt desc 2).toNat &&& 0xF8 = 0 ∧ byteAt desc 3 = 0#8 ∧ own.all (fun e => !e.2) = true) ∧
    (∃ (r : Fin 64) (s : State) (f : Fetched) (rest : List Fetched),
      (cmdRing s.dev r).fetched = f :: rest ∧ opcodeOf f.desc = 0x0100 ∧ heldBack s.dev r 0x0100 f = false ∧
      cmdOwner s.dev r = 0 ∧ s.dev.glb.mode = .provision) ∧
    (∃ (d : Device),
      d.glb.mode = .aggregate) ∧
    (∃ (d : Device),
      d.glb.mode = .sdh) :=
  ⟨⟨0x100, 0, anyRight, fun _ => [], (withCmd (inMode .provision) (fet 0x100 0 [])).dev, (fet 0x100 0 []), [],
    .modeDenied, zeros 16, by decide, by decide, by decide, by decide⟩,
   ⟨0x100, 0,
    (withCmd { inMode .provision with boot := { (inMode .provision).boot with restart := some { origin := org, index := 3, profile := { mode := .link }, us := 5, ends := 5000 } } } (fet 0x100 0 [])).dev,
    (fet 0x100 0 []), [], by decide, by decide⟩,
   ⟨up, 0, 0x310, false, false, .h, by decide, Or.inr rfl⟩,
   ⟨(inMode .locked), 0, 0x310, true, false, .h, zeros 64, by decide, by decide, by decide, by decide⟩,
   ⟨up, 0, 0x310, true, false, .h, [0#8, 0#8, 8#8], by decide, by decide, by decide, by decide, by decide,
    by decide, by decide, by decide, by decide⟩,
   ⟨up, 0, 0x310, true, false, .h, [0#8, 0#8, 7#8, 1#8], by decide, by decide, by decide, by decide, by decide,
    by decide, by decide, by decide, by decide, by decide⟩,
   ⟨up, 0, 0x310, true, false, .h, zeros 64, [(20, false), (24, true), (26, true)], 24, [(20, false)], [(26, true)],
    by decide, by decide, by decide, by decide, by decide, by decide, by decide, by decide, by decide,
    by decide, by decide, by decide⟩,
   ⟨up, 0, 0x310, true, false, .h, zeros 64, [(20, false)], by decide, by decide, by decide, by decide, by decide,
    by decide, by decide, by decide, by decide, by decide, by decide⟩,
   ⟨0, (withCmd (inMode .provision) (fet 0x100 0 [])), (fet 0x100 0 []), [], by decide, by decide, by decide,
    by decide, by decide⟩,
   ⟨(inMode .aggregate), by decide⟩,
   ⟨(inMode .sdh), by decide⟩⟩

theorem wit_EveryCommandAnswers :
    (∃ (i : Instr),
      i ≠ .domainEnrolDone ∧ (∀ b, i ≠ .supplementInstallDone b)) ∧
    (∃ (s : State),
      s.pending = []) ∧
    (∃ (s : State),
      s.pending = [] ∧ s.dev.boot.restart = none ∧ (∀ x ∈ s.dev.frm.rises ++ s.dev.frm.falls, x.2.count = 0) ∧
      ((∀ p : Nat, isSdh s.dev p = true ∨ isOtn s.dev p = true → hasDefect s.dev p 16 = aisOut s.dev p))) :=
  ⟨⟨.nop 0, by decide, fun b h => Instr.noConfusion h⟩,
   ⟨State.reset, by decide⟩,
   ⟨State.reset, by decide, by decide, (by intro x h; cases h),
    (by intro p h; exact absurd (show false = true from h.elim id id) Bool.false_ne_true)⟩⟩

theorem wit_FusesOnlyGrow :
    (∃ (f : Fuses) (s : State) (t : State),
      FusesGrow f s.fuses ∧ step s = .next t) :=
  ⟨Fuses.fresh, State.reset, State.reset.having (elapse State.reset.dev 1),
    ⟨rfl, rfl, rfl, by decide, by decide, id, id⟩, rfl⟩

/-! ## Worked examples of the spec -/

/-- 17: CT_STOMPED[24] is index 408. -/
theorem test_counter_index : portCtr 3 24 = 408 := by decide

/-- 17, the Brannholt switch record, without its CRC. -/
theorem test_event_record :
    (recBytes { source := .tsi, type := 1, seq := 37#32, powerCycles := 12#32, opTimeUs := 86400123456
                domain := some (timeBytes ((1900000100 * 10 ^ 9 + 500000000) * nsUnit))
                payload := [1#8, 4#8, 0#8] ++ leBytes 8 0x28F5C28F5C, delivered := false, journalled := false }).take 43 =
    [0x2F#8, 0#8, 8#8, 1#8, 0x25#8, 0#8, 0#8, 0#8, 0x0C#8, 0#8, 0#8, 0#8, 0x40#8, 0x42#8, 0xD9#8, 0x1D#8, 0x14#8, 0#8, 0#8,
     0x80#8, 0x64#8, 0xB3#8, 0x3F#8, 0x71#8, 0#8, 0#8, 0#8, 0x65#8, 0xCD#8, 0x1D#8, 0#8, 0#8, 1#8, 4#8, 0#8, 0x5C#8, 0x8F#8,
     0xC2#8, 0xF5#8, 0x28#8, 0#8, 0#8, 0#8] := by decide

/-- 07, the OTU2 span of association 12: the IV of superframe 1,234,567 of member 0x0_1A2B. -/
theorem test_superframe_iv :
    knIv [0x3E#8, 0x91#8, 0xC4#8, 7#8, 0x5B#8, 0x22#8, 0xD8#8, 0x6F#8, 0xA0#8, 0x13#8, 0x7C#8, 0xE9#8] 0x1A2B 1234567 =
    [0x3E#8, 0x91#8, 0xDE#8, 0x2C#8, 0x5B#8, 0x22#8, 0xD8#8, 0x6F#8, 0xA0#8, 1#8, 0xAA#8, 0x6E#8] := by decide

/-- 07, the fields after the tag of that superframe, under key index 4. -/
theorem test_superframe_fields :
    ((knFields false zeroTag 4 0 0x1A2B 1234567).drop 16).take 13 =
    [4#8, 0#8, 0#8, 0x1A#8, 0x2B#8, 0#8, 0#8, 0#8, 0#8, 0#8, 0x12#8, 0xD6#8, 0x87#8] := by decide

/-- 06, the Brannholt node: Client ports 0-3 are STM-16 and Line port 4 is STM-64. -/
def brannholt : Device :=
  { up with boot := { up.boot with profile := { up.boot.profile with
      ports := (List.range 5).map (fun k => (k, { firstLane := k, lanes := 1, type := if k = 4 then 0x13 else 0x12
                                                  line := k == 4, partner := 255, flags := 0 }))
      groups := [4, 0, 0, 0, 0, 0, 0, 0], mode := .sdh } }
            glb := { up.glb with mode := .sdh } }

theorem test_slot_bases : (List.range 5).map (slotBase brannholt) = [0, 48, 96, 144, 192] ∧ slotTotal brannholt = 384 := by
  decide

/-- 06, page 1 of the re-homing is consistent; with the old VC-4 fed from slots 4-6 it is not. -/
theorem test_page_consistent :
    firstInconsistent brannholt [(102, 0x48400009#32), (103, 0x4840000A#32), (104, 0x4840000B#32), (201, 0x48200006#32),
      (202, 0x48200007#32), (203, 0x48200008#32)] = none ∧
    (firstInconsistent brannholt [(201, 0x48200004#32), (202, 0x48200005#32), (203, 0x48200006#32)]).isSome = true := by
  decide

/-- 06, the false candidate: in-frame at bit 872,080 with two candidates replaced and three dropped. -/
theorem test_false_candidate :
    let e := huntStream { brannholt with frm := { defects := [(2, 0#32)] } } 2 0
      ([100000, 120000, 140000, 160000, 180000, 250000, 561040, 872080].map (fun b => (b, 0xF6F6F6282828#48)))
    (stream e 2 0).inFrame = true ∧ counter e (portCtr 16 2) = 2#64 ∧ counter e (portCtr 15 2) = 3#64 := by decide

/-- 15, steering HR-2: F = -245,760,000. -/
theorem test_frequency_word :
    clipFreq (freqWord { up with regs := [(0x220104, 0xF15A0000#32), (0x220108, 0xFF#32)] } 0) = -245760000 := by decide

/-- 09, policer 300: each 256 ns refill adds 640 bytes of committed and 960 of peak, in 1/31,250 byte. -/
theorem test_policer_refill :
    let x := policerRefill { cfg := { mode := 2, aware := false, coupled := false, cir := 20000000, cbs := 500000
                                      pir := 30000000, pbs := 750000 } }
    x.tc = 640 * 31250 ∧ x.te = 960 * 31250 := by decide

/-- `n` routes of length `len` from TCAM index `lo` on. -/
def band (lo n len : Nat) : Tbl TcamEnt :=
  (List.range n).map (fun k => (lo + k, { route := { table := 0, v6 := false, len := len, pre := (k + 1) * 2 ^ (32 - len)
                                                     port := 24, secy := 0, policer := 0xFFFF } }))

/-- 08, the IPv4 routes of Harnes Ridge: ten /32, a hundred /24, twenty-five /16 and the default route. -/
def harnes : Tbl TcamEnt := band 65400 10 32 ++ band 65410 100 24 ++ band 65510 25 16 ++ band 65535 1 0

/-- 08: 10.44.0.0/20 goes to entry 65,509 after two moves, and the epoch becomes 0x03A2. -/
theorem test_tcam_moves :
    (addRoute { up with cls := { epoch := 0x3A1, tcam := harnes } }
      { table := 0, v6 := false, len := 20, pre := 0x0A2C0000, port := 25, secy := 1, policer := 0xFFFF }).2 =
    [0xE5#8, 0xFF#8, 2#8, 0#8, 0xA2#8, 3#8] := by decide

/-- 16, the Orvik Fjell profile. -/
def orvik : Bytes :=
  [0x54#8, 0x50#8, 0x52#8, 0x46#8, 1#8, 0#8, 0x40#8, 1#8, 0#8, 0x16#8, 4#8, 0#8, 3#8, 0#8, 0#8, 0#8, 1#8, 0#8, 0#8, 4#8,
   0x64#8, 0#8, 0x3C#8, 0#8, 1#8, 0#8, 0#8, 0#8] ++ zeros 36 ++
  [0#8, 0#8, 1#8, 2#8, 0#8, 1#8, 0#8, 0#8, 1#8, 1#8, 1#8, 2#8, 1#8, 0#8, 0#8, 0#8, 2#8, 2#8, 1#8, 2#8, 0#8, 3#8, 0#8, 0#8,
   3#8, 3#8, 1#8, 2#8, 1#8, 2#8, 0#8, 0#8, 3#8] ++ zeros 79 ++ [2#8, 8#8, 0x20#8, 0x4E#8] ++ zeros 60 ++ [20#8] ++ zeros 79

theorem test_profile :
    let x := readProfile orvik
    x.mode = .link ∧ x.style = 0 ∧ x.budget = 60 ∧ x.thresh = 20 ∧ x.digestInput.length = 200 ∧
    Tbl.get? x.ports 3 = some { firstLane := 3, lanes := 1, type := 2, line := true, partner := 2, flags := 0 } ∧
    x.sensors[10]? = some { response := 2, n := 8, w := 20000 } := by decide

/-- 16: BOOT_STATUS and GLB_STATE once the data path of that profile is ready. -/
theorem test_boot_status :
    let d := { up with boot := { up.boot with pins := 1, profileOk := true, profile := readProfile orvik }
                       glb := { up.glb with mode := .link, profileIdx := 1 } }
    bootStatus d { Fuses.fresh with field := true, debugKill := true } = 0x87060002#32 ∧ glbState d = 0x141#32 := by
  decide

/-! ## Ill-formed operands, and the decoder -/

theorem test_wf_fetch : Instr.wf (.descriptorFetch (.ok [])) = false ∧ Instr.wf (.descriptorFetch (.ok [zeros 63])) = false ∧
    Instr.wf (.descriptorFetch (.ok [zeros 64])) = true := by decide
theorem test_wf_reset : Instr.wf (.resetN 0 { start0 with loops := [0] }) = false ∧ Instr.wf (.resetN 0 start0) = true := by
  decide
theorem test_wf_boot_reset : Instr.wf (.bootReset 0#32 { start0 with loops := [] }) = false := by decide
theorem test_wf_register : Instr.wf (.registerWrite 0 2#22 0#32) = false := by decide
theorem test_wf_frame : Instr.wf (.frameIngress 0 { frame1 with data := zeros 13 } .clean) = false ∧
    Instr.wf (.flFrame 0 { frame1 with data := zeros 13 }) = false := by decide
theorem test_wf_header : Instr.wf (.stepDownRx { hdr with seq := 2 ^ 64 }) = false ∧ Instr.wf (.stepDownRx hdr) = true := by
  decide
theorem test_wf_hello : Instr.wf (.helloRx hello1) = false := by decide
theorem test_wf_confirm : Instr.wf (.confirmRx hdr (zeros 31)) = false := by decide
theorem test_wf_mirror : Instr.wf (.mirrorRx hdr (zeros 63) []) = false := by decide
theorem test_wf_superframe : Instr.wf (.knSuperframeRx 0 [] [] (zeros 16)) = false ∧
    Instr.wf (.knSuperframeRx 0 (List.replicate 16 (0#8, zeros 9)) [] (zeros 15)) = false ∧
    Instr.wf (.knSuperframeRx 0 (List.replicate 16 (0#8, zeros 9)) [] (zeros 16)) = true := by decide
theorem test_wf_mag : Instr.wf (.magConversion [0, 0, 0, 0, 0]) = false := by decide

/-- No row of the table has bits. -/
theorem test_no_words : decodeTableWord 16 0x1234 = none := by decide

end Sys2Proof.Tests
end

/-!
PROOF. The register table names each register once, what a write makes of each bit, and the two statements that rest on it:
O9 (a write by access code) and O58 (the state after reset).
-/
namespace Sys2Proof.Machine

/-! ## The rows of the register table share no register -/

/-- Offset of the last register of a row. -/
def RegInfo.last (i : RegInfo) : Nat := i.base + i.stride * (i.count - 1)

/-- A sufficient reason for two rows to share no register: one ends before the other begins, or they interleave with the same
stride at different remainders. -/
def RegInfo.apart (i j : RegInfo) : Bool :=
  i.last < j.base || j.last < i.base || (i.stride == j.stride && i.base % i.stride != j.base % j.stride)

theorem RegInfo.elem_of_holds {i : RegInfo} {off : Nat} (h : i.holds off = true) :
    ∃ n < i.count, off = i.base + i.stride * n := by
  simp only [RegInfo.holds, Bool.and_eq_true, decide_eq_true_eq, beq_iff_eq] at h
  obtain ⟨⟨hbase, hmod⟩, hcount⟩ := h
  have hdiv := Nat.mul_div_cancel' (Nat.dvd_of_mod_eq_zero hmod)
  exact ⟨_, hcount, by omega⟩

theorem RegInfo.holds_elem {i : RegInfo} {n : Nat} (hs : 0 < i.stride) (hn : n < i.count) :
    i.holds (i.base + i.stride * n) = true := by
  simp [RegInfo.holds, Nat.mul_div_cancel_left n hs, hn]

theorem RegInfo.le_last {i : RegInfo} {n : Nat} (hn : n < i.count) : i.base + i.stride * n ≤ i.last :=
  Nat.add_le_add_left (Nat.mul_le_mul_left _ (by omega)) _

theorem RegInfo.not_holds_of_apart {i j : RegInfo} {off : Nat} (h : i.apart j = true) (hj : j.holds off = true) :
    i.holds off = false := by
  refine Bool.eq_false_iff.2 fun hi => ?_
  obtain ⟨n, hn, rfl⟩ := elem_of_holds hi
  obtain ⟨m, hm, hoff⟩ := elem_of_holds hj
  have hil := le_last hn
  have hjl := le_last hm
  simp only [RegInfo.apart, Bool.or_eq_true, Bool.and_eq_true, decide_eq_true_eq, beq_iff_eq, bne_iff_ne] at h
  obtain (before | after) | ⟨hstride, hbase⟩ := h
  · omega
  · omega
  · have hmod := congrArg (· % i.stride) hoff
    simp only [Nat.add_mul_mod_self_left] at hmod
    rw [hmod, hstride, Nat.add_mul_mod_self_left] at hbase
    exact hbase rfl

theorem regTable_apart : regTable.Pairwise (fun i j => i.apart j = true) := by decide

/-- A row of the table that holds an offset is the row that the machine finds there. -/
theorem regInfo?_of_holds {i : RegInfo} {off : Nat} (hi : i ∈ regTable) (h : i.holds off = true) :
    regInfo? off = some i := by
  obtain ⟨pre, post, htable⟩ := List.append_of_mem hi
  refine List.find?_eq_some_iff_append.2 ⟨h, pre, post, htable, fun j hj => ?_⟩
  have hp := regTable_apart
  rw [htable, List.pairwise_append] at hp
  simp [RegInfo.not_holds_of_apart (hp.2.2 j hj i (List.mem_cons_self ..)) h]

/-! ## A write by access code (R8, R10, R66) -/

theorem bit_and (a b : W32) (k : Nat) : bit (a &&& b) k = (bit a k && bit b k) := BitVec.getLsbD_and

theorem bit_or (a b : W32) (k : Nat) : bit (a ||| b) k = (bit a k || bit b k) := BitVec.getLsbD_or

theorem bit_not (a : W32) {k : Nat} (hk : k < 32) : bit (~~~a) k = !bit a k := by
  simp [bit, hk]

/-- A word with the bits of `m` replaced by those of `val`. -/
theorem bit_merge (m old val : W32) {k : Nat} (hk : k < 32) :
    bit ((old &&& ~~~m) ||| (val &&& m)) k = if bit m k then bit val k else bit old k := by
  cases h : bit m k <;> simp [bit_or, bit_and, bit_not _ hk, h]

/-- Bit `k` after a write: RW takes the written bit, RWL takes it before the seal, and a W1C bit ends where 1 is
written. -/
theorem bit_written (i : RegInfo) (locked : Bool) (old val : W32) {k : Nat} (hk : k < 32) :
    bit (written i locked old val) k =
      ((if bit i.rw k || (!locked && bit i.rwl k) then bit val k else bit old k) && !(bit i.w1c k && bit val k)) := by
  have hmask : bit (i.rw ||| (if locked then 0#32 else i.rwl)) k = (bit i.rw k || (!locked && bit i.rwl k)) := by
    cases locked <;> simp [bit]
  simp only [written, bit_and _ (~~~(i.w1c &&& val)), bit_not _ hk, bit_and i.w1c, bit_merge _ _ _ hk, hmask]

theorem bit_eq_false_of_and_eq_zero {a b : W32} {k : Nat} (h : a &&& b = 0#32) (ha : bit a k = true) :
    bit b k = false := by
  have hk : bit (a &&& b) k = false := by rw [h]; exact BitVec.getLsbD_zero
  simpa [bit_and, ha] using hk

theorem plainWrite_of_regInfo {d : Device} {off : Nat} {i : RegInfo} (hf : fusedOff d.glb.part off = false)
    (hi : regInfo? off = some i) (val : W32) :
    plainWrite d off val = setReg d off (written i d.glb.sealed (reg d off) val) := by
  simp [plainWrite, hf, hi]

theorem fusedOff_above {off : Nat} (p : Part) (h : 0x60000 ≤ off) : fusedOff p off = false := by
  simp [fusedOff]; omega

/-- KEY, SVC, MEM, DUET and GAL: no register but KEY_SLOT_SEL has a behaviour of its own. -/
theorem writeReg_of_plainBlock {off : Nat} (lo : 0x180000 ≤ off) (hi : off < 0x210000) (hsel : off ≠ 0x1C0004)
    (d : Device) (f : Fuses) (val : W32) : writeReg d f off val = plainWrite d off val := by
  have hthresh : elem? 0x142004 8 1024 off = none := by simp [elem?]; omega
  simp (disch := omega) only [writeReg, if_neg, hthresh]

theorem exec_registerWrite_pf (off : BitVec 22) (val : W32) (s : State) :
    exec (.registerWrite 0 off val) s = .next (s.having (writeReg s.dev s.fuses off.toNat val)) := rfl

theorem exec_registerWrite_vf {f : Fin 16} (hf : f.val ≠ 0) (off : BitVec 22) (val : W32) (s : State) :
    exec (.registerWrite f off val) s = .next s := by
  show execRegisterWrite f off val s = .next s
  simp [execRegisterWrite, withDev_eq, hf]

/-- Settles O9: the five blocks take the plain write, and each access code is read off `bit_written`. -/
theorem registerWriteByAccessCode : Obligations.RegisterWriteByAccessCode := by
  refine ⟨?plain, ?codes, fun f off val s hf => exec_registerWrite_vf hf off val s⟩
  case plain =>
    intro off val s i hinfo lo hi hsel
    rw [exec_registerWrite_pf, writeReg_of_plainBlock lo hi hsel,
      plainWrite_of_regInfo (fusedOff_above _ (by omega)) hinfo]
  case codes =>
    intro i old val k hk hrw hrwl
    refine ⟨fun rw => ?_, fun rwl nrw => ⟨?_, ?_⟩, fun w1c => ?_, fun nrw nrwl nw1c => ?_⟩
    · simp [bit_written _ _ _ _ hk, rw, bit_eq_false_of_and_eq_zero hrw rw]
    · simp [bit_written _ _ _ _ hk, nrw, bit_eq_false_of_and_eq_zero hrwl rwl]
    · simp [bit_written _ _ _ _ hk, rwl, bit_eq_false_of_and_eq_zero hrwl rwl]
    · rw [BitVec.and_comm] at hrw
      simp [bit_written _ _ _ _ hk, w1c, bit_eq_false_of_and_eq_zero hrw w1c]
    · simp [bit_written _ _ _ _ hk, nrw, nrwl, nw1c]

/-! ## The state after reset -/

theorem FusesGrow.refl (f : Fuses) : FusesGrow f f :=
  ⟨rfl, rfl, rfl, BitVec.or_self, Nat.le_refl _, id, id⟩

/-- After reset a register of the table holds its row's reset value (the part is the LVT1600-E, log 5). -/
theorem reg_reset_of_holds {i : RegInfo} {off : Nat} (hi : i ∈ regTable) (h : i.holds off = true) :
    reg State.reset.dev off = i.reset := by
  show regReset .lvt1600E off = i.reset
  simp [regReset, fusedOff, regInfo?_of_holds hi h]

/-- The same for register `n` of a row. -/
theorem reg_reset_elem {i : RegInfo} (hi : i ∈ regTable) (hs : 0 < i.stride) {n : Nat} (hn : n < i.count) :
    reg State.reset.dev (i.base + i.stride * n) = i.reset :=
  reg_reset_of_holds hi (RegInfo.holds_elem hs hn)

theorem reg_reset_cmdCfg (r : Fin 64) : reg State.reset.dev (cmdCfgOff r) = 0x10000006#32 :=
  reg_reset_elem (i := regN 0x10008 0x20 64 0 (mask 31 28 ||| mask 21 16 ||| mask 11 8 ||| mask 4 0) 0 0x10000006#32)
    (by decide) (by decide) r.isLt

theorem cmdEnabled_reset (r : Fin 64) : cmdEnabled State.reset.dev r = false := by
  have h : reg State.reset.dev (cmdCtrlOff r) = 0#32 :=
    reg_reset_elem (i := regN 0x1000C 0x20 64 (mask 0 0) 0 0 0) (by decide) (by decide) r.isLt
  simp [cmdEnabled, h, bit]

theorem reg_reset_vfFuncCfg (f : Fin 15) : reg State.reset.dev (0x11204 + 4 * f.val) = 0#32 :=
  reg_reset_elem (i := regN 0x11204 4 15 (mask 31 31) (mask 29 24 ||| mask 15 8 ||| mask 6 0) 0 0) (by decide)
    (by decide) f.isLt

theorem laneBase_general {n : Nat} (h : n < 128) : laneBase n = 0x40000 + 0x400 * n := if_pos h

theorem reg_reset_laneTxeq (n : Fin 128) : reg State.reset.dev (laneBase n + 4) = 0x3F00#32 := by
  rw [laneBase_general n.isLt, Nat.add_right_comm]
  exact reg_reset_elem (i := regN 0x40004 0x400 128 (mask 21 16 ||| mask 13 8 ||| mask 3 0) 0 0 0x3F00#32) (by decide)
    (by decide) n.isLt

theorem reg_reset_laneCtle (n : Fin 128) : reg State.reset.dev (laneBase n + 8) = 0xC0000008#32 := by
  rw [laneBase_general n.isLt, Nat.add_right_comm]
  exact reg_reset_elem (i := regN 0x40008 0x400 128 (mask 31 30 ||| mask 3 0) 0 0 0xC0000008#32) (by decide) (by decide)
    n.isLt

theorem reg_reset_ethCfg (p : Fin 128) : reg State.reset.dev (ethCfgOff p) = 0x000A0000#32 :=
  reg_reset_elem (i := regN 0x80000 8 128 (mask 23 16 ||| mask 0 0) 0 0 0x000A0000#32) (by decide) (by decide) p.isLt

theorem reg_reset_pfFuncCfg : reg State.reset.dev 0x11200 = 0xBF008000#32 :=
  reg_reset_of_holds (i := reg1 0x11200 0 (mask 15 8 ||| mask 6 0) 0 0xBF008000#32) (by decide) (by decide)

theorem reg_reset_duetCfg : reg State.reset.dev 0x200000 = 0x00140000#32 :=
  reg_reset_of_holds (i := reg1 0x200000 0 (mask 29 29 ||| mask 20 16) 0 0x00140000#32) (by decide) (by decide)

theorem reg_reset_pwrCfg : reg State.reset.dev 0x20004 = 0x04690000#32 :=
  reg_reset_of_holds (i := reg1 0x20004 (mask 23 16) (mask 26 24) 0 0x04690000#32) (by decide) (by decide)

/-- Settles O58: the fields by definition, each register from its row of the table. -/
theorem resetState : Obligations.ResetState :=
  ⟨rfl, rfl, rfl, rfl, rfl, rfl, FusesGrow.refl _, fun r => ⟨reg_reset_cmdCfg r, cmdEnabled_reset r⟩, reg_reset_vfFuncCfg,
    reg_reset_pfFuncCfg, fun n => ⟨reg_reset_laneTxeq n, reg_reset_laneCtle n, reg_reset_ethCfg n⟩, reg_reset_duetCfg,
    reg_reset_pwrCfg⟩

end Sys2Proof.Machine

/-!
PROOF. The checks that a descriptor command meets before its own conditions, in the order of R103: O57.
-/
namespace Sys2Proof.Machine

/-! ## Reserved bits in order of offset (R769) -/

theorem firstBad_cons (e : Nat × Bool) (l : List (Nat × Bool)) :
    firstBad (e :: l) = if e.2 then some e.1 else firstBad l := by
  cases h : e.2 <;> simp [firstBad, h]

theorem firstBad_append_of_clean {pre : List (Nat × Bool)} (h : pre.all (fun e => !e.2) = true)
    (l : List (Nat × Bool)) : firstBad (pre ++ l) = firstBad l := by
  have hnone : pre.find? (fun e => e.2) = none := List.find?_eq_none.2 (by simpa using h)
  simp [firstBad, List.find?_append, hnone]

theorem firstBad_of_clean {l : List (Nat × Bool)} (h : l.all (fun e => !e.2) = true) : firstBad l = none := by
  simpa [firstBad] using firstBad_append_of_clean h []

/-- A byte that is reserved as a whole. -/
theorem zeroBits_byte (desc : Bytes) (off : Nat) : zeroBits desc off 0xFF = (off, byteAt desc off != 0#8) := by
  have hmask : (byteAt desc off).toNat &&& 0xFF = (byteAt desc off).toNat :=
    (Nat.and_two_pow_sub_one_eq_mod _ 8).trans (Nat.mod_eq_of_lt (byteAt desc off).isLt)
  rw [zeroBits, hmask, Prod.mk.injEq, Bool.eq_iff_iff]
  simp [← BitVec.toNat_inj]

/-! ## The checks that come first (R19, R101, R103) -/

section
variable {d : Device} {fn op : Nat} {right q : Bool} {cls : CmdClass} {desc : Bytes} {own : List (Nat × Bool)}

theorem preCheck_of_noRight (hop : opInfo op = some (cls, q)) (h : classRight d fn cls = false ∨ right = false) :
    preCheck d fn op right desc own = some (.badOpcode, zeros 16) := by
  have hcond : (!classRight d fn cls || !right) = true := by simpa using h
  simp [preCheck, hop, hcond]

theorem preCheck_of_wrongMode (hop : opInfo op = some (cls, q)) (hclass : classRight d fn cls = true)
    (hright : right = true) (h : modeAllows d cls = false ∨ portDenied d op desc = true) :
    preCheck d fn op right desc own = some (.modeDenied, zeros 16) := by
  have hcond : (!modeAllows d cls || portDenied d op desc) = true := by simpa using h
  simp [preCheck, hop, hclass, hright, hcond]

/-- Where rights, mode and ports allow the command and nothing holds its class back, the reserved bits alone decide. -/
theorem preCheck_of_allowed (hop : opInfo op = some (cls, q)) (hclass : classRight d fn cls = true)
    (hright : right = true) (hmode : modeAllows d cls = true) (hport : portDenied d op desc = false)
    (hhalt : d.tmp.halted = false) (hhold : d.pwr.holding = false) (htrain : d.mem.trainFailed = false) :
    preCheck d fn op right desc own =
      (firstBad (zeroBits desc 2 0xF8 :: zeroBits desc 3 0xFF :: own)).map (fun off => (.badField, leBytes 2 off)) := by
  cases hbad : firstBad (zeroBits desc 2 0xF8 :: zeroBits desc 3 0xFF :: own) <;>
    simp [preCheck, hop, hclass, hright, hmode, hport, hhalt, hhold, htrain, hbad]

end

theorem classRight_pf (d : Device) (cls : CmdClass) : classRight d 0 cls = true := rfl

/-! ## A command that is held back, and one that fails a check -/

section
variable {d : Device} {op r : Nat} {rights : Device → Nat → Bool} {checks : Bytes → List (Nat × Bool)}
  {body : Origin → Bytes → Bytes → Device → Verdict} {buf : Bytes} {f : Fetched} {rest : List Fetched}

theorem runCommand_heldBack (hfront : (cmdRing d r).fetched = f :: rest) (hheld : heldBack d r op f = true) :
    runCommand op r rights checks body buf d = d := by
  simp [runCommand, hfront, hheld]

theorem runCommand_checkFails {st : Status} {res : Bytes} (hfront : (cmdRing d r).fetched = f :: rest)
    (hop : opcodeOf f.desc = op) (hfree : heldBack d r op f = false)
    (hcheck : preCheck (taken d r rest) (cmdOwner d r) op (rights (taken d r rest) (cmdOwner d r)) f.desc
      (checks f.desc) = some (st, res)) :
    runCommand op r rights checks body buf d = failed (taken d r rest) (originOf d r f) st res := by
  have howner : (originOf d r f).fn = cmdOwner d r := rfl
  simp [runCommand, hfront, hop, hfree, howner, hcheck, failed]

end

theorem exec_secySet (r : Fin 64) (s : State) :
    exec (.secySet r) s = .next (s.having (runCommand 0x0100 r anyRight secyOwn secySetBody [] s.dev)) := rfl

/-- Settles O57: each check by its lemma above, and the table of modes by definition. -/
theorem descriptorChecksInOrder : Obligations.DescriptorChecksInOrder := by
  refine ⟨?fails, ?held, ?order, ?secy, ?modes⟩
  case fails =>
    intro op r right own body buf d f rest st res hfront hop hfree hcheck
    have hrun := runCommand_checkFails (body := body) (buf := buf) hfront hop hfree hcheck
    exact ⟨hrun, hrun ▸ (failed_same ..).trans (taken_same ..)⟩
  case held =>
    intro op r right own body buf d f rest hfront hheld
    exact runCommand_heldBack hfront hheld
  case order =>
    intro d fn op right q cls desc own hop
    refine ⟨preCheck_of_noRight hop, preCheck_of_wrongMode hop, ?reserved⟩
    intro hclass hright hmode hport hhalt hhold htrain
    have hcheck := preCheck_of_allowed (desc := desc) (own := own) hop hclass hright hmode hport hhalt hhold htrain
    rw [zeroBits_byte, firstBad_cons, firstBad_cons] at hcheck
    refine ⟨fun hflags => ?flags, fun hflags hbyte => ?byte3, fun hflags hbyte => ⟨?own, fun hown => ?clean⟩⟩
    case flags => simp [hcheck, zeroBits, hflags]
    case byte3 => simp [hcheck, zeroBits, hflags, hbyte]
    case own =>
      rintro k pre post rfl hpre
      simp [hcheck, zeroBits, hflags, hbyte, firstBad_append_of_clean hpre, firstBad_cons]
    case clean => simp [hcheck, zeroBits, hflags, hbyte, firstBad_of_clean hown]
  case secy =>
    intro r s f rest hfront hop hfree howner hprov
    have hmode : modeAllows (taken s.dev r rest) .d = false := by
      simp [modeAllows, (taken_same s.dev r rest).glb, hprov]
    have hcheck := preCheck_of_wrongMode (desc := f.desc) (own := secyOwn f.desc) (op := 0x0100) rfl
      (classRight_pf (taken s.dev r rest) .d) rfl (.inl hmode)
    rw [← howner] at hcheck
    rw [exec_secySet, runCommand_checkFails hfront hop hfree hcheck]
  case modes =>
    intro d
    refine ⟨rfl, rfl, rfl, rfl, rfl, rfl, fun hagg => ?_, fun hsdh => ?_⟩
    · simp [modeAllows, hagg]
    · simp [modeAllows, hsdh]

end Sys2Proof.Machine

/-!
PROOF. A start-up from the release of RESET_N to the mode that it enters: O27.
-/
namespace Sys2Proof.Machine

/-! ## Start-up up to its branch on the tamper latch (R695-R697) -/

/-- What the first steps of a start-up leave as it was: the battery domain, and whether an alarm has ended the start-up. -/
structure SameStart (a b : Device) : Prop where
  batt : a.tmp.batt = b.tmp.batt
  ended : a.boot.ended = b.boot.ended

theorem SameStart.trans {a b c : Device} (h : SameStart a b) (k : SameStart b c) : SameStart a c :=
  ⟨h.batt.trans k.batt, h.ended.trans k.ended⟩

theorem SameWork.start {a b : Device} (h : SameWork a b) : SameStart a b :=
  ⟨congrArg Tmp.batt h.tmp, congrArg Boot.ended h.boot⟩

theorem trainLink_start (d : Device) (speed width : Nat) : SameStart (trainLink d speed width) d := by
  unfold trainLink
  split <;> exact ⟨rfl, rfl⟩

theorem suppRejected_start (d : Device) (k reason version : Nat) : SameStart (suppRejected d k reason version) d :=
  (emit_same ..).start.trans ⟨rfl, rfl⟩

theorem trySupp_start (f : Fuses) (d : Device) (k : Nat) (x : Option Region) : SameStart (trySupp f d k x).1 d := by
  unfold trySupp
  split
  · exact suppRejected_start ..
  · split
    · exact ⟨rfl, rfl⟩
    · exact suppRejected_start ..

theorem loadSupp_start (f : Fuses) (d : Device) : SameStart (loadSupp f d) d := by
  have first := trySupp_start f d 0 d.boot.flash.suppA
  simp only [loadSupp]
  split
  · exact first
  · split
    · exact (trySupp_start ..).trans ⟨first.batt, first.ended⟩
    · refine SameStart.trans (b := (trySupp f _ 1 _).1) ⟨rfl, rfl⟩ ?_
      exact (trySupp_start ..).trans ⟨first.batt, first.ended⟩

theorem takeBudget_start (d : Device) : SameStart (takeBudget d) d := by
  simp only [takeBudget]
  split
  · exact (emit_same ..).start.trans ⟨rfl, rfl⟩
  · exact ⟨rfl, rfl⟩

theorem profileRejected_start (d : Device) (index code off at_ : Nat) :
    SameStart (profileRejected d index code off at_) d :=
  (emit_same ..).start.trans ⟨rfl, rfl⟩

theorem chooseProfile_start (f : Fuses) (d : Device) : SameStart (chooseProfile f d) d := by
  simp only [chooseProfile]
  split
  · exact (profileRejected_start ..).trans ⟨rfl, rfl⟩
  · split
    · exact (profileRejected_start ..).trans ⟨rfl, rfl⟩
    · exact (takeBudget_start _).trans ⟨rfl, rfl⟩

theorem drbgRequest_start (d : Device) (n : Nat) : SameStart (drbgRequest d n) d := by
  simp only [drbgRequest]
  split <;> exact ⟨rfl, rfl⟩

theorem stopDrbg_start (d : Device) (cause : Nat) : SameStart (stopDrbg d cause) d := by
  unfold stopDrbg
  split
  · exact ⟨rfl, rfl⟩
  · exact (emit_same ..).start.trans ⟨rfl, rfl⟩

theorem startDrbg_start (d : Device) (failed : Option Nat) : SameStart (startDrbg d failed) d := by
  unfold startDrbg
  split
  · exact stopDrbg_start ..
  · exact (drbgRequest_start ..).trans ⟨rfl, rfl⟩

/-- A signature that is present raises no alarm (R605). -/
theorem checkSignature_start (f : Fuses) {d : Device} (h : d.tmp.batt.signature = true) :
    SameStart (checkSignature f d) d := by
  rw [checkSignature, if_pos h]
  exact ⟨rfl, rfl⟩

/-- A BBK that is held is kept (R469). -/
theorem buildTree_start (f : Fuses) {d : Device} {bbk : Bytes} (h : d.tmp.batt.bbk = some bbk) :
    SameStart (buildTree f d) d := by
  rw [buildTree, h]
  exact ⟨rfl, rfl⟩

theorem adoptCheckpoint_start (d : Device) : SameStart (adoptCheckpoint d) d := by
  simp only [adoptCheckpoint]
  split
  · exact (emit_same ..).start.trans ⟨rfl, rfl⟩
  · exact ⟨rfl, rfl⟩

theorem granted_of_noGrant {d : Device} (h : d.tmp.batt.grant = false) : granted d = false := by
  simp [granted, h]

/-- A start-up with its battery signature and a BBK reaches step 6, where the latch and the grant that it began with choose
how it goes on (R697). -/
theorem startUp_branches (f : Fuses) {d : Device} (start : StartUp) {bbk : Bytes} (hsig : d.tmp.batt.signature = true)
    (hbbk : d.tmp.batt.bbk = some bbk) (hended : d.boot.ended = false) :
    ∃ e may, e.tmp.batt = d.tmp.batt ∧ (d.tmp.batt.grant = false → may = false) ∧
      startUp f d start = if d.tmp.batt.latch && !may then startLocked e start.plls else startNormal f e start := by
  have hdrbg : SameStart (startDrbg (chooseProfile f (loadSupp f (trainLink d start.speed start.width)))
      (start.drbgFail.map Fin.val)) d :=
    (startDrbg_start ..).trans ((chooseProfile_start ..).trans ((loadSupp_start ..).trans (trainLink_start ..)))
  have hsigned := (checkSignature_start f (hdrbg.batt ▸ hsig)).trans hdrbg
  have htree := (adoptCheckpoint_start _).trans ((buildTree_start f (hsigned.batt ▸ hbbk)).trans hsigned)
  refine ⟨_, _, htree.batt, fun hgrant => granted_of_noGrant (hsigned.batt ▸ hgrant), ?_⟩
  simp only [startUp, hsigned.ended, hended, htree.batt, Bool.false_eq_true, if_false]

/-! ## The mode that a start-up enters (R21, R696) -/

theorem setPin_same (d : Device) (on : Bool) : SameWork (setPin d on) d := by
  unfold setPin
  split
  · exact .refl d
  · constructor <;> rfl

theorem settlePin_same (d : Device) : SameWork (settlePin d) d := by
  unfold settlePin
  split
  · exact setPin_same ..
  · exact ite_same (.refl d) (setPin_same ..)

@[simp] theorem wakePath_boot (d : Device) : (wakePath d).boot = d.boot := by
  unfold wakePath
  split <;> rfl

@[simp] theorem wakePath_mode (d : Device) : (wakePath d).glb.mode = d.glb.mode := by
  unfold wakePath
  split <;> rfl

theorem endStartUp_boot (d : Device) (plls : BitVec 8) :
    (endStartUp d plls).boot = { d.boot with ended := true, step := 7 } := by
  simp only [endStartUp]
  split
  · simp [(emit_same ..).boot]
  · simp [(settlePin_same _).boot, (emit_same ..).boot]

theorem endStartUp_mode (d : Device) (plls : BitVec 8) : (endStartUp d plls).glb.mode = d.glb.mode := by
  simp only [endStartUp]
  split
  · simp [(emit_same ..).glb]
  · simp [(settlePin_same _).glb, (emit_same ..).glb]

theorem enterMode_mode (d : Device) (m : Mode) : (enterMode d m).glb.mode = m := by
  simp only [enterMode]
  (repeat' split) <;> rfl

/-- Entering a mode leaves what the choice of the mode rests on. -/
theorem startMode_enterMode (d : Device) (m : Mode) (fromLocked : Bool) :
    startMode (enterMode d m) fromLocked = startMode d fromLocked := by
  simp only [enterMode]
  (repeat' split) <;> rfl

theorem startMode_endStartUp (d : Device) (plls : BitVec 8) (fromLocked : Bool) :
    startMode (endStartUp d plls) fromLocked = startMode d fromLocked := by
  simp [startMode, endStartUp_boot]

theorem copyLog_glb (d : Device) : (copyLog d).glb = d.glb :=
  (foldl_same (List.range d.tmp.batt.log.length) _ (fun _ _ => emit_same ..) d).glb

theorem startLocked_ended (d : Device) (plls : BitVec 8) : (startLocked d plls).boot.ended = true := by
  rw [startLocked, endStartUp_boot]

theorem startLocked_mode (d : Device) (plls : BitVec 8) : (startLocked d plls).glb.mode = .locked := by
  rw [startLocked, endStartUp_mode, copyLog_glb, enterMode_mode]

theorem startNormal_ended (f : Fuses) (d : Device) (start : StartUp) : (startNormal f d start).boot.ended = true := by
  simp only [startNormal, endStartUp_boot]

/-- A start-up that goes on enters the mode that its own end state still calls for. -/
theorem startNormal_mode (f : Fuses) (d : Device) (start : StartUp) :
    (startNormal f d start).glb.mode = startMode (startNormal f d start) d.tmp.batt.latch := by
  simp only [startNormal, endStartUp_mode, enterMode_mode, startMode_endStartUp, startMode_enterMode]

theorem startMode_unlocked (d : Device) :
    startMode d false =
      if (d.boot.profileOk && d.boot.suppSlot != 2 && d.boot.enrolled) = true then d.boot.profile.mode
      else .provision := by
  cases hok : (d.boot.profileOk && d.boot.suppSlot != 2 && d.boot.enrolled)
  case false =>
    simp only [Bool.and_eq_false_iff, bne_eq_false_iff_eq] at hok
    obtain (hprofile | hsupp) | henrolled := hok
    · simp [startMode, hprofile]
    · simp [startMode, hsupp]
    · simp [startMode, henrolled]
  case true =>
    simp only [Bool.and_eq_true, bne_iff_ne] at hok
    obtain ⟨⟨hprofile, hsupp⟩, henrolled⟩ := hok
    simp [startMode, hprofile, hsupp, henrolled]

/-- Settles O27: the branch that the start-up takes in step 6, and the mode at the end of each branch. -/
theorem startUpChoosesMode : Obligations.StartUpChoosesMode := by
  intro f d start bbk hsig hbbk hended
  obtain ⟨e, may, hbatt, hmay, hstart⟩ := startUp_branches f start hsig hbbk hended
  refine ⟨?ended, fun hlatch hgrant => ?locked, fun hlatch b hb => ?unlocked⟩
  case ended =>
    rw [hstart]
    split
    · exact startLocked_ended ..
    · exact startNormal_ended ..
  case locked =>
    rw [hstart, hlatch, hmay hgrant]
    exact startLocked_mode ..
  case unlocked =>
    rw [hlatch] at hstart
    subst hb
    rw [show startUp f d start = startNormal f e start from hstart, startNormal_mode, hbatt, hlatch, startMode_unlocked]

end Sys2Proof.Machine

/-!
PROOF. What reporting leaves of registers and rings, what protected memory leaves of the GLB block, and the statements on the
seal, the reads with an effect, fetches and coalescing: O6, O7, O8 and O10.
-/
namespace Sys2Proof.Machine

/-! ## Registers and rings under reporting -/

theorem reg_congr {a b : Device} (hregs : a.regs = b.regs) (hglb : a.glb = b.glb) (off : Nat) : reg a off = reg b off := by
  simp [reg, hregs, hglb]

/-- What one step of a fold leaves as it was, the fold leaves as it was. -/
theorem foldl_keeps {α β : Type} (get : Device → β) (g : Device → α → Device) (h : ∀ d a, get (g d a) = get d)
    (l : List α) (d : Device) : get (l.foldl g d) = get d := by
  induction l generalizing d with
  | nil => rfl
  | cons a l ih => exact (ih (g d a)).trans (h d a)

theorem emitRaw_hif (d : Device) (src : Source) (t : Nat) (p : Bytes) : (emitRaw d src t p).hif = d.hif := by
  simp only [emitRaw]
  (repeat' split) <;> rfl

theorem emitRaw_regs (d : Device) (src : Source) (t : Nat) (p : Bytes) : (emitRaw d src t p).regs = d.regs := by
  simp only [emitRaw]
  (repeat' split) <;> rfl

theorem reportDrops_hif (d : Device) (src : Source) : (reportDrops d src).hif = d.hif := by
  unfold reportDrops
  split
  · split
    · exact emitRaw_hif ..
    · rfl
  · rfl

theorem reportDrops_regs (d : Device) (src : Source) : (reportDrops d src).regs = d.regs := by
  unfold reportDrops
  split
  · split
    · exact emitRaw_regs ..
    · rfl
  · rfl

@[simp] theorem emit_hif (d : Device) (src : Source) (t : Nat) (p : Bytes) : (emit d src t p).hif = d.hif := by
  unfold emit
  split
  · rfl
  · rw [reportDrops_hif, emitRaw_hif]

@[simp] theorem emit_regs (d : Device) (src : Source) (t : Nat) (p : Bytes) : (emit d src t p).regs = d.regs := by
  unfold emit
  split
  · rfl
  · rw [reportDrops_regs, emitRaw_regs]

@[simp] theorem emit_glb (d : Device) (src : Source) (t : Nat) (p : Bytes) : (emit d src t p).glb = d.glb :=
  (emit_same ..).glb

@[simp] theorem reg_emit (d : Device) (src : Source) (t : Nat) (p : Bytes) (off : Nat) :
    reg (emit d src t p) off = reg d off :=
  reg_congr (emit_regs ..) (emit_glb ..) off

/-- A bit that `setBits` covers takes the bit of the value. -/
theorem bit_reg_setBits (d : Device) (off : Nat) (m v : W32) {k : Nat} (hk : k < 32) (hm : bit m k = true) :
    bit (reg (setBits d off m v) off) k = bit v k := by
  rw [reg_setBits, bit_merge _ _ _ hk, if_pos hm]

/-! ## Protected memory leaves the GLB block alone -/

section
variable (d : Device)

@[simp] theorem eraseRec_glb (i : Nat) : (eraseRec d i).glb = d.glb := by
  simp only [eraseRec]
  split <;> rfl

@[simp] theorem saOut_glb (sa : Nat) : (saOut d sa).glb = d.glb := rfl
@[simp] theorem setGroup_glb (g : Nat) (x : Group) : (setGroup d g x).glb = d.glb := rfl
@[simp] theorem sealLine_glb (line : Nat) (plain : Bytes) : (sealLine d line plain).glb = d.glb := rfl
@[simp] theorem bumpVersion_glb (level node : Nat) : (bumpVersion d level node).glb = d.glb := rfl
@[simp] theorem storeNode_glb (level node : Nat) : (storeNode d level node).glb = d.glb := rfl

@[simp] theorem markDirty_glb (level node : Nat) : (markDirty d level node).glb = d.glb := by
  unfold markDirty
  split <;> rfl

@[simp] theorem touchTag_glb (line : Nat) (write : Bool) : (touchTag d line write).glb = d.glb := by
  simp only [touchTag]
  (repeat' split) <;> rfl

@[simp] theorem insertNode_glb (level node : Nat) : (insertNode d level node).glb = d.glb := by
  simp only [insertNode]
  (repeat' split) <;> simp

@[simp] theorem writeNodeBack_glb (level node : Nat) : (writeNodeBack d level node).glb = d.glb := by
  simp only [writeNodeBack]
  (repeat' split) <;> simp

@[simp] theorem fitNodes_glb (fuel : Nat) : (fitNodes fuel d).glb = d.glb := by
  induction fuel generalizing d with
  | zero => rfl
  | succ fuel ih =>
    simp only [fitNodes]
    split
    · rfl
    · rw [ih]
      split <;> simp

@[simp] theorem loadNode_glb (fuel level node : Nat) : (loadNode fuel d level node).glb = d.glb := by
  induction fuel generalizing d level node with
  | zero => rfl
  | succ fuel ih =>
    simp only [loadNode]
    (repeat' split) <;> simp [ih]

@[simp] theorem reencrypt_glb (g major : Nat) : (reencrypt d g major).glb = d.glb := by
  simp only [reencrypt]
  exact foldl_keeps Device.glb _ (fun _ _ => sealLine_glb ..) ..

@[simp] theorem assocOut_glb (a cause : Nat) : (assocOut d a cause).glb = d.glb := by
  unfold assocOut
  split
  · split
    · rfl
    · rw [emit_glb]
      exact foldl_keeps Device.glb _ (fun _ _ => eraseRec_glb ..) ..
  · rfl

@[simp] theorem outAll_glb (p : Nat → Bool) : (outAll d p).glb = d.glb :=
  (foldl_keeps Device.glb _ (fun _ _ => assocOut_glb ..) ..).trans (foldl_keeps Device.glb _ (fun _ _ => saOut_glb ..) ..)

@[simp] theorem freeze_glb (g : Nat) : (freeze d g).glb = d.glb := by
  simp [freeze]

@[simp] theorem writeLine_glb (line : Nat) : (writeLine d line).glb = d.glb := by
  simp only [writeLine]
  (repeat' split) <;> simp

@[simp] theorem addToLine_glb (line : Nat) (adds : Tbl W64) : (addToLine d line adds).glb = d.glb := by
  simp only [addToLine]
  (repeat' split) <;> simp

@[simp] theorem flushStats_glb (i : Nat) : (flushStats d i).glb = d.glb := by
  simp only [flushStats]
  exact foldl_keeps Device.glb _ (fun _ _ => addToLine_glb ..) ..

@[simp] theorem writeBack_glb (i : Nat) : (writeBack d i).glb = d.glb := by
  simp only [writeBack]
  (repeat' split) <;> simp

@[simp] theorem setFetching_glb (l : List Nat) : (setFetching d l).glb = d.glb := by
  simp only [setFetching]
  (repeat' split) <;> rfl

@[simp] theorem startFetch_glb (i : Nat) : (startFetch d i).glb = d.glb := by
  unfold startFetch
  split <;> simp

@[simp] theorem evictSas_glb (l : List Nat) : (evictSas d l).glb = d.glb :=
  (foldl_keeps Device.glb _ (fun _ _ => startFetch_glb ..) ..).trans
    (foldl_keeps Device.glb _ (fun _ _ => writeBack_glb ..) ..)

end

/-! ## The seal (R66, R477) -/

theorem flOff_glb (d : Device) (p reason : Nat) : (flOff d p reason).glb = d.glb := emit_glb ..

theorem fitSet_glb (d : Device) (set : Nat) (l : List Nat) : (fitSet d set l).glb = d.glb := evictSas_glb ..

theorem fitCaches_glb (d : Device) : (fitCaches d).glb = d.glb := by
  simp only [fitCaches]
  exact foldl_keeps Device.glb _ (fun _ _ => fitSet_glb ..) ..

theorem flEnter_glb (d : Device) (p : Nat) : (flEnter d p).glb = d.glb := by
  unfold flEnter
  (repeat' split) <;> simp [flOff_glb, fitCaches_glb]

theorem flSeal_glb (d : Device) : (flSeal d).glb = d.glb := by
  refine foldl_keeps Device.glb _ (fun d p => ?_) ..
  (repeat' split) <;> simp [flOff_glb, flEnter_glb]

theorem sealUp_of_open {d : Device} (f : Fuses) (h : d.glb.sealed = false) :
    sealUp d f 0x5EA1#32 = flSeal { d with glb := { d.glb with sealed := true, configDigest := configDigest d f } } :=
  if_pos ⟨rfl, h⟩

theorem sealUp_of_refused {d : Device} (f : Fuses) {val : W32} (h : val ≠ 0x5EA1#32 ∨ d.glb.sealed = true) :
    sealUp d f val = d :=
  if_neg fun ⟨hkey, hopen⟩ => h.elim (· hkey) (by simp [hopen])

theorem exec_glbSeal (s : State) (val : W32) : exec (.glbSeal val) s = .next (s.having (sealUp s.dev s.fuses val)) := rfl

/-- Settles O8: the key on an open device, and every other write. -/
theorem sealLocksOnce : Obligations.SealLocksOnce := by
  refine ⟨fun s hopen => ⟨?_, ?_⟩, fun s val hrefused => ?_⟩
  · rw [exec_glbSeal, sealUp_of_open s.fuses hopen]
  · rw [flSeal_glb]
  · rw [exec_glbSeal, sealUp_of_refused s.fuses hrefused]
    rfl

/-! ## Reads that latch (R69, R70, R729) -/

/-- Settles O10: the two branches of a low-half read by counter access, and REC_OPTIME_LO by definition. -/
theorem readsLatchHighHalf : Obligations.ReadsLatchHighHalf := by
  refine ⟨fun f c s haccess => ?_, fun f c s hnone => ?_, fun _ => rfl⟩
  · show execCounterLowRead f c s = _
    rw [execCounterLowRead, if_pos haccess]
    rfl
  · show execCounterLowRead f c s = _
    rw [execCounterLowRead, if_neg (by simp [hnone])]
    rfl

/-! ## Fetches (R85, R87) -/

theorem exec_descriptorFetch (reply : FetchReply) (s : State) :
    exec (.descriptorFetch reply) s = .next (s.having (fetchVisit s.dev reply)) := rfl

/-- Settles O6: the visit of the ring that the rotation gives, by what host memory answered. -/
theorem fetchVisitsNextRing : Obligations.FetchVisitsNextRing := by
  intro s r hnext _
  refine ⟨fun descs => ⟨_, exec_descriptorFetch .., ?_⟩, fun cause => ⟨_, exec_descriptorFetch .., ?_⟩⟩
  · simp only [fetchVisit, hnext]
    exact ⟨cmdRing_setCmdRing .., rfl, by constructor <;> rfl⟩
  · simp only [fetchVisit, hnext]
    refine ⟨?enabled, ?fault, by simp, ?same⟩
    case enabled =>
      rw [cmdEnabled, reg_emit, reg_setBits_ne _ _ _ _ _ (by simp [cmdCtrlOff, cmdStatusOff])]
      exact bit_reg_setBits _ _ _ _ (by decide) (by decide)
    case fault =>
      rw [reg_emit]
      exact bit_reg_setBits _ _ _ _ (by decide) (by decide)
    case same => exact (emit_same ..).trans (by constructor <;> rfl)

/-! ## Coalescing (R98) -/

theorem elapseTo_of_past {d : Device} {t : Nat} (h : t ≤ d.clock) : elapseTo d t = d := if_neg (by omega)

theorem coalesce_of_unsignalled {d : Device} {m : Nat} (hwaiting : (cqRing d m).unsignalled ≠ 0)
    (htime : field d (cqCtrlOff m) 19 8 ≠ 0)
    (hpast : (cqRing d m).firstAt + field d (cqCtrlOff m) 19 8 * usTicks ≤ d.clock) :
    coalesce d m =
      raiseVector (setCqRing d m { cqRing d m with unsignalled := 0 }) (cqOwner d m) (field d (cqCfgOff m) 22 16) := by
  simp only [coalesce, hwaiting, htime, elapseTo_of_past hpast, or_self, if_false]

theorem raiseVector_of_owned {d : Device} {f v : Nat} (h : ownsVector d f v = true) :
    raiseVector d f v = send { d with hif := { d.hif with raised := v :: d.hif.raised.filter (· != v) } } (.interrupt v) :=
  if_pos h

/-- Settles O7: the time is over, so nothing elapses, and the ring's function owns the vector. -/
theorem coalescingRaisesVector : Obligations.CoalescingRaisesVector := by
  intro m s t ht htime hwaiting hpast howns
  subst ht
  refine ⟨coalesce s.dev m, rfl, ?_⟩
  have hraise := raiseVector_of_owned (d := setCqRing s.dev m { cqRing s.dev m with unsignalled := 0 }) howns
  rw [coalesce_of_unsignalled hwaiting htime hpast]
  refine ⟨?out, ?ring, (raiseVector_same ..).trans (setCqRing_same ..)⟩
  case out => rw [hraise]; rfl
  case ring =>
    have hring := cqRing_setCqRing s.dev m { cqRing s.dev m with unsignalled := 0 }
    rw [hraise]
    exact congrArg CqRing.unsignalled hring

end Sys2Proof.Machine

/-!
PROOF. What a stalled completion ring changes, and the doorbells: O4.
-/
namespace Sys2Proof.Machine

/-! ## Fullness and stalls (R90) -/

theorem cqFull_congr {a b : Device} {m : Nat} (hcfg : reg a (cqCfgOff m) = reg b (cqCfgOff m))
    (hwrite : (cqRing a m).write = (cqRing b m).write) (hhead : (cqRing a m).head = (cqRing b m).head) :
    cqFull a m = cqFull b m := by
  simp [cqFull, cqSize, field, hcfg, hwrite, hhead]

section
variable {β : Type} {d : Device} {m : Nat} {get : Device → β}
  (hbits : ∀ e r, get (setBits e (cmdStatusOff r) (mask 2 2) (mask 2 2)) = get e)
  (hring : (cqRing d m).stallSince = none →
    ∀ e, get (setCqRing e m { cqRing e m with stallSince := some e.clock }) = get e)
include hbits hring

/-- A stall sets status bits of command rings and, where none has begun, notes its start; the rest it keeps. -/
theorem markStall_keeps : get (markStall d m) = get d := by
  have hmarks := foldl_keeps get
    (fun d r => if mappedTo d m r then setBits d (cmdStatusOff r) (mask 2 2) (mask 2 2) else d)
    (fun e r => by split <;> simp [hbits]) (List.range 64) d
  simp only [markStall]
  split
  · next hfirst => exact (hring (by simpa using hfirst) _).trans hmarks
  · exact hmarks

theorem seeFull_keeps : get (seeFull d m) = get d := by
  unfold seeFull
  split
  · exact markStall_keeps hbits hring
  · rfl

end

theorem cqCfgOff_ne_cmdStatusOff (m r : Nat) : cqCfgOff m ≠ cmdStatusOff r := by
  unfold cqCfgOff cmdStatusOff
  omega

section
variable (d : Device) (m : Nat)

theorem seeFull_same : SameWork (seeFull d m) d := ite_same (markStall_same ..) (.refl d)

theorem seeFull_reg {off : Nat} (h : ∀ r, off ≠ cmdStatusOff r) : reg (seeFull d m) off = reg d off :=
  seeFull_keeps (get := fun e => reg e off) (fun _ r => reg_setBits_ne _ _ _ _ _ (h r)) (fun _ _ => rfl)

theorem seeFull_cmdRing (r : Nat) : cmdRing (seeFull d m) r = cmdRing d r :=
  seeFull_keeps (get := fun e => cmdRing e r) (fun _ _ => rfl) (fun _ _ => rfl)

/-- Of the completion ring itself only the start of its stall may change. -/
theorem seeFull_cqRing :
    { cqRing (seeFull d m) m with stallSince := none } = { cqRing d m with stallSince := none } :=
  seeFull_keeps (get := fun e => { cqRing e m with stallSince := none }) (fun _ _ => rfl) (fun _ _ => by simp)

theorem seeFull_counters : (seeFull d m).counters = d.counters :=
  seeFull_keeps (get := Device.counters) (fun _ _ => rfl) (fun _ _ => rfl)

theorem seeFull_abortWaits : (seeFull d m).hif.abortWaits = d.hif.abortWaits :=
  seeFull_keeps (get := fun e => e.hif.abortWaits) (fun _ _ => rfl) (fun _ _ => rfl)

theorem countStall_same : SameWork (countStall d m) d := by
  unfold countStall
  split
  · exact (count_same ..).trans (setCqRing_same ..)
  · exact .refl d

theorem countStall_regs : (countStall d m).regs = d.regs := by
  unfold countStall
  split <;> rfl

theorem countStall_abortWaits : (countStall d m).hif.abortWaits = d.hif.abortWaits := by
  unfold countStall
  split <;> rfl

theorem counter_count (i n : Nat) : counter (count d i n) i = counter d i + BitVec.ofNat 64 n := Tbl.getD_setD ..

end

section
variable {d : Device} {m : Nat}

theorem seeFull_of_room (h : cqFull d m = false) : seeFull d m = d := by
  simp [seeFull, h]

theorem seeFull_hif_of_stalled {t : Nat} (h : (cqRing d m).stallSince = some t) : (seeFull d m).hif = d.hif :=
  seeFull_keeps (get := Device.hif) (fun _ _ => rfl) (fun hnone => by simp [h] at hnone)

theorem countStall_of_none (h : (cqRing d m).stallSince = none) : countStall d m = d := by
  simp [countStall, h]

theorem countStall_of_some {t : Nat} (h : (cqRing d m).stallSince = some t) :
    countStall d m =
      count (setCqRing d m { cqRing d m with stallSince := none }) (unitCtr 15 m) ((d.clock - t) / usTicks) := by
  simp [countStall, h]

theorem countStall_ring (d : Device) (m : Nat) :
    cqRing (countStall d m) m = { cqRing d m with stallSince := none } := by
  cases h : (cqRing d m).stallSince with
  | none => rw [countStall_of_none h, ← h]
  | some t =>
    rw [countStall_of_some h]
    exact cqRing_setCqRing ..

/-- Where no ABORT waits for another command's completion there is none to release. -/
theorem releaseAborts_of_none (h : d.hif.abortWaits = []) : releaseAborts d = d := by
  have hfields : { d with hif := { d.hif with abortWaits := [] } } = d := by rw [← h]
  simpa [releaseAborts, h] using hfields

end

/-! ## Doorbells (R83, R84, R94, R95) -/

theorem exec_commandRingTailDoorbell (f : Fin 16) (n : Fin 64) (val : W32) (s : State) :
    exec (.commandRingTailDoorbell f n val) s = .next (s.having (bellCmd s.dev f n val)) := rfl

theorem exec_completionRingHeadDoorbell (f : Fin 16) (m : Fin 64) (val : W32) (s : State) :
    exec (.completionRingHeadDoorbell f m val) s = .next (s.having (bellCq s.dev f m val)) := rfl

theorem exec_eventRingHeadDoorbell (f : Fin 16) (e : Fin 4) (val : W32) (s : State) :
    exec (.eventRingHeadDoorbell f e val) s = .next (s.having (bellEv s.dev f e val)) := rfl

theorem exec_sampleRingHeadDoorbell (f : Fin 16) (val : W32) (s : State) :
    exec (.sampleRingHeadDoorbell f val) s = .next (s.having (bellSample s.dev f val)) := rfl

/-- A doorbell of another function, or with an index outside the ring, does not meet the condition of R84. -/
theorem not_ownBell {p : Prop} {size : Option Nat} {v : Nat} (h : ¬p ∨ inSize size v = false) :
    ¬(p ∧ inSize size v = true) :=
  fun ⟨howner, hsize⟩ => h.elim (· howner) (by simp [hsize])

section
variable {d : Device} {f m : Nat} {val : W32}

/-- The device once the head has moved to `v` and the stall up to now is counted. -/
def headMoved (d : Device) (m v : Nat) : Device :=
  countStall (setCqRing (seeFull d m) m { cqRing (seeFull d m) m with head := v }) m

theorem headMoved_same (d : Device) (m v : Nat) : SameWork (headMoved d m v) d :=
  (countStall_same ..).trans ((setCqRing_same ..).trans (seeFull_same ..))

theorem headMoved_ring (d : Device) (m v : Nat) :
    cqRing (headMoved d m v) m = { cqRing d m with head := v, stallSince := none } := by
  rw [headMoved, countStall_ring, cqRing_setCqRing]
  exact congrArg (fun x : CqRing => { x with head := v }) (seeFull_cqRing d m)

theorem headMoved_cfg (d : Device) (m v : Nat) : reg (headMoved d m v) (cqCfgOff m) = reg d (cqCfgOff m) := by
  rw [headMoved, reg_congr (countStall_regs ..) (countStall_same ..).glb]
  exact seeFull_reg d m (cqCfgOff_ne_cmdStatusOff m)

theorem headMoved_abortWaits (d : Device) (m v : Nat) : (headMoved d m v).hif.abortWaits = d.hif.abortWaits :=
  (countStall_abortWaits ..).trans (seeFull_abortWaits d m)

/-- A head doorbell that leaves room, where no completion waits for it. -/
theorem bellCq_of_room (howner : cqOwner d m = f) (hsize : inSize (cqSize d m) (bits val 15 0) = true)
    (hdue : (cqRing d m).due = []) (haborts : d.hif.abortWaits = [])
    (hroom : cqFull (setCqRing d m { cqRing d m with head := bits val 15 0 }) m = false) :
    bellCq d f m val = setCqRing (headMoved d m (bits val 15 0)) m (cqRing (headMoved d m (bits val 15 0)) m) := by
  have hfull : cqFull (setCqRing (seeFull d m) m { cqRing (seeFull d m) m with head := bits val 15 0 }) m = false := by
    have hwrite : (cqRing (seeFull d m) m).write = (cqRing d m).write :=
      (congrArg CqRing.write (seeFull_cqRing d m) :)
    rw [← hroom]
    refine cqFull_congr ?_ (by simp [hwrite]) (by simp)
    exact seeFull_reg d m (cqCfgOff_ne_cmdStatusOff m)
  have hring := headMoved_ring d m (bits val 15 0)
  have hcfg := headMoved_cfg d m (bits val 15 0)
  have haborts' := (headMoved_abortWaits d m (bits val 15 0)).trans haborts
  have hmoved : endStall (setCqRing (seeFull d m) m { cqRing (seeFull d m) m with head := bits val 15 0 }) m =
      headMoved d m (bits val 15 0) := by
    simp [endStall, hfull, headMoved]
  generalize headMoved d m (bits val 15 0) = e at *
  have hkept : { cqRing e m with due := [] } = cqRing e m := by simp [hring, hdue]
  have hfull' : cqFull (setCqRing e m (cqRing e m)) m = false := by
    rw [← hroom]
    exact cqFull_congr hcfg (by simp [hring]) (by simp [hring])
  rw [bellCq, if_pos ⟨howner, hsize⟩]
  simp only [hmoved, show (cqRing e m).due = [] by rw [hring]; exact hdue, drainCq, hkept, seeFull_of_room hfull']
  exact releaseAborts_of_none haborts'

end

/-- Settles O4: for each kind of ring the owner's doorbell with an index inside it, and the others. -/
theorem doorbellsMoveTheirRing : Obligations.DoorbellsMoveTheirRing := by
  refine ⟨?cmd, ?badCmd, ?cq, ?badCq, ?ev, ?badEv, ?sample, ?badSample⟩
  case cmd =>
    intro f n val s howner hsize
    refine ⟨_, exec_commandRingTailDoorbell .., ?_⟩
    rw [bellCmd, if_pos ⟨howner, hsize⟩]
    exact ⟨cmdRing_setCmdRing .., rfl, by constructor <;> rfl⟩
  case badCmd =>
    intro f n val s hbad
    refine ⟨?_, ?_⟩
    · rw [exec_commandRingTailDoorbell, bellCmd, if_neg (not_ownBell hbad)]
    · rw [badDoorbell, reg_emit]
      exact bit_reg_setBits _ _ _ _ (by decide) (by decide)
  case cq =>
    intro f m val s howner hsize hdue haborts hroom
    have hbell := bellCq_of_room howner hsize hdue haborts hroom
    have hring := (cqRing_setCqRing (headMoved s.dev m (bits val 15 0)) m _).trans
      (headMoved_ring s.dev m (bits val 15 0))
    have hsame := (setCqRing_same _ m (cqRing (headMoved s.dev m (bits val 15 0)) m)).trans
      (headMoved_same s.dev m (bits val 15 0))
    refine ⟨fun hfull hstall => ⟨_, exec_completionRingHeadDoorbell .., ?_⟩,
      fun t hfull hstall => ⟨_, exec_completionRingHeadDoorbell .., ?_⟩⟩
    · rw [hbell]
      refine ⟨?_, ?_, hsame⟩
      · rw [hring, ← hstall]
      · show (headMoved s.dev m _).regs = _
        rw [headMoved, countStall_regs, seeFull_of_room hfull]
        rfl
    · rw [hbell]
      refine ⟨hring, ?_, hsame⟩
      show counter (headMoved s.dev m _) _ = _
      have hstall' : (cqRing (seeFull s.dev m) m).stallSince = some t := by
        rw [cqRing, seeFull_hif_of_stalled hstall]
        exact hstall
      rw [headMoved, countStall_of_some (by simpa using hstall'), counter_count, setCqRing_clock, (seeFull_same ..).clock]
      simp [counter, seeFull_counters]
  case badCq =>
    intro f m val s hbad
    rw [exec_completionRingHeadDoorbell, bellCq, if_neg (not_ownBell hbad)]
  case ev =>
    intro e4 val s hsize hnone
    refine ⟨_, exec_eventRingHeadDoorbell .., ?_⟩
    have hring := evRing_setEvRing s.dev e4 { evRing s.dev e4 with head := 8 * bits val 20 0 }
    rw [bellEv, if_pos ⟨rfl, hsize⟩, reportUndelivered, if_pos (by rw [hring]; exact hnone)]
    exact ⟨hring, by constructor <;> rfl⟩
  case badEv =>
    intro f e4 val s hbad
    rw [exec_eventRingHeadDoorbell, bellEv, if_neg (not_ownBell hbad)]
  case sample =>
    intro val s hsize
    rw [exec_sampleRingHeadDoorbell, bellSample, if_pos ⟨rfl, hsize⟩]
  case badSample =>
    intro f val s hbad
    rw [exec_sampleRingHeadDoorbell, bellSample, if_neg (not_ownBell hbad)]

end Sys2Proof.Machine

/-!
PROOF. Enables and base registers of the rings (R100): O5.
-/
namespace Sys2Proof.Machine

/-! ## A plain write (R8, R10) -/

theorem fusedOff_below {off : Nat} (p : Part) (h : off < 0x50000) : fusedOff p off = false := by
  simp [fusedOff]; omega

section
variable (d : Device) (off : Nat) (val : W32)

theorem plainWrite_same : SameWork (plainWrite d off val) d := by
  unfold plainWrite
  split
  · exact .refl d
  · split
    · exact setReg_same ..
    · exact .refl d

@[simp] theorem plainWrite_hif : (plainWrite d off val).hif = d.hif := by
  unfold plainWrite
  split
  · rfl
  · split <;> rfl

end

/-- An RW bit of an HIF register reads as written. -/
theorem bit_plainWrite_rw {i : RegInfo} {n k : Nat} (d : Device) (val : W32) (hi : i ∈ regTable) (hs : 0 < i.stride)
    (hn : n < i.count) (hlow : i.base + i.stride * n < 0x50000) (hk : k < 32) (hrw : bit i.rw k = true)
    (hw1c : bit i.w1c k = false) :
    bit (reg (plainWrite d (i.base + i.stride * n) val) (i.base + i.stride * n)) k = bit val k := by
  rw [plainWrite_of_regInfo (fusedOff_below _ hlow) (regInfo?_of_holds hi (RegInfo.holds_elem hs hn)), reg_setReg,
    bit_written _ _ _ _ hk]
  simp [hrw, hw1c]

theorem cmdEnabled_plainWrite (d : Device) (n : Fin 64) (val : W32) :
    cmdEnabled (plainWrite d (cmdCtrlOff n) val) n = bit val 0 :=
  bit_plainWrite_rw (i := regN 0x1000C 0x20 64 (mask 0 0) 0 0 0) d val (by decide) (by decide) n.isLt
    (by simp only [regN]; omega) (by decide) (by decide) (by decide)

theorem cqEnabled_plainWrite (d : Device) (n : Fin 64) (val : W32) :
    cqEnabled (plainWrite d (cqCtrlOff n) val) n = bit val 31 :=
  bit_plainWrite_rw (i := regN 0x1080C 0x20 64 (mask 31 31 ||| mask 19 8 ||| mask 7 0) 0 0 0x1#32) d val (by decide)
    (by decide) n.isLt (by simp only [regN]; omega) (by decide) (by decide) (by decide)

theorem evEnabled_plainWrite (d : Device) {e : Nat} (he : e < 5) (val : W32) :
    evEnabled (plainWrite d (evqCfgOff e) val) e = bit val 31 :=
  bit_plainWrite_rw (i := regN 0x11008 0x20 5 (mask 31 31) (mask 22 16 ||| mask 4 0) 0 0xC#32) d val (by decide)
    (by decide) he (by simp only [regN]; omega) (by decide) (by decide) (by decide)

/-! ## Writes of the registers that hold an ENABLE -/

theorem exec_hifCmdCtrlEnable (kind : RingKind) (n : Fin 64) (val : W32) (s : State) :
    exec (.hifCmdCtrlEnable kind n val) s = .next (s.having (writeRingCtrl s.dev kind n val)) := rfl

section
variable {d : Device} {val : W32}

theorem writeCmdCtrl_of_enables {n : Nat} (hval : bit val 0 = true) (hwas : cmdEnabled d n = false)
    (hfault : bit (reg d (cmdStatusOff n)) 0 = false) {e : Device}
    (he : e = plainWrite (seeFull d (cmdCq d n)) (cmdCtrlOff n) val) :
    writeCmdCtrl d n val = seeFull (setCmdRing e n { cmdRing e n with head := 0, tail := 0 }) (cmdCq e n) := by
  simp [writeCmdCtrl, hval, hwas, hfault, he]

theorem writeCqCtrl_of_enables {m : Nat} (hval : bit val 31 = true) (hwas : cqEnabled d m = false) {e : Device}
    (he : e = plainWrite d (cqCtrlOff m) val) :
    writeCqCtrl d m val =
      setCqRing e m { cqRing e m with head := 0, write := 0, phase := true, unsignalled := 0 } := by
  simp [writeCqCtrl, hval, hwas, he]

theorem writeEvCfg_of_enables {n : Nat} (hval : bit val 31 = true) (hwas : evEnabled d n = false) {e : Device}
    (he : e = plainWrite d (evqCfgOff n) val) :
    writeEvCfg d n val = setEvRing e n { evRing e n with head := 0, tail := 0 } := by
  simp [writeEvCfg, hval, hwas, he]

theorem writeSampleCfg_of_enables (hval : bit val 31 = true) (hwas : evEnabled d 4 = false) {e : Device}
    (he : e = plainWrite d (evqCfgOff 4) val) :
    writeSampleCfg d val = { e with hif := { e.hif with sample := { e.hif.sample with head := 0, tail := 0 } } } := by
  simp [writeSampleCfg, hval, hwas, he]

end

/-! ## Base registers by their offset -/

section
variable {d : Device} {f : Fuses} {n k off : Nat} {val : W32}

theorem writeReg_of_hif (lo : 0x10000 ≤ off) (hi : off < 0x20000) : writeReg d f off val = writeHif d off val := by
  simp (disch := omega) only [writeReg, if_neg, if_pos]

theorem writeHif_cmdBase (hn : n < 64) (hk : k < 2) (hoff : off = 0x10000 + 0x20 * n + 4 * k) :
    writeHif d off val = writeRingBase d off (cmdEnabled d n) val := by
  have hring : (off - 0x10000) / 0x20 = n := by omega
  have hword : off % 0x20 = 0 ∨ off % 0x20 = 4 := by omega
  simp only [writeHif, if_pos (show off < 0x10800 by omega), if_pos hword, hring]

theorem writeHif_cqBase (hn : n < 64) (hk : k < 2) (hoff : off = 0x10800 + 0x20 * n + 4 * k) :
    writeHif d off val = writeRingBase d off (cqEnabled d n) val := by
  have hring : (off - 0x10800) / 0x20 = n := by omega
  have hword : off % 0x20 = 0 ∨ off % 0x20 = 4 := by omega
  simp only [writeHif, if_neg (show ¬off < 0x10800 by omega), if_pos (show off < 0x11000 by omega), if_pos hword, hring]

theorem writeHif_evBase (hn : n < 5) (hk : k < 2) (hoff : off = 0x11000 + 0x20 * n + 4 * k) :
    writeHif d off val = writeRingBase d off (evEnabled d n) val := by
  have hring : (off - 0x11000) / 0x20 = n := by omega
  have hword : off % 0x20 = 0 ∨ off % 0x20 = 4 := by omega
  simp only [writeHif, if_neg (show ¬off < 0x10800 by omega), if_neg (show ¬off < 0x11000 by omega),
    if_pos (show off < 0x110A0 by omega), if_pos hword, hring]

end

/-- A write of the physical function that reaches a ring's base register. -/
theorem exec_registerWrite_base {s : State} {off : Nat} {enabled : Bool} {val : W32} (lo : 0x10000 ≤ off)
    (hi : off < 0x20000) (hbase : writeHif s.dev off val = writeRingBase s.dev off enabled val) :
    exec (.registerWrite 0 (BitVec.ofNat 22 off) val) s =
      .next (if enabled = true then s else s.having (plainWrite s.dev off val)) := by
  have hoff : (BitVec.ofNat 22 off).toNat = off := by
    rw [BitVec.toNat_ofNat]
    omega
  rw [exec_registerWrite_pf, hoff, writeReg_of_hif lo hi, hbase, writeRingBase]
  split <;> rfl

/-- Settles O5: the write of each ENABLE, and the base registers by their offset. -/
theorem enableResetsIndices : Obligations.EnableResetsIndices := by
  refine ⟨?cmd, ?cq, ?ev, ?sample, ?base⟩
  case cmd =>
    intro n val s hval hwas hfault
    refine ⟨_, exec_hifCmdCtrlEnable .., ?_⟩
    rw [writeRingCtrl, writeCmdCtrl_of_enables hval hwas hfault rfl]
    refine ⟨?_, ?_, ?_⟩
    · rw [cmdEnabled, seeFull_reg _ _ (fun r => by unfold cmdCtrlOff cmdStatusOff; omega)]
      exact (cmdEnabled_plainWrite ..).trans hval
    · rw [seeFull_cmdRing, cmdRing_setCmdRing, cmdRing, plainWrite_hif]
      exact congrArg (fun x : CmdRing => { x with head := 0, tail := 0 }) (seeFull_cmdRing ..)
    · exact (seeFull_same ..).trans ((setCmdRing_same ..).trans ((plainWrite_same ..).trans (seeFull_same ..)))
  case cq =>
    intro n val s hval hwas
    refine ⟨_, exec_hifCmdCtrlEnable .., ?_⟩
    rw [writeRingCtrl, writeCqCtrl_of_enables hval hwas rfl, cqRing_setCqRing]
    exact ⟨(cqEnabled_plainWrite ..).trans hval, rfl, rfl, rfl, (setCqRing_same ..).trans (plainWrite_same ..)⟩
  case ev =>
    intro n val s hn hval hwas
    refine ⟨_, exec_hifCmdCtrlEnable .., ?_⟩
    rw [writeRingCtrl, if_pos hn, writeEvCfg_of_enables hval hwas rfl, evRing_setEvRing]
    refine ⟨(evEnabled_plainWrite _ (by omega) _).trans hval, ?_,
      SameWork.trans (by constructor <;> rfl) (plainWrite_same ..)⟩
    rw [evRing, plainWrite_hif]
    rfl
  case sample =>
    intro n val s hval hwas
    refine ⟨_, exec_hifCmdCtrlEnable .., ?_⟩
    rw [writeRingCtrl, writeSampleCfg_of_enables hval hwas rfl]
    exact ⟨(evEnabled_plainWrite _ (by decide) _).trans hval, by rw [plainWrite_hif],
      SameWork.trans (by constructor <;> rfl) (plainWrite_same ..)⟩
  case base =>
    intro n k val s off hoff
    refine ⟨?_, ?_, fun hn => ?_⟩
    · exact exec_registerWrite_base (by omega) (by omega) (writeHif_cmdBase n.isLt k.isLt hoff)
    · exact exec_registerWrite_base (by omega) (by omega) (writeHif_cqBase n.isLt k.isLt (by omega))
    · exact exec_registerWrite_base (by omega) (by omega) (writeHif_evBase hn k.isLt (by omega))

end Sys2Proof.Machine

/-!
PROOF. The commands of chapter 02: unassigned opcodes, NOP, RING_STATUS (O2) and ABORT (O3).
-/
namespace Sys2Proof.Machine

/-! ## Unassigned opcodes, NOP and RING_STATUS (R102, R103, R106) -/

theorem exec_nop (r : Fin 64) (s : State) :
    exec (.nop r) s = .next (s.having
      (runCommand 0x0000 r anyRight (fun _ => []) (fun _ _ _ d => .done d (zeros 16) none) [] s.dev)) := rfl

theorem exec_ringStatus (r : Fin 64) (s : State) :
    exec (.ringStatus r) s = .next (s.having (runCommand 0x0002 r anyRight ringStatusOwn ringStatusBody [] s.dev)) := rfl

theorem exec_unknownOpcode (r : Fin 64) (s : State) :
    exec (.unknownOpcode r) s = .next (s.having (unknownOpcode s.dev r)) := rfl

theorem preCheck_of_unassigned {op : Nat} (hop : opInfo op = none) (d : Device) (fn : Nat) (right : Bool) (desc : Bytes)
    (own : List (Nat × Bool)) : preCheck d fn op right desc own = some (.badOpcode, zeros 16) := by
  simp [preCheck, hop]

theorem unknownOpcode_of_front {d : Device} {r : Nat} {f : Fetched} {rest : List Fetched}
    (hfront : (cmdRing d r).fetched = f :: rest) (hop : opInfo (opcodeOf f.desc) = none)
    (hfree : heldBack d r (opcodeOf f.desc) f = false) :
    unknownOpcode d r = failed (taken d r rest) (originOf d r f) .badOpcode (zeros 16) := by
  simp only [unknownOpcode, hfront, hop, Option.isNone_none, if_true]
  exact runCommand_checkFails hfront rfl hfree (preCheck_of_unassigned hop ..)

/-- RING_STATUS of a completion ring that the caller owns. -/
theorem ringStatusBody_of_cq {o : Origin} {desc buf : Bytes} {d : Device} {n : Nat}
    (hn : n = (byteAt desc 20).toNat % 64) (hkind : leField desc 21 1 = 1) (howner : cqOwner d n = o.fn) :
    ringStatusBody o desc buf d = .done d (leBytes 4 (cqPtr d n).toNat ++ leBytes 4 (cqStatus d n).toNat) none := by
  subst hn
  simp [ringStatusBody, hkind, howner]

/-- Settles O2: each command by the verdict of its body. -/
theorem nopAndStatusComplete : Obligations.NopAndStatusComplete := by
  refine ⟨?unknown, ?nop, ?status⟩
  case unknown =>
    intro r s f rest hfront hop hfree
    rw [exec_unknownOpcode, unknownOpcode_of_front hfront hop hfree]
  case nop =>
    intro r s f rest hruns
    rw [exec_nop, runCommand_done hruns rfl]
  case status =>
    intro r s f rest n hruns hn hkind howner
    rw [exec_ringStatus, runCommand_done hruns (ringStatusBody_of_cq (d := taken s.dev r rest) hn hkind howner)]
    rfl

/-! ## ABORT (R104, R105, R508) -/

theorem exec_abort (r : Fin 64) (s : State) :
    exec (.abort r) s = .next (s.having (runCommand 0x0001 r anyRight
      (fun desc => zeroBits desc 24 0xC0 :: zeroFrom desc 25 63) abortBody [] s.dev)) := rfl

/-- The device once the waiting command `g` of ring `n` is out of its ring and counted. -/
def withdrawn (d : Device) (n : Nat) (g : Fetched) : Device :=
  svcCtrAborts (setCmdRing d n { cmdRing d n with fetched := (cmdRing d n).fetched.filter (fun x => x.order != g.order) })

section
variable {o : Origin} {desc buf : Bytes} {d : Device} {n : Nat}

theorem abortBody_of_noTarget (hn : n = (byteAt desc 24).toNat % 64)
    (htarget : abortTarget d n (leField desc 20 4) = none) :
    abortBody o desc buf d = .done d (zeros 16) none := by
  subst hn
  simp only [abortBody, htarget, ite_self]

theorem abortBody_of_waiting {g : Fetched} (hn : n = (byteAt desc 24).toNat % 64) (howner : cmdOwner d n = o.fn)
    (htarget : abortTarget d n (leField desc 20 4) = some (.waiting g)) (hop : abortable (opcodeOf g.desc) = true)
    {e e2 : Device} (he : e = withdrawn d n g)
    (he2 : e2 = post e (dueOf e (originOf e n g) .aborted (zeros 16) false)) :
    abortBody o desc buf d = abortDone e2 o (originOf e n g) n := by
  subst hn he he2
  simp only [abortBody, howner, htarget, hop, ne_eq, not_true_eq_false, if_false, if_true]
  rfl

end

/-- Settles O3: no target, and a waiting target whose completion is written or still waits for room. -/
theorem abortEndsWaiting : Obligations.AbortEndsWaiting := by
  intro r s f rest n hruns hn howner
  refine ⟨fun htarget => ?none, fun g htarget hop e e2 he he2 => ?waiting⟩
  case none =>
    rw [exec_abort, runCommand_done hruns (abortBody_of_noTarget hn htarget)]
  case waiting =>
    have howner' : cmdOwner (taken s.dev r rest) n = (originOf s.dev r f).fn := howner
    have hbody := abortBody_of_waiting (buf := fit (originOf s.dev r f).bufLen []) hn howner' htarget hop he he2
    refine ⟨fun hwritten => ?_, fun hwaits => ?_⟩
    · rw [abortDone, if_neg (by simp [hwritten])] at hbody
      rw [exec_abort, runCommand_done hruns hbody]
    · rw [abortDone, if_pos hwaits] at hbody
      rw [exec_abort, runCommand_accept hruns hbody]

end Sys2Proof.Machine

/-!
PROOF. Every command answers a next state, and the tick of an empty queue: O59.
-/
namespace Sys2Proof.Machine

/-! ## The command that stands in the queue -/

/-- A command that blows no fuse changes the device only. -/
theorem exec_changesDevice (i : Instr) (s : State) (henrol : i ≠ .domainEnrolDone)
    (hsupp : ∀ b, i ≠ .supplementInstallDone b) : ∃ e, exec i s = .next (s.having e) := by
  cases i
  case domainEnrolDone => exact absurd rfl henrol
  case supplementInstallDone b => exact absurd rfl (hsupp b)
  case alarmClear src =>
    show ∃ e, execAlarmClear src s = _
    simp only [execAlarmClear]
    split <;> exact ⟨_, rfl⟩
  case identityRederive =>
    show ∃ e, execIdentityRederive s = _
    simp only [execIdentityRederive]
    split
    · split <;> exact ⟨_, rfl⟩
    · exact ⟨_, rfl⟩
  case blockedDdr4Access master addr write =>
    show ∃ e, execBlockedDdr4Access master addr write s = _
    simp only [execBlockedDdr4Access]
    split <;> exact ⟨_, rfl⟩
  case flFrame p frame =>
    show ∃ e, execFlFrame p frame s = _
    simp only [execFlFrame]
    split <;> exact ⟨_, rfl⟩
  case frameIngress p frame ecc =>
    show ∃ e, execFrameIngress p frame ecc s = _
    simp only [execFrameIngress]
    split <;> exact ⟨_, rfl⟩
  all_goals exact ⟨_, rfl⟩

theorem enrolDone_pending (s : State) : (enrolDone s).pending = s.pending := by
  simp only [enrolDone]
  (repeat' split) <;> rfl

theorem suppDone_pending (s : State) (readBackOk : Bool) : (suppDone s readBackOk).pending = s.pending := by
  simp only [suppDone]
  (repeat' split) <;> rfl

theorem exec_keepsQueue (i : Instr) (s : State) : ∃ t, exec i s = .next t ∧ t.pending = s.pending := by
  by_cases henrol : i = .domainEnrolDone
  · subst henrol
    exact ⟨_, rfl, enrolDone_pending s⟩
  by_cases hsupp : ∃ b, i = .supplementInstallDone b
  · obtain ⟨b, rfl⟩ := hsupp
    exact ⟨_, rfl, suppDone_pending s b⟩
  obtain ⟨e, he⟩ := exec_changesDevice i s henrol (fun b hb => hsupp ⟨b, hb⟩)
  exact ⟨_, he, rfl⟩

/-! ## The tick of an empty queue (log 6) -/

theorem step_of_empty {s : State} (h : s.pending = []) : step s = .next (s.having (idleTick s.dev)) := by
  simp only [step, h]
  rfl

theorem restartTick_of_none {d : Device} (h : d.boot.restart = none) : restartTick d = d := by
  simp only [restartTick, h]

theorem setDefect_of_same {d : Device} {p code : Nat} {v : Bool} (h : hasDefect d p code = v) :
    setDefect d p code v = d := if_pos h

/-- Where AIS_OUT stands for what each output sends, nothing is settled. -/
theorem settleOutputs_of_settled {d : Device}
    (h : ∀ p, isSdh d p = true ∨ isOtn d p = true → hasDefect d p 16 = aisOut d p) : settleOutputs d = d := by
  refine List.foldlRecOn (motive := fun e => e = d) _ _ rfl ?_
  rintro e rfl p hp
  have hline := (List.mem_filter.1 hp).2
  exact setDefect_of_same (h p (by simpa using hline))

/-- Where no transition is held back, none is recorded. -/
theorem flushEdges_of_none {d : Device} (h : ∀ x ∈ d.frm.rises ++ d.frm.falls, x.2.count = 0) : flushEdges d = d := by
  have hside : ∀ raised, (edges d raised).filter (fun e => e.2.count != 0 && edgeDue d e.2) = [] := by
    intro raised
    refine List.filter_eq_nil_iff.2 fun x hx => ?_
    have hmem : x ∈ d.frm.rises ++ d.frm.falls := by
      cases raised
      · exact List.mem_append_right _ hx
      · exact List.mem_append_left _ hx
    simp [h x hmem]
  simp [flushEdges, hside]

/-- Settles O59: the commands by `exec_changesDevice`, and the tick by what each of its parts finds to do. -/
theorem everyCommandAnswers : Obligations.EveryCommandAnswers := by
  refine ⟨?answers, exec_changesDevice, ?idle, ?tick⟩
  case answers =>
    intro i s
    obtain ⟨t, hexec, hpending⟩ := exec_keepsQueue i s
    exact ⟨t.dev, t.fuses, by rw [hexec, ← hpending]⟩
  case idle => exact fun s hempty => ⟨_, step_of_empty hempty⟩
  case tick =>
    intro s hempty hrestart hedges hais
    have htick : idleTick s.dev = elapse s.dev 1 := by
      rw [idleTick, restartTick_of_none (d := elapse s.dev 1) hrestart,
        settleOutputs_of_settled (d := elapse s.dev 1) hais, flushEdges_of_none (d := elapse s.dev 1) hedges]
    refine ⟨_, step_of_empty hempty, ?_⟩
    rw [htick]
    exact ⟨rfl, rfl, rfl, rfl, rfl, rfl⟩

end Sys2Proof.Machine

/-!
PROOF. A reset of one function that writes to a ring of another: the refutation of O26.
-/
namespace Sys2Proof.Machine

/-! ## What a function reset leaves of the rings of other functions (R61) -/

theorem resetCmdRing_other (d : Device) {r k : Nat} (h : r ≠ k) : cmdRing (resetCmdRing d k) r = cmdRing d r :=
  Tbl.getD_setD_ne _ _ _ _ _ _ h

theorem resetCmdRing_cmdOwner (d : Device) (r k : Nat) : cmdOwner (resetCmdRing d k) r = cmdOwner d r :=
  congrArg (fun w => bits w 11 8) (reg_setBits_ne _ _ _ _ _ (by unfold cmdCfgOff cmdCtrlOff; omega))

@[simp] theorem resetCqRing_cmd (d : Device) (m : Nat) : (resetCqRing d m).hif.cmd = d.hif.cmd := by
  show (countStall d m).hif.cmd = d.hif.cmd
  unfold countStall
  split <;> rfl

@[simp] theorem resetCqRing_abortWaits (d : Device) (m : Nat) : (resetCqRing d m).hif.abortWaits = d.hif.abortWaits :=
  countStall_abortWaits ..

section
variable {d : Device} {fns : Nat → Bool} {r : Nat}

theorem resetCmdRings_other (l : List Nat) (hother : fns (cmdOwner d r) = false) :
    cmdRing (l.foldl (fun d k => if fns (cmdOwner d k) then resetCmdRing d k else d) d) r = cmdRing d r := by
  induction l generalizing d with
  | nil => rfl
  | cons k l ih =>
    rw [List.foldl_cons]
    split
    · next hreset =>
      have hne : r ≠ k := by
        rintro rfl
        simp [hother] at hreset
      rw [ih (by rwa [resetCmdRing_cmdOwner]), resetCmdRing_other d hne]
    · exact ih hother

/-- Of a command ring of another function a reset changes what the jobs that it discards change. -/
theorem resetFunctions_other {e : Device} (he : e = discardJobs d (fun j => fns (cmdOwner d j.origin.ring)))
    (hother : fns (cmdOwner e r) = false) (haborts : e.hif.abortWaits = []) :
    cmdRing (resetFunctions d fns) r = cmdRing e r := by
  have hrings := resetCmdRings_other (List.range 64) hother
  have hwaits := foldl_keeps (fun d => d.hif.abortWaits)
    (fun d k => if fns (cmdOwner d k) then resetCmdRing d k else d) (fun _ _ => by split <;> rfl) (List.range 64) e
  have hcmd := foldl_keeps (fun d => d.hif.cmd) (fun d m => if fns (cqOwner d m) then resetCqRing d m else d)
    (fun _ _ => by split <;> simp) (List.range 64)
  have hwaits' := foldl_keeps (fun d => d.hif.abortWaits) (fun d m => if fns (cqOwner d m) then resetCqRing d m else d)
    (fun _ _ => by split <;> simp) (List.range 64)
  rw [resetFunctions, ← he, releaseAborts_of_none ((hwaits' _).trans (hwaits.trans haborts)), cmdRing, hcmd]
  exact hrings

end

/-! ## The counterexample -/

theorem exec_flrVf {f : Fin 16} (hf : f.val ≠ 0) (s : State) :
    exec (.flrVf f) s = .next (s.having (resetFunctions s.dev (fun g => g == f.val))) := by
  show execFlrVf f s = _
  rw [execFlrVf, if_neg hf]
  rfl

theorem dev_of_next {s : State} {a b : Device}
    (h : (.next (s.having a) : Host.Outcome State Fault Refusal) = .next (s.having b)) : a = b := by
  injection h with hstate
  exact congrArg State.dev hstate

/-- A modular job of command ring `r`, which function `r` owns; `n` is its place in acceptance order. -/
def jobOfRing (r opcode n : Nat) : Job :=
  { origin := { ring := r, fn := r, tag := n, flags := 0#8, order := n, epoch := 0, bufAddr := 0, bufLen := 0 }
    opcode := opcode, desc := [], buf := [], number := n }

/-- On modular engine 0 a curve load of function 0 has yielded to a short job of function 1, which runs; a second short job,
of function 0, is dealt to the engine (R507). The DRBG has stopped since (R513). -/
def dealtAcross : Device :=
  { regs := [(cmdCfgOff 1, 0x10000106#32), (cqCtrlOff 0, 0x80000001#32)]
    svc := { pkRun := [(0, jobOfRing 1 0x0301 1)]
             yielded := [(0, (jobOfRing 0 0x0302 0, [jobOfRing 0 0x0301 2]))]
             drbgReady := true, drbgStopped := some 1 } }

/-- `dealtAcross` without the jobs of function 1. -/
def dealtAcrossDiscarded : Device :=
  discardJobs dealtAcross (fun j => cmdOwner dealtAcross j.origin.ring == 1)

/-- The engine that the reset frees takes the dealt job, which fails at its start and posts in ring 0. -/
theorem dealtAcrossDiscarded_posted :
    (cmdRing dealtAcross 0).postedTo = 0 ∧ (cmdRing dealtAcrossDiscarded 0).postedTo = 3 := by decide

theorem dealtAcrossDiscarded_keeps :
    (cmdOwner dealtAcrossDiscarded 0 == 1) = false ∧ dealtAcrossDiscarded.hif.abortWaits = [] := by decide

/-- Refutes O26: the clause that FLR_VF leaves the rings of other functions as they were lacks the premise that no job has
yielded. The running job of the reset function leaves its engine, a dealt job of another function starts there, and where its
start fails (here INTERNAL, for the DRBG has stopped) its completion is posted in that function's ring. -/
theorem not_resetsAndSupplies : ¬ Obligations.ResetsAndSupplies := by
  rintro ⟨-, -, -, hflr, -⟩
  obtain ⟨e, hexec, -, hothers, -⟩ := hflr 1 (State.reset.having dealtAcross) (by decide) rfl
  rw [exec_flrVf (by decide)] at hexec
  obtain rfl := dev_of_next hexec
  have hkept : cmdRing (resetFunctions dealtAcross (fun g => g == 1)) 0 = cmdRing dealtAcross 0 :=
    (hothers 0 (by decide) (by decide)).1
  obtain ⟨howner, haborts⟩ := dealtAcrossDiscarded_keeps
  have hreset : cmdRing (resetFunctions dealtAcross (fun g => g == 1)) 0 = cmdRing dealtAcrossDiscarded 0 :=
    resetFunctions_other (fns := fun g => g == 1) rfl howner haborts
  obtain ⟨hbefore, hafter⟩ := dealtAcrossDiscarded_posted
  rw [← hreset, hkept, hbefore] at hafter
  exact absurd hafter (by decide)

end Sys2Proof.Machine

/-!
PROOF. What reads and writes of lines change in protected memory, and STATS_READ: O24.
-/
namespace Sys2Proof.Machine

/-! ## Work of the line caches (R533-R538) -/

/-- `a` is `b` but for counters and protected memory, whose quarantine and frozen groups stand. -/
structure MemWork (a b : Device) : Prop where
  rest : { a with counters := b.counters, mem := b.mem } = b
  quar : a.mem.quar = b.mem.quar
  rootQuar : a.mem.rootQuar = b.mem.rootQuar
  frozen : a.mem.frozen = b.mem.frozen

/-- As `MemWork`, and no group of lines takes another counter and no line is poisoned or cleared. -/
structure CacheWork (a b : Device) : Prop extends MemWork a b where
  groups : a.mem.groups = b.mem.groups
  poison : a.mem.poison = b.mem.poison

theorem MemWork.trans {a b c : Device} (h : MemWork a b) (k : MemWork b c) : MemWork a c where
  rest := (congrArg (fun x : Device => { x with counters := c.counters, mem := c.mem }) h.rest).trans k.rest
  quar := h.quar.trans k.quar
  rootQuar := h.rootQuar.trans k.rootQuar
  frozen := h.frozen.trans k.frozen

theorem MemWork.ms {a b : Device} (h : MemWork a b) : a.ms = b.ms :=
  (congrArg Device.ms h.rest :)

theorem CacheWork.refl (d : Device) : CacheWork d d := ⟨⟨rfl, rfl, rfl, rfl⟩, rfl, rfl⟩

theorem CacheWork.trans {a b c : Device} (h : CacheWork a b) (k : CacheWork b c) : CacheWork a c :=
  ⟨h.toMemWork.trans k.toMemWork, h.groups.trans k.groups, h.poison.trans k.poison⟩

theorem CacheWork.group {a b : Device} (h : CacheWork a b) (g : Nat) : group a g = group b g :=
  congrArg (Tbl.getD · g ({} : Group)) h.groups

theorem CacheWork.ite {p : Prop} [Decidable p] {a b d : Device} (ha : CacheWork a d) (hb : CacheWork b d) :
    CacheWork (if p then a else b) d := by
  split
  · exact ha
  · exact hb

theorem foldl_cacheWork {α : Type} (g : Device → α → Device) (h : ∀ d a, CacheWork (g d a) d) (l : List α)
    (d : Device) : CacheWork (l.foldl g d) d := by
  induction l generalizing d with
  | nil => exact .refl d
  | cons a l ih => exact (ih (g d a)).trans (h d a)

section
variable (d : Device)

theorem count_cacheWork (i n : Nat) : CacheWork (count d i n) d := ⟨⟨rfl, rfl, rfl, rfl⟩, rfl, rfl⟩

theorem sealLine_cacheWork (line : Nat) (plain : Bytes) : CacheWork (sealLine d line plain) d :=
  ⟨⟨rfl, rfl, rfl, rfl⟩, rfl, rfl⟩

theorem storeNode_cacheWork (level node : Nat) : CacheWork (storeNode d level node) d :=
  ⟨⟨rfl, rfl, rfl, rfl⟩, rfl, rfl⟩

theorem bumpVersion_cacheWork (level node : Nat) : CacheWork (bumpVersion d level node) d := by
  simp only [bumpVersion]
  split <;> exact ⟨⟨rfl, rfl, rfl, rfl⟩, rfl, rfl⟩

theorem touchTag_cacheWork (line : Nat) (write : Bool) : CacheWork (touchTag d line write) d := by
  simp only [touchTag]
  (repeat' split) <;> exact ⟨⟨rfl, rfl, rfl, rfl⟩, rfl, rfl⟩

theorem markDirty_cacheWork (level node : Nat) : CacheWork (markDirty d level node) d := by
  unfold markDirty
  split <;> exact ⟨⟨rfl, rfl, rfl, rfl⟩, rfl, rfl⟩

theorem insertNode_cacheWork (level node : Nat) : CacheWork (insertNode d level node) d := by
  have hlisted : ∀ (e : Device) (l : List Nat), CacheWork { e with mem := { e.mem with ctrCache := l } } e :=
    fun _ _ => ⟨⟨rfl, rfl, rfl, rfl⟩, rfl, rfl⟩
  have hcounted : ∀ i j, CacheWork (count (count d i) j) d := fun _ _ => (count_cacheWork ..).trans (count_cacheWork ..)
  exact .ite (.refl d) (.ite ((touchTag_cacheWork ..).trans ((hlisted ..).trans (hcounted ..)))
    ((hlisted ..).trans (hcounted ..)))

theorem writeNodeBack_cacheWork (level node : Nat) : CacheWork (writeNodeBack d level node) d := by
  have hstored : ∀ c, CacheWork (count (storeNode (bumpVersion d level node) level node) c) d := fun _ =>
    (count_cacheWork ..).trans ((storeNode_cacheWork ..).trans (bumpVersion_cacheWork ..))
  have hparent : ∀ e, CacheWork e d → CacheWork (if level = topLevel e then e
      else markDirty (insertNode e (level + 1) (node / 8)) (level + 1) (node / 8)) d := fun e he =>
    .ite he ((markDirty_cacheWork ..).trans ((insertNode_cacheWork ..).trans he))
  exact hparent _ (.ite ((touchTag_cacheWork ..).trans (hstored _)) (hstored _))

theorem fitNodes_cacheWork (fuel : Nat) : CacheWork (fitNodes fuel d) d := by
  induction fuel generalizing d with
  | zero => exact .refl d
  | succ fuel ih =>
    simp only [fitNodes]
    split
    · exact .refl d
    · refine (ih _).trans ?_
      split
      · exact (writeNodeBack_cacheWork ..).trans ⟨⟨rfl, rfl, rfl, rfl⟩, rfl, rfl⟩
      · exact ⟨⟨rfl, rfl, rfl, rfl⟩, rfl, rfl⟩

theorem loadNode_cacheWork (fuel level node : Nat) : CacheWork (loadNode fuel d level node) d := by
  induction fuel generalizing d level node with
  | zero => exact .refl d
  | succ fuel ih =>
    exact .ite (.refl d) ((fitNodes_cacheWork ..).trans ((insertNode_cacheWork ..).trans (.ite (.refl d) (ih ..))))

theorem readLine_cacheWork (line : Nat) : CacheWork (readLine d line) d := by
  have hload := loadNode_cacheWork d 9 0 (line / 64)
  exact .ite ((count_cacheWork ..).trans ((touchTag_cacheWork ..).trans hload)) hload

end


/-! ## What a line write can do (R533-R537) -/

theorem group_setGroup (d : Device) (g : Nat) (x : Group) : group (setGroup d g x) g = x := Tbl.getD_setD ..

theorem group_setGroup_ne (d : Device) {g k : Nat} (x : Group) (h : k ≠ g) : group (setGroup d g x) k = group d k :=
  Tbl.getD_setD_ne _ _ _ _ _ _ h

theorem setGroup_memWork (d : Device) (g : Nat) (x : Group) : MemWork (setGroup d g x) d := ⟨rfl, rfl, rfl, rfl⟩

/-- Re-encryption stores its lines again after the group has taken the next major. -/
theorem reencrypt_restores (d : Device) (g major : Nat) :
    ∃ e, CacheWork (reencrypt d g major) e ∧ MemWork e d ∧ e.mem.groups = (setGroup d g { major := major }).mem.groups :=
  ⟨{ setGroup d g { major := major } with mem := { (setGroup d g { major := major }).mem with
      majorHwm := max d.mem.majorHwm major } },
    (foldl_cacheWork _ (fun _ _ => sealLine_cacheWork ..) ..).trans
      ((count_cacheWork ..).trans ((count_cacheWork ..).trans (count_cacheWork ..))),
    ⟨rfl, rfl, rfl, rfl⟩, rfl⟩

theorem reencrypt_memWork (d : Device) (g major : Nat) : MemWork (reencrypt d g major) d := by
  obtain ⟨e, hseal, hmem, -⟩ := reencrypt_restores d g major
  exact hseal.toMemWork.trans hmem

theorem group_reencrypt_ne (d : Device) {g k : Nat} (major : Nat) (h : k ≠ g) :
    group (reencrypt d g major) k = group d k := by
  obtain ⟨e, hseal, -, hgroups⟩ := reencrypt_restores d g major
  rw [hseal.group, group, hgroups]
  exact group_setGroup_ne d _ h

/-- The device that a write of a line finds: the counter line on die and changed, the line's poison cleared, its tag line used
and the write counted. -/
def readied (d : Device) (line : Nat) : Device :=
  let e := markDirty (loadNode 9 d 0 (line / 64)) 0 (line / 64)
  count (touchTag { e with mem := { e.mem with poison := e.mem.poison.filter (· != line) } } (tagLine e line) true)
    (unitCtr 4 (channelOf line))

theorem readied_keeps (d : Device) (line : Nat) :
    MemWork (readied d line) d ∧ (readied d line).mem.groups = d.mem.groups := by
  have hload := (markDirty_cacheWork (loadNode 9 d 0 (line / 64)) 0 (line / 64)).trans (loadNode_cacheWork ..)
  have hclear : ∀ (e : Device) (l : List Nat), MemWork { e with mem := { e.mem with poison := l } } e :=
    fun _ _ => ⟨rfl, rfl, rfl, rfl⟩
  have htouch : ∀ (e : Device) (t c : Nat), CacheWork (count (touchTag e t true) c) e :=
    fun _ _ _ => (count_cacheWork ..).trans (touchTag_cacheWork ..)
  exact ⟨(htouch ..).toMemWork.trans ((hclear ..).trans hload.toMemWork), (htouch ..).groups.trans hload.groups⟩

section
variable {d : Device} {line : Nat}

theorem writeLine_of_unwritable (h : writable d line = false) : writeLine d line = d := by
  simp [writeLine, h]

theorem writeLine_of_freezes (h : writable d line = true) (hf : freezes d line = true) :
    writeLine d line = freeze d (line / 64) := by
  simp [writeLine, h, hf]

/-- A write that is not discarded seals the line under the next counter of its group, whose major grows by 1 at most. -/
theorem writeLine_of_takesWrite (h : takesWrite d line = true) :
    ∃ e x, MemWork e d ∧ (∀ g, g ≠ line / 64 → group e g = group d g) ∧ x.major ≤ (group d (line / 64)).major + 1 ∧
      writeLine d line = sealLine (setGroup e (line / 64) x) line (plainLine e line) := by
  obtain ⟨hwritable, hfreezes⟩ : writable d line = true ∧ freezes d line = false := by simpa [takesWrite] using h
  obtain ⟨hmem, hgroups⟩ := readied_keeps d line
  have hgroup : ∀ g, group (readied d line) g = group d g := fun g => congrArg (Tbl.getD · g ({} : Group)) hgroups
  have hmajor := Nat.le_of_eq (congrArg Group.major (hgroup (line / 64)))
  rw [writeLine, if_neg (by simp [hwritable]), if_neg (by simp [hfreezes])]
  by_cases hminor : Tbl.getD (group (readied d line) (line / 64)).minors (line % 64) 0 < 127
  · refine ⟨readied d line, _, hmem, fun g _ => hgroup g, ?_, if_pos hminor⟩
    exact Nat.le_succ_of_le hmajor
  · refine ⟨_, _, (reencrypt_memWork ..).trans hmem, fun g hg => (group_reencrypt_ne _ _ hg).trans (hgroup g), ?_,
      if_neg hminor⟩
    exact Nat.succ_le_succ hmajor

theorem writeLine_memWork (h : takesWrite d line = true) : MemWork (writeLine d line) d := by
  obtain ⟨e, x, hmem, -, -, hwrite⟩ := writeLine_of_takesWrite h
  rw [hwrite]
  exact (sealLine_cacheWork ..).toMemWork.trans ((setGroup_memWork ..).trans hmem)

theorem writeLine_major_le (h : takesWrite d line = true) (g : Nat) :
    (group (writeLine d line) g).major ≤ (group d g).major + 1 := by
  obtain ⟨e, x, -, hother, hmajor, hwrite⟩ := writeLine_of_takesWrite h
  rw [hwrite, (sealLine_cacheWork ..).group]
  by_cases hg : g = line / 64
  · rwa [hg, group_setGroup]
  · rw [group_setGroup_ne _ _ hg, hother g hg]
    exact Nat.le_succ _

end

/-! ## STATS_READ (R218-R221) -/

theorem exec_statsRead (r : Fin 64) (s : State) :
    exec (.statsRead r) s = .next (s.having (runCommand 0x0013 r anyRight statsOwn statsBody [] s.dev)) := rfl

theorem readStats_cacheWork (d : Device) (first n : Nat) : CacheWork (readStats d first n) d :=
  foldl_cacheWork _ readLine_cacheWork ..

theorem statRecord_taken (d : Device) (r : Nat) (rest : List Fetched) (i : Nat) :
    statRecord (taken d r rest) i = statRecord d i := rfl

theorem length_statRecord (d : Device) (i : Nat) : (statRecord d i).length = 128 := by
  unfold statRecord
  split
  · rw [List.length_flatMap]
    simp only [length_leBytes]
    rfl
  · exact length_zeros 128

section
variable {o : Origin} {desc buf : Bytes} {d : Device}

theorem statsBody_of_wrongLength (h : o.bufLen ≠ 128 * leField desc 24 4) :
    statsBody o desc buf d = failAt d .lengthError 16 := if_pos h

theorem statsBody_of_wrongCount (hlen : o.bufLen = 128 * leField desc 24 4)
    (h : leField desc 24 4 = 0 ∨ 4096 < leField desc 24 4) : statsBody o desc buf d = failAt d .badField 24 :=
  (if_neg (not_not_intro hlen)).trans (if_pos h)

theorem statsBody_of_wrongIndex (hlen : o.bufLen = 128 * leField desc 24 4)
    (hcount : ¬(leField desc 24 4 = 0 ∨ 4096 < leField desc 24 4))
    (h : 262144 < leField desc 20 3 + leField desc 24 4) : statsBody o desc buf d = failAt d .badIndex 20 :=
  (if_neg (not_not_intro hlen)).trans ((if_neg hcount).trans (if_pos h))

theorem statsBody_of_valid (hlen : o.bufLen = 128 * leField desc 24 4)
    (hcount : ¬(leField desc 24 4 = 0 ∨ 4096 < leField desc 24 4))
    (h : ¬262144 < leField desc 20 3 + leField desc 24 4) :
    statsBody o desc buf d = .done (readStats d (leField desc 20 3) (leField desc 24 4))
      (fit 16 (leBytes 4 (leField desc 24 4)))
      (some ((upFrom (leField desc 20 3) (leField desc 24 4)).flatMap (statRecord d))) :=
  (if_neg (not_not_intro hlen)).trans ((if_neg hcount).trans (if_neg h))

end

/-- Settles O24: the verdict of each check in turn, and reading lines is the work of the caches alone. -/
theorem statsReadWritesRecords : Obligations.StatsReadWritesRecords := by
  refine ⟨?reads, fun d first n => ?keeps, ?refuses, length_statRecord⟩
  case reads =>
    rintro r s f rest _ _ hruns rfl rfl hlen hlow hhigh hlast
    rw [exec_statsRead, runCommand_done hruns (statsBody_of_valid hlen (by omega) (by omega))]
    rfl
  case keeps =>
    have hwork := readStats_cacheWork d first n
    refine ⟨(readStats d first n).counters, (readStats d first n).mem, ?_, hwork.poison, hwork.quar, hwork.groups⟩
    exact congrArg (fun x : Device => { x with
      counters := (readStats d first n).counters, mem := (readStats d first n).mem }) hwork.rest
  case refuses =>
    rintro r s f rest _ _ _ hruns rfl rfl rfl
    rw [exec_statsRead]
    refine ⟨fun hlen => ?length, fun hlen hcount => ?count, fun hlen hlow hhigh hlast => ?index⟩
    case length => rw [runCommand_fail hruns (statsBody_of_wrongLength hlen)]
    case count => rw [runCommand_fail hruns (statsBody_of_wrongCount hlen hcount)]
    case index => rw [runCommand_fail hruns (statsBody_of_wrongIndex hlen (by omega) hlast)]

end Sys2Proof.Machine

/-!
PROOF. Where accumulators are written back, a statistic moves from the die to DDR4 and keeps its value: O25.
-/
namespace Sys2Proof

variable {α : Type}

/-- Entries kept by their key read as before, the others as absent. -/
theorem Tbl.get?_filter_key (t : Tbl α) (p : Nat → Bool) (k : Nat) :
    Tbl.get? (t.filter (fun e => p e.1)) k = if p k then Tbl.get? t k else none := by
  induction t with
  | nil => simp [Tbl.get?]
  | cons e t ih =>
    obtain ⟨k', v⟩ := e
    by_cases hk : k' = k
    · subst hk
      cases hp : p k' <;> simp [Tbl.get?, hp, ih]
    · cases hp : p k' <;> simp [Tbl.get?, hp, hk, ih]

theorem Tbl.getD_filter_key (t : Tbl α) (p : Nat → Bool) (k : Nat) (v : α) :
    Tbl.getD (t.filter (fun e => p e.1)) k v = if p k then Tbl.getD t k v else v := by
  rw [Tbl.getD, Tbl.get?_filter_key]
  split <;> rfl

theorem Tbl.get?_of_above {t : Tbl α} {k : Nat} (h : Tbl.above k t) : Tbl.get? t k = none := by
  induction t with
  | nil => rfl
  | cons e t ih =>
    have hne : e.1 ≠ k := Nat.ne_of_gt (h e (List.mem_cons_self ..))
    have htail : Tbl.above k t := fun x hx => h x (List.mem_cons_of_mem _ hx)
    simp [Tbl.get?, hne, ih htail]

end Sys2Proof

namespace Sys2Proof.Machine

/-! ## Statistics lines (R217) -/

theorem getD_bumpStat (t : Tbl W64) (k j n : Nat) :
    Tbl.getD (bumpStat t k n) j 0#64 = Tbl.getD t j 0#64 + if j = k then BitVec.ofNat 64 n else 0#64 := by
  split
  · next h =>
    subst h
    exact Tbl.getD_setD ..
  · next h => rw [bumpStat, Tbl.getD_setD_ne _ _ _ _ _ _ h, BitVec.add_zero]

/-- Adding a table of sums to another adds what the two hold. -/
theorem getD_foldl_bumpStat {l : Tbl W64} (h : Tbl.sorted l = true) (t : Tbl W64) (k : Nat) :
    Tbl.getD (l.foldl (fun t e => bumpStat t e.1 e.2.toNat) t) k 0#64 = Tbl.getD t k 0#64 + Tbl.getD l k 0#64 := by
  induction l generalizing t with
  | nil => exact (BitVec.add_zero _).symm
  | cons e l ih =>
    obtain ⟨k', v⟩ := e
    obtain ⟨hsorted, habove⟩ := Tbl.sorted_cons h
    rw [List.foldl_cons, ih hsorted, getD_bumpStat]
    by_cases hk : k = k'
    · subst hk
      simp [Tbl.getD, Tbl.get?, Tbl.get?_of_above habove]
    · simp [Tbl.getD, Tbl.get?, hk, Ne.symm hk]

/-- Nothing lies under quarantine or is frozen, and every group has room for `n` more writes of its lines (R537). -/
structure Roomy (d : Device) (n : Nat) : Prop where
  quar : d.mem.quar = []
  rootQuar : d.mem.rootQuar = []
  frozen : d.mem.frozen = []
  majors : ∀ g, (group d g).major + n < 2 ^ 56

section
variable {d : Device} {line n : Nat}

theorem Roomy.mono {m : Nat} (h : Roomy d n) (hm : m ≤ n) : Roomy d m :=
  ⟨h.quar, h.rootQuar, h.frozen, fun g => Nat.lt_of_le_of_lt (Nat.add_le_add_left hm _) (h.majors g)⟩

theorem Roomy.takesWrite (h : Roomy d (n + 1)) (line : Nat) : takesWrite d line = true := by
  have hmajor := h.majors (line / 64)
  have hwritable : writable d line = true := by simp [writable, quarantined, h.quar, h.rootQuar, h.frozen]
  have hfreezes : freezes d line = false := by
    rw [freezes, Bool.and_eq_false_iff]
    exact .inr (decide_eq_false (by omega))
  simp [Machine.takesWrite, hwritable, hfreezes]

theorem Roomy.writeLine (h : Roomy d (n + 1)) (line : Nat) : Roomy (writeLine d line) n := by
  have htakes := h.takesWrite line
  have hmem := writeLine_memWork htakes
  refine ⟨hmem.quar.trans h.quar, hmem.rootQuar.trans h.rootQuar, hmem.frozen.trans h.frozen, fun g => ?_⟩
  have hold := h.majors g
  have hnew := writeLine_major_le htakes g
  omega

/-- Adding to a line with room for the write: its entries reach the statistics in DDR4, each taking the place of a write. -/
theorem addToLine_of_roomy {l : Tbl W64} (h : Roomy d (n + l.length)) (line : Nat) :
    (addToLine d line l).ms =
        { d.ms with stats := l.foldl (fun t e => bumpStat t e.1 e.2.toNat) d.ms.stats } ∧
      Roomy (addToLine d line l) n := by
  by_cases hl : l = []
  · subst hl
    exact ⟨rfl, h⟩
  · have hlen : 0 < l.length := List.length_pos_iff.2 hl
    have hroom : Roomy { d with ms := { d.ms with
        stats := l.foldl (fun t e => bumpStat t e.1 e.2.toNat) d.ms.stats } } (n + 1) :=
      ⟨h.quar, h.rootQuar, h.frozen, (h.mono (Nat.add_le_add_left hlen n)).majors⟩
    have htakes : takesWrite d line = true := (h.mono (m := n + 1) (by omega)).takesWrite line
    have hadd : addToLine d line l = Machine.writeLine { d with ms := { d.ms with
        stats := l.foldl (fun t e => bumpStat t e.1 e.2.toNat) d.ms.stats } } line := by
      rw [addToLine, if_neg hl, if_pos htakes]
    rw [hadd]
    exact ⟨(writeLine_memWork (hroom.takesWrite line)).ms, hroom.writeLine line⟩

end

/-! ## A write leaves the accumulators, even one that is discarded or freezes its group -/

theorem eraseRec_ms (d : Device) (i : Nat) : (eraseRec d i).ms = d.ms := by
  simp only [eraseRec]
  split <;> rfl

theorem assocOut_ms (d : Device) (a cause : Nat) : (assocOut d a cause).ms = d.ms := by
  unfold assocOut
  split
  · split
    · rfl
    · rw [(emit_same ..).ms]
      exact foldl_keeps Device.ms _ eraseRec_ms ..
  · rfl

section
variable {β : Type} {get : MacSec → β} (h : ∀ d sa, get (saOut d sa).ms = get d.ms) (d : Device)
include h

/-- What taking single SAs out of service leaves of the MACsec objects, taking all in some lines out of service leaves. -/
theorem outAll_keeps (p : Nat → Bool) : get (outAll d p).ms = get d.ms :=
  (congrArg get (foldl_keeps Device.ms _ (fun _ _ => assocOut_ms ..) ..)).trans
    (foldl_keeps (fun d => get d.ms) _ h ..)

theorem freeze_keeps (g : Nat) : get (freeze d g).ms = get d.ms :=
  (outAll_keeps h ..).trans (congrArg get (emit_same ..).ms)

theorem writeLine_keeps (line : Nat) : get (writeLine d line).ms = get d.ms := by
  cases hw : writable d line
  · rw [writeLine_of_unwritable hw]
  · cases hf : freezes d line
    · rw [(writeLine_memWork (by simp [takesWrite, hw, hf])).ms]
    · rw [writeLine_of_freezes hw hf]
      exact freeze_keeps h ..

end

theorem addToLine_acc (d : Device) (line : Nat) (l : Tbl W64) : (addToLine d line l).ms.acc = d.ms.acc := by
  unfold addToLine
  split
  · rfl
  · refine (writeLine_keeps (get := MacSec.acc) (fun _ _ => rfl) ..).trans ?_
    split <;> rfl

/-- The accumulators of SA `i` that belong in its statistics line `k`. -/
def ownAcc (d : Device) (i k : Nat) : Tbl W64 :=
  (d.ms.acc.filter (fun e => e.1 / 16 == i)).filter (fun e => e.1 % 16 / 8 == k)

/-- The device without the accumulators of SA `i`. -/
def withoutAcc (d : Device) (i : Nat) : Device :=
  { d with ms := { d.ms with acc := d.ms.acc.filter (fun e => e.1 / 16 != i) } }

theorem flushStats_eq (d : Device) (i : Nat) :
    flushStats d i =
      addToLine (addToLine (withoutAcc d i) (statLine i 0) (ownAcc d i 0)) (statLine i 1) (ownAcc d i 1) := rfl

theorem flushStats_acc (d : Device) (i : Nat) :
    (flushStats d i).ms.acc = d.ms.acc.filter (fun e => e.1 / 16 != i) := by
  rw [flushStats_eq, addToLine_acc, addToLine_acc]
  rfl

theorem foldl_flushStats_acc (l : List Nat) (d : Device) :
    (l.foldl flushStats d).ms.acc = d.ms.acc.filter (fun e => !l.contains (e.1 / 16)) := by
  induction l generalizing d with
  | nil => exact (List.filter_eq_self.2 fun _ _ => rfl).symm
  | cons i l ih =>
    rw [List.foldl_cons, ih, flushStats_acc, List.filter_filter]
    refine List.filter_congr fun e _ => ?_
    rw [List.contains_cons, Bool.not_or, Bool.and_comm]
    rfl

/-! ## A flush with room for its writes keeps every statistic (R217, R219) -/

theorem length_filter_add_not {α : Type} (l : List α) (p : α → Bool) :
    l.length = (l.filter p).length + (l.filter (fun a => !p a)).length := by
  rw [← List.countP_eq_length_filter, ← List.countP_eq_length_filter, List.length_eq_countP_add_countP p]
  congr 1
  exact List.countP_congr fun a _ => by cases p a <;> decide

/-- Every accumulator stays or moves to one of the two lines of its SA. -/
theorem length_acc_split (d : Device) (i : Nat) :
    (withoutAcc d i).ms.acc.length + (ownAcc d i 1).length + (ownAcc d i 0).length = d.ms.acc.length := by
  have hlines : ownAcc d i 1 =
      (d.ms.acc.filter (fun e => e.1 / 16 == i)).filter (fun e => !(e.1 % 16 / 8 == 0)) :=
    List.filter_congr fun e _ => by rw [Bool.eq_iff_iff]; simp; omega
  have hsas := length_filter_add_not d.ms.acc (fun e => e.1 / 16 == i)
  have hown := length_filter_add_not (d.ms.acc.filter (fun e => e.1 / 16 == i)) (fun e => e.1 % 16 / 8 == 0)
  rw [hlines]
  simp only [withoutAcc, ownAcc, bne]
  omega

theorem getD_acc_split (d : Device) (i k : Nat) :
    Tbl.getD (ownAcc d i 0) k 0#64 + Tbl.getD (ownAcc d i 1) k 0#64 + Tbl.getD (withoutAcc d i).ms.acc k 0#64 =
      Tbl.getD d.ms.acc k 0#64 := by
  have hline : k % 16 / 8 = 0 ∨ k % 16 / 8 = 1 := by omega
  have hown : ∀ j, Tbl.getD (ownAcc d i j) k 0#64 =
      if k % 16 / 8 == j then if k / 16 == i then Tbl.getD d.ms.acc k 0#64 else 0#64 else 0#64 := fun j => by
    rw [ownAcc, Tbl.getD_filter_key _ (fun k => k % 16 / 8 == j), Tbl.getD_filter_key _ (fun k => k / 16 == i)]
  have hrest : Tbl.getD (withoutAcc d i).ms.acc k 0#64 = if k / 16 != i then Tbl.getD d.ms.acc k 0#64 else 0#64 :=
    Tbl.getD_filter_key _ (fun k => k / 16 != i) ..
  rw [hown, hown, hrest]
  by_cases hi : k / 16 = i <;> obtain hl | hl := hline <;> simp [hi, hl]

section
variable {d : Device}

theorem flushStats_of_roomy (h : Roomy d d.ms.acc.length) (i : Nat) :
    (flushStats d i).ms.stats = (ownAcc d i 1).foldl (fun t e => bumpStat t e.1 e.2.toNat)
        ((ownAcc d i 0).foldl (fun t e => bumpStat t e.1 e.2.toNat) d.ms.stats) ∧
      Roomy (flushStats d i) (flushStats d i).ms.acc.length := by
  have hroom : Roomy (withoutAcc d i)
      ((withoutAcc d i).ms.acc.length + (ownAcc d i 1).length + (ownAcc d i 0).length) := by
    rw [length_acc_split]
    exact ⟨h.quar, h.rootQuar, h.frozen, h.majors⟩
  obtain ⟨hms0, hroom0⟩ := addToLine_of_roomy hroom (statLine i 0)
  obtain ⟨hms1, hroom1⟩ := addToLine_of_roomy hroom0 (statLine i 1)
  rw [flushStats_acc]
  refine ⟨?_, hroom1⟩
  rw [flushStats_eq, hms1, hms0]
  rfl

theorem statValue_flushStats (h : Roomy d d.ms.acc.length) (hs : Tbl.sorted d.ms.acc = true) (i k : Nat) :
    statValue (flushStats d i) k = statValue d k := by
  have hsorted : ∀ j, Tbl.sorted (ownAcc d i j) = true := fun j => Tbl.sorted_filter _ (Tbl.sorted_filter _ hs)
  have hacc : (flushStats d i).ms.acc = (withoutAcc d i).ms.acc := flushStats_acc d i
  rw [statValue, (flushStats_of_roomy h i).1, hacc, getD_foldl_bumpStat (hsorted 1), getD_foldl_bumpStat (hsorted 0),
    BitVec.add_assoc, BitVec.add_assoc, ← BitVec.add_assoc (Tbl.getD (ownAcc d i 0) k 0#64), getD_acc_split]
  rfl

theorem statValue_foldl_flushStats (l : List Nat) (h : Roomy d d.ms.acc.length) (hs : Tbl.sorted d.ms.acc = true)
    (k : Nat) : statValue (l.foldl flushStats d) k = statValue d k := by
  induction l generalizing d with
  | nil => rfl
  | cons i l ih =>
    have hsorted : Tbl.sorted (flushStats d i).ms.acc = true := by
      rw [flushStats_acc]
      exact Tbl.sorted_filter _ hs
    exact (ih (flushStats_of_roomy h i).2 hsorted).trans (statValue_flushStats h hs i k)

end

theorem exec_statsWriteback (s : State) :
    exec .statsWriteback s =
      .next (s.having (((s.dev.ms.acc.map (fun e => e.1 / 16)).eraseDups).foldl flushStats s.dev)) := rfl

/-- Settles O25: every accumulator belongs to an SA that is flushed, and each flush has room for its writes. -/
theorem writebackKeepsTotals : Obligations.WritebackKeepsTotals := by
  refine fun s hsorted => ⟨_, exec_statsWriteback s, ?moved, fun hquar hroot hfrozen hmajors k => ?kept⟩
  case moved =>
    rw [foldl_flushStats_acc, List.filter_eq_nil_iff]
    intro e he
    have hflushed : e.1 / 16 ∈ (s.dev.ms.acc.map (fun e => e.1 / 16)).eraseDups :=
      List.mem_eraseDups.2 (List.mem_map_of_mem he)
    simp only [List.contains_iff_mem.2 hflushed, Bool.not_true, Bool.false_eq_true, not_false_eq_true]
  case kept => exact statValue_foldl_flushStats _ ⟨hquar, hroot, hfrozen, hmajors⟩ hsorted k

end Sys2Proof.Machine

/-!
PROOF. The commands on SecYs, SCs and SAs and the threshold register: O37.
-/
namespace Sys2Proof.Machine

/-! ## SECY_SET and SECY_DEL (R201-R204) -/

section
variable {o : Origin} {desc buf : Bytes} {d : Device}

/-- A new SecY of a Line port that is neither implicit nor of LINK. -/
theorem secySetBody_of_new (hport : isLine d (secyOf desc).port = true) (himplicit : (secyOf desc).implicitRx = false)
    (hlink : isLink d (secyOf desc).port = false) (hnew : secy d (leField desc 20 2) = none)
    (hroom : (companions d (leField desc 20 2) (secyOf desc).port).length < 64) (hrole : roleStale d = false) :
    secySetBody o desc buf d = .done (putSecy d (leField desc 20 2) (secyOf desc)) (zeros 16) none := by
  simp [secySetBody, hport, himplicit, hlink, hnew, hrole, Nat.not_le.2 hroom]

theorem secyDelBody_of_unused (hthere : (secy d (leField desc 20 2)).isSome = true)
    (hscs : Tbl.any d.ms.scs (fun _ c => c.secy == leField desc 20 2) = false)
    (hports : flPortsOf d (leField desc 20 2) = []) (hrole : roleStale d = false) :
    secyDelBody o desc buf d =
      .done { d with ms := { d.ms with secys := Tbl.del d.ms.secys (leField desc 20 2) } } (zeros 16) none := by
  simp [secyDelBody, Option.isSome_iff_ne_none.1 hthere, hscs, hports, hrole]

/-! ## SC_SET and SC_DEL (R205-R207) -/

/-- A new transmit SC. -/
theorem scSetBody_of_newTx {c n : Nat} {y : SecY} {sci : W64} (hc : c = leField desc 20 2)
    (hn : n = leField desc 22 2 % 1024) (hdir : leField desc 24 1 = 0)
    (hsci : sci = BitVec.ofNat 64 (beField desc 28 8)) (hsecy : secy d n = some y) (hexcluded : scExcluded d c = false)
    (hsas : scHasSa d c = false) (hnew : scOf d c = none) (hclash : scClash d c n y false sci = none)
    (hrole : roleStale d = false) :
    scSetBody o desc buf d =
      .done (bumpEpoch (setSc d c { secy := n, rx := false, sci := sci })) (zeros 16) none := by
  subst hc hn hsci
  simp [scSetBody, hdir, hsecy, hexcluded, hsas, hnew, hclash, hrole]

theorem scDelBody_of_unused (hthere : (scOf d (leField desc 20 2)).isSome = true)
    (hsas : scHasSa d (leField desc 20 2) = false) (hrole : roleStale d = false) :
    scDelBody o desc buf d = .done (bumpEpoch (removeSc d (leField desc 20 2))) (zeros 16) none := by
  simp [scDelBody, Option.isSome_iff_ne_none.1 hthere, hsas, hrole]

theorem scOf_removeSc (d : Device) (c : Nat) : scOf (removeSc d c) c = none := Tbl.get?_del ..

/-! ## SA_INSTALL (R208-R214) -/

/-- A slot that is found good is left as it was. -/
theorem verifySlot_of_good {i by_ : Nat} (h : (verifySlot d i by_).2 = true) : (verifySlot d i by_).1 = d := by
  simp only [verifySlot] at h ⊢
  split
  · rfl
  · split
    · rfl
    · next hstate hcheck => simp [hstate, hcheck] at h

theorem goodAndFresh_of_none {i : Nat} (h : (goodAndFresh d i).2 = none) : (goodAndFresh d i).1 = d := by
  simp only [goodAndFresh] at h ⊢
  split
  · next hbad => simp [hbad] at h
  · next hgood =>
    split
    · next hstale => simp [hgood, hstale] at h
    · exact verifySlot_of_good (by simpa using hgood)

/-- Taking a key from a slot changes nothing where it succeeds. -/
theorem slotKey_of_ok {e : Device} {fn kind slotNo off len : Nat} {key : Bytes}
    (h : slotKey d fn kind slotNo off len buf = (e, .ok key)) : e = d := by
  cases hfresh : (goodAndFresh d slotNo).2 with
  | some st =>
    simp only [slotKey, hfresh] at h
    (repeat' split at h) <;> simp at h
  | none =>
    simp only [slotKey, hfresh, goodAndFresh_of_none hfresh] at h
    (repeat' split at h) <;> exact (congrArg Prod.fst h).symm

theorem installed_of_live {i : Nat} {x : Sa} (hsa : saOf d i = some x) (hlive : x.deleting = false) :
    installed d i = true := by
  simp [installed, hsa, hlive]

/-- OP 0 with a key from a slot. -/
theorem saInstallBody_of_slotKey {i : Nat} {c : Sc} {e : Device} {key : Bytes} (hi : i = leField desc 20 3)
    (hop : leField desc 24 1 = 0) (hkind : leField desc 25 1 = 1) (hlen : o.bufLen = 0) (hsc : scOf d (i / 4) = some c)
    (hnew : saOf d i = none) (hquar : saQuarantined d i = false)
    (hsuite : suiteBad (scSuite d (i / 4)) 0 desc = none)
    (hkey : slotKey d o.fn 1 (leField desc 26 2) 26 (suiteKeyLen (scSuite d (i / 4))) buf = (e, .ok key))
    (hpin : pinFull d i = false) (hrec : recFull d i = false) (hrole : roleStale e = false) :
    saInstallBody o desc buf d =
      .done (installSa e i (scSuite d (i / 4)) (leField desc 28 8) c.rx desc key) (zeros 16) none := by
  subst hi
  rw [slotKey_of_ok hkey] at hrole
  simp [saInstallBody, hop, hkind, hlen, hsc, hnew, hquar, hsuite, hkey, hpin, hrec, hrole]

theorem topMark_of_notActive (h : d.duet.role ≠ .active) (sa next maxPn : Nat) : topMark d sa next maxPn = d :=
  if_neg fun hactive => h hactive.1

theorem firstMarks_of_notActive (h : d.duet.role ≠ .active) : firstMarks d = d := if_neg h

/-- OP 1 with a higher PN on a transmit SA (R213). -/
theorem raisePn_of_higher {i pn : Nat} {x : Sa} (hsa : saOf d i = some x) (hpn : x.pn < pn)
    (hrole : d.duet.role ≠ .active) : raisePn d i pn false = (setSa d i { x with pn := pn, dirty := true }, true) := by
  have hmax : max x.pn pn = pn := Nat.max_eq_right (Nat.le_of_lt hpn)
  have hchanged : { x with pn := pn } ≠ x := fun h => Nat.ne_of_lt hpn (congrArg Sa.pn h).symm
  simp [raisePn, hsa, hmax, hchanged, topMark_of_notActive (d := setSa d i { x with pn := pn, dirty := true }) hrole]

theorem saInstallBody_of_raise {i : Nat} {c : Sc} {e : Device} (hi : i = leField desc 20 3)
    (hop : leField desc 24 1 = 1) (hsc : scOf d (i / 4) = some c) (hthere : installed d i = true)
    (hquar : saQuarantined d i = false) (hsuite : suiteBad (scSuite d (i / 4)) 1 desc = none)
    (hrole : roleStale d = false) (hraise : raisePn d i (leField desc 28 8) c.rx = (e, true)) :
    saInstallBody o desc buf d = .done e (fit 16 [1#8]) none := by
  subst hi
  simp [saInstallBody, hop, hsc, hthere, hquar, hsuite, hrole, hraise]

end

/-! ## What an installed SA keeps while its neighbours go out of service or are written back -/

/-- An SA but for its going out of service and for being written back. -/
def Sa.lasting (x : Sa) : Sa := { x with oos := false, dirty := false }

/-- The SAs, each as it lasts. -/
def lastingSas (m : MacSec) (k : Nat) : Option Sa := (Tbl.get? m.sas k).map Sa.lasting

theorem lastingSas_put {m : MacSec} {i : Nat} {x y : Sa} (hx : Tbl.get? m.sas i = some x) (hy : y.lasting = x.lasting) :
    lastingSas { m with sas := Tbl.put m.sas i y } = lastingSas m := by
  funext k
  by_cases hk : k = i
  · subst hk
    simp [lastingSas, Tbl.get?_put, hx, hy]
  · simp [lastingSas, Tbl.get?_put_ne _ _ _ _ hk]

section
variable (d : Device)

theorem saOut_lastingSas (sa : Nat) : lastingSas (saOut d sa).ms = lastingSas d.ms := by
  cases hsa : Tbl.get? d.ms.sas sa with
  | none => simp [saOut, Tbl.modify, hsa]
  | some x =>
    have hput := lastingSas_put (y := { x with oos := true }) hsa rfl
    simpa [saOut, Tbl.modify, hsa] using hput

theorem writeLine_lastingSas (line : Nat) : lastingSas (writeLine d line).ms = lastingSas d.ms :=
  writeLine_keeps saOut_lastingSas ..

theorem addToLine_lastingSas (line : Nat) (l : Tbl W64) : lastingSas (addToLine d line l).ms = lastingSas d.ms := by
  unfold addToLine
  split
  · rfl
  · rw [writeLine_lastingSas]
    split <;> rfl

theorem flushStats_lastingSas (i : Nat) : lastingSas (flushStats d i).ms = lastingSas d.ms := by
  rw [flushStats_eq, addToLine_lastingSas, addToLine_lastingSas]
  rfl

theorem writeBack_lastingSas (i : Nat) : lastingSas (writeBack d i).ms = lastingSas d.ms := by
  rw [← flushStats_lastingSas d i]
  simp only [writeBack]
  split
  · next x hsa =>
    split
    · rw [writeLine_lastingSas]
      exact lastingSas_put hsa rfl
    · rfl
  · rfl

theorem setFetching_ms (l : List Nat) : (setFetching d l).ms = d.ms := by
  simp only [setFetching]
  (repeat' split) <;> rfl

theorem startFetch_ms (i : Nat) : (startFetch d i).ms = d.ms := by
  unfold startFetch
  split
  · rfl
  · exact setFetching_ms ..

theorem evictSas_lastingSas (l : List Nat) : lastingSas (evictSas d l).ms = lastingSas d.ms :=
  (congrArg lastingSas (foldl_keeps Device.ms _ startFetch_ms ..)).trans
    (foldl_keeps (fun d => lastingSas d.ms) _ writeBack_lastingSas ..)

theorem fitSet_lastingSas (set : Nat) (l : List Nat) : lastingSas (fitSet d set l).ms = lastingSas d.ms :=
  evictSas_lastingSas ..

theorem fitCaches_lastingSas : lastingSas (fitCaches d).ms = lastingSas d.ms := by
  simp only [fitCaches]
  exact foldl_keeps (fun d => lastingSas d.ms) _ (fun _ _ => fitSet_lastingSas ..) ..

/-- Installing an SA puts it in its place and leaves the others. -/
theorem installSa_lastingSas (i suite pn : Nat) (rx : Bool) (desc key : Bytes) :
    ∃ x : Sa, lastingSas (installSa d i suite pn rx desc key).ms = lastingSas (setSa d i x).ms ∧ x.pn = pn ∧
      x.suite = suite ∧ x.deleting = false ∧ x.exhausted = false := by
  refine ⟨{ suite := suite, salt := slice desc 40 12, ssci := BitVec.ofNat 32 (beField desc 36 4), pn := pn,
            lowest := if rx then pn else 0 }, ?_, rfl, rfl, rfl, rfl⟩
  have hlines : ∀ (l : List Nat) (e : Device), lastingSas (writeLines e l).ms = lastingSas e.ms :=
    fun l => foldl_keeps (fun d => lastingSas d.ms) _ writeLine_lastingSas l
  have hpins : ∀ e : Device, lastingSas (if pinned e i then fitCaches e else e).ms = lastingSas e.ms := fun e => by
    split
    · exact fitCaches_lastingSas e
    · rfl
  have hout : ∀ (e : Device) (stored : Bool), lastingSas (if stored then e else saOut e i).ms = lastingSas e.ms :=
    fun e stored => by
      split
      · rfl
      · exact saOut_lastingSas e i
  exact (hout ..).trans ((hpins ..).trans ((hlines ..).trans rfl))

end

/-! ## The commands as they run -/

theorem exec_secyDel (r : Fin 64) (s : State) :
    exec (.secyDel r) s = .next (s.having (runCommand 0x0101 r anyRight secyDelOwn secyDelBody [] s.dev)) := rfl

theorem exec_scSet (r : Fin 64) (s : State) :
    exec (.scSet r) s = .next (s.having (runCommand 0x0102 r anyRight scOwn scSetBody [] s.dev)) := rfl

theorem exec_scDel (r : Fin 64) (s : State) :
    exec (.scDel r) s = .next (s.having
      (runCommand 0x0103 r anyRight (fun desc => zeroFrom desc 22 63) scDelBody [] s.dev)) := rfl

theorem exec_saInstall (r : Fin 64) (buf : Bytes) (s : State) :
    exec (.saInstall r buf) s =
      .next (s.having (firstMarks (runCommand 0x0104 r anyRight saOwn saInstallBody buf s.dev))) := rfl

theorem exec_prsSecyPnThreshHiWrite (n : Fin 1024) (val : W32) (s : State) :
    exec (.prsSecyPnThreshHiWrite n val) s = .next (s.having (writeThresh s.dev n val)) := rfl

/-- Settles O37: each command by the verdict of its body, an installed SA by what the writes of its lines leave, and the
threshold register by what was written. -/
theorem macsecObjectsFollowCommands : Obligations.MacsecObjectsFollowCommands := by
  refine ⟨?secySet, ?secyDel, ?scSet, ?scDel, ?install, fun d => firstMarks_of_notActive, ?context, ?raise, ?threshold⟩
  case secySet =>
    rintro r s f rest _ _ hruns rfl rfl hport himplicit hlink hnew hroom hrole
    rw [exec_secySet, runCommand_done hruns
      (secySetBody_of_new (d := taken s.dev r rest) hport himplicit hlink hnew hroom hrole)]
  case secyDel =>
    rintro r s f rest _ hruns rfl hthere hscs hports hrole
    rw [exec_secyDel, runCommand_done hruns (secyDelBody_of_unused (d := taken s.dev r rest) hthere hscs hports hrole)]
    rfl
  case scSet =>
    intro r s f rest c n y sci hruns hc hn hdir hsci hsecy hexcluded hsas hnew hclash hrole
    rw [exec_scSet, runCommand_done hruns
      (scSetBody_of_newTx (d := taken s.dev r rest) hc hn hdir hsci hsecy hexcluded hsas hnew hclash hrole)]
  case scDel =>
    rintro r s f rest _ hruns rfl hthere hsas hrole
    rw [exec_scDel, runCommand_done hruns (scDelBody_of_unused (d := taken s.dev r rest) hthere hsas hrole)]
    exact ⟨rfl, scOf_removeSc ..⟩
  case install =>
    rintro r s f rest buf key i _ c d hruns hi hop hkind hlen hsc hnew hquar hrec hsuite rfl hkey hpin hrole
    have hbuf : fit (originOf s.dev r f).bufLen buf = [] := by
      rw [hlen]
      exact List.length_eq_zero_iff.1 (length_fit 0 buf)
    rw [← hbuf] at hkey
    rw [exec_saInstall, runCommand_done hruns (saInstallBody_of_slotKey (d := taken s.dev r rest)
      hi hop hkind hlen hsc hnew hquar hsuite hkey hpin hrec hrole)]
    rfl
  case context =>
    intro d i suite pn rx desc key _
    obtain ⟨x, hsas, hpn, hsuite, hdeleting, hexhausted⟩ := installSa_lastingSas d i suite pn rx desc key
    have hplaced : (saOf (installSa d i suite pn rx desc key) i).map Sa.lasting = some x.lasting :=
      (congrFun hsas i).trans (congrArg (Option.map Sa.lasting) (saOf_setSa d i x))
    obtain ⟨y, hy, hsame⟩ := Option.map_eq_some_iff.1 hplaced
    refine ⟨y, hy, (congrArg Sa.pn hsame).trans hpn, (congrArg Sa.suite hsame).trans hsuite,
      (congrArg Sa.deleting hsame).trans hdeleting, (congrArg Sa.exhausted hsame).trans hexhausted, fun k hk => ?_⟩
    have hother : (saOf (installSa d i suite pn rx desc key) k).map Sa.lasting = (saOf d k).map Sa.lasting :=
      (congrFun hsas k).trans (congrArg (Option.map Sa.lasting) (Tbl.get?_put_ne _ _ _ _ hk))
    simpa using congrArg Option.isSome hother
  case raise =>
    rintro r s f rest buf i c x _ hruns hi hop hsc hdir hsa hlive hquar hsuite hpn hsolo rfl
    have hrole : (taken s.dev r rest).duet.role ≠ .active := by
      rw [(taken_same ..).role, hsolo]
      decide
    have hstale : roleStale (taken s.dev r rest) = false := by
      rw [roleStale, (taken_same ..).role, hsolo]
      rfl
    have hraise := raisePn_of_higher (d := taken s.dev r rest) hsa hpn hrole
    rw [← hdir] at hraise
    rw [exec_saInstall, runCommand_done hruns (saInstallBody_of_raise (d := taken s.dev r rest) hi hop hsc
      (installed_of_live hsa hlive) hquar hsuite hstale hraise), firstMarks_of_notActive]
    rw [(completed_same ..).role]
    exact hrole
  case threshold =>
    intro n val s
    refine ⟨_, exec_prsSecyPnThreshHiWrite n val s, reg_setReg .., ?_, rfl, by constructor <;> rfl⟩
    refine (Tbl.getD_setD ..).trans ?_
    rw [reg_setReg_ne _ _ _ _ (by omega)]

end Sys2Proof.Machine

/-!
PROOF. What a turn changes: the encoding AN, the frames that wait, the counts of cuts and the fence; SA_ENABLE_TX and
SA_DELETE: O38.
-/
namespace Sys2Proof.Machine

/-! ## Devices that agree but for the MACsec objects and the frames in the path -/

/-- As `SameWork`, and the MACsec objects and the data path may differ. -/
def TurnWork (a b : Device) : Prop := SameWork { a with ms := b.ms, prs := b.prs } b

theorem SameWork.turnWork {a b : Device} (h : SameWork a b) : TurnWork a b := { h with ms := rfl, prs := rfl }

theorem TurnWork.refl (d : Device) : TurnWork d d := (SameWork.refl d).turnWork

theorem TurnWork.trans {a b c : Device} (h : TurnWork a b) (k : TurnWork b c) : TurnWork a c :=
  SameWork.trans (b := { b with ms := c.ms, prs := c.prs }) { h with ms := rfl, prs := rfl } k

theorem TurnWork.clock {a b : Device} (h : TurnWork a b) : a.clock = b.clock :=
  SameWork.clock (a := { a with ms := b.ms, prs := b.prs }) h

theorem TurnWork.key {a b : Device} (h : TurnWork a b) : a.key = b.key :=
  SameWork.key (a := { a with ms := b.ms, prs := b.prs }) h

theorem TurnWork.epoch {a b : Device} (h : TurnWork a b) : a.duet.epoch = b.duet.epoch :=
  SameWork.epoch (a := { a with ms := b.ms, prs := b.prs }) h

theorem foldl_turnWork {α : Type} (g : Device → α → Device) (h : ∀ d a, TurnWork (g d a) d) (l : List α) (d : Device) :
    TurnWork (l.foldl g d) d := by
  induction l generalizing d with
  | nil => exact .refl d
  | cons a l ih => exact (ih (g d a)).trans (h d a)

/-! ## Frames that wait take another AN -/

section
variable (d : Device) (c an : Nat) (p : Work → Bool)

theorem startFetch_turnWork (i : Nat) : TurnWork (startFetch d i) d := by
  simp only [startFetch, setFetching]
  (repeat' split) <;> (constructor <;> rfl)

theorem retarget_turnWork : TurnWork (retarget d c an p) d := by
  have hmap : ∀ g, TurnWork (mapWaiting d g) d := fun g => by constructor <;> rfl
  simp only [retarget]
  split
  · exact (startFetch_turnWork ..).trans (hmap _)
  · exact hmap _

theorem retarget_ms : (retarget d c an p).ms = d.ms := by
  simp only [retarget]
  split
  · exact startFetch_ms ..
  · rfl

/-! ## The encoding AN and the cut of a turn (R228, R243) -/

theorem setEncoding_turnWork : TurnWork (setEncoding d c an) d := by
  unfold setEncoding
  split
  · constructor <;> rfl
  · exact .refl d

theorem setEncoding_of_sc {x : Sc} (h : scOf d c = some x) :
    setEncoding d c an = setSc d c { x with encAn := if installed d (4 * c + an) then some an else none
                                            armed := if x.armed = some an then none else x.armed } := by
  simp [setEncoding, h]

/-- Of the MACsec objects a cut changes its counts alone. -/
theorem sendCut_ms : (sendCut d c p).ms = { d.ms with cuts := (sendCut d c p).ms.cuts } := by
  simp only [sendCut]
  split
  · simp only [(sendDuet_same ..).ms]
  · rfl

theorem sendCut_turnWork : TurnWork (sendCut d c p) d := by
  simp only [sendCut]
  split
  · exact TurnWork.trans (by constructor <;> rfl) (sendDuet_same d _ _ _).turnWork
  · constructor <;> rfl

/-- A member that is not ACTIVE sends no cut; its counts start again all the same. -/
theorem sendCut_of_notActive (h : d.duet.role ≠ .active) :
    sendCut d c p = { d with ms := { d.ms with cuts := (sendCut d c p).ms.cuts } } := by
  simp [sendCut, h]

end

/-! ## SA_ENABLE_TX (R225-R229) -/

theorem switchMoment_turnWork (d : Device) (sw : TxSwitch) : TurnWork (switchMoment d sw) d := by
  simp only [switchMoment]
  refine TurnWork.trans (b := sendCut (setEncoding d sw.sc sw.an) sw.sc (fun _ => false)) (by constructor <;> rfl) ?_
  exact (sendCut_turnWork ..).trans (setEncoding_turnWork ..)

section
variable {d : Device} {o : Origin} {desc buf : Bytes} {i : Nat} {c : Sc} {x : Sa}

/-- The switch moment of an SC that was not armed, on a member that is not ACTIVE. -/
theorem switchMoment_of_notActive {sw : TxSwitch} (hsc : scOf d sw.sc = some c) (harmed : c.armed = none)
    (hthere : installed d (4 * sw.sc + sw.an) = true) (hrole : d.duet.role ≠ .active) :
    ∃ cuts, switchMoment d sw = { d with ms := { d.ms with
      scs := Tbl.put d.ms.scs sw.sc { c with encAn := some sw.an, armed := none }, cuts := cuts
      switches := d.ms.switches ++ [{ sw with oldAn := c.encAn, start := d.prs.nextNo }] } } := by
  have henc := setEncoding_of_sc d sw.sc sw.an hsc
  simp only [hthere, harmed, reduceIte, reduceCtorEq] at henc
  refine ⟨(sendCut (setEncoding d sw.sc sw.an) sw.sc (fun _ => false)).ms.cuts, ?_⟩
  have hrole' : (setEncoding d sw.sc sw.an).duet.role ≠ .active := by rw [henc]; exact hrole
  simp only [switchMoment]
  rw [sendCut_of_notActive _ _ _ hrole', henc]
  simp [setSc, hsc]

theorem enableBody_of_solo (hi : i = leField desc 20 3) (hsc : scOf d (i / 4) = some c) (hsa : saOf d i = some x)
    (hlive : x.deleting = false) (hdir : c.rx = false) (hexhausted : x.exhausted = false) (harmed : c.armed = none)
    (hother : c.encAn ≠ some (i % 4)) (hsolo : d.duet.role = .solo) :
    enableBody o desc buf d = .accept (switchMoment (enterInflight d o 0x0105)
      { origin := some o, sc := i / 4, oldAn := c.encAn, an := i % 4, start := 0 }) := by
  subst hi
  have hinflight : (enterInflight d o 0x0105).duet.role ≠ .active := by
    rw [show (enterInflight d o 0x0105).duet.role = (granting d o.ring 0x0105).duet.role from rfl,
      (granting_same ..).role, hsolo]
    decide
  simp [enableBody, hsc, hsa, installed_of_live hsa hlive, hdir, hexhausted, harmed, hother, roleStale, hsolo, hinflight]

end

theorem commitSwitch_of_noOld {d : Device} {x : TxSwitch} {o : Origin} {c : Nat} (hone : d.ms.switches = [x])
    (hsc : x.sc = c) (horigin : x.origin = some o) (hold : x.oldAn = none) :
    commitSwitch d c = finish { d with ms := { d.ms with switches := [] } } o .ok
      (enableResult d true none (4 * c + x.an)) := by
  simp [commitSwitch, hone, hsc, oldGone, horigin, hold]
  rfl

/-! ## SA_DELETE (R248-R254) -/

section
variable {d : Device} {o : Origin} {desc buf : Bytes} {i : Nat} {c : Sc} {x : Sa}

theorem unencode_eq (d : Device) (i : Nat) :
    unencode d i = { d with ms := { d.ms with scs := (unencode d i).ms.scs } } := by
  unfold unencode
  (repeat' split) <;> rfl

theorem encAn_unencode {y : Sc} (h : scOf (unencode d i) (i / 4) = some y) : y.encAn ≠ some (i % 4) := by
  unfold unencode at h
  split at h
  · split at h
    · rw [scOf_setSc] at h
      simp [← Option.some.inj h]
    · next hsc hother => simp_all
  · next hsc => simp [hsc] at h

/-- The SA is out of use, its SC no longer encodes with it, and its fence stands (R250). -/
theorem beginDelete_of_sa (hsa : saOf d i = some x) :
    beginDelete d i desc (some o) = { d with ms := { d.ms with
      sas := Tbl.put d.ms.sas i { x with deleting := true }
      scs := (unencode (setSa d i { x with deleting := true }) i).ms.scs
      deletions := d.ms.deletions ++
        [{ origin := some o, desc := desc, sa := i, started := d.clock, held := saHeld d i }] } } := by
  simp only [beginDelete, hsa]
  rw [unencode_eq]
  rfl

theorem saDeleteBody_of_free (hi : i = leField desc 20 3) (hsc : scOf d (i / 4) = some c) (hsa : saOf d i = some x)
    (hlive : x.deleting = false) (harmed : c.armed = none)
    (hfree : c.rx = true ∨ x.exhausted = true ∨ (byteAt desc 24).getLsbD 0 = true ∨ c.encAn ≠ some (i % 4))
    (hrec : recFull d i = false) (hrole : roleStale d = false) :
    saDeleteBody o desc buf d = .accept (beginDelete (enterInflight d o 0x0106) i desc (some o)) := by
  subst hi
  have hbusy : (!c.rx && c.encAn == some (leField desc 20 3 % 4) && !x.exhausted
      && !(byteAt desc 24).getLsbD 0) = false := by
    rcases hfree with h | h | h | h <;> simp [h]
  simp only [saDeleteBody, hsc, hsa, installed_of_live hsa hlive, harmed, hbusy, hrec, hrole]
  simp

end

/-! ### Erasing the SA (R252) -/

section
variable (d : Device) (i : Nat)

theorem addToLine_keeps {β : Type} {get : MacSec → β} (hout : ∀ d sa, get (saOut d sa).ms = get d.ms)
    (hstats : ∀ m t, get { m with stats := t } = get m) (line : Nat) (l : Tbl W64) :
    get (addToLine d line l).ms = get d.ms := by
  unfold addToLine
  split
  · rfl
  · refine (writeLine_keeps hout ..).trans ?_
    split
    · exact hstats ..
    · rfl

theorem flushStats_deletions : (flushStats d i).ms.deletions = d.ms.deletions := by
  rw [flushStats_eq, addToLine_keeps _ (get := MacSec.deletions) (fun _ _ => rfl) (fun _ _ => rfl),
    addToLine_keeps _ (get := MacSec.deletions) (fun _ _ => rfl) (fun _ _ => rfl)]
  rfl

/-- Erasing the record and the context lines of an SA leaves what taking SAs out of service leaves. -/
theorem eraseSa_keeps {β : Type} {get : MacSec → β} (hout : ∀ d sa, get (saOut d sa).ms = get d.ms) :
    get (eraseSa d i).ms = get { (flushStats d i).ms with sas := Tbl.del (flushStats d i).ms.sas i } := by
  have hlines : ∀ (l : List Nat) (e : Device), get (writeLines e l).ms = get e.ms :=
    fun l => foldl_keeps (fun d => get d.ms) _ (writeLine_keeps hout) l
  have hrecord : ∀ (e : Device) (r : Nat), get (eraseRecord e r).ms = get e.ms := fun e r =>
    (writeLine_keeps hout ..).trans (congrArg get (eraseRec_ms ..))
  exact (hlines ..).trans (hrecord ..)

theorem eraseSa_deletions : (eraseSa d i).ms.deletions = d.ms.deletions :=
  (eraseSa_keeps d i (get := MacSec.deletions) (fun _ _ => rfl)).trans (flushStats_deletions d i)

theorem eraseSa_lastingSas_same : lastingSas (eraseSa d i).ms i = none := by
  rw [eraseSa_keeps d i saOut_lastingSas]
  exact congrArg (Option.map Sa.lasting) (Tbl.get?_del ..)

theorem eraseSa_lastingSas_ne {k : Nat} (h : k ≠ i) : lastingSas (eraseSa d i).ms k = lastingSas d.ms k := by
  rw [eraseSa_keeps d i saOut_lastingSas, ← flushStats_lastingSas d i]
  exact congrArg (Option.map Sa.lasting) (Tbl.get?_del_ne _ _ _ h)

end

theorem finishDelete_ms (d : Device) (x : Deletion) :
    (finishDelete d x).ms =
      (eraseSa { d with ms := { d.ms with deletions := d.ms.deletions.filter (fun y => y.sa != x.sa) } } x.sa).ms := by
  simp only [finishDelete]
  split
  · exact (mirrorThenPost_same ..).ms
  · rfl

/-! ### The fence and its timeout (R251, R253) -/

theorem elapseTo_clock (d : Device) (t : Nat) : (elapseTo d t).clock = max d.clock t := by
  unfold elapseTo
  split
  · next h => exact (Nat.add_sub_cancel' (Nat.le_of_lt h)).trans (Nat.max_eq_right (Nat.le_of_lt h)).symm
  · next h => exact (Nat.max_eq_left (Nat.not_lt.1 h)).symm

theorem elapseTo_ms (d : Device) (t : Nat) : (elapseTo d t).ms = d.ms := by
  unfold elapseTo
  split <;> rfl

theorem elapseTo_prs (d : Device) (t : Nat) : (elapseTo d t).prs = d.prs := by
  unfold elapseTo
  split <;> rfl

section
variable {d : Device} {x : Deletion} {i : Nat}

theorem fenceClear_of_clear (hone : d.ms.deletions = [x]) (hsa : x.sa = i) (hclear : saHeld d i = false) :
    fenceClear d i = finishDelete d x := by
  simp [fenceClear, hone, hsa, hclear]

theorem drainTimeout_of_clear (hone : d.ms.deletions = [x]) (hsa : x.sa = i) (hclear : saHeld d i = false) :
    drainTimeout d i = finishDelete (elapseTo d (x.started + 10 * msTicks)) x := by
  have hheld : saHeld (elapseTo d (x.started + 10 * msTicks)) i = false := by
    rw [saHeld, elapseTo_prs]
    exact hclear
  simp [drainTimeout, hone, hsa, hheld]

end

/-! ## The commands as they run -/

theorem exec_saEnableTx (r : Fin 64) (s : State) :
    exec (.saEnableTx r) s = .next (s.having (runCommand 0x0105 r anyRight saIndexOwn enableBody [] s.dev)) := rfl

theorem exec_saEnableTxCommit (c : Fin 65536) (s : State) :
    exec (.saEnableTxCommit c) s = .next (s.having (commitSwitch s.dev c)) := rfl

theorem exec_saDelete (r : Fin 64) (s : State) :
    exec (.saDelete r) s = .next (s.having (runCommand 0x0106 r anyRight saDeleteOwn saDeleteBody [] s.dev)) := rfl

theorem exec_drainFenceClear (n : Fin 262144) (s : State) :
    exec (.drainFenceClear n) s = .next (s.having (fenceClear s.dev n)) := rfl

theorem exec_drainTimeout (n : Fin 262144) (s : State) :
    exec (.drainTimeout n) s = .next (s.having (drainTimeout s.dev n)) := rfl

/-- Settles O38: the switch moment and the fence by the verdicts of the two commands, and what an erased SA leaves by the
lines that are written. -/
theorem enableAndDeleteSa : Obligations.EnableAndDeleteSa := by
  refine ⟨?enable, ?commit, ?delete, ?clear, ?timeout, ?erased⟩
  case enable =>
    rintro r s f rest _ i c x hruns rfl hi hsc hsa hlive hdir hexhausted harmed hother hsolo
    let d := enterInflight (taken s.dev r rest) (originOf s.dev r f) 0x0105
    have hthere : installed d (4 * (i / 4) + i % 4) = true := by
      rw [Nat.div_add_mod]
      exact installed_of_live hsa hlive
    have hrole : d.duet.role ≠ .active := by
      rw [show d.duet.role = s.dev.duet.role from rfl, hsolo]
      decide
    obtain ⟨cuts, hswitch⟩ := switchMoment_of_notActive (d := d)
      (sw := { origin := some (originOf s.dev r f), sc := i / 4, oldAn := c.encAn, an := i % 4, start := 0 })
      hsc harmed hthere hrole
    rw [exec_saEnableTx, runCommand_accept hruns
      (enableBody_of_solo (d := taken s.dev r rest) hi hsc hsa hlive hdir hexhausted harmed hother hsolo), hswitch]
    exact ⟨_, rfl, Tbl.get?_put .., fun k hk => Tbl.get?_put_ne _ _ _ _ hk, rfl, rfl, rfl, rfl⟩
  case commit =>
    intro c s x o hone hsc horigin hold
    rw [exec_saEnableTxCommit, commitSwitch_of_noOld hone hsc horigin hold]
    rfl
  case delete =>
    rintro r s f rest _ i c x hruns rfl hi hsc hsa hlive harmed hfree hrec hrole
    let d := enterInflight (taken s.dev r rest) (originOf s.dev r f) 0x0106
    rw [exec_saDelete, runCommand_accept hruns
      (saDeleteBody_of_free (d := taken s.dev r rest) hi hsc hsa hlive harmed hfree hrec hrole),
      beginDelete_of_sa (d := d) hsa]
    refine ⟨_, rfl, ?_, fun k hk => Tbl.get?_put_ne _ _ _ _ hk, rfl, fun y hy => encAn_unencode hy, rfl, rfl⟩
    simp [installed, saOf, Tbl.get?_put]
  case clear =>
    intro n s x hone hsa hclear
    rw [exec_drainFenceClear, fenceClear_of_clear hone hsa hclear]
  case timeout =>
    intro n s x hone hsa hclear
    rw [exec_drainTimeout, drainTimeout_of_clear hone hsa hclear]
    exact ⟨_, rfl, elapseTo_ms .., elapseTo_clock ..⟩
  case erased =>
    intro d x
    simp only [saOf, finishDelete_ms]
    refine ⟨?_, ?_, fun k hk => ?_⟩
    · simpa [lastingSas] using eraseSa_lastingSas_same _ x.sa
    · simp [eraseSa_deletions]
    · simpa [lastingSas] using congrArg Option.isSome (eraseSa_lastingSas_ne _ x.sa hk)

end Sys2Proof.Machine

/-!
PROOF. Turn groups: arming, schedules, the fixing of the turn tick and the turn itself: O39.
-/
namespace Sys2Proof

theorem Tbl.get?_mapVals {α β : Type} (t : Tbl α) (f : Nat → α → β) (k : Nat) :
    Tbl.get? (Tbl.mapVals t f) k = (Tbl.get? t k).map (f k) := by
  induction t with
  | nil => rfl
  | cons e t ih =>
    obtain ⟨j, v⟩ := e
    simp only [Tbl.mapVals] at ih
    by_cases hj : j = k
    · subst hj
      simp [Tbl.mapVals, Tbl.get?]
    · simp [Tbl.mapVals, Tbl.get?, hj, ih]

end Sys2Proof

namespace Sys2Proof.Machine

/-! ## Counters that reporting and fetches leave alone -/

section
variable {d : Device} {i : Nat}

theorem counter_count_ne {j n : Nat} (h : i ≠ j) : counter (count d j n) i = counter d i := Tbl.getD_setD_ne _ _ _ _ _ _ h

theorem emitRaw_counter {src : Source} {t : Nat} {p : Bytes} (hmade : i ≠ devCtr 56) (hlost : i ≠ devCtr 57) :
    counter (emitRaw d src t p) i = counter d i := by
  simp only [emitRaw]
  generalize (if baseLocked d 0 then some (timeBytes (tbase d 0).value) else none) = domain
  split
  · exact counter_count_ne hmade
  · exact counter_count_ne hlost

/-- A record counts itself as made or as lost, and nothing else. -/
theorem emit_counter {src : Source} {t : Nat} {p : Bytes} (hmade : i ≠ devCtr 56) (hlost : i ≠ devCtr 57) :
    counter (emit d src t p) i = counter d i := by
  have hdrops : ∀ e, counter (reportDrops e src) i = counter e i := fun e => by
    unfold reportDrops
    split
    · split
      · exact emitRaw_counter hmade hlost
      · rfl
    · rfl
  unfold emit
  split
  · rfl
  · rw [hdrops, emitRaw_counter hmade hlost]

theorem sendDuet_counters (d : Device) (t : Nat) (a : Bool) (p : Bytes) : (sendDuet d t a p).counters = d.counters := by
  unfold sendDuet putDuet
  (repeat' split) <;> rfl

/-- A fetch counts itself, and the wait that it ends. -/
theorem startFetch_counter {k : Nat} (hfetch : i ≠ devCtr 0) (hwait : i ≠ devCtr 1) :
    counter (startFetch d k) i = counter d i := by
  have hset : ∀ l, counter (setFetching d l) i = counter d i := fun l => by
    simp only [setFetching]
    split
    · split
      · exact counter_count_ne hwait
      · rfl
    · split <;> rfl
  unfold startFetch
  split
  · rfl
  · rw [counter_count_ne hfetch, hset]

theorem retarget_counter {c an : Nat} {p : Work → Bool} (hfetch : i ≠ devCtr 0) (hwait : i ≠ devCtr 1) :
    counter (retarget d c an p) i = counter d i := by
  simp only [retarget]
  split
  · exact startFetch_counter hfetch hwait
  · rfl

theorem setEncoding_counters (d : Device) (c an : Nat) : (setEncoding d c an).counters = d.counters := by
  unfold setEncoding
  split <;> rfl

theorem sendCut_counters (d : Device) (c : Nat) (new : Work → Bool) : (sendCut d c new).counters = d.counters := by
  simp only [sendCut]
  split
  · exact sendDuet_counters ..
  · rfl

end

/-! ## TURN_GROUP_SET and KEY_TURN_SCHEDULE (R230-R235, R240) -/

section
variable {o : Origin} {desc buf : Bytes} {d : Device} {c g an : Nat}

/-- OP 0 where the group has no schedule. -/
theorem groupBody_of_arm {x : Sc} (hc : c = leField desc 20 2) (hg : g = leField desc 22 2) (han : an = leField desc 25 1)
    (hop : leField desc 24 1 = 0) (hsc : scOf d c = some x) (hdir : x.rx = false)
    (hready : turnReady d (4 * c + an) = true) (hother : x.encAn ≠ some an) (hgroup : x.group = none ∨ x.group = some g)
    (hidle : Tbl.has d.ms.turns g = false) (hrole : roleStale d = false) :
    groupBody o desc buf d = .done (setSc d c { x with group := some g, armed := some an }) (zeros 16) none := by
  subst hc hg han
  have hmember : ¬(x.group.isSome = true ∧ x.group ≠ some (leField desc 22 2)) := fun h => by
    rcases hgroup with hnone | hsome
    · simp [hnone] at h
    · exact h.2 hsome
  simp [groupBody, hop, hsc, hdir, hready, hother, hmember, hidle, hrole]

/-- A schedule for a later time, no more than 10^15 ns ahead. -/
theorem scheduleBody_of_later {b t : Nat} (hg : g = leField desc 20 2) (hb : b = leField desc 22 1)
    (ht : t = leField desc 24 6 * 1000000000 + leField desc 30 4) (hop : leField desc 23 1 = 0)
    (harmed : armedMembers d g ≠ []) (hidle : Tbl.has d.ms.turns g = false) (hlater : (tbase d b).value < t * nsUnit)
    (hnear : t * nsUnit ≤ (tbase d b).value + 1000000000000000 * nsUnit) (hrole : roleStale d = false) :
    scheduleBody o desc buf d =
      .done { d with ms := { d.ms with turns := Tbl.put d.ms.turns g { base := b, at_ := t } } } (zeros 16) none := by
  subst hg hb ht
  simp only [scheduleBody, show 10 ^ 9 = 1000000000 from rfl, show 10 ^ 15 = 1000000000000000 from rfl]
  rw [if_neg (by simp [hop]), if_neg (by simpa using harmed), if_neg (by simp [hidle]), if_neg (Nat.not_lt.2 hnear),
    if_neg (by simp [hrole]), if_neg (Nat.not_le.2 hlater)]

/-- A cancel: a turn whose tick is not fixed is gone, one whose tick is fixed goes on (R240). -/
theorem scheduleBody_of_cancel {x : Turn} (hg : g = leField desc 20 2) (hop : leField desc 23 1 = 1)
    (hturn : Tbl.get? d.ms.turns g = some x) (hrole : roleStale d = false) :
    scheduleBody o desc buf d = if x.tick.isSome then .done d (fit 16 [2#8]) none
      else .done { d with ms := { d.ms with turns := Tbl.del d.ms.turns g } } (fit 16 [1#8]) none := by
  subst hg
  simp [scheduleBody, hop, hturn, hrole]

end

/-! ## The turn tick and the turn (R236-R239) -/

theorem fixTick_of_running {d : Device} {g : Nat} {x : Turn} (hturn : Tbl.get? d.ms.turns g = some x)
    (hfree : x.tick = none) (hrun : d.time.running = true) :
    ∃ n m, fixTick d g = { elapse d n with ms := { (elapse d n).ms with
      turns := Tbl.put (elapse d n).ms.turns g { x with tick := some ((elapse d n).clock + max 1 m) } } } := by
  simp only [fixTick, hturn, hfree, hrun, Option.isNone_none, Bool.and_self, reduceIte]
  exact ⟨_, _, rfl⟩

/-- An SC switches to AN `an` with the frames that have arrived from the tick on (R237). -/
def switchByArrival (d : Device) (c an tick : Nat) : Device :=
  sendCut (setEncoding (retarget d c an (fun w => tick ≤ w.arrival)) c an) c (fun w => tick ≤ w.arrival)

section
variable {d : Device} {g c an tick : Nat} {old : Option Nat}

theorem turnMember_of_ready (hready : turnReady d (4 * c + an) = true) (hholds : d.ms.holds = []) :
    turnMember d g c an old tick false = (switchByArrival d c an tick, true) := by
  simp [turnMember, hready, hholds, switchByArrival]

theorem turnMember_of_notReady {late : Bool} (h : turnReady d (4 * c + an) = false) :
    ∃ payload, turnMember d g c an old tick late = (emit (count d (devCtr 5)) .macsec 0x11 payload, false) :=
  ⟨_, by simp only [turnMember, h, Bool.false_eq_true, reduceIte]; rfl⟩

theorem installed_of_turnReady {i : Nat} (h : turnReady d i = true) : installed d i = true := by
  cases hsa : saOf d i with
  | none => simp [turnReady, hsa] at h
  | some x => simp_all [turnReady, installed]

/-- The SC has the new encoding AN and is no longer armed; of the MACsec objects the counts of cuts alone change besides. -/
theorem switchByArrival_ms {y : Sc} (hsc : scOf d c = some y) (harmed : y.armed = some an)
    (hthere : installed d (4 * c + an) = true) :
    (switchByArrival d c an tick).ms =
      { d.ms with scs := Tbl.put d.ms.scs c { y with encAn := some an, armed := none }
                  cuts := (switchByArrival d c an tick).ms.cuts } := by
  have hmoved := retarget_ms d c an (fun w => tick ≤ w.arrival)
  have hsc' : scOf (retarget d c an (fun w => tick ≤ w.arrival)) c = some y := by rw [scOf, hmoved]; exact hsc
  have hthere' : installed (retarget d c an (fun w => tick ≤ w.arrival)) (4 * c + an) = true := by
    rw [installed, saOf, hmoved]
    exact hthere
  refine (sendCut_ms ..).trans ?_
  rw [setEncoding_of_sc _ _ _ hsc', hthere', if_pos harmed]
  simp only [setSc, hmoved]
  simp [switchByArrival, setEncoding_of_sc _ _ _ hsc', hthere', harmed, setSc, hmoved]

theorem switchByArrival_turnWork (d : Device) (c an tick : Nat) : TurnWork (switchByArrival d c an tick) d :=
  (sendCut_turnWork ..).trans ((setEncoding_turnWork ..).trans (retarget_turnWork ..))

theorem switchByArrival_counter {i : Nat} (hfetch : i ≠ devCtr 0) (hwait : i ≠ devCtr 1) :
    counter (switchByArrival d c an tick) i = counter d i := by
  rw [switchByArrival, counter, sendCut_counters, setEncoding_counters]
  exact retarget_counter hfetch hwait

/-- A member of group `g` at the end of its turn. -/
def disarmed (g : Nat) (y : Sc) : Sc := if y.group = some g then { y with armed := none } else y

/-- The turn of group `g` is over: its members are disarmed, its schedule is gone, and the turn is counted. -/
def turnOver (d : Device) (g : Nat) : Device :=
  count { d with ms := { d.ms with scs := Tbl.mapVals d.ms.scs (fun _ => disarmed g), turns := Tbl.del d.ms.turns g
                                   lastGroup := some g } } (devCtr 3)

@[simp] theorem turnOver_scs (d : Device) (g : Nat) :
    (turnOver d g).ms.scs = Tbl.mapVals d.ms.scs (fun _ => disarmed g) := rfl
@[simp] theorem turnOver_turns (d : Device) (g : Nat) : (turnOver d g).ms.turns = Tbl.del d.ms.turns g := rfl
@[simp] theorem turnOver_sas (d : Device) (g : Nat) : (turnOver d g).ms.sas = d.ms.sas := rfl
@[simp] theorem turnOver_key (d : Device) (g : Nat) : (turnOver d g).key = d.key := rfl

theorem turnOver_counted (d : Device) (g : Nat) :
    counter (turnOver d g) (devCtr 3) = counter d (devCtr 3) + 1#64 := by
  rw [turnOver, counter_count]
  rfl

theorem disarmed_of_unarmed {y : Sc} (h : y.armed = none) : disarmed g y = y := by
  unfold disarmed
  split
  · rw [← h]
  · rfl

/-- A turn group with one armed member, whose SA is usable. -/
theorem turnGroup_of_single {y : Sc} (hone : armedMembers d g = [(c, y)]) (harmed : y.armed = some an)
    (hready : turnReady d (4 * c + an) = true) (hholds : d.ms.holds = []) :
    ∃ payload, turnGroup d g tick false = emit (turnOver (switchByArrival d c an tick) g) .macsec 0x10 payload := by
  refine ⟨leBytes 2 g ++ leBytes 2 1 ++ leBytes 2 0 ++ leBytes 8 tick, ?_⟩
  simp only [turnGroup, hone, List.foldl_cons, List.foldl_nil, harmed, Option.getD_some,
    turnMember_of_ready hready hholds]
  rfl

end

theorem turnTick_of_fixed {d : Device} {g tick : Nat} {x : Turn} (hturn : Tbl.get? d.ms.turns g = some x)
    (hfixed : x.tick = some tick) : turnTick d g = turnGroup (elapseTo d tick) g tick false := by
  simp [turnTick, hturn, hfixed]

theorem elapseTo_key (d : Device) (t : Nat) : (elapseTo d t).key = d.key := by
  unfold elapseTo
  split <;> rfl

theorem elapseTo_counters (d : Device) (t : Nat) : (elapseTo d t).counters = d.counters := by
  unfold elapseTo
  split <;> rfl

/-! ## The commands as they run -/

theorem exec_turnGroupSet (r : Fin 64) (s : State) :
    exec (.turnGroupSet r) s = .next (s.having (runCommand 0x0108 r anyRight groupOwn groupBody [] s.dev)) := rfl

theorem exec_keyTurnSchedule (r : Fin 64) (s : State) :
    exec (.keyTurnSchedule r) s = .next (s.having (runCommand 0x0107 r anyRight scheduleOwn scheduleBody [] s.dev)) := rfl

theorem exec_turnTickFix (g : Fin 4096) (s : State) :
    exec (.turnTickFix g) s = .next (s.having (fixTick s.dev g)) := rfl

theorem exec_turnTick (g : Fin 4096) (s : State) : exec (.turnTick g) s = .next (s.having (turnTick s.dev g)) := rfl

/-- Settles O39: the two commands by the verdicts of their bodies, the tick by what remains of the wait for T, and the turn by what
switching one SC changes. -/
theorem turnsSwitchTheEncodingAn : Obligations.TurnsSwitchTheEncodingAn := by
  refine ⟨?arm, ?schedule, ?cancel, ?fix, ?turn, ?skip⟩
  case arm =>
    intro r s f rest c g an x hruns hc hg han hop hsc hdir hready hother hgroup hidle hrole
    rw [exec_turnGroupSet, runCommand_done hruns (groupBody_of_arm (d := taken s.dev r rest)
      hc hg han hop hsc hdir hready hother hgroup hidle hrole)]
  case schedule =>
    intro r s f rest g b t hruns hg hb ht hop harmed hidle hlater hnear hrole
    rw [exec_keyTurnSchedule, runCommand_done hruns (scheduleBody_of_later (d := taken s.dev r rest)
      hg hb ht hop harmed hidle hlater hnear hrole)]
    rfl
  case cancel =>
    intro r s f rest g x hruns hg hop hturn hrole
    have hbody := fun o buf =>
      scheduleBody_of_cancel (o := o) (buf := buf) (d := taken s.dev r rest) hg hop hturn hrole
    refine ⟨fun hfree => ?_, fun hfixed => ?_⟩
    · simp only [hfree, Option.isSome_none, Bool.false_eq_true, reduceIte] at hbody
      rw [exec_keyTurnSchedule, runCommand_done hruns (hbody ..)]
      rfl
    · simp only [Option.isSome_iff_ne_none.2 hfixed, reduceIte] at hbody
      rw [exec_keyTurnSchedule, runCommand_done hruns (hbody ..)]
  case fix =>
    intro g s x hturn hfree hrun
    obtain ⟨n, m, hfix⟩ := fixTick_of_running hturn hfree hrun
    rw [exec_turnTickFix, hfix]
    exact ⟨_, _, rfl, Tbl.get?_put .., by show (elapse s.dev n).clock < _; omega, rfl, rfl⟩
  case turn =>
    intro g s x tick c an y hturn hfixed hone harmed hsc hready hholds
    have hms := elapseTo_ms s.dev tick
    have hone' : armedMembers (elapseTo s.dev tick) g = [(c, y)] := by rw [armedMembers, members, hms]; exact hone
    have hsc' : scOf (elapseTo s.dev tick) c = some y := by rw [scOf, hms]; exact hsc
    have hready' : turnReady (elapseTo s.dev tick) (4 * c + an) = true := by rw [turnReady, saOf, hms]; exact hready
    obtain ⟨payload, hgroup⟩ := turnGroup_of_single (tick := tick) hone' harmed hready' (hms ▸ hholds)
    have hswitched := switchByArrival_ms (tick := tick) hsc' harmed (installed_of_turnReady hready')
    rw [exec_turnTick, turnTick_of_fixed hturn hfixed, hgroup]
    refine ⟨_, rfl, ?encoding, ?gone, ?sas, ?key, ?counted⟩
    case encoding =>
      rw [scOf, (emit_same ..).ms, turnOver_scs, Tbl.get?_mapVals, hswitched]
      simp [Tbl.get?_put, disarmed_of_unarmed]
    case gone =>
      rw [Tbl.has, (emit_same ..).ms, turnOver_turns, Tbl.get?_del]
      rfl
    case sas => rw [(emit_same ..).ms, turnOver_sas, hswitched, hms]
    case key => rw [(emit_same ..).key, turnOver_key, (switchByArrival_turnWork ..).key, elapseTo_key]
    case counted =>
      rw [emit_counter (by decide) (by decide), turnOver_counted, switchByArrival_counter (by decide) (by decide), counter,
        elapseTo_counters, counter]
  case skip =>
    intro d g c an tick old hskip
    obtain ⟨payload, hmember⟩ := turnMember_of_notReady (g := g) (tick := tick) (old := old) (late := false) hskip
    refine ⟨_, hmember, (emit_same ..).ms, ?_⟩
    rw [emit_counter (by decide) (by decide), counter_count]

end Sys2Proof.Machine

/-!
PROOF. Associations: their commands, what erasing their records leaves of the others, and the view: O46.
-/
namespace Sys2Proof

theorem Tbl.isSome_get?_of_mem {α : Type} {t : Tbl α} {e : Nat × α} (h : e ∈ t) : (Tbl.get? t e.1).isSome = true := by
  induction t with
  | nil => simp at h
  | cons x t ih =>
    by_cases hx : x.1 = e.1
    · simp [Tbl.get?, hx]
    · rcases List.mem_cons.1 h with rfl | htail
      · exact absurd rfl hx
      · simpa [Tbl.get?, hx] using ih htail

/-- Writing an entry that is there keeps which entries there are. -/
theorem Tbl.isSome_get?_put {α : Type} {t : Tbl α} {k : Nat} (v : α) (h : (Tbl.get? t k).isSome = true) (j : Nat) :
    (Tbl.get? (Tbl.put t k v) j).isSome = (Tbl.get? t j).isSome := by
  by_cases hj : j = k
  · rw [hj, Tbl.get?_put, h]
    rfl
  · rw [Tbl.get?_put_ne _ _ _ _ hj]

end Sys2Proof

namespace Sys2Proof.Machine

/-! ## What a write of a line leaves of the whole device, even one that freezes its group -/

section
variable {β : Type} {get : Device → β} (hmem : ∀ d c m, get { d with counters := c, mem := m } = get d)
  (hemit : ∀ d src t p, get (emit d src t p) = get d) (hsa : ∀ d i, get (saOut d i) = get d)
  (hassoc : ∀ d a cause, get (assocOut d a cause) = get d)
include hmem hemit hsa hassoc

theorem writeLine_leaves (d : Device) (line : Nat) : get (writeLine d line) = get d := by
  cases hw : writable d line
  · rw [writeLine_of_unwritable hw]
  · cases hf : freezes d line
    · have hrest := congrArg get (writeLine_memWork (line := line) (d := d) (by simp [takesWrite, hw, hf])).rest
      rwa [hmem] at hrest
    · rw [writeLine_of_freezes hw hf]
      exact ((foldl_keeps get _ (fun _ _ => hassoc ..) ..).trans (foldl_keeps get _ hsa ..)).trans
        ((hemit ..).trans (hmem ..))

end

/-! ## Which associations there are (R355) -/

/-- An association of this number exists. -/
def hasAssoc (d : Device) (k : Nat) : Bool := (assoc? d k).isSome

section
variable (d : Device)

theorem emit_hasAssoc (src : Source) (t : Nat) (p : Bytes) : hasAssoc (emit d src t p) = hasAssoc d := by
  funext k
  rw [hasAssoc, assoc?, (emit_same ..).kn]
  rfl

theorem eraseRec_kn (i : Nat) : (eraseRec d i).kn = d.kn := by
  simp only [eraseRec]
  split <;> rfl

theorem eraseRec_slots (i : Nat) : (eraseRec d i).key.slots = d.key.slots := by
  simp only [eraseRec]
  split <;> rfl

theorem setAssoc_hasAssoc {a : Nat} (x : Assoc) (h : hasAssoc d a = true) : hasAssoc (setAssoc d a x) = hasAssoc d :=
  funext (Tbl.isSome_get?_put x h)

theorem assocOut_hasAssoc (a cause : Nat) : hasAssoc (assocOut d a cause) = hasAssoc d := by
  have herased := foldl_keeps Device.kn _ (fun d i => eraseRec_kn d i) (assocRecords a) d
  unfold assocOut
  split
  · next x hx =>
    split
    · rfl
    · rw [emit_hasAssoc]
      have hthere : hasAssoc ((assocRecords a).foldl eraseRec d) a = true := by
        rw [hasAssoc, assoc?, herased, hx]
        rfl
      refine (setAssoc_hasAssoc _ _ hthere).trans ?_
      funext k
      rw [hasAssoc, assoc?, herased]
      rfl
  · rfl

theorem assocOut_slots (a cause : Nat) : (assocOut d a cause).key.slots = d.key.slots := by
  unfold assocOut
  split
  · split
    · rfl
    · rw [(emit_same ..).key]
      exact foldl_keeps (fun d => d.key.slots) _ (fun d i => eraseRec_slots d i) ..
  · rfl

theorem eraseRecord_hasAssoc (i : Nat) : hasAssoc (eraseRecord d i) = hasAssoc d :=
  (writeLine_leaves (get := hasAssoc) (fun _ _ _ => rfl) emit_hasAssoc (fun _ _ => rfl) assocOut_hasAssoc ..).trans
    (funext fun k => by rw [hasAssoc, assoc?, eraseRec_kn]; rfl)

theorem eraseRecord_slots (i : Nat) : (eraseRecord d i).key.slots = d.key.slots :=
  (writeLine_leaves (get := fun d => d.key.slots) (fun _ _ _ => rfl) (fun _ _ _ _ => by rw [(emit_same ..).key])
    (fun _ _ => rfl) assocOut_slots ..).trans (eraseRec_slots d i)

theorem starve_hasAssoc {a : Nat} (x : Assoc) (v : Bool) (h : hasAssoc d a = true) :
    hasAssoc (starve d a x v) = hasAssoc d := by
  simp only [starve]
  split
  · rfl
  · split
    · rw [emit_hasAssoc]
      exact setAssoc_hasAssoc d _ h
    · exact setAssoc_hasAssoc d _ h

theorem starve_key (a : Nat) (x : Assoc) (v : Bool) : (starve d a x v).key = d.key := by
  simp only [starve]
  split
  · rfl
  · split
    · rw [(emit_same ..).key]
      rfl
    · rfl

/-- Fitting the associations to the presses makes none and removes none. -/
theorem knCapacity_hasAssoc : hasAssoc (knCapacity d) = hasAssoc d := by
  have hfold : ∀ (ok : Nat → Bool) (l : Tbl Assoc) (e : Device), (∀ x ∈ l, hasAssoc e x.1 = true) →
      hasAssoc (l.foldl (fun d x => starve d x.1 x.2 (!ok x.1)) e) = hasAssoc e := by
    intro ok l
    induction l with
    | nil => exact fun _ _ => rfl
    | cons x l ih =>
      intro e hall
      have hfirst := starve_hasAssoc e x.2 (!ok x.1) (hall x (List.mem_cons_self ..))
      refine (ih _ fun y hy => ?_).trans hfirst
      rw [hfirst]
      exact hall y (List.mem_cons_of_mem _ hy)
  refine hfold _ _ d fun x hx => Tbl.isSome_get?_of_mem ?_
  exact (List.mem_filter.1 (List.mem_reverse.1 hx)).1

theorem knCapacity_key : (knCapacity d).key = d.key := foldl_keeps Device.key _ (fun _ _ => starve_key ..) ..

/-- The device without association `a`, its mark and its digests. -/
def withoutAssoc (a : Nat) : Device :=
  { d with kn := { d.kn with assocs := Tbl.del d.kn.assocs a }
           duet := { d.duet with knMarks := Tbl.del d.duet.knMarks a, digests := Tbl.del d.duet.digests (128 + a) } }

theorem withoutAssoc_hasAssoc (a k : Nat) : hasAssoc (withoutAssoc d a) k = if k = a then false else hasAssoc d k := by
  split
  · next hk =>
    rw [hk]
    exact congrArg Option.isSome (Tbl.get?_del ..)
  · next hk => exact congrArg Option.isSome (Tbl.get?_del_ne _ _ _ hk)

theorem withoutAssoc_key (a : Nat) : (withoutAssoc d a).key = d.key := rfl

theorem removeAssoc_eq (a : Nat) :
    removeAssoc d a = knCapacity (withoutAssoc ((assocRecords a).foldl eraseRecord d) a) := rfl

/-- The association is gone, and no other. -/
theorem removeAssoc_hasAssoc (a k : Nat) : hasAssoc (removeAssoc d a) k = if k = a then false else hasAssoc d k := by
  rw [removeAssoc_eq, knCapacity_hasAssoc, withoutAssoc_hasAssoc,
    foldl_keeps hasAssoc _ (fun d i => eraseRecord_hasAssoc d i)]

theorem removeAssoc_slots (a : Nat) : (removeAssoc d a).key.slots = d.key.slots := by
  rw [removeAssoc_eq, knCapacity_key, withoutAssoc_key,
    foldl_keeps (fun d => d.key.slots) _ (fun d i => eraseRecord_slots d i)]

end

/-! ## The commands on associations (R351-R355, R260-R265) -/

section
variable {o : Origin} {desc buf : Bytes} {d : Device} {a : Nat} {x : Assoc}

/-- KN_ASSOC_SET on a free container, or on an association that changes FLAGS and LIMITS alone. -/
theorem assocBody_of_free (ha : a = assocNo desc) (hx : x = assocOf desc) (hline : isLine d x.port = true)
    (hsdh : isSdh d x.port = true → containerStart d x.port x.slot = true)
    (hotn : isSdh d x.port = false → x.slot = 0) (hpeer : d.svc.revoked.contains x.peer = false)
    (hcontainer : Tbl.any d.kn.assocs (fun b y => b != a && y.port == x.port && y.slot == x.slot) = false)
    (hsc : scOf d (49152 + a) = none)
    (hold : (assoc? d a).any (fun old => old.deleting.isSome || assocDiffers old x) = false)
    (hrole : roleStale d = false) : assocBody o desc buf d = .done (storeAssoc d a x) (zeros 16) none := by
  subst ha hx
  have hslot : (if isSdh d (assocOf desc).port then !containerStart d (assocOf desc).port (assocOf desc).slot
      else (assocOf desc).slot != 0) = false := by
    cases hport : isSdh d (assocOf desc).port
    · simp [hotn hport]
    · simp [hsdh hport]
  simp only [assocBody, hline, hslot, hpeer, hcontainer, hsc, hold, hrole]
  rfl

theorem storeAssoc_of_new (h : assoc? d a = none) :
    storeAssoc d a x = knCapacity (setAssoc d a { x with withheld := withholds d x, began := d.clock }) := by
  simp [storeAssoc, h]

theorem storeAssoc_of_old {old : Assoc} (h : assoc? d a = some old) :
    storeAssoc d a x = setAssoc d a { old with
      txPend := some x.txOn, rxPend := some (x.rxOn, x.nFail, x.mGood), rxPendAt := d.clock } := by
  simp [storeAssoc, h, changeAssoc]

theorem assocDelBody_of_live (ha : a = assocNo desc) (hthere : assoc? d a = some x) (hlive : x.deleting = none)
    (hrec : (assocRecords a).any (fun i => (keyRec d i).present && recFull d i) = false) (hrole : roleStale d = false) :
    assocDelBody o desc buf d = .accept (setAssoc (enterInflight d o 0x0181) a
      { x with deleting := some (o, (enterInflight d o 0x0181).clock), turn := none, rxTurn := none, output := false
               outputDue := none }) := by
  subst ha
  simp only [assocDelBody, hthere, hlive, hrec, hrole]
  rfl

theorem assocDelDone_of_deleting {t : Nat} (hthere : assoc? d a = some x) (hdeleting : x.deleting = some (o, t)) :
    assocDelDone d a = mirrorThenPost (removeAssoc d a) 0x0181 (fit 64 (leBytes 2 0x0181 ++ zeros 18 ++ leBytes 2 a)) []
      (dueOf (removeAssoc d a) o .ok (zeros 16) false) := by
  simp [assocDelDone, hthere, hdeleting]

/-- A key from a slot (R353, R354). -/
theorem knKeyBody_of_slotKey {dir target : Nat} {e : Device} {key : Bytes} (ha : a = assocNo desc)
    (hdir : dir = leField desc 22 1) (htarget : target = leField desc 26 1) (hkind : leField desc 23 1 = 1)
    (hlen : o.bufLen = 0) (hthere : assoc? d a = some x) (hin : x.oos = false) (hlive : x.deleting = none)
    (hquar : quarantined d (recLine (knRecord a x dir target)) = false)
    (hrec : recFull d (knRecord a x dir target) = false)
    (hnew : (if target = 0 then curOf x dir else nextOf x dir) = none)
    (hcur : target = 1 → (curOf x dir).isSome = true)
    (hindex : target = 0 → isSdh d x.port = true → leField desc 27 1 ≤ 127)
    (hkey : slotKey d o.fn 1 (leField desc 24 2) 24 32 buf = (e, .ok key)) (hrole : roleStale e = false) :
    knKeyBody o desc buf d = .done (holdKey e a x dir target (leField desc 27 1) key) (zeros 16) none := by
  subst ha hdir htarget
  rw [slotKey_of_ok hkey] at hrole
  have hnoCur : ¬(leField desc 26 1 = 1 ∧ (curOf x (leField desc 22 1)).isNone = true) := fun h => by
    simp [Option.isNone_iff_eq_none.1 h.2] at hcur
    exact hcur h.1
  have hlow : ¬(leField desc 26 1 = 0 ∧ isSdh d x.port = true ∧ leField desc 27 1 > 127) := fun h =>
    Nat.not_lt.2 (hindex h.1 h.2.1) h.2.2
  simp only [knKeyBody, hthere, hquar, hin, hlive, hnew, hnoCur, hlow, hkind, hlen, hkey, hrec]
  simp [slotKey_of_ok hkey, hrole]

/-- OP 1: the turn is announced at least nine superframes ahead (R262). -/
theorem knTurnBody_of_now (ha : a = assocNo desc) (hop : leField desc 22 1 = 1) (hthere : assoc? d a = some x)
    (hin : x.oos = false) (hlive : x.deleting = none) (hnext : x.txNext ≠ none) (hidle : x.turn = none)
    (hrole : roleStale d = false) : knTurnBody o desc buf d =
      .done (setAssoc d a { x with turn := some (x.sfn + 9) }) (fit 16 (leBytes 8 (x.sfn + 9))) none := by
  subst ha
  simp [knTurnBody, hop, hthere, hin, hlive, hnext, hidle, hrole]

/-- OP 2 before the announcement has begun (R265). -/
theorem knTurnBody_of_cancel {t : Nat} (ha : a = assocNo desc) (hop : leField desc 22 1 = 2)
    (hthere : assoc? d a = some x) (hturn : x.turn = some t) (hbefore : x.sfn + 8 < t) :
    knTurnBody o desc buf d = .done (setAssoc d a { x with turn := none }) (fit 16 [1#8]) none := by
  subst ha
  simp [knTurnBody, hop, cancelTurn, hthere, hturn, hbefore]

end

theorem outputChange_of_due {d : Device} {a t : Nat} {x : Assoc} {v : Bool} (hthere : assoc? d a = some x)
    (hdue : x.outputDue = some (t, v)) : outputChange d a = setAssoc (elapseTo d t) a
      { x with output := v, outputDue := none, cut := some ((boundaryAfter d x).1, v) } := by
  simp [outputChange, outputNow, hthere, hdue]

theorem selectAssoc_of_assoc {d : Device} {val : W32} {x : Assoc} (h : assoc? d (bits val 13 0) = some x) :
    selectAssoc d val =
      { plainWrite d 0xC8004 val with kn := { (plainWrite d 0xC8004 val).kn with view := knView x } } := by
  have hthere : assoc? (plainWrite d 0xC8004 val) (bits val 13 0) = some x := by
    rw [assoc?, (plainWrite_same ..).kn]
    exact h
  simp only [selectAssoc, hthere]

/-! ## The commands as they run -/

theorem exec_knAssocSet (r : Fin 64) (s : State) : exec (.knAssocSet r) s =
    .next (s.having (runCommand 0x0180 r anyRight (assocOwn s.dev) assocBody [] s.dev)) := rfl

theorem exec_knAssocDel (r : Fin 64) (s : State) : exec (.knAssocDel r) s =
    .next (s.having (runCommand 0x0181 r anyRight assocDelOwn assocDelBody [] s.dev)) := rfl

theorem exec_knAssocDelDone (a : Fin 16384) (s : State) :
    exec (.knAssocDelDone a) s = .next (s.having (assocDelDone s.dev a)) := rfl

theorem exec_knKeyInstall (r : Fin 64) (buf : Bytes) (s : State) : exec (.knKeyInstall r buf) s =
    .next (s.having (runCommand 0x0182 r anyRight knKeyOwn knKeyBody buf s.dev)) := rfl

theorem exec_knTurnSchedule (r : Fin 64) (s : State) : exec (.knTurnSchedule r) s =
    .next (s.having (runCommand 0x0183 r anyRight knTurnOwn knTurnBody [] s.dev)) := rfl

theorem exec_knOutputChange (a : Fin 16384) (s : State) :
    exec (.knOutputChange a) s = .next (s.having (outputChange s.dev a)) := rfl

theorem exec_frmKnSelWrite (val : W32) (s : State) :
    exec (.frmKnSelWrite val) s = .next (s.having (selectAssoc s.dev val)) := rfl

/-- Settles O46: each command by the verdict of its body, the end of a deletion by which associations remain, and the view by
what the write of its register leaves. -/
theorem knadraAssociationsFollowCommands : Obligations.KnadraAssociationsFollowCommands := by
  refine ⟨?set, ?delete, ?gone, ?key, ?schedule, ?output, ?view⟩
  case set =>
    intro r s f rest a x hruns ha hx hline hsdh hotn hpeer hcontainer hsc hrole
    have hbody := fun o buf hold => assocBody_of_free (o := o) (buf := buf) (d := taken s.dev r rest)
      ha hx hline hsdh hotn hpeer hcontainer hsc hold hrole
    refine ⟨fun hnew => ?_, fun old hthere hlive hsame => ?_⟩
    · rw [exec_knAssocSet, runCommand_done hruns (hbody _ _ (by rw [show assoc? (taken s.dev r rest) a = none from hnew]; rfl)),
        storeAssoc_of_new (d := taken s.dev r rest) hnew]
      rfl
    · rw [exec_knAssocSet, runCommand_done hruns
        (hbody _ _ (by rw [show assoc? (taken s.dev r rest) a = some old from hthere]; simp [hlive, hsame])),
        storeAssoc_of_old (d := taken s.dev r rest) hthere]
      rfl
  case delete =>
    rintro r s f rest _ a x hruns rfl ha hthere hlive hrec hrole
    rw [exec_knAssocDel, runCommand_accept hruns
      (assocDelBody_of_live (d := taken s.dev r rest) ha hthere hlive hrec hrole)]
    rfl
  case gone =>
    intro a s x o t hthere hdeleting
    have hothers := removeAssoc_hasAssoc s.dev a
    rw [exec_knAssocDelDone, assocDelDone_of_deleting hthere hdeleting]
    refine ⟨_, _, _, rfl, rfl, rfl, ?_, fun k hk => ?_, removeAssoc_slots ..⟩
    · have hnone := hothers a
      rw [if_pos rfl] at hnone
      exact Option.isNone_iff_eq_none.1 (Option.isSome_eq_false_iff.1 hnone)
    · have hsame := hothers k
      rwa [if_neg hk] at hsame
  case key =>
    intro r s f rest buf key a dir target x d hruns ha hdir htarget hkind hlen hthere hin hlive hquar hrec hnew hcur
      hindex hkey hrole
    have hbuf : fit (originOf s.dev r f).bufLen buf = [] := by
      rw [hlen]
      exact List.length_eq_zero_iff.1 (length_fit 0 buf)
    rw [← hbuf] at hkey
    rw [exec_knKeyInstall, runCommand_done hruns (knKeyBody_of_slotKey (d := taken s.dev r rest) ha hdir htarget hkind
      hlen hthere hin hlive hquar hrec hnew hcur hindex hkey hrole)]
  case schedule =>
    intro r s f rest a x hruns ha hthere
    refine ⟨fun hop hin hlive hnext hidle hrole => ?_, fun hop t hturn hbefore => ?_⟩
    · rw [exec_knTurnSchedule, runCommand_done hruns
        (knTurnBody_of_now (d := taken s.dev r rest) ha hop hthere hin hlive hnext hidle hrole)]
    · rw [exec_knTurnSchedule, runCommand_done hruns
        (knTurnBody_of_cancel (d := taken s.dev r rest) ha hop hthere hturn hbefore)]
  case output =>
    intro a s x t v hthere hdue
    rw [exec_knOutputChange, outputChange_of_due hthere hdue]
  case view =>
    intro val s x hthere
    rw [exec_frmKnSelWrite, selectAssoc_of_assoc hthere]
    have hsame := plainWrite_same s.dev 0xC8004 val
    exact ⟨_, rfl, rfl, by rw [hsame.kn], { hsame with kn := rfl }⟩

end Sys2Proof.Machine

/-!
PROOF. What completions, switch moments, holds and the key-store check leave of the Duet, and the roles that a member leaves.
-/
namespace Sys2Proof.Machine

/-! ## Reporting leaves the Duet (R569, R705) -/

theorem emitRaw_duet (d : Device) (src : Source) (t : Nat) (p : Bytes) : (emitRaw d src t p).duet = d.duet := by
  simp only [emitRaw]
  (repeat' split) <;> rfl

@[simp] theorem emit_duet (d : Device) (src : Source) (t : Nat) (p : Bytes) : (emit d src t p).duet = d.duet := by
  have hdrops : ∀ e, (reportDrops e src).duet = e.duet := fun e => by
    unfold reportDrops
    split
    · split
      · exact emitRaw_duet ..
      · rfl
    · rfl
  unfold emit
  split
  · rfl
  · rw [hdrops, emitRaw_duet]

/-- Of the Duet a message changes its next SEQ alone. -/
theorem sendDuet_duet (d : Device) (t : Nat) (a : Bool) (p : Bytes) :
    (sendDuet d t a p).duet = { d.duet with txSeq := (sendDuet d t a p).duet.txSeq } := by
  unfold sendDuet putDuet
  (repeat' split) <;> rfl

theorem sendDuet_regs (d : Device) (t : Nat) (a : Bool) (p : Bytes) : (sendDuet d t a p).regs = d.regs := by
  unfold sendDuet putDuet
  (repeat' split) <;> rfl

theorem signalCq_duet (d : Device) (m : Nat) (now : Bool) : (signalCq d m now).duet = d.duet := by
  simp only [signalCq, raiseVector]
  (repeat' split) <;> rfl

theorem writeEntry_duet (d : Device) (m size : Nat) (due : Due) : (writeEntry d m size due).duet = d.duet := by
  have hstall : ∀ e, (markStall e m).duet = e.duet := fun e =>
    markStall_keeps (get := Device.duet) (fun _ _ => rfl) (fun _ _ => rfl)
  simp only [writeEntry]
  generalize hsignalled : signalCq _ m _ = e
  have hduet : e.duet = d.duet := by
    rw [← hsignalled, signalCq_duet]
    rfl
  split
  · rw [hstall, hduet]
  · exact hduet

theorem drainCq_duet (l : List Due) (d : Device) (m : Nat) : (drainCq d m l).duet = d.duet := by
  induction l generalizing d with
  | nil => rfl
  | cons due rest ih =>
    unfold drainCq
    split
    · split
      · split
        · rfl
        · rw [ih, writeEntry_duet]
      · exact ih d
    · exact ih d

/-- A completion that falls due leaves the Duet. -/
theorem post_duet (d : Device) (due : Due) : (post d due).duet = d.duet := by
  have hcount : (countRejected d due).duet = d.duet := by
    unfold countRejected
    split <;> rfl
  simp only [post]
  split
  · rfl
  · split
    · rfl
    · split
      · rfl
      · rw [drainCq_duet, hcount]

/-! ## Holds end (R245, R247) -/

section
variable (d : Device)

theorem retarget_duet (c an : Nat) (p : Work → Bool) : (retarget d c an p).duet = d.duet := by
  have hfetch : ∀ e i, (startFetch e i).duet = e.duet := fun e i => by
    simp only [startFetch, setFetching]
    (repeat' split) <;> rfl
  simp only [retarget]
  split
  · exact hfetch ..
  · rfl

theorem setEncoding_duet (c an : Nat) : (setEncoding d c an).duet = d.duet := by
  unfold setEncoding
  split <;> rfl

theorem placeHeld_duet (h : Hold) (t : Nat) : (placeHeld d h t).duet = d.duet :=
  (setEncoding_duet ..).trans (retarget_duet ..)

theorem placeHeld_turnWork (h : Hold) (t : Nat) : TurnWork (placeHeld d h t) d := by
  have hdrop : ∀ e, TurnWork (dropHold e h) e := fun e => by constructor <;> rfl
  exact (hdrop _).trans ((setEncoding_turnWork ..).trans (retarget_turnWork ..))

/-- One hold of a member that becomes ACTIVE or SOLO. -/
def performHold (h : Hold) : Device :=
  if !h.scheduled then placeHeld d h 0
  else match h.tick with
    | some t => placeHeld d h t
    | none => dropHold d h

theorem performHold_duet (h : Hold) : (performHold d h).duet = d.duet := by
  unfold performHold
  split
  · exact placeHeld_duet ..
  · split
    · exact placeHeld_duet ..
    · rfl

theorem performHold_turnWork (h : Hold) : TurnWork (performHold d h) d := by
  unfold performHold
  split
  · exact placeHeld_turnWork ..
  · split
    · exact placeHeld_turnWork ..
    · constructor <;> rfl

theorem performHolds_eq : performHolds d = d.ms.holds.foldl performHold { d with ms := { d.ms with owed := [] } } := rfl

theorem performHolds_duet : (performHolds d).duet = d.duet := by
  rw [performHolds_eq, foldl_keeps Device.duet _ performHold_duet]

theorem performHolds_turnWork : TurnWork (performHolds d) d := by
  rw [performHolds_eq]
  exact (foldl_turnWork _ performHold_turnWork ..).trans (by constructor <;> rfl)

theorem noteMarkWait_duet : (noteMarkWait d).duet = d.duet := by
  unfold noteMarkWait
  split <;> rfl

theorem noteMarkWait_turnWork : TurnWork (noteMarkWait d) d := by
  unfold noteMarkWait
  split <;> (constructor <;> rfl)

/-! ## What waits for the peer goes on (R577) -/

theorem sendCut_pinOut (c : Nat) (new : Work → Bool) : (sendCut d c new).duet.pinOut = d.duet.pinOut := by
  simp only [sendCut]
  split
  · rw [sendDuet_duet]
  · rfl

theorem switchMoment_pinOut (sw : TxSwitch) : (switchMoment d sw).duet.pinOut = d.duet.pinOut :=
  (sendCut_pinOut ..).trans (congrArg Duet.pinOut (setEncoding_duet ..))

theorem releaseIntents_turnWork (p : Intent → Bool) : TurnWork (releaseIntents d p) d :=
  (foldl_turnWork _ (fun d (t : Intent) => switchMoment_turnWork d t.switch) ..).trans (by constructor <;> rfl)

theorem releaseIntents_pinOut (p : Intent → Bool) : (releaseIntents d p).duet.pinOut = d.duet.pinOut :=
  foldl_keeps (fun d => d.duet.pinOut) _ (fun d (t : Intent) => switchMoment_pinOut d t.switch) ..

theorem releaseWaits_turnWork (p : Nat → Bool) : TurnWork (releaseWaits d p) d := by
  have hpost : ∀ e (w : MirrorWait), SameWork (post (dropInflight e w.due.origin) w.due) e :=
    fun e w => (post_same ..).trans (dropInflight_same ..)
  refine (releaseIntents_turnWork ..).trans ((foldl_same _ _ hpost _).turnWork.trans ?_)
  constructor <;> rfl

theorem releaseWaits_pinOut (p : Nat → Bool) : (releaseWaits d p).duet.pinOut = d.duet.pinOut := by
  have hpost : ∀ e (w : MirrorWait), (post (dropInflight e w.due.origin) w.due).duet.pinOut = e.duet.pinOut :=
    fun e w => congrArg Duet.pinOut (post_duet ..)
  exact (releaseIntents_pinOut ..).trans (foldl_keeps (fun d => d.duet.pinOut) _ hpost ..)

/-! ## Leaving a role (R593, R597) -/

theorem clearDigests_turnWork : TurnWork (clearDigests d) d := by constructor <;> rfl

theorem leaveRole_turnWork : TurnWork (leaveRole d) d :=
  TurnWork.trans (b := releaseWaits (clearDigests d) (fun _ => true)) (by constructor <;> rfl)
    ((releaseWaits_turnWork ..).trans (clearDigests_turnWork d))

theorem setPin_pinOut (on : Bool) : (setPin d on).duet.pinOut = on := by
  unfold setPin
  split
  · assumption
  · rfl

theorem stepDownTo_eq (cause : Nat) : ∃ payload,
    stepDownTo d cause = emit (setRole (setPin (leaveRole d) false) .syncing) .duet 0x04 payload := ⟨_, rfl⟩

theorem stepDownTo_role (cause : Nat) : (stepDownTo d cause).duet.role = .syncing := by
  obtain ⟨payload, hstep⟩ := stepDownTo_eq d cause
  rw [hstep, emit_duet]
  rfl

theorem stepDownTo_pinOut (cause : Nat) : (stepDownTo d cause).duet.pinOut = false := by
  obtain ⟨payload, hstep⟩ := stepDownTo_eq d cause
  rw [hstep, emit_duet]
  exact setPin_pinOut (leaveRole d) false

theorem stepDownTo_epoch (cause : Nat) : (stepDownTo d cause).duet.epoch = d.duet.epoch := by
  obtain ⟨payload, hstep⟩ := stepDownTo_eq d cause
  rw [hstep, emit_duet]
  exact (setPin_same ..).epoch.trans (leaveRole_turnWork d).epoch

theorem stepDownTo_key (cause : Nat) : (stepDownTo d cause).key = d.key := by
  obtain ⟨payload, hstep⟩ := stepDownTo_eq d cause
  rw [hstep, (emit_same ..).key, setRole_key, (setPin_same ..).key, (leaveRole_turnWork d).key]

/-- A switchover that waits for its acknowledgement ends where the Duet ends. -/
def endSwitching : Device :=
  match d.duet.switching with
  | some x => if x.acked then d else finish d x.origin .busyReferenced (zeros 16)
  | none => d

theorem endSwitching_turnWork : TurnWork (endSwitching d) d := by
  unfold endSwitching
  split
  · split
    · exact .refl d
    · exact (finish_same ..).turnWork
  · exact .refl d

theorem endSwitching_pinOut : (endSwitching d).duet.pinOut = d.duet.pinOut := by
  unfold endSwitching
  split
  · split
    · rfl
    · exact congrArg Duet.pinOut (post_duet ..)
  · rfl

/-- Neither role nor key nor number of a pair; the hold-off starts (R597). -/
def alone : Device :=
  setDuet d { d.duet with
    role := .solo, linkKey := none, pairKey := none, confirmed := false, pairMember := none, peerRole := .solo, held := []
    peerLost := false, selfGrant := false, beatLost := false, lossAt := none, marks := [], knMarks := []
    holdStart := some d.clock, takeover := none, switching := none, testPress := none, bulkAt := none, bulkSent := false
    bulkBad := false, syncPct := 0 }

theorem unpair_eq (here : Bool) :
    unpair d here = emit (performHolds (noteMarkWait (alone (endSwitching
      (releaseWaits (clearDigests d) (fun _ => true)))))) .duet 0x0B [if here then 1#8 else 0#8] := rfl

theorem unpair_duet (here : Bool) :
    (unpair d here).duet = (alone (endSwitching (releaseWaits (clearDigests d) (fun _ => true)))).duet := by
  rw [unpair_eq, emit_duet, performHolds_duet, noteMarkWait_duet]

/-- What ends before the member is alone. -/
theorem endSwitching_released_turnWork :
    TurnWork (endSwitching (releaseWaits (clearDigests d) (fun _ => true))) d :=
  (endSwitching_turnWork _).trans ((releaseWaits_turnWork ..).trans (clearDigests_turnWork d))

theorem unpair_holdStart (here : Bool) : (unpair d here).duet.holdStart = some d.clock := by
  rw [unpair_duet]
  exact congrArg some (endSwitching_released_turnWork d).clock

theorem unpair_pinOut (here : Bool) : (unpair d here).duet.pinOut = d.duet.pinOut := by
  rw [unpair_duet]
  exact (endSwitching_pinOut _).trans (releaseWaits_pinOut (clearDigests d) _)

theorem unpair_key (here : Bool) : (unpair d here).key = d.key := by
  rw [unpair_eq, (emit_same ..).key, (performHolds_turnWork _).key, (noteMarkWait_turnWork _).key]
  exact (endSwitching_released_turnWork d).key

/-! ## The proof run of a disagreement leaves the role and the disagreement (R158, R586) -/

/-- The member's role and the disagreement that it is in. -/
def standing : Role × Option Disagree := (d.duet.role, d.duet.disagree)

theorem emit_standing (src : Source) (t : Nat) (p : Bytes) : standing (emit d src t p) = standing d := by
  rw [standing, emit_duet]
  rfl

theorem scrubTables_standing (found : ProofFindings) : standing (scrubTables d found).1 = standing d := by
  have hentry : ∀ e (i : Nat), standing (disableEnt e i 1) = standing e := fun e i => by
    simp only [disableEnt]
    split
    · split
      · rfl
      · exact emit_standing ..
    · rfl
  have hmac : ∀ e (i : Fin 131072), standing (if Tbl.has e.cls.mac i.val then macUncorrectable e i.val else e) = standing e :=
    fun e i => by
      split
      · exact emit_standing ..
      · rfl
  simp only [scrubTables]
  refine (foldl_keeps standing _ hmac ..).trans ?_
  exact (foldl_keeps standing _ hentry ..).trans (foldl_keeps standing upsetEnt (fun _ _ => rfl) ..)

theorem scrubTables_le (found : ProofFindings) : (scrubTables d found).2 ≤ 3 := by
  simp only [scrubTables]
  (repeat' split) <;> decide

theorem eraseRec_duet (i : Nat) : (eraseRec d i).duet = d.duet := by
  simp only [eraseRec]
  split <;> rfl

theorem assocOut_duet (a cause : Nat) : (assocOut d a cause).duet = d.duet := by
  unfold assocOut
  split
  · split
    · rfl
    · rw [emit_duet]
      exact foldl_keeps Device.duet _ (fun d i => eraseRec_duet d i) ..
  · rfl

theorem proofRec_standing (r : Nat) : standing (proofRec d r) = standing d := by
  unfold proofRec
  split
  · rfl
  · split
    · exact emit_standing ..
    · split
      · rw [standing, knRecordBad, assocOut_duet, emit_duet]
        rfl
      · rfl

theorem verifySlot_standing (i by_ : Nat) : standing (verifySlot d i by_).1 = standing d := by
  have hbad : standing (markBad d i by_) = standing d := by
    simp only [markBad]
    rw [emit_standing]
    split <;> rfl
  simp only [verifySlot]
  split
  · rfl
  · split
    · rfl
    · exact hbad

theorem proofSlots_standing (found : ProofFindings) : standing (proofSlots d found).1 = standing d := by
  have hslot : ∀ e (u : Fin 1024 × Bytes), standing (upsetSlot e u.1 u.2) = standing e := fun e u => by
    unfold upsetSlot
    split <;> rfl
  have hrec : ∀ e (u : Fin 262144 × Bytes), standing (upsetRec e u.1 u.2) = standing e := fun e u => by
    unfold upsetRec
    split <;> rfl
  simp only [proofSlots, sweepSlots]
  refine (foldl_keeps standing _ proofRec_standing ..).trans ?_
  refine (foldl_keeps standing _ (fun _ _ => verifySlot_standing ..) ..).trans ?_
  exact (foldl_keeps standing _ hrec ..).trans (foldl_keeps standing _ hslot ..)

theorem sendDuet_standing (t : Nat) (a : Bool) (p : Bytes) : standing (sendDuet d t a p) = standing d := by
  rw [standing, sendDuet_duet]
  rfl

end

end Sys2Proof.Machine

/-!
PROOF. What each duet-link message does at a member that is not ACTIVE, its holds, and the disagreement: O54.
-/
namespace Sys2Proof.Machine

/-! ## Reception (R570-R572) -/

section
variable {d : Device} {h : DuetHdr} {m : DuetMsg}

theorem receive_of_heard (hh : Heard d h m) : receive d h m = hearMsg (heard d h) m h.epoch h.seq := by
  have hpass : (!authentic d h m || d.duet.linkKey.isNone || !d.duet.confirmed || decide (h.seq ≤ d.duet.rxSeq)) = false := by
    simp [hh.tag, hh.key, hh.joined, hh.newer]
  have hsame : ¬(d.duet.epoch.toNat < h.epoch.toNat ∧ claimsActive m = true) := fun hnewer => by
    rw [hh.epoch] at hnewer
    exact Nat.lt_irrefl _ hnewer.1
  simp only [receive, hpass, Bool.false_eq_true, reduceIte]
  exact congrArg (fun e => hearMsg e m h.epoch h.seq) (if_neg hsame)

/-- A message that is not kept from this member by its role acts. -/
theorem receive_acts (hh : Heard d h m) (hrole : ¬(d.duet.role = .active ∧ forPassive m = true)) :
    receive d h m = act (heard d h) h.seq m := by
  have hstale : ¬h.epoch.toNat < (heard d h).duet.epoch.toNat := by
    rw [hh.epoch]
    exact Nat.lt_irrefl _
  rw [receive_of_heard hh, hearMsg, if_neg (show ¬((heard d h).duet.role = .active ∧ _) from hrole), if_neg hstale,
    if_pos (show h.epoch = (heard d h).duet.epoch from hh.epoch)]

/-- Messages for a member that is not ACTIVE are counted at one that is (R572). -/
theorem receive_counts (hh : Heard d h m) (hrole : d.duet.role = .active) (hpassive : forPassive m = true) :
    receive d h m = count (heard d h) (devCtr 47) := by
  rw [receive_of_heard hh, hearMsg, if_pos ⟨hrole, hpassive⟩]

end

/-! ## MIRROR and BULK_END (R578, R594) -/

section
variable {d : Device} {seq : Nat} {desc buf : Bytes}

theorem startBulk_of_standby (h : d.duet.role = .standby) : startBulk d = d := by
  simp [startBulk, h]

/-- A mirrored command that can be applied is acknowledged and counted. -/
theorem mirrorIn_of_applied {t : Device} (hrole : d.duet.role = .standby) (hgood : d.duet.bulkBad = false)
    (happly : applyMirror d desc buf = some t) :
    mirrorIn d seq desc buf = setDuet (count (ackMirror t seq false) (devCtr 48))
      { (ackMirror t seq false).duet with bulkObjects := t.duet.bulkObjects + 1 } := by
  have hobjects : (ackMirror t seq false).duet.bulkObjects = t.duet.bulkObjects := by rw [ackMirror, sendDuet_duet]
  simp only [mirrorIn, hgood, startBulk_of_standby hrole, happly, ← hobjects]
  rfl

/-- A member that has stepped down, whatever it notes of its bulk transfer. -/
theorem stepDownTo_bulk (d : Device) (cause : Nat) (bad : Bool) :
    let e := setDuet (stepDownTo d cause) { (stepDownTo d cause).duet with bulkAt := none, bulkBad := bad }
    e.duet.role = .syncing ∧ e.duet.pinOut = false ∧ e.duet.epoch = d.duet.epoch ∧ e.key = d.key := by
  have hrole := stepDownTo_role d cause
  have hpin := stepDownTo_pinOut d cause
  have hepoch := stepDownTo_epoch d cause
  have hkey := stepDownTo_key d cause
  generalize stepDownTo d cause = e at *
  exact ⟨hrole, hpin, hepoch, hkey⟩

/-- One that cannot be applied takes the member to SYNCING. -/
theorem mirrorIn_of_notApplied (hrole : d.duet.role = .standby) (hgood : d.duet.bulkBad = false)
    (happly : applyMirror d desc buf = none) :
    mirrorIn d seq desc buf = setDuet (stepDownTo (ackMirror d seq true) 4)
      { (stepDownTo (ackMirror d seq true) 4).duet with bulkAt := none, bulkBad := true } := by
  have hstandby : (ackMirror d seq true).duet.role = .standby := (sendDuet_same ..).role.trans hrole
  simp only [mirrorIn, hgood, startBulk_of_standby hrole, happly, mirrorFailed, hstandby]
  rfl

/-- Nothing but the digest streams differs. -/
def DigestWork (a b : Device) : Prop := a = { b with duet := { b.duet with digests := a.duet.digests } }

theorem DigestWork.trans {a b c : Device} (h : DigestWork a b) (k : DigestWork b c) : DigestWork a c := by
  unfold DigestWork at *
  rw [h, k]

theorem DigestWork.ms {a b : Device} (h : DigestWork a b) : a.ms = b.ms := by
  unfold DigestWork at h
  exact (congrArg Device.ms h :)

theorem DigestWork.key {a b : Device} (h : DigestWork a b) : a.key = b.key := by
  unfold DigestWork at h
  exact (congrArg Device.key h :)

theorem DigestWork.clock {a b : Device} (h : DigestWork a b) : a.clock = b.clock := by
  unfold DigestWork at h
  exact (congrArg Device.clock h :)

theorem foldl_digestWork {α : Type} (g : Device → α → Device) (h : ∀ d a, DigestWork (g d a) d) (l : List α) (d : Device) :
    DigestWork (l.foldl g d) d := by
  induction l generalizing d with
  | nil => rfl
  | cons a l ih => exact (ih (g d a)).trans (h d a)

theorem anchorAssocs_digestWork (d : Device) : DigestWork (anchorAssocs d) d := by
  unfold anchorAssocs
  split
  · exact foldl_digestWork (fun d (e : Nat × Assoc) => anchorAssoc d e.1 e.2) (fun _ _ => rfl) ..
  · rfl

theorem voidCurrent_digestWork (d : Device) (k : Nat) : DigestWork (voidCurrent d k) d := by
  simp only [voidCurrent]
  split <;> rfl

theorem bulkEndIn_of_good (hrole : d.duet.role = .syncing) (hgood : d.duet.bulkBad = false) :
    ∃ payload, bulkEndIn d = anchorAssocs (emit
      (setDuet d { d.duet with role := .standby, bulkAt := none, syncPct := 100 }) .duet 0x06 payload) := by
  simp only [bulkEndIn, hrole, hgood, Bool.not_false, and_self, reduceIte]
  exact ⟨_, rfl⟩

end

/-! ## Marks, resynchronised PNs and anchors (R579, R584, R585) -/

section
variable {d : Device} {seq : Nat}

theorem marksIn_of_sa {i m : Nat} (h : i < 2 ^ 18) : marksIn d seq [(i, m)] =
    sendDuet (count (setDuet d { d.duet with marks := Tbl.put d.duet.marks i { mark := m, pend := none } }) (devCtr 49)) 0x31
      false (leBytes 8 seq) := by
  simp only [marksIn, List.foldl_cons, List.foldl_nil, h, reduceIte]

theorem resyncIn_of_seen {i n : Nat} {ref : W64} {x : Seen} {a : Sa}
    (hseen : (d.duet.history.flatMap Prod.snd).find? (fun y => y.sa == i && y.ref == ref) = some x)
    (hsa : saOf d i = some a) :
    resyncIn d [(i, n, ref)] = setSa d i { a with pn := a.pn + n - x.pn, dirty := true } := by
  simp only [resyncIn, List.foldl_cons, List.foldl_nil, hseen, hsa]

/-- An ANCHOR writes the port's stream, anchored where its frame stands in the history, and renumbers frames in the path. -/
theorem anchorIn_eq (d : Device) (p : Nat) (ref : W64) (w : Nat) :
    ∃ prs x, anchorIn d p ref w = setDigest { d with prs := prs } p x ∧
      x.anchored = (Tbl.getD d.duet.history p []).any (fun y => y.ref == ref) := by
  simp only [anchorIn]
  split
  · next first hfirst =>
    refine ⟨_, _, rfl, ?_⟩
    exact (List.any_eq_true.2 ⟨first, List.mem_of_find?_eq_some hfirst, List.find?_some hfirst⟩).symm
  · next hnone =>
    refine ⟨d.prs, {}, rfl, ?_⟩
    exact (List.any_eq_false.2 (List.find?_eq_none.1 hnone)).symm

theorem digestOf_setDigest (d : Device) (k : Nat) (x : Digest) : digestOf (setDigest d k x) k = x := Tbl.getD_setD ..

theorem digestOf_setDigest_ne (d : Device) {k j : Nat} (x : Digest) (h : j ≠ k) :
    digestOf (setDigest d k x) j = digestOf d j :=
  Tbl.getD_setD_ne _ _ _ _ _ _ h

end

/-! ## Turn intents, cuts and holds (R244, R245) -/

section
variable {d : Device} {c an : Nat} {x : Hold}

theorem encAn_setEncoding {y : Sc} (h : scOf d c = some y) :
    (scOf (setEncoding d c an) c).bind Sc.encAn = if installed d (4 * c + an) = true then some an else none := by
  rw [setEncoding_of_sc d c an h, scOf_setSc]
  rfl

theorem restartCuts_turnWork (d : Device) (c : Nat) : TurnWork (restartCuts d c) d := by constructor <;> rfl

/-- A hold ends: it is gone, and the SC encodes with the AN that it held, where that is installed. -/
structure HoldEnded (e d : Device) (c : Nat) (x : Hold) : Prop where
  holds : e.ms.holds = d.ms.holds.erase x
  encAn : ∀ y, scOf d c = some y →
    (scOf e c).bind Sc.encAn = if installed d (4 * c + x.an) = true then some x.an else none

/-- Changing the encoding AN and dropping the hold, after what leaves SCs, SAs and holds. -/
theorem holdEnded_of_dropHold {e : Device} (hscs : e.ms.scs = d.ms.scs) (hsas : e.ms.sas = d.ms.sas)
    (hholds : e.ms.holds = d.ms.holds) : HoldEnded (dropHold (setEncoding e c x.an) x) d c x where
  holds := by
    have hkept : (setEncoding e c x.an).ms.holds = e.ms.holds := by
      unfold setEncoding
      split <;> rfl
    rw [← hholds, ← hkept]
    rfl
  encAn y hy := by
    have hinstalled : installed d (4 * c + x.an) = installed e (4 * c + x.an) := by rw [installed, saOf, ← hsas]; rfl
    rw [hinstalled]
    exact encAn_setEncoding (by rw [scOf, hscs]; exact hy)

/-- A cut that lists nothing, for an SC that has counted nothing. -/
theorem applyCut_of_empty (hhold : d.ms.holds.find? (fun y => y.sc == c) = some x) (hcuts : cutsOf d c = []) :
    applyCut d c [] =
      dropHold (setEncoding (if d.duet.role = .syncing then restartCuts d c else d) c x.an) x := by
  simp only [applyCut, hhold, hcuts, List.map_nil, List.append_nil, List.eraseDups_nil, List.foldl_nil]

theorem placeByTick_of_hold (hhold : d.ms.holds.find? (fun y => y.sc == c) = some x) : ∃ t ports payload,
    placeByTick d c = emit (restartCuts ((List.foldl voidCurrent
      (placeHeld (elapseTo d (x.since + holdUs d * usTicks)) x t) ports)) c) .macsec 0x12 payload := by
  simp only [placeByTick, hhold]
  exact ⟨_, _, _, rfl⟩

/-- Only holds are added. -/
theorem beginHold_eq (d : Device) (c an : Nat) (scheduled : Bool) : beginHold d c an scheduled =
    { d with ms := { d.ms with holds := (beginHold d c an scheduled).ms.holds } } := by
  unfold beginHold
  split <;> rfl

/-- SC `k` is held. -/
def scHeld (d : Device) (k : Nat) : Bool := d.ms.holds.any (fun y => y.sc == k)

theorem scHeld_beginHold (h : shadowStandby d = true) : scHeld (beginHold d c an true) c = true := by
  unfold beginHold
  split
  · simp [scHeld]
  · next hbusy =>
    simp only [h, Bool.true_and, Bool.not_eq_true', Bool.not_eq_false] at hbusy
    obtain ⟨y, hy, hsc⟩ := List.any_eq_true.1 hbusy
    exact List.any_eq_true.2 ⟨y, hy, (Bool.and_eq_true_iff.1 hsc).1⟩

theorem scHeld_of_held {k : Nat} (h : scHeld d k = true) : scHeld (beginHold d c an true) k = true := by
  unfold beginHold
  split
  · simp only [scHeld] at h
    simp [scHeld, h]
  · exact h

/-- Holds begun for the armed members of a group. -/
def holdAll (d : Device) (l : List (Nat × Sc)) : Device :=
  l.foldl (fun d e => beginHold d e.1 (e.2.armed.getD 0) true) d

theorem holdAll_eq (l : List (Nat × Sc)) (d : Device) :
    holdAll d l = { d with ms := { d.ms with holds := (holdAll d l).ms.holds } } := by
  induction l generalizing d with
  | nil => rfl
  | cons e l ih =>
    rw [holdAll, List.foldl_cons, ← holdAll, ih, beginHold_eq]

theorem scHeld_holdAll_of_held {k : Nat} (l : List (Nat × Sc)) (h : scHeld d k = true) : scHeld (holdAll d l) k = true := by
  induction l generalizing d with
  | nil => exact h
  | cons e l ih => exact ih (scHeld_of_held h)

theorem scHeld_holdAll (l : List (Nat × Sc)) (h : shadowStandby d = true) {e : Nat × Sc} (he : e ∈ l) :
    scHeld (holdAll d l) e.1 = true := by
  induction l generalizing d with
  | nil => simp at he
  | cons x l ih =>
    have hnext : shadowStandby (beginHold d x.1 (x.2.armed.getD 0) true) = true := by
      rw [beginHold_eq]
      exact h
    rcases List.mem_cons.1 he with rfl | he
    · exact scHeld_holdAll_of_held l (scHeld_beginHold h)
    · exact ih hnext he

theorem startHolds_of_shadow {g : Nat} {t : Turn} (hturn : Tbl.get? d.ms.turns g = some t) (hrun : d.time.running = true)
    (hshadow : shadow d = true) (hrole : d.duet.role = .standby) :
    startHolds d g = 
      holdAll (elapse d (ticksUntil d t.base t.at_ 20000))
        (armedMembers (elapse d (ticksUntil d t.base t.at_ 20000)) g) := by
  have hstandby : shadowStandby d = true := by simp [shadowStandby, hshadow, hrole]
  simp only [startHolds, hturn, hstandby, hrun, Bool.and_self, reduceIte, holdAll]

end

/-! ## Digests and disagreements (R585-R587) -/

section
variable {d : Device} {own c : Closed}

theorem digestIn_of_first (h : d.duet.ownClosed.find? (sameWindow c) = none) :
    digestIn d c = setDuet d { d.duet with peerClosed := d.duet.peerClosed ++ [c] } := by
  simp only [digestIn, h]

/-- Two windows that are not void are compared: they agree, or a disagreement begins. -/
theorem compareWindow_of_valid (hown : own.void = false) (hpeer : c.void = false) (hidle : d.duet.disagree = none) :
    (compareWindow d own c).duet.disagree.isSome = (own.sum != c.sum) ∧
      counter (compareWindow d own c) (devCtr 51) = counter d (devCtr 51) + 1#64 ∧ SameWork (compareWindow d own c) d := by
  have hbegin : ∀ e, (beginDisagree e).duet.disagree.isSome = true ∧ SameWork (beginDisagree e) e ∧
      (beginDisagree e).counters = e.counters := fun e => by
    unfold beginDisagree
    split
    · next h => exact ⟨h, .refl e, rfl⟩
    · exact ⟨rfl, by constructor <;> rfl, rfl⟩
  simp only [compareWindow, hidle, hown, hpeer, Option.isSome_none, Bool.or_self, Bool.false_eq_true, reduceIte]
  split
  · next hsum =>
    refine ⟨?_, counter_count .., count_same ..⟩
    simp [hidle, hsum]
  · next hsum =>
    obtain ⟨hsome, hsame, hcounters⟩ := hbegin (emit (count (sendDuet (count d (devCtr 51)) 0x52 false
      (leBytes 1 own.kind ++ leBytes 2 own.index ++ leBytes 8 own.window)) (devCtr 53)) .duet 0x07
      (leBytes 1 own.kind ++ leBytes 2 own.index ++ leBytes 8 own.window))
    refine ⟨?_, ?_, ?_⟩
    · rw [digestMismatch, hsome]
      simp [hsum]
    · rw [digestMismatch, counter, hcounters]
      refine (emit_counter (i := devCtr 51) (by decide) (by decide)).trans ?_
      rw [counter_count_ne (by decide), counter, sendDuet_counters]
      exact counter_count ..
    · exact hsame.trans ((emit_same ..).trans ((count_same ..).trans ((sendDuet_same ..).trans (count_same ..))))

/-- The second of a pair is compared with the first. -/
theorem digestIn_of_second (hfind : d.duet.ownClosed.find? (sameWindow c) = some own) (hown : own.void = false)
    (hpeer : c.void = false) (hidle : d.duet.disagree = none) :
    (digestIn d c).duet.disagree.isSome = (own.sum != c.sum) ∧
      counter (digestIn d c) (devCtr 51) = counter d (devCtr 51) + 1#64 ∧ SameWork (digestIn d c) d := by
  obtain ⟨hdisagree, hcounter, hsame⟩ := compareWindow_of_valid hown hpeer
    (d := setDuet d { d.duet with ownClosed := d.duet.ownClosed.filter (fun x => !sameWindow c x) }) hidle
  simp only [digestIn, hfind]
  exact ⟨hdisagree, hcounter, hsame.trans (by constructor <;> rfl)⟩

theorem beginDisagree_of_none (h : d.duet.disagree = none) : beginDisagree d =
    setDuet d { d.duet with disagree := some { started := d.clock, own := none, peer := none } } := by
  simp only [beginDisagree, h, Option.isSome_none, Bool.false_eq_true, reduceIte]
  rfl

theorem settleDisagree_of_unknown {x : Disagree} (h : d.duet.disagree = some x) (hunknown : x.own = none ∨ x.peer = none) :
    settleDisagree d = d := by
  unfold settleDisagree
  split
  · next started own peer hboth =>
    rw [h] at hboth
    obtain rfl := Option.some.inj hboth
    simp at hunknown
  · rfl

theorem peerResult_of_first {x : Disagree} {flags : Nat} (h : d.duet.disagree = some x) (hown : x.own = none) :
    peerResult d flags = setDuet d { d.duet with disagree := some { x with peer := some flags } } := by
  have hgoing : beginDisagree d = d := by simp [beginDisagree, h]
  simp only [peerResult, hgoing, h]
  exact settleDisagree_of_unknown rfl (.inl hown)

theorem ownResult_of_first {x : Disagree} {flags : Nat} (h : d.duet.disagree = some x) (hpeer : x.peer = none) :
    ownResult d flags = setDuet d { d.duet with disagree := some { x with own := some flags } } := by
  simp only [ownResult, h]
  exact settleDisagree_of_unknown rfl (.inr hpeer)

/-- A proof run that no press fails: the presses stay, and its flags have bit 3 (log 15). -/
theorem disagreeRun_of_goodPresses {found : ProofFindings} {x : Disagree} (h : d.duet.disagree = some x)
    (hpresses : found.badPresses = []) :
    ∃ e n, disagreeRun d found = ownResult e n ∧ standing e = standing d ∧ n / 8 = 1 := by
  have hnone : ∀ l : List Nat, l.filter (fun m => found.badPresses.any (fun b => b.val == m)) = [] := fun l => by
    simp [hpresses]
  have hjudge : ∀ l : List Nat, judgePresses d l [] false = d := fun l =>
    foldl_keeps id _ (fun _ _ => rfl) l d
  simp only [disagreeRun, h, hnone, hjudge, Option.isNone_some, Bool.false_eq_true, reduceIte]
  refine ⟨_, _, rfl, ?_, ?_⟩
  · rw [sendDuet_standing, proofSlots_standing, scrubTables_standing]
  · have hle := scrubTables_le d found
    simp only [List.isEmpty_nil, reduceIte]
    split <;> omega

end

/-- A refusal of a pairing (log 94). -/
theorem unpairIn_of_pairing {d : Device} {h : DuetHdr} {p : Pairing} (hpairing : d.duet.pairing = some p)
    (hjoined : d.duet.confirmed = false) (hopen : p.outcome = none) :
    unpairIn d h = setDuet d { d.duet with
      pairing := some { p with outcome := some (8, 1 + Config.peerReason d.clock % 7) } } := by
  simp only [unpairIn, hpairing, hjoined, hopen, setPairing, Option.isSome_none, Bool.false_eq_true, reduceIte]

theorem unpairIn_of_heard {d : Device} {h : DuetHdr} (hh : Heard d h .unpair) : unpairIn d h = unpair (heard d h) false := by
  have hreceive : receive d h .unpair = unpair (heard d h) false := receive_acts hh (by simp [forPassive])
  unfold unpairIn
  split
  · rw [if_pos hh.joined, hreceive]
  · exact hreceive

theorem stepDownIn_of_standby {d : Device} (h : d.duet.role = .standby) : stepDownIn d =
    setDuet (stepDownTo d 0) { (stepDownTo d 0).duet with bulkAt := none, bulkBad := false } := by
  simp only [stepDownIn, h, reduceIte]

end Sys2Proof.Machine

/-!
PROOF. The rows of the duet link at a member that is not ACTIVE: O54.
-/
namespace Sys2Proof.Machine

/-! ## What the rows leave -/

section
variable {d e : Device} {c : Nat} {x : Hold}

/-- What follows the end of a hold and leaves holds and SCs. -/
theorem HoldEnded.of_ms {e' : Device} (h : HoldEnded e d c x) (hholds : e'.ms.holds = e.ms.holds)
    (hscs : e'.ms.scs = e.ms.scs) : HoldEnded e' d c x where
  holds := hholds.trans h.holds
  encAn y hy := by
    have hsame : scOf e' c = scOf e c := congrArg (Tbl.get? · c) hscs
    rw [hsame]
    exact h.encAn y hy

theorem applyCut_holdEnded (hhold : d.ms.holds.find? (fun y => y.sc == c) = some x) (hcuts : cutsOf d c = []) :
    HoldEnded (applyCut d c []) d c x := by
  rw [applyCut_of_empty hhold hcuts]
  refine holdEnded_of_dropHold ?_ ?_ ?_ <;> (split <;> rfl)

theorem applyCut_key (hhold : d.ms.holds.find? (fun y => y.sc == c) = some x) (hcuts : cutsOf d c = []) :
    (applyCut d c []).key = d.key := by
  rw [applyCut_of_empty hhold hcuts]
  refine (setEncoding_turnWork ..).key.trans ?_
  split <;> rfl

theorem placeHeld_holdEnded (t : Nat) : HoldEnded (placeHeld d x t) d x.sc x :=
  holdEnded_of_dropHold (by rw [retarget_ms]) (by rw [retarget_ms]) (by rw [retarget_ms])

theorem HoldEnded.of_elapseTo {t : Nat} (h : HoldEnded e (elapseTo d t) c x) : HoldEnded e d c x where
  holds := by rw [h.holds, elapseTo_ms]
  encAn y hy := by
    have hinstalled : installed (elapseTo d t) (4 * c + x.an) = installed d (4 * c + x.an) := by
      rw [installed, saOf, elapseTo_ms]
      rfl
    rw [h.encAn y (by rw [scOf, elapseTo_ms]; exact hy), hinstalled]

/-- A hold that no cut ends in time ends by a tick of the member's own (R245). -/
theorem placeByTick_ends (hhold : d.ms.holds.find? (fun y => y.sc == c) = some x) :
    HoldEnded (placeByTick d c) d c x ∧ (placeByTick d c).key = d.key ∧
      (placeByTick d c).clock = max d.clock (x.since + holdUs d * usTicks) := by
  obtain ⟨t, ports, payload, hplace⟩ := placeByTick_of_hold hhold
  obtain rfl : x.sc = c := by simpa using List.find?_some hhold
  rw [hplace]
  generalize x.since + holdUs d * usTicks = late
  have hended := (placeHeld_holdEnded (d := elapseTo d late) (x := x) t).of_elapseTo
  have hplaced := placeHeld_turnWork (elapseTo d late) x t
  generalize placeHeld (elapseTo d late) x t = placed at hended hplaced ⊢
  have hvoid := foldl_digestWork voidCurrent voidCurrent_digestWork ports placed
  generalize ports.foldl voidCurrent placed = voided at hvoid ⊢
  refine ⟨hended.of_ms ?_ ?_, ?_, ?_⟩
  · rw [(emit_same ..).ms, ← hvoid.ms]
    rfl
  · rw [(emit_same ..).ms, ← hvoid.ms]
    rfl
  · rw [(emit_same ..).key, (restartCuts_turnWork ..).key, hvoid.key, hplaced.key, elapseTo_key]
  · rw [(emit_same ..).clock, (restartCuts_turnWork ..).clock, hvoid.clock, hplaced.clock, elapseTo_clock]

end

/-- Holds begun later change the clock and the holds, and leave SCs and keys. -/
theorem holdAll_elapse (d : Device) (n g : Nat) (hstandby : shadowStandby d = true) :
    (∀ k x, (k, x) ∈ armedMembers d g → scHeld (holdAll (elapse d n) (armedMembers (elapse d n) g)) k = true) ∧
      (holdAll (elapse d n) (armedMembers (elapse d n) g)).clock = d.clock + n ∧
      (holdAll (elapse d n) (armedMembers (elapse d n) g)).ms.scs = d.ms.scs ∧
      (holdAll (elapse d n) (armedMembers (elapse d n) g)).key = d.key := by
  have hlater : shadowStandby (elapse d n) = true := hstandby
  refine ⟨fun k x hmem => scHeld_holdAll _ hlater (e := (k, x)) hmem, ?_, ?_, ?_⟩ <;> (rw [holdAll_eq]; rfl)

/-- The instant before a turn: a STANDBY with a shadow holds every armed member of the group. -/
theorem startHolds_holds {d : Device} {g : Nat} {t : Turn} (hturn : Tbl.get? d.ms.turns g = some t)
    (hrun : d.time.running = true) (hshadow : shadow d = true) (hrole : d.duet.role = .standby) :
    (∀ k x, (k, x) ∈ armedMembers d g → scHeld (startHolds d g) k = true) ∧
      (startHolds d g).clock = d.clock + ticksUntil d t.base t.at_ 20000 ∧ (startHolds d g).ms.scs = d.ms.scs ∧
      (startHolds d g).key = d.key := by
  rw [startHolds_of_shadow hturn hrun hshadow hrole]
  exact holdAll_elapse d _ g (by simp [shadowStandby, hshadow, hrole])

/-- BULK_END at a good SYNCING member: STANDBY, and what remains beside its Duet stays. -/
theorem bulkEndIn_stands {d : Device} (hrole : d.duet.role = .syncing) (hgood : d.duet.bulkBad = false) :
    (bulkEndIn d).duet.role = .standby ∧ (bulkEndIn d).duet.syncPct = 100 ∧ (bulkEndIn d).duet.bulkAt = none ∧
      (bulkEndIn d).duet.marks = d.duet.marks ∧ (bulkEndIn d).key = d.key ∧ (bulkEndIn d).ms = d.ms ∧
      (bulkEndIn d).regs = d.regs := by
  obtain ⟨payload, hend⟩ := bulkEndIn_of_good hrole hgood
  rw [hend, anchorAssocs_digestWork]
  refine ⟨?_, ?_, ?_, ?_, (emit_same ..).key, (emit_same ..).ms, emit_regs ..⟩ <;>
    (dsimp only; rw [emit_duet]; rfl)

/-! ## The rows -/

section
variable (h : DuetHdr) (s : State)

theorem exec_mirrorRx (desc buf : Bytes) :
    exec (.mirrorRx h desc buf) s = .next (s.having (receive s.dev h (.mirror (fit 64 desc) buf))) := rfl

theorem exec_bulkEndRx : exec (.bulkEndRx h) s = .next (s.having (receive s.dev h .bulkEnd)) := rfl

theorem exec_markRx (marks : List (Nat × Nat)) :
    exec (.markRx h marks) s = .next (s.having (receive s.dev h (.mark marks))) := rfl

theorem exec_pnResyncRx (triples : List (Nat × Nat × W64)) :
    exec (.pnResyncRx h triples) s = .next (s.having (receive s.dev h (.resync triples))) := rfl

theorem exec_anchorRx (p : Fin 128) (ref : W64) (w : Nat) :
    exec (.anchorRx h p ref w) s = .next (s.having (receive s.dev h (.anchor p ref w))) := rfl

theorem exec_turnIntentRx (sc : Fin 65536) (an : Fin 4) :
    exec (.turnIntentRx h sc an) s = .next (s.having (receive s.dev h (.turnIntent sc an))) := rfl

theorem exec_turnCutRx_nil (sc : Fin 65536) :
    exec (.turnCutRx h sc []) s = .next (s.having (receive s.dev h (.turnCut sc []))) := rfl

theorem exec_shadowHoldTimeout (sc : Fin 65536) :
    exec (.shadowHoldTimeout sc) s = .next (s.having (placeByTick s.dev sc)) := rfl

theorem exec_standbyTurnHoldStart (g : Fin 4096) :
    exec (.standbyTurnHoldStart g) s = .next (s.having (startHolds s.dev g)) := rfl

theorem exec_stepDownRx : exec (.stepDownRx h) s = .next (s.having (receive s.dev h .stepDown)) := rfl

theorem exec_unpairRx : exec (.unpairRx h) s = .next (s.having (unpairIn s.dev h)) := rfl

theorem exec_digestRx (kind : Fin 2) (idx : Fin 16384) (w : Nat) (v : W64) (void : Bool) :
    exec (.digestRx h kind idx w v void) s = .next (s.having (receive s.dev h
      (.digest { kind := kind, index := idx, window := w, sum := v, void := void, sas := [] }))) := rfl

theorem exec_mismatchRx (kind : Fin 2) (idx : Fin 16384) (w : Nat) :
    exec (.mismatchRx h kind idx w) s = .next (s.having (receive s.dev h (.mismatch kind idx w))) := rfl

theorem exec_proofResultRx (flags : Byte) :
    exec (.proofResultRx h flags) s = .next (s.having (receive s.dev h (.proofResult flags.toNat))) := rfl

theorem exec_disagreeProofRunDone (found : ProofFindings) :
    exec (.disagreeProofRunDone found) s = .next (s.having (disagreeRun s.dev found)) := rfl

end

/-- Settles O54: a message that the member's role lets through acts on the device that has heard it, and each action is the
one that its lemma above states. -/
theorem duetStandbyApplies : Obligations.DuetStandbyApplies := by
  refine ⟨?mirror, ?bulkEnd, ?mark, ?resync, ?anchor, ?intent, ?cut, ?timeout, ?holdStart, ?stepDown, ?refused, ?unpair,
    ?digest, ?mismatch, ?peerResult, ?ownResult⟩
  case mirror =>
    intro h desc buf s hh
    refine ⟨fun hactive => ?_, fun hrole hgood => ⟨fun t happly => ?_, fun hnone => ?_⟩⟩
    · rw [exec_mirrorRx, receive_counts hh hactive rfl]
    · rw [exec_mirrorRx, receive_acts hh (by simp [hrole]), act, mirrorIn_of_applied (d := heard s.dev h) hrole hgood happly]
      refine ⟨_, rfl, rfl, sendDuet_regs .., ?_⟩
      exact SameWork.trans (b := count (ackMirror t h.seq false) (devCtr 48)) (by constructor <;> rfl)
        ((count_same ..).trans (sendDuet_same ..))
    · rw [exec_mirrorRx, receive_acts hh (by simp [hrole]), act,
        mirrorIn_of_notApplied (d := heard s.dev h) hrole hgood hnone]
      obtain ⟨hdown, hpin, -, hkey⟩ := stepDownTo_bulk (ackMirror (heard s.dev h) h.seq true) 4 true
      exact ⟨_, rfl, hdown, rfl, hpin, hkey.trans (sendDuet_same ..).key⟩
  case bulkEnd =>
    intro h s hh hrole hgood
    rw [exec_bulkEndRx, receive_acts hh (by simp [hrole]), act]
    exact ⟨_, rfl, bulkEndIn_stands (d := heard s.dev h) hrole hgood⟩
  case mark =>
    intro h i m s hh hrole hi
    rw [exec_markRx, receive_acts hh (by simp [hrole]), act, marksIn_of_sa hi]
    refine ⟨_, rfl, ?_, ?_, ?_, ?_⟩
    · rw [sendDuet_duet]
      rfl
    · rw [sendDuet_duet]
      rfl
    · rw [counter, sendDuet_counters]
      exact counter_count ..
    · exact (sendDuet_same ..).trans ((count_same ..).trans (by constructor <;> rfl))
  case resync =>
    intro h i n ref s x a hh hrole hseen hsa
    rw [exec_pnResyncRx, receive_acts hh (by simp [hrole]), act, resyncIn_of_seen (d := heard s.dev h) hseen hsa]
  case anchor =>
    intro h p ref w s hh hrole
    obtain ⟨prs, x, hanchor, hanchored⟩ := anchorIn_eq (heard s.dev h) p ref w
    rw [exec_anchorRx, receive_acts hh (by simp [hrole]), act, hanchor]
    refine ⟨_, rfl, ?_, fun k hk => digestOf_setDigest_ne _ x hk, rfl, rfl, by constructor <;> rfl⟩
    rw [digestOf_setDigest]
    exact hanchored
  case intent =>
    intro h sc an s hh hrole
    rw [exec_turnIntentRx, receive_acts hh (by simp [hrole]), act, intentIn]
    have hsent := fun d => sendDuet_same d 0x21 false (leBytes 8 h.seq ++ [0#8])
    exact ⟨_, rfl, (hsent _).ms, { hsent _ with ms := rfl }⟩
  case cut =>
    intro h sc s x hh hrole hhold hcuts
    rw [exec_turnCutRx_nil, receive_acts hh (by simp [hrole]), act]
    have hended := applyCut_holdEnded (d := heard s.dev h) hhold hcuts
    exact ⟨_, rfl, hended.holds, hended.encAn, applyCut_key (d := heard s.dev h) hhold hcuts⟩
  case timeout =>
    intro sc s x hhold
    obtain ⟨hended, hkey, hclock⟩ := placeByTick_ends hhold
    exact ⟨_, exec_shadowHoldTimeout s sc, hended.holds, hclock, hended.encAn, hkey⟩
  case holdStart =>
    intro g s t hturn hrun hshadow hrole
    exact ⟨_, exec_standbyTurnHoldStart s g, startHolds_holds hturn hrun hshadow hrole⟩
  case stepDown =>
    intro h s hh hrole
    rw [exec_stepDownRx, receive_acts hh (by simp [hrole]), act, stepDownIn_of_standby (d := heard s.dev h) hrole]
    exact ⟨_, rfl, stepDownTo_bulk (heard s.dev h) 0 false⟩
  case refused =>
    intro h s p hpairing hjoined hopen
    rw [exec_unpairRx, unpairIn_of_pairing hpairing hjoined hopen]
    have hreason := Nat.mod_lt (Config.peerReason s.dev.clock) (show 0 < 7 by decide)
    exact ⟨_, rfl, Nat.le_add_right .., by omega⟩
  case unpair =>
    intro h s hh
    rw [exec_unpairRx, unpairIn_of_heard hh]
    refine ⟨_, rfl, ?_, ?_, ?_, ?_, ?_, unpair_holdStart .., unpair_pinOut .., unpair_key ..⟩ <;> (rw [unpair_duet]; rfl)
  case digest =>
    rintro h kind idx w v void s c hh rfl
    refine ⟨fun hnone => ?_, fun own hfind hown hvoid hidle => ?_⟩
    · rw [exec_digestRx, receive_acts hh (by simp [forPassive]), act, digestIn_of_first (d := heard s.dev h) hnone]
      rfl
    · rw [exec_digestRx, receive_acts hh (by simp [forPassive]), act]
      obtain ⟨hdisagree, hcounter, hsame⟩ := digestIn_of_second (d := heard s.dev h) hfind hown hvoid hidle
      exact ⟨_, rfl, hdisagree, hcounter, hsame.trans (by constructor <;> rfl)⟩
  case mismatch =>
    intro h kind idx w s hh hidle
    rw [exec_mismatchRx, receive_acts hh (by simp [forPassive]), act, beginDisagree_of_none (d := heard s.dev h) hidle]
    rfl
  case peerResult =>
    intro h flags s x hh hdisagree hown
    rw [exec_proofResultRx, receive_acts hh (by simp [forPassive]), act,
      peerResult_of_first (d := heard s.dev h) hdisagree hown]
  case ownResult =>
    intro found s x hdisagree hpeer hpresses
    obtain ⟨e, n, hrun, hstanding, hflags⟩ := disagreeRun_of_goodPresses hdisagree hpresses
    obtain ⟨hrole, hsame⟩ := Prod.mk.inj hstanding
    rw [exec_disagreeProofRunDone, hrun, ownResult_of_first (hsame.trans hdisagree) hpeer]
    exact ⟨_, n, rfl, rfl, hflags, hrole⟩

end Sys2Proof.Machine

/-!
PROOF. What a change of a defect, its consequent actions and the judgement of traces leave of the device (R287-R296, R318).
-/
namespace Sys2Proof.Machine

/-! ## Devices that agree but for defects and what follows from them -/

/-- The line framing without its defects and the records of their transitions. -/
def Frm.steady (x : Frm) : Frm := { x with defects := [], path := [], rises := [], falls := [] }

/-- `a` has come from `b` by changes of port defects with these codes, of path defects, and of the associations that they
withhold: only these, their latches and reporting differ, and no latch has been cleared. -/
structure LineWork (codes : List Nat) (a b : Device) : Prop where
  work : SameWork { a with frm := b.frm, kn := b.kn } b
  frm : a.frm.steady = b.frm.steady
  defects : ∀ q c, c ∉ codes → hasDefect a q c = hasDefect b q c
  latched : ∀ off k, bit (reg b off) k = true → bit (reg a off) k = true
  counters : ∀ i, i ≠ devCtr 56 → i ≠ devCtr 57 → counter a i = counter b i

section
variable {l m : List Nat} {a b c : Device}

theorem LineWork.refl (l : List Nat) (d : Device) : LineWork l d d :=
  ⟨.refl d, rfl, fun _ _ _ => rfl, fun _ _ h => h, fun _ _ _ => rfl⟩

theorem LineWork.trans (h : LineWork l a b) (k : LineWork l b c) : LineWork l a c where
  work := SameWork.trans (b := { b with frm := c.frm, kn := c.kn }) { h.work with frm := rfl, kn := rfl } k.work
  frm := h.frm.trans k.frm
  defects q n hn := (h.defects q n hn).trans (k.defects q n hn)
  latched off n hn := h.latched off n (k.latched off n hn)
  counters i hmade hlost := (h.counters i hmade hlost).trans (k.counters i hmade hlost)

theorem LineWork.mono (h : LineWork l a b) (hsub : l ⊆ m) : LineWork m a b :=
  { h with defects := fun q c hc => h.defects q c fun hl => hc (hsub hl) }

theorem LineWork.of_nil (h : LineWork [] a b) : LineWork l a b := h.mono (List.nil_subset l)

/-- Reporting that leaves the registers changes no defect. -/
theorem LineWork.of_same (h : SameWork a b) (hregs : a.regs = b.regs)
    (hcounters : ∀ i, i ≠ devCtr 56 → i ≠ devCtr 57 → counter a i = counter b i) : LineWork [] a b where
  work := { h with frm := rfl, kn := rfl }
  frm := congrArg Frm.steady h.frm
  defects q c _ := by simp only [hasDefect, portDefects, h.frm]
  latched off k hk := by rwa [reg_congr hregs h.glb]
  counters := hcounters

theorem foldl_lineWork {α : Type} (g : Device → α → Device) (h : ∀ d x, LineWork l (g d x) d) (xs : List α)
    (d : Device) : LineWork l (xs.foldl g d) d := by
  induction xs generalizing d with
  | nil => exact .refl l d
  | cons x xs ih => exact (ih (g d x)).trans (h d x)

theorem LineWork.clock (h : LineWork l a b) : a.clock = b.clock :=
  SameWork.clock (a := { a with frm := b.frm, kn := b.kn }) h.work

theorem LineWork.boot (h : LineWork l a b) : a.boot = b.boot :=
  SameWork.boot (a := { a with frm := b.frm, kn := b.kn }) h.work

theorem LineWork.key (h : LineWork l a b) : a.key = b.key :=
  SameWork.key (a := { a with frm := b.frm, kn := b.kn }) h.work

theorem LineWork.ms (h : LineWork l a b) : a.ms = b.ms :=
  SameWork.ms (a := { a with frm := b.frm, kn := b.kn }) h.work

theorem LineWork.stream (h : LineWork l a b) (p lane : Nat) : stream a p lane = stream b p lane := by
  have hstreams : a.frm.streams = b.frm.streams := (congrArg Frm.streams h.frm :)
  simp only [Machine.stream, hstreams]

theorem LineWork.trace (h : LineWork l a b) (kind i : Nat) : trace a kind i = trace b kind i := by
  have htraces : a.frm.traces = b.frm.traces := (congrArg Frm.traces h.frm :)
  simp only [Machine.trace, htraces]

end

/-! ## Defects and their records (R287, R318) -/

theorem bit_mask_single (n k : Nat) : bit (mask n n) k = (decide (k < 32) && decide (n = k)) := by
  have hword : mask n n = BitVec.ofNat 32 (2 ^ n) := by
    rw [mask, Nat.add_sub_cancel_left, Nat.pow_one, Nat.one_mul]
  rw [bit, hword, BitVec.getLsbD_ofNat, Nat.testBit_two_pow]

theorem bit_of_ge (w : W32) {k : Nat} (hk : 32 ≤ k) : bit w k = false := BitVec.getLsbD_of_ge w k hk

/-- A bit that is set stays set where `setBits` sets bits. -/
theorem bit_reg_setBits_mono (d : Device) (o : Nat) (m : W32) {off k : Nat} (h : bit (reg d off) k = true) :
    bit (reg (setBits d o m m) off) k = true := by
  by_cases hk : k < 32
  · by_cases hoff : off = o
    · subst hoff
      rw [reg_setBits, bit_merge _ _ _ hk]
      split
      · assumption
      · exact h
    · rwa [reg_setBits_ne _ _ _ _ _ hoff]
  · rw [bit_of_ge _ (by omega)] at h
    contradiction

section
variable (d : Device)

theorem emit_lineWork (src : Source) (t : Nat) (p : Bytes) : LineWork [] (emit d src t p) d :=
  .of_same (emit_same ..) (emit_regs ..) fun _ => emit_counter

theorem setEdge_lineWork (raised : Bool) (key : Nat) (x : Edge) : LineWork [] (setEdge d raised key x) d := by
  cases raised <;> exact ⟨by constructor <;> rfl, rfl, fun _ _ _ => rfl, fun _ _ h => h, fun _ _ _ => rfl⟩

theorem edgeEvent_lineWork (key p slotNo code : Nat) (raised : Bool) :
    LineWork [] (edgeEvent d key p slotNo code raised) d := by
  simp only [edgeEvent, writeEdge]
  split
  · exact (emit_lineWork ..).trans (setEdge_lineWork ..)
  · exact setEdge_lineWork ..

theorem edgeEvent_kn (key p slotNo code : Nat) (raised : Bool) : (edgeEvent d key p slotNo code raised).kn = d.kn := by
  have hset : ∀ x, (setEdge d raised key x).kn = d.kn := fun _ => rfl
  simp only [edgeEvent, writeEdge]
  split
  · rw [(emit_same ..).kn, hset]
  · exact hset _

/-- The defects of port `p` with the bit of `code` at `v`. -/
def defectsWith (p code : Nat) (v : Bool) : W32 :=
  (portDefects d p &&& ~~~(mask code code)) ||| (if v then mask code code else 0#32)

/-- The device with these defects, the change neither latched nor recorded yet. -/
def withDefect (p code : Nat) (v : Bool) : Device :=
  { d with frm := { d.frm with defects := Tbl.setD d.frm.defects p 1#32 (defectsWith d p code v) } }

theorem bit_defectsWith (p code : Nat) {k : Nat} (v : Bool) (hk : k < 32) :
    bit (defectsWith d p code v) k = if code = k then v else hasDefect d p k := by
  have hzero : bit 0#32 k = false := BitVec.getLsbD_zero
  rw [defectsWith, bit_or, bit_and, bit_not _ hk, bit_mask_single, hasDefect]
  by_cases hcode : code = k <;> cases v <;> simp [hcode, hk, hzero, bit_mask_single]

theorem hasDefect_withDefect (p : Nat) {code : Nat} (v : Bool) (hcode : code < 32) :
    hasDefect (withDefect d p code v) p code = v := by
  rw [hasDefect, portDefects, withDefect, Tbl.getD_setD, bit_defectsWith _ _ _ _ hcode, if_pos rfl]

theorem hasDefect_withDefect_ne (p q : Nat) {code c : Nat} (v : Bool) (hc : c ≠ code) :
    hasDefect (withDefect d p code v) q c = hasDefect d q c := by
  by_cases hk : c < 32
  · by_cases hq : q = p
    · subst hq
      rw [hasDefect, portDefects, withDefect, Tbl.getD_setD, bit_defectsWith _ _ _ _ hk, if_neg hc.symm]
    · simp only [hasDefect, portDefects, withDefect, Tbl.getD_setD_ne _ _ _ _ _ _ hq]
  · simp only [hasDefect, bit_of_ge _ (Nat.le_of_not_lt hk)]

/-- A change of a defect: its bit, the latch of a rise, and the record of the transition. -/
theorem setDefect_of_change {p code : Nat} {v : Bool} (h : hasDefect d p code ≠ v) :
    setDefect d p code v = edgeEvent
      (if v then setBits (withDefect d p code v) (0xC0008 + 0x40 * p) (mask code code) (mask code code)
        else withDefect d p code v) (128 * code + p) p 0xFFFF code v := if_neg h

theorem latchRise_lineWork (p code off : Nat) (v : Bool) : LineWork [code]
    (if v then setBits (withDefect d p code v) off (mask code code) (mask code code) else withDefect d p code v) d := by
  have hdefects : ∀ q c, c ∉ [code] → hasDefect (withDefect d p code v) q c = hasDefect d q c := fun q c hc =>
    hasDefect_withDefect_ne d p q v (by simpa using hc)
  cases v
  · exact ⟨by constructor <;> rfl, rfl, hdefects, fun _ _ h => h, fun _ _ _ => rfl⟩
  · exact ⟨by constructor <;> rfl, rfl, hdefects, fun _ _ h => bit_reg_setBits_mono _ _ _ h, fun _ _ _ => rfl⟩

theorem setDefect_lineWork (p code : Nat) (v : Bool) : LineWork [code] (setDefect d p code v) d := by
  by_cases h : hasDefect d p code = v
  · rw [setDefect_of_same h]
    exact .refl ..
  · rw [setDefect_of_change d h]
    exact (edgeEvent_lineWork ..).of_nil.trans (latchRise_lineWork ..)

theorem setDefect_kn (p code : Nat) (v : Bool) : (setDefect d p code v).kn = d.kn := by
  by_cases h : hasDefect d p code = v
  · rw [setDefect_of_same h]
  · rw [setDefect_of_change d h, edgeEvent_kn]
    cases v <;> rfl

theorem hasDefect_setDefect (p : Nat) {code : Nat} (v : Bool) (hcode : code < 32) :
    hasDefect (setDefect d p code v) p code = v := by
  by_cases h : hasDefect d p code = v
  · rwa [setDefect_of_same h]
  · rw [setDefect_of_change d h, (edgeEvent_lineWork ..).defects _ _ List.not_mem_nil]
    cases v <;> exact hasDefect_withDefect d p _ hcode

/-- The rise of a defect is latched in FRM_LATCH (Table 6-11). -/
theorem bit_latch_setDefect {p code : Nat} (hcode : code < 32) (h : hasDefect d p code = false) :
    bit (reg (setDefect d p code true) (0xC0008 + 0x40 * p)) code = true := by
  rw [setDefect_of_change d (by simp [h])]
  apply (edgeEvent_lineWork ..).latched
  have hmask : bit (mask code code) code = true := by simp [bit_mask_single, hcode]
  exact (bit_reg_setBits _ _ _ _ hcode hmask).trans hmask

theorem setPath_lineWork (p i code : Nat) (v : Bool) : LineWork [] (setPath d p i code v) d := by
  simp only [setPath]
  split
  · exact .refl ..
  · exact (edgeEvent_lineWork ..).trans
      ⟨by constructor <;> rfl, rfl, fun _ _ _ => rfl, fun _ _ h => h, fun _ _ _ => rfl⟩

/-! ## Consequent actions (R288-R290, R295, R304) -/

theorem settleLine_lineWork (p : Nat) : LineWork [15, 16] (settleLine d p) d := by
  simp only [settleLine]
  refine ((setDefect_lineWork _ p 16 _).mono (by simp)).trans (((setDefect_lineWork _ p 15 _).mono (by simp)).trans ?_)
  exact ⟨by constructor <;> rfl, rfl, fun _ _ _ => rfl, fun _ _ h => h, fun _ _ _ => rfl⟩

theorem settleAll_lineWork : LineWork [15, 16] (settleAll d) d := foldl_lineWork _ settleLine_lineWork ..

theorem checkSize_lineWork (i : Nat) : LineWork [] (checkSize d i) d := by
  simp only [checkSize]
  split
  · next p hport =>
    generalize (if (i - slotBase d p) % sizeSlots (conSize (connection d i)) = 0 then sizeDiffers d (connection d i)
      else none) = found
    split
    · exact (emit_lineWork ..).trans (setPath_lineWork ..)
    · exact setPath_lineWork ..
  · exact .refl ..

theorem checkSizes_lineWork : LineWork [] (checkSizes d) d := foldl_lineWork _ checkSize_lineWork ..

/-- A trace raises TIM of its port or of its path (Table 6-3). -/
theorem tracePort_code {kind i p code : Nat} (h : tracePort d kind i = some (p, code)) :
    code = 34 ∨ code = 5 ∨ code = 10 := by
  unfold tracePort at h
  split at h
  case h_2 =>
    obtain ⟨q, -, hq⟩ := Option.map_eq_some_iff.1 h
    exact .inl (congrArg Prod.snd hq).symm
  all_goals
    split at h
    · have hcode := congrArg Prod.snd (Option.some.inj h)
      simp only at hcode
      omega
    · contradiction

theorem evalTim_lineWork (kind i : Nat) : LineWork [5, 10, 15, 16] (evalTim d kind i) d := by
  unfold evalTim
  split
  · next p code hport =>
    refine ((settleLine_lineWork ..).mono (by simp)).trans ?_
    split
    · exact (setPath_lineWork ..).of_nil
    · next hpath =>
      refine (setDefect_lineWork ..).mono ?_
      rcases (tracePort_code d hport).resolve_left hpath with rfl | rfl <;> simp
  · exact .refl ..

theorem evalPathLabel_lineWork (p i : Nat) : LineWork [15, 16] (evalPathLabel d p i) d := by
  unfold evalPathLabel
  split
  · exact (settleLine_lineWork ..).trans ((setPath_lineWork ..).trans (setPath_lineWork ..)).of_nil
  · exact .refl ..

end

end Sys2Proof.Machine

/-!
PROOF. The frame search, loss of frame, defects and K bytes: O48.
-/
namespace Sys2Proof.Machine

/-! ## Streams (R278-R283) -/

section
variable (d : Device) (p lane : Nat)

theorem stream_setStream (x : Stream) : stream (setStream d p lane x) p lane = x := Tbl.getD_setD ..

theorem SameWork.setStream {a : Device} (h : SameWork a d) (x : Stream) :
    SameWork { setStream a p lane x with frm := d.frm } d := { h with frm := rfl }

theorem setDefect_stream (code : Nat) (v : Bool) (q : Nat) : stream (setDefect d p code v) q lane = stream d q lane :=
  (setDefect_lineWork ..).stream ..

end

section
variable {d : Device} {p : Nat}

theorem frameBits_pos_of_sdh (h : isSdh d p = true) : 0 < frameBits d p := by
  unfold frameBits
  split
  · (repeat' split) <;> omega
  · next hnone => simp [isSdh, hnone] at h

/-- Positions that rise stay in their order. -/
theorem sortNats_three {a b c : Nat} (hab : a < b) (hbc : b < c) : sortNats [a, b, c].eraseDups = [a, b, c] := by
  have hba : b ≠ a := Nat.ne_of_gt hab
  have hcb : c ≠ b := Nat.ne_of_gt hbc
  have hca : c ≠ a := Nat.ne_of_gt (Nat.lt_trans hab hbc)
  have hdistinct : [a, b, c].eraseDups = [a, b, c] := by
    simp [List.eraseDups_cons, hba, hcb, hca]
  simp [hdistinct, sortNats, sortBy, insertBy, Nat.le_of_lt hab, Nat.le_of_lt hbc]

/-- The words of a row in the order in which they end. -/
def orderedWords (words : List (Nat × BitVec 48)) : List (Nat × BitVec 48) :=
  (sortNats (words.map Prod.fst).eraseDups).filterMap (fun b => words.find? (fun e => e.1 == b))

theorem orderedWords_three {n : Nat} (hn : 0 < n) (b : Nat) (w : BitVec 48) :
    orderedWords [(b, w), (b + n, w), (b + 2 * n, w)] = [(b, w), (b + n, w), (b + 2 * n, w)] := by
  have hsorted : sortNats [b, b + n, b + 2 * n].eraseDups = [b, b + n, b + 2 * n] :=
    sortNats_three (by omega) (by omega)
  have hfirst : (b == b + n) = false ∧ (b == b + 2 * n) = false := by simp; omega
  have hsecond : (b + n == b + 2 * n) = false := by simp; omega
  simp only [orderedWords, List.map_cons, List.map_nil, hsorted, List.filterMap_cons, List.filterMap_nil, List.find?_cons,
    BEq.rfl, hfirst, hsecond]

theorem orderedWords_one (e : Nat × BitVec 48) : orderedWords [e] = [e] := by
  simp [orderedWords, List.eraseDups_cons, sortNats, sortBy, insertBy]

/-- A candidate that finds the pattern one frame later and once more one frame after that is the frame boundary (R279). -/
theorem hunt_three {n lane : Nat} (b : Nat) {w : BitVec 48} (hw : wordErrored lane w = false) :
    [(b, w), (b + n, w), (b + 2 * n, w)].foldl (huntAt n lane) {} = { found := some (b + 2 * n) } := by
  have hcandidate : huntAt n lane {} (b, w) = { trackers := [{ conf := 0, next := b + n, born := b }] } := by
    simp [huntAt, hw, dropBefore, newCandidate]
  have hconfirmed : huntAt n lane { trackers := [{ conf := 0, next := b + n, born := b }] } (b + n, w) =
      { trackers := [{ conf := 1, next := b + n + n, born := b }] } := by
    simp [huntAt, hw, dropBefore]
  have hfound : huntAt n lane { trackers := [{ conf := 1, next := b + n + n, born := b }] } (b + 2 * n, w) =
      { found := some (b + 2 * n) } := by
    have htwice : b + n + n = b + 2 * n := by omega
    simp [huntAt, hw, dropBefore, htwice]
  simp only [List.foldl_cons, List.foldl_nil, hcandidate, hconfirmed, hfound]

/-- What a hunt drops, replaces and discards is counted. -/
def huntCounted (d : Device) (p : Nat) (h : Hunt) : Device :=
  count (count (count d (portCtr 15 p) h.dropped) (portCtr 16 p) h.replaced) (portCtr 17 p) h.discarded

theorem huntCounted_same (h : Hunt) : SameWork (huntCounted d p h) d :=
  (count_same ..).trans ((count_same ..).trans (count_same ..))

theorem huntStream_of_found {lane b : Nat} {words : List (Nat × BitVec 48)} {h : Hunt} {e : Nat × BitVec 48}
    (hvalid : laneValid d p lane = true) (hout : (stream d p lane).inFrame = false)
    (hhunt : (orderedWords words).foldl (huntAt (frameBits d p) lane) { trackers := (stream d p lane).trackers } = h)
    (hfound : h.found = some b) (hword : (orderedWords words).find? (fun e => e.1 == b) = some e) :
    huntStream d p lane words = becomeInFrame (huntCounted d p h) p lane e.2 := by
  simp only [orderedWords] at hhunt hword
  simp only [huntStream, hvalid, hout, hhunt, hfound, Option.bind_some, hword, huntCounted]
  rfl

theorem huntStream_of_notFound {lane : Nat} {words : List (Nat × BitVec 48)} {h : Hunt}
    (hvalid : laneValid d p lane = true) (hout : (stream d p lane).inFrame = false)
    (hhunt : (orderedWords words).foldl (huntAt (frameBits d p) lane) { trackers := (stream d p lane).trackers } = h)
    (hfound : h.found = none) :
    huntStream d p lane words =
      setStream (huntCounted d p h) p lane { stream d p lane with trackers := h.trackers } := by
  simp only [orderedWords] at hhunt
  simp only [huntStream, hvalid, hout, hhunt, hfound, Option.bind_none, huntCounted]
  rfl

theorem huntStream_of_invalid {lane : Nat} (h : laneValid d p lane = false) (words : List (Nat × BitVec 48)) :
    huntStream d p lane words = d := by
  simp [huntStream, h]

/-- Three patterns one frame apart, met by a stream that has no candidate, bring it in frame (R279, R282). -/
theorem huntStream_three (hsdh : isSdh d p = true) (hout : (stream d p 0).inFrame = false)
    (hnew : (stream d p 0).trackers = []) (b : Nat) {w : BitVec 48} (hw : w = 0xF6F6F6282828#48) :
    huntStream d p 0 [(b, w), (b + frameBits d p, w), (b + 2 * frameBits d p, w)] =
      becomeInFrame (huntCounted d p { found := some (b + 2 * frameBits d p) }) p 0 w := by
  have hpos := frameBits_pos_of_sdh hsdh
  have hordered := orderedWords_three hpos b w
  refine huntStream_of_found (e := (b + 2 * frameBits d p, w)) (by simp [laneValid, hsdh]) hout ?_ rfl ?_
  · rw [hordered, hnew]
    exact hunt_three b (by simp [wordErrored, hw])
  · have hfirst : (b == b + 2 * frameBits d p) = false := by simp; omega
    have hsecond : (b + frameBits d p == b + 2 * frameBits d p) = false := by simp; omega
    simp only [hordered, List.find?_cons, hfirst, hsecond, BEq.rfl]

/-- An errored word starts no candidate (R278, R279). -/
theorem huntStream_errored {lane : Nat} (hout : (stream d p lane).inFrame = false)
    (hnew : (stream d p lane).trackers = []) (b : Nat) {w : BitVec 48} (hw : wordErrored lane w = true) :
    huntStream d p lane [(b, w)] = d ∨
      huntStream d p lane [(b, w)] = setStream (huntCounted d p {}) p lane { stream d p lane with trackers := [] } := by
  cases hvalid : laneValid d p lane with
  | false => exact .inl (huntStream_of_invalid hvalid _)
  | true =>
    refine .inr (huntStream_of_notFound hvalid hout ?_ rfl)
    simp [orderedWords_one, huntAt, hw, hnew, dropBefore]

/-- The port's own stream in frame: OOF clears. -/
theorem becomeInFrame_zero (d : Device) (p : Nat) (w : BitVec 48) :
    (stream (becomeInFrame d p 0 w) p 0).inFrame = true ∧ (stream (becomeInFrame d p 0 w) p 0).since = d.clock ∧
      hasDefect (becomeInFrame d p 0 w) p 1 = false ∧ (becomeInFrame d p 0 w).kn = d.kn ∧
      (becomeInFrame d p 0 w).key = d.key := by
  have hstream : becomeInFrame d p 0 w =
      setDefect (setStream d p 0 { inFrame := true, since := d.clock, marker := w.toNat % 256 }) p 1 false := rfl
  rw [hstream, setDefect_stream, stream_setStream, setDefect_kn]
  exact ⟨rfl, rfl, hasDefect_setDefect _ _ _ (by decide), rfl, (setDefect_lineWork ..).key⟩

/-- The port's own stream out of frame: OOF rises. -/
theorem outOfFrame_zero (d : Device) (p : Nat) :
    (stream (outOfFrame d p 0) p 0).inFrame = false ∧ (stream (outOfFrame d p 0) p 0).since = d.clock ∧
      hasDefect (outOfFrame d p 0) p 1 = true ∧ (outOfFrame d p 0).kn = d.kn ∧ (outOfFrame d p 0).key = d.key := by
  have hstream : outOfFrame d p 0 = setDefect (setStream d p 0 { since := d.clock }) p 1 true := rfl
  rw [hstream, setDefect_stream, stream_setStream, setDefect_kn]
  exact ⟨rfl, rfl, hasDefect_setDefect _ _ _ (by decide), rfl, (setDefect_lineWork ..).key⟩

theorem erroredRun_le {lane : Nat} {ws : List (BitVec 48)} (hall : ∀ w ∈ ws, wordErrored lane w = true) (n : Nat) :
    min 4 (n + ws.length) ≤ ws.foldl (erroredRun lane) n := by
  induction ws generalizing n with
  | nil => exact Nat.min_le_right ..
  | cons w ws ih =>
    have hstep : min 4 (n + 1) ≤ erroredRun lane n w := by
      simp only [erroredRun, hall w (List.mem_cons_self ..)]
      split
      · omega
      · simp only [reduceIte]
        omega
    have hrest := ih (fun v hv => hall v (List.mem_cons_of_mem _ hv)) (erroredRun lane n w)
    simp only [List.length_cons, List.foldl_cons]
    omega

/-- Four errored words in a row take a stream out of frame, wherever its run stood (R283). -/
theorem watchFrame_of_errored {ws : List (BitVec 48)} (hin : (stream d p 0).inFrame = true) (hlen : 4 ≤ ws.length)
    (hall : ∀ w ∈ ws, wordErrored 0 w = true) :
    watchFrame d p 0 ws = outOfFrame d p 0 := by
  have hrun : 4 ≤ ws.foldl (erroredRun 0) (stream d p 0).errored := by
    have := erroredRun_le hall (stream d p 0).errored
    omega
  simp only [watchFrame, hin, Bool.not_true, Bool.false_eq_true, ge_iff_le, hrun, reduceIte]

/-! ## Loss of frame (R283) -/

theorem elapseTo_frm (d : Device) (t : Nat) : (elapseTo d t).frm = d.frm := by
  unfold elapseTo
  split <;> rfl

/-- What judging a trace and forgetting it leave, clearing the traces of a port leaves. -/
theorem clearTraces_keeps {β : Type} {get : Device → β}
    (hline : ∀ a b, LineWork [5, 10, 15, 16] a b → get a = get b) (hset : ∀ d kind i x, get (setTrace d kind i x) = get d)
    (d : Device) (p : Nat) : get (clearTraces d p) = get d := by
  have hclear : ∀ d kind i, get (clearTrace d kind i) = get d := by
    intro d kind i
    unfold clearTrace
    split
    · exact (hline _ _ (evalTim_lineWork ..)).trans (hset ..)
    · rfl
  refine (foldl_keeps get _ (fun d i => hclear d 1 i) ..).trans (foldl_keeps get _ (fun d k => ?_) ..)
  split
  · exact hclear ..
  · rfl

theorem lofTimer_of_out (hout : (stream d p 0).inFrame = false) (hoof : hasDefect d p 1 = true) :
    lofTimer d p = clearTraces (settleLine (setDefect
      (elapseTo d ((stream d p 0).since + 1500000)) p 2 true) p) p := by
  simp [lofTimer, hout, hoof, msTicks]

theorem lofTimer_of_in (hin : (stream d p 0).inFrame = true) :
    lofTimer d p = settleLine (setDefect (elapseTo d ((stream d p 0).since + 1500000)) p 2 false) p := by
  simp [lofTimer, hin, msTicks]

/-- A port defect that settles what follows from it. -/
theorem settled_lineWork (d : Device) (p code : Nat) (v : Bool) :
    LineWork [code, 15, 16] (settleLine (setDefect d p code v) p) d :=
  ((settleLine_lineWork ..).mono (by simp)).trans ((setDefect_lineWork ..).mono (by simp))

theorem hasDefect_settled (d : Device) (p : Nat) {code : Nat} (v : Bool) (hcode : code < 15) :
    hasDefect (settleLine (setDefect d p code v) p) p code = v := by
  rw [(settleLine_lineWork ..).defects _ _ (by simp; omega), hasDefect_setDefect _ _ _ (by omega)]

/-! ## Other defects (R287, R288) -/

section
variable (d : Device) (p : Nat) (seen : LineSeen)

theorem countBip_key : (countBip d p p false seen).key = d.key := by simp only [countBip, count_key]

theorem countBip_ms : (countBip d p p false seen).ms = d.ms := by simp only [countBip, count_ms]

theorem hasDefect_countBip (code : Nat) : hasDefect (countBip d p p false seen) p code = hasDefect d p code := by
  simp only [hasDefect, portDefects, countBip, count_frm]

theorem detected_countBip (code : Nat) (raised : Bool) :
    detected (countBip d p p false seen) p code raised seen = detected d p code raised seen := by
  have hcfg : frmCfg (countBip d p p false seen) p = frmCfg d p :=
    reg_congr (by simp only [countBip, count_regs]) (by simp only [countBip, count_glb]) _
  simp only [detected, thresholdExp, excExp, degExp, hcfg]

theorem counter_countBip :
    counter (countBip d p p false seen) (portCtr 18 p) = counter d (portCtr 18 p) + BitVec.ofNat 64 seen.near := by
  have hfar : portCtr 18 p ≠ portCtr 19 p := by simp [portCtr]
  exact (counter_count_ne hfar).trans (counter_count ..)

end

/-- A section defect of an SDH port: its errored blocks are counted, and a change settles the line. -/
theorem defectChange_of_section {slotNo code : Nat} {seen : LineSeen} {raised : Bool} {e : Device}
    (hsdh : isSdh d p = true) (hlow : 6 ≤ code) (hhigh : code ≤ 9) (he : e = countBip d p p false seen) :
    defectChange d p slotNo code raised seen =
      if hasDefect e p code = detected d p code raised seen then e
      else settleLine (setDefect e p code (detected d p code raised seen)) p := by
  have hknown : code ∈ sdhCodes := by simp [sdhCodes]; omega
  have hpm : (code == 11 || code == 12) = false := by simp; omega
  have h0 : code ≠ 0 := by omega
  have h3 : code ≠ 3 := by omega
  have h4 : code ≠ 4 := by omega
  have h13 : code ≠ 13 := by omega
  have h14 : code ≠ 14 := by omega
  simp [defectChange, hsdh, hknown, portDefectChange, h0, h3, h4, h13, h14, hpm, detected_countBip, he]

theorem acceptKBytes_of_change {k1 k2 : Byte} (hsdh : isSdh d p = true)
    (hnew : Tbl.getD d.frm.kbytes p 0 ≠ 256 * k1.toNat + k2.toNat) : ∃ payload,
    acceptKBytes d p k1 k2 =
      emit { d with frm := { d.frm with kbytes := Tbl.setD d.frm.kbytes p 0 (256 * k1.toNat + k2.toNat) } }
        .framer 0x04 payload := by
  simp only [acceptKBytes, hsdh, bne_iff_ne.2 hnew, Bool.and_self, reduceIte]
  exact ⟨_, rfl⟩

end

/-! ## The rows -/

section
variable (p : Fin 128) (s : State)

theorem exec_inFrame (lane : Fin 21) (words : List (Nat × BitVec 48)) :
    exec (.inFrame p lane words) s = .next (s.having (huntStream s.dev p lane words)) := rfl

theorem exec_oof (seen : LaneWords) :
    exec (.oof p seen) s = .next (s.having (watchFrame s.dev p seen.lane seen.words)) := rfl

theorem exec_lofTimer : exec (.lofTimer p) s = .next (s.having (lofTimer s.dev p)) := rfl

theorem exec_defectChange (slotNo : Fin 192) (code : Fin 64) (raised : Bool) (seen : LineSeen) :
    exec (.defectChange p slotNo code raised seen) s =
      .next (s.having (defectChange s.dev p slotNo code raised seen)) := rfl

theorem exec_kbytesAccepted (k1 k2 : Byte) :
    exec (.kbytesAccepted p k1 k2) s = .next (s.having (acceptKBytes s.dev p k1 k2)) := rfl

end

/-- Settles O48: the search by its three confirmed words, the loss by its run of errored words, and each defect by what its
settling leaves. -/
theorem framingRaisesDefects : Obligations.FramingRaisesDefects := by
  refine ⟨?found, ?errored, ?lost, ?lof, ?clear, ?change, ?kbytes⟩
  case found =>
    rintro p s b n w hsdh hout hnew rfl hw
    have hhunt := huntStream_three hsdh hout hnew b hw
    obtain ⟨hin, hsince, hclear, hkn, hkey⟩ :=
      becomeInFrame_zero (huntCounted s.dev p { found := some (b + 2 * frameBits s.dev p) }) p w
    rw [← hhunt] at hin hsince hclear hkn hkey
    have hsame := huntCounted_same (d := s.dev) (p := p) { found := some (b + 2 * frameBits s.dev p) }
    exact ⟨_, exec_inFrame .., hin, hsince.trans hsame.clock, hclear, hkn.trans hsame.kn, hkey.trans hsame.key⟩
  case errored =>
    intro p lane s b w hout hnew hport hlane
    have hw : wordErrored lane w = true := by
      unfold wordErrored
      split
      · next h => simpa using hport h
      · next h => simpa using hlane h
    refine ⟨_, exec_inFrame .., ?_⟩
    rcases huntStream_errored hout hnew b hw with hhunt | hhunt <;> rw [hhunt]
    · exact ⟨hout, hnew, .refl _⟩
    · rw [stream_setStream]
      exact ⟨hout, rfl, (huntCounted_same _).setStream ..⟩
  case lost =>
    intro p s w0 w1 w2 w3 hin h0 h1 h2 h3
    have hall : ∀ w ∈ [w0, w1, w2, w3], wordErrored 0 w = true := by simp [wordErrored, h0, h1, h2, h3]
    have hlost := outOfFrame_zero s.dev p
    rw [← watchFrame_of_errored hin (by simp) hall] at hlost
    exact ⟨_, exec_oof .., hlost⟩
  case lof =>
    intro p s hout hoof
    refine ⟨_, exec_lofTimer .., ?_⟩
    rw [lofTimer_of_out hout hoof]
    have hsettled := settled_lineWork (elapseTo s.dev ((stream s.dev p 0).since + 1500000)) p 2 true
    refine ⟨?_, ?_, ?_⟩
    · rw [clearTraces_keeps (get := fun e => hasDefect e p 2) (fun _ _ h => h.defects _ _ (by decide)) (fun _ _ _ _ => rfl)]
      exact hasDefect_settled _ _ _ (by decide)
    · rw [clearTraces_keeps (get := Device.clock) (fun _ _ h => h.clock) (fun _ _ _ _ => rfl), hsettled.clock,
        elapseTo_clock]
    · rw [clearTraces_keeps (get := Device.key) (fun _ _ h => h.key) (fun _ _ _ _ => rfl), hsettled.key, elapseTo_key]
  case clear =>
    intro p s hin
    refine ⟨_, exec_lofTimer .., ?_⟩
    rw [lofTimer_of_in hin]
    have hsettled := settled_lineWork (elapseTo s.dev ((stream s.dev p 0).since + 1500000)) p 2 false
    exact ⟨hasDefect_settled _ _ _ (by decide), by rw [hsettled.clock, elapseTo_clock], by rw [hsettled.key, elapseTo_key]⟩
  case change =>
    rintro p slotNo code raised v seen s hsdh hlow hhigh rfl
    refine ⟨_, exec_defectChange .., ?_⟩
    have hcounted := counter_countBip s.dev p seen
    have hbefore := hasDefect_countBip s.dev p seen code
    rw [defectChange_of_section hsdh hlow hhigh rfl, hbefore]
    split
    · next hsame =>
      have hstays : detected s.dev p code raised seen = true → hasDefect s.dev p code ≠ false := fun hv h =>
        Bool.noConfusion (h.symm.trans (hsame.trans hv))
      exact ⟨hbefore.trans hsame, hcounted, fun hv h => absurd h (hstays hv), countBip_key .., countBip_ms ..⟩
    · next hchange =>
      have hsettled := settled_lineWork (countBip s.dev p p false seen) p code (detected s.dev p code raised seen)
      have hport : portCtr 18 p < devCtr 56 := by simp only [portCtr, devCtr]; omega
      have hport' : portCtr 18 p ≠ devCtr 57 := by simp only [portCtr, devCtr]; omega
      refine ⟨hasDefect_settled _ _ _ (by omega), ?_, fun hv h => ?_, hsettled.key.trans (countBip_key ..),
        hsettled.ms.trans (countBip_ms ..)⟩
      · rw [hsettled.counters _ (Nat.ne_of_lt hport) hport', hcounted]
      · rw [hv]
        exact (settleLine_lineWork ..).latched _ _ (bit_latch_setDefect _ (by omega) (hbefore.trans h))
  case kbytes =>
    intro p k1 k2 s hsdh hnew
    obtain ⟨payload, haccept⟩ := acceptKBytes_of_change hsdh hnew
    refine ⟨_, exec_kbytesAccepted .., ?_⟩
    rw [haccept, (emit_same ..).frm]
    exact ⟨Tbl.getD_setD .., { (emit_same ..) with frm := rfl }⟩

end Sys2Proof.Machine

/-!
PROOF. The acceptance, the commit and the view of traces: O49.
-/
namespace Sys2Proof.Machine

/-! ## Trace memory (R291-R296) -/

section
variable {d : Device}

theorem trace_setTrace (d : Device) (kind i : Nat) (x : Trace) : trace (setTrace d kind i x) kind i = x := Tbl.getD_setD ..

theorem trace_setTrace_ne {kind i k j : Nat} (x : Trace) (h : traceKey k j ≠ traceKey kind i) :
    trace (setTrace d kind i x) k j = trace d k j := Tbl.getD_setD_ne _ _ _ _ _ _ h

theorem tracePort_of_sdh {p : Nat} (h : isSdh d p = true) : tracePort d 0 p = some (p, 5) := if_pos h

/-- The third equal reception of a trace is accepted (R292). -/
theorem receiveTrace_of_third {p : Nat} {msg : Bytes} {x : Trace} (hsdh : isSdh d p = true) (hx : x = trace d 0 p)
    (hformat : x.format = 1) (hlast : x.last = fit 64 msg) (hrun : x.run = 2) (hfree : traceBlocked d 0 p p = false) :
    LineWork [5, 10, 15, 16] (receiveTrace d 0 p msg)
      (setTrace d 0 p { x with last := fit 64 msg, run := 3, accepted := some (fit 64 msg) }) := by
  have hcrc : crcOk x (fit 64 msg) = true := by simp [crcOk, hformat]
  have hshort : ¬x.format = 0 := by omega
  simp only [receiveTrace, tracePort_of_sdh hsdh, ← hx, hshort, hlast, hrun, hfree, hcrc, reduceIte, Bool.not_true,
    Bool.or_self, Bool.false_eq_true, ge_iff_le, Nat.reduceAdd, Nat.le_refl, Nat.min_self, true_and]
  refine (evalTim_lineWork ..).trans ?_
  split
  · exact (emit_lineWork ..).of_nil
  · exact .refl ..

/-! ## The trace view (Tables 6-12, 6-13) -/

theorem reg_plainWrite_ne {off o : Nat} (val : W32) (h : o ≠ off) : reg (plainWrite d off val) o = reg d o := by
  unfold plainWrite
  split
  · rfl
  · split
    · exact reg_setReg_ne _ _ _ _ h
    · rfl

theorem viewText_writeCtl (val : W32) : viewText (plainWrite d 0xC4004 val) = viewText d := by
  have hword : ∀ i, reg (plainWrite d 0xC4004 val) (0xC4040 + 4 * i) = reg d (0xC4040 + 4 * i) := fun i =>
    reg_plainWrite_ne val (by omega)
  simp only [viewText, hword]

/-- What a commit of the expected side writes in the selected entry. -/
def committed (d : Device) (val : W32) (x : Trace) : Trace :=
  { x with expected := viewText d, format := bits val 1 0, expC2 := bits val 15 8, maskLo := reg d 0xC4008
           maskHi := reg d 0xC400C }

/-- A commit replaces the selected entry at once and judges it again (R296). -/
theorem commitTrace_of_valid {val : W32} (hcommit : bit val 31 = true) (hrx : selTx d = false)
    (hformat : formatOk (selKind d) (bits val 1 0) = true) (hthere : traceExists (selKind d) (selIndex d) = true) :
    ∃ e, SameWork { e with frm := d.frm } d ∧ e.frm.trErr = false ∧
      LineWork [5, 10, 15, 16] (commitTrace d val)
        (setTrace e (selKind d) (selIndex d) (committed d val (trace d (selKind d) (selIndex d)))) := by
  have hsel : ∀ o, o ≠ 0xC4004 → reg (plainWrite d 0xC4004 val) o = reg d o := fun _ => reg_plainWrite_ne val
  have hkind : selKind (plainWrite d 0xC4004 val) = selKind d := by simp only [selKind, field, hsel 0xC4000 (by decide)]
  have hindex : selIndex (plainWrite d 0xC4004 val) = selIndex d := by
    simp only [selIndex, field, hsel 0xC4000 (by decide)]
  have htx : selTx (plainWrite d 0xC4004 val) = false := by rw [selTx, hsel 0xC4000 (by decide)]; exact hrx
  have htrace : trace (plainWrite d 0xC4004 val) (selKind d) (selIndex d) = trace d (selKind d) (selIndex d) := by
    simp only [trace, (plainWrite_same ..).frm]
  refine ⟨{ plainWrite d 0xC4004 val with frm := { (plainWrite d 0xC4004 val).frm with trErr := false } },
    { plainWrite_same d 0xC4004 val with frm := rfl }, rfl, ?_⟩
  simp only [commitTrace, hkind, hindex, hcommit, hformat, hthere, htx, htrace, viewText_writeCtl, committed,
    hsel 0xC4008 (by decide), hsel 0xC400C (by decide), Bool.not_true, Bool.or_self, Bool.false_eq_true, reduceIte]
  split
  · split
    · exact ((evalPathLabel_lineWork ..).mono (by simp)).trans (evalTim_lineWork ..)
    · exact evalTim_lineWork ..
  · exact evalTim_lineWork ..

/-- The string registers of the view, written one by one, leave the other registers. -/
theorem loadText_reg (text : Bytes) {o : Nat} (ho : o < 0xC4040) (d : Device) :
    reg ((List.range 16).foldl (fun d i => setReg d (0xC4040 + 4 * i) (w32 (leField text (4 * i) 4))) d) o = reg d o :=
  foldl_keeps (fun e => reg e o) _ (fun _ _ => reg_setReg_ne _ _ _ _ (by omega)) ..

/-- Selecting an entry loads its masks and changes registers alone. -/
theorem selectTrace_loads (d : Device) (val : W32) :
    reg (selectTrace d val) 0xC4008 = (trace d (selKind (selectTrace d val)) (selIndex (selectTrace d val))).maskLo ∧
      reg (selectTrace d val) 0xC400C = (trace d (selKind (selectTrace d val)) (selIndex (selectTrace d val))).maskHi ∧
      SameWork (selectTrace d val) d := by
  have hsel : reg (selectTrace d val) 0xC4000 = reg (plainWrite d 0xC4000 val) 0xC4000 := by
    rw [selectTrace, loadText_reg _ (by decide), reg_setReg_ne _ _ _ _ (by decide), reg_setReg_ne _ _ _ _ (by decide),
      reg_setBits_ne _ _ _ _ _ (by decide)]
  have hkind : selKind (selectTrace d val) = selKind (plainWrite d 0xC4000 val) := by simp only [selKind, field, hsel]
  have hindex : selIndex (selectTrace d val) = selIndex (plainWrite d 0xC4000 val) := by
    simp only [selIndex, field, hsel]
  have htrace : ∀ k i, trace (plainWrite d 0xC4000 val) k i = trace d k i := fun k i => by
    simp only [trace, (plainWrite_same ..).frm]
  rw [hkind, hindex, ← htrace]
  refine ⟨?_, ?_, ?_⟩
  · rw [selectTrace, loadText_reg _ (by decide), reg_setReg_ne _ _ _ _ (by decide), reg_setReg]
  · rw [selectTrace, loadText_reg _ (by decide), reg_setReg]
  · refine (foldl_same _ _ (fun _ _ => setReg_same ..) _).trans ?_
    exact (setReg_same ..).trans ((setReg_same ..).trans ((setBits_same ..).trans (plainWrite_same ..)))

end

/-! ## The rows -/

theorem exec_traceReception (kind : Fin 4) (i : Fin 12288) (msg : Bytes) (s : State) :
    exec (.traceReception kind i msg) s = .next (s.having (receiveTrace s.dev kind i msg)) := rfl

theorem exec_traceCommit (val : W32) (s : State) :
    exec (.traceCommit val) s = .next (s.having (commitTrace s.dev val)) := rfl

theorem exec_frmTrSelWrite (val : W32) (s : State) :
    exec (.frmTrSelWrite val) s = .next (s.having (selectTrace s.dev val)) := rfl

/-- Settles O49: acceptance and commit by the entry that each writes before it is judged, and the selection by the
registers of the view. -/
theorem tracesAreAcceptedAndCommitted : Obligations.TracesAreAcceptedAndCommitted := by
  refine ⟨?third, ?commit, ?select⟩
  case third =>
    intro p msg s x hsdh hx hformat hlast hrun hfree
    have hthird := receiveTrace_of_third hsdh hx hformat hlast hrun hfree
    have hentry := (hthird.trace 0 p).trans (trace_setTrace ..)
    exact ⟨_, exec_traceReception .., congrArg Trace.accepted hentry, (congrArg Trace.expected hentry :),
      fun k i hne => (hthird.trace k i).trans (trace_setTrace_ne _ hne), hthird.key, hthird.ms⟩
  case commit =>
    intro val s hcommit hrx hformat hthere
    obtain ⟨e, hsame, herr, hvalid⟩ := commitTrace_of_valid hcommit hrx hformat hthere
    have hentry := (hvalid.trace ..).trans (trace_setTrace ..)
    refine ⟨_, exec_traceCommit .., congrArg Trace.expected hentry, congrArg Trace.format hentry,
      congrArg Trace.maskLo hentry, congrArg Trace.maskHi hentry, ?_, hvalid.key.trans hsame.key,
      hvalid.ms.trans hsame.ms⟩
    exact (congrArg Frm.trErr hvalid.frm :).trans herr
  case select =>
    intro val s
    obtain ⟨hlo, hhi, hsame⟩ := selectTrace_loads s.dev val
    exact ⟨_, exec_frmTrSelWrite .., hlo, hhi, hsame.frm, hsame⟩

end Sys2Proof.Machine

/-!
PROOF. The pages of the time-slot interchange and their switch: O50.
-/
namespace Sys2Proof.Machine

/-! ## Completions leave the counters (R79, R88) -/

section
variable (d : Device)

theorem signalCq_counters (m : Nat) (now : Bool) : (signalCq d m now).counters = d.counters := by
  simp only [signalCq, raiseVector]
  (repeat' split) <;> rfl

theorem writeEntry_counters (m size : Nat) (due : Due) : (writeEntry d m size due).counters = d.counters := by
  have hstall : ∀ e, (markStall e m).counters = e.counters := fun e =>
    markStall_keeps (get := Device.counters) (fun _ _ => rfl) (fun _ _ => rfl)
  simp only [writeEntry]
  generalize hsignalled : signalCq _ m _ = e
  have hcounters : e.counters = d.counters := by
    rw [← hsignalled, signalCq_counters]
    rfl
  split
  · rw [hstall, hcounters]
  · exact hcounters

theorem drainCq_counters (l : List Due) (d : Device) (m : Nat) : (drainCq d m l).counters = d.counters := by
  induction l generalizing d with
  | nil => rfl
  | cons due rest ih =>
    unfold drainCq
    split
    · split
      · split
        · rfl
        · rw [ih, writeEntry_counters]
      · exact ih d
    · exact ih d

/-- A completion counts nothing but a rejected input. -/
theorem post_counter (due : Due) {i : Nat} (hrejected : i ≠ devCtr 32) : counter (post d due) i = counter d i := by
  have hcount : counter (countRejected d due) i = counter d i := by
    unfold countRejected
    split
    · exact counter_count_ne hrejected
    · rfl
  have hdrain : ∀ e m l, counter (drainCq e m l) i = counter e i := fun e m l => by
    simp only [counter, drainCq_counters]
  simp only [post]
  split
  · rfl
  · split
    · rfl
    · split
      · rfl
      · rw [hdrain, hcount]

/-- A completion that is mirrored counts its messages. -/
theorem mirrorThenPost_counter (op : Nat) (desc buf : Bytes) (due : Due) {i : Nat} (hrejected : i ≠ devCtr 32)
    (hmirror : i ≠ devCtr 48) : counter (mirrorThenPost d op desc buf due) i = counter d i := by
  have hgranting : (granting d due.origin.ring op).counters = d.counters := by
    unfold granting
    split <;> rfl
  have hsend : ∀ e payload, counter (sendMirror e payload) i = counter e i := fun e payload =>
    (counter_count_ne hmirror).trans (by simp only [counter, sendDuet_counters])
  have hdrop : ∀ e : Device, counter (post (dropInflight e due.origin) due) i = counter e i := fun e =>
    post_counter _ _ hrejected
  have hgranted : counter (granting d due.origin.ring op) i = counter d i := by simp only [counter, hgranting]
  simp only [mirrorThenPost]
  split
  · have hsent := (foldl_keeps (fun e => counter e i) sendMirror hsend
      (mirrorParts (granting d due.origin.ring op) op (mirroredDesc op desc due) buf) _).trans hgranted
    split
    · exact hsent
    · exact (hdrop _).trans hsent
  · exact (hdrop _).trans hgranted

end

/-! ## TSI_PAGE_WRITE and TSI_SWITCH (R306-R310) -/

section
variable {d : Device} {o : Origin} {desc buf : Bytes}

theorem pageBody_of_pageZero {first n : Nat} (hfirst : first = leField desc 22 2) (hn : n = leField desc 24 2)
    (hlen : o.bufLen = 4 * n) (hpage : leField desc 20 1 = 0) (hactive : d.frm.active = true)
    (hroom : first + n ≤ slotTotal d) (hgood : firstBadEntry buf n = none) (hidle : switchPending d = false)
    (hrole : roleStale d = false) :
    pageBody o desc buf d =
      .done { d with frm := { d.frm with page0 := writePage d.frm.page0 first n buf } } (zeros 16) none := by
  simp [pageBody, storePage, ← hfirst, ← hn, hlen, hpage, hactive, Nat.not_lt.2 hroom, hgood, hidle, hrole]

theorem enterInflight_frm (d : Device) (o : Origin) (op : Nat) : (enterInflight d o op).frm = d.frm :=
  (granting_same ..).frm

theorem switchBody_of_consistent {p : Nat} (hp : p = leField desc 20 1) (hsdh : isSdh d p = true)
    (hpage : firstInconsistent d (standbyPage d) = none) (hrole : roleStale d = false) (hidle : switchPending d = false)
    {x : TsiSwitch} (hx : x = { origin := some o, refPort := p, copyBack := (byteAt desc 21).getLsbD 0
                                accepted := d.clock, internal := !(stream d p 0).inFrame }) :
    switchBody o desc buf d =
      .accept { enterInflight d o 0x0281 with frm := { d.frm with switch := some x } } := by
  simp [switchBody, ← hp, hsdh, hpage, hrole, hidle, hx, enterInflight_frm]

theorem referenceBoundary_of_inFrame {x : TsiSwitch} (hswitch : d.frm.switch = some x) (hwaits : x.boundary = none)
    (hline : x.internal = false) (hin : (stream d x.refPort 0).inFrame = true) :
    referenceBoundary d = { d with frm := { d.frm with switch := some { x with boundary := some d.clock } } } := by
  simp [referenceBoundary, hswitch, hwaits, hline, hin]

end

/-! ## The slots and pages that a device uses (R300, R311) -/

section
variable {a b : Device}

theorem isSdh_congr (h : a.boot = b.boot) (p : Nat) : isSdh a p = isSdh b p := by simp only [isSdh, portCfg, h]

theorem sdhPorts_congr (h : a.boot = b.boot) : sdhPorts a = sdhPorts b := by
  have hsdh : isSdh a = isSdh b := funext (isSdh_congr h)
  rw [sdhPorts, sdhPorts, h, hsdh]

theorem slotPort_congr (h : a.boot = b.boot) (i : Nat) : slotPort a i = slotPort b i := by
  have hslots : portSlots a = portSlots b := funext fun p => by simp only [portSlots, portCfg, h]
  unfold slotPort slotBase
  rw [hslots]

variable {l : List Nat}

theorem LineWork.switch (h : LineWork l a b) : a.frm.switch = b.frm.switch := (congrArg Frm.switch h.frm :)
theorem LineWork.later (h : LineWork l a b) : a.frm.later = b.frm.later := (congrArg Frm.later h.frm :)
theorem LineWork.active (h : LineWork l a b) : a.frm.active = b.frm.active := (congrArg Frm.active h.frm :)
theorem LineWork.page0 (h : LineWork l a b) : a.frm.page0 = b.frm.page0 := (congrArg Frm.page0 h.frm :)
theorem LineWork.page1 (h : LineWork l a b) : a.frm.page1 = b.frm.page1 := (congrArg Frm.page1 h.frm :)

theorem LineWork.connection (h : LineWork l a b) (i : Nat) : connection a i = connection b i := by
  simp only [Machine.connection, slotPort_congr h.boot, pageOf, activePage, standbyPage, h.switch, h.active, h.page0,
    h.page1]

end

/-! ## The change of a port, and of the last one (R311, R312) -/

section
variable {d : Device} {x : TsiSwitch} {p : Nat}

/-- The switch in progress with one more port changed. -/
def TsiSwitch.moved (x : TsiSwitch) (p : Nat) : TsiSwitch := { x with changed := x.changed ++ [p] }

def portMoved (d : Device) (x : TsiSwitch) (p : Nat) : Device :=
  { d with frm := { d.frm with switch := some (x.moved p) } }

theorem pageOf_portMoved (d : Device) (x : TsiSwitch) (p q : Nat) : pageOf (portMoved d x p) q =
    if (x.changed ++ [p]).contains q then standbyPage d else activePage d := rfl

theorem connection_portMoved_same {i : Nat} (h : slotPort d i = some p) :
    connection (portMoved d x p) i = Tbl.getD (standbyPage d) i 0#32 := by
  have hport : slotPort (portMoved d x p) i = some p := (slotPort_congr rfl i).trans h
  have hmoved : (x.changed ++ [p]).contains p = true := by simp
  simp only [connection, hport, pageOf_portMoved, hmoved, reduceIte]

theorem connection_portMoved_ne {i : Nat} (hswitch : d.frm.switch = some x) (h : slotPort d i ≠ some p) :
    connection (portMoved d x p) i = connection d i := by
  have hport : slotPort (portMoved d x p) i = slotPort d i := slotPort_congr rfl i
  simp only [connection, hport]
  split
  · next q hq =>
    have hne : q ≠ p := fun hqp => h (hqp ▸ hq)
    have hsame : (x.changed ++ [p]).contains q = x.changed.contains q := by simp [hne]
    rw [pageOf_portMoved, hsame]
    simp only [pageOf, hswitch]
  · rfl

/-- The device once a port takes its entries from the new page, with what follows from it. -/
def portSettled (d : Device) (x : TsiSwitch) (p : Nat) : Device := settleAll (checkSizes (portMoved d x p))

theorem portSettled_lineWork (d : Device) (x : TsiSwitch) (p : Nat) :
    LineWork [15, 16] (portSettled d x p) (portMoved d x p) :=
  (settleAll_lineWork _).trans (checkSizes_lineWork _).of_nil

theorem portChanges_of_boundary {t : Nat} (hswitch : d.frm.switch = some x) (hboundary : x.boundary = some t)
    (hsdh : isSdh d p = true) (hnew : x.changed.contains p = false) :
    portChanges d p = if (sdhPorts d).all (fun q => (x.changed ++ [p]).contains q)
      then finishSwitch (portSettled d x p) (x.moved p) else portSettled d x p := by
  have hports : sdhPorts (portSettled d x p) = sdhPorts d := sdhPorts_congr (portSettled_lineWork d x p).boot
  rw [← hports]
  simp only [portChanges, hswitch, hboundary, hsdh, hnew, Option.isSome_some, Bool.not_false, Bool.and_self, reduceIte,
    portSettled, portMoved, TsiSwitch.moved]

theorem voidNumber_digestWork (d : Device) (k w : Nat) : DigestWork (voidNumber d k w) d := by
  simp only [voidNumber]
  split <;> rfl

/-- The digest windows of the associations that the switch touches are void (R314). -/
def windowsVoided (d : Device) : Device :=
  (d.kn.assocs.filter (fun e => switchTouches d (activePage d) (standbyPage d) e.2)).foldl
    (fun d e => voidAssoc d e.1 e.2) d

theorem windowsVoided_digestWork (d : Device) : DigestWork (windowsVoided d) d :=
  foldl_digestWork (fun d (e : Nat × Assoc) => voidAssoc d e.1 e.2)
    (fun _ _ => (voidNumber_digestWork ..).trans (voidNumber_digestWork ..)) ..

/-- The framing block behind the switch: the other page is active, and with COPY_BACK both pages are equal. -/
def Frm.switched (m : Frm) (x : TsiSwitch) (new : Tbl W32) : Frm :=
  let m := { m with active := !m.active, switch := none }
  if x.copyBack then { m with page0 := new, page1 := new } else m

theorem Frm.switched_of (m : Frm) (x : TsiSwitch) (new : Tbl W32) :
    (m.switched x new).active = !m.active ∧ (m.switched x new).switch = none ∧ (m.switched x new).later = m.later := by
  unfold Frm.switched
  cases x.copyBack <;> exact ⟨rfl, rfl, rfl⟩

/-- The device once the standby page has become the active one. -/
def pagesSwitched (d : Device) (x : TsiSwitch) : Device :=
  count { windowsVoided d with frm := (windowsVoided d).frm.switched x (standbyPage d) } (devCtr 9)

theorem pagesSwitched_leaves (d : Device) (x : TsiSwitch) :
    (pagesSwitched d x).frm.active = !d.frm.active ∧ (pagesSwitched d x).frm.switch = none ∧
      (pagesSwitched d x).frm.later = d.frm.later ∧
      counter (pagesSwitched d x) (devCtr 9) = counter d (devCtr 9) + 1#64 ∧ (pagesSwitched d x).key = d.key := by
  have hvoided := windowsVoided_digestWork d
  unfold DigestWork at hvoided
  have hfrm : (windowsVoided d).frm = d.frm := (congrArg Device.frm hvoided :)
  have hcounters : (windowsVoided d).counters = d.counters := (congrArg Device.counters hvoided :)
  have hkey : (windowsVoided d).key = d.key := (congrArg Device.key hvoided :)
  obtain ⟨hactive, hswitch, hlater⟩ := d.frm.switched_of x (standbyPage d)
  simp only [pagesSwitched, count_frm, count_key, hfrm, hkey, counter_count]
  refine ⟨hactive, hswitch, hlater, ?_, trivial⟩
  simp only [counter, hcounters]

/-- Behind the switch the line settles and TSI_SWITCHED is written (Table 6-17). -/
def switchReported (d : Device) (x : TsiSwitch) : Device :=
  emit (settleAll (checkSizes (pagesSwitched d x))) .tsi 0x01
    (leBytes 1 (if !(windowsVoided d).frm.active then 1 else 0) ++ leBytes 1 x.refPort
      ++ [if x.internal then 1#8 else 0#8] ++ leBytes 8 (x.boundary.getD 0))

theorem switchReported_lineWork (d : Device) (x : TsiSwitch) :
    LineWork [15, 16] (switchReported d x) (pagesSwitched d x) :=
  (emit_lineWork ..).of_nil.trans
    ((settleAll_lineWork _).trans (checkSizes_lineWork _).of_nil)

/-- Mirrored commands that waited follow, and the command, where this member ran one, completes. -/
theorem finishSwitch_eq (d : Device) (x : TsiSwitch) {e : Device}
    (he : e = drainLater (switchReported d x) (switchReported d x).frm.later) :
    finishSwitch d x = e ∨ ∃ desc due, finishSwitch d x = mirrorThenPost e 0x0281 desc [] due := by
  subst he
  simp only [finishSwitch]
  split
  · exact .inr ⟨_, _, rfl⟩
  · exact .inl rfl

theorem drainLater_of_none (h : d.frm.later = []) : drainLater d d.frm.later = d := by
  have hfields : { d with frm := { d.frm with later := [] } } = d := by rw [← h]
  rw [h]
  exact hfields

/-- Where no mirrored command waited, completing is all that comes after the event. -/
theorem finishSwitch_of_noLater (hlater : d.frm.later = []) (x : TsiSwitch) :
    SameWork (finishSwitch d x) (switchReported d x) ∧
      counter (finishSwitch d x) (devCtr 9) = counter (switchReported d x) (devCtr 9) := by
  obtain ⟨-, -, hkept, -, -⟩ := pagesSwitched_leaves d x
  have hnone : (switchReported d x).frm.later = [] := (switchReported_lineWork d x).later.trans (hkept.trans hlater)
  rcases finishSwitch_eq d x (drainLater_of_none hnone).symm with hfinish | ⟨desc, due, hfinish⟩ <;> rw [hfinish]
  · exact ⟨.refl _, rfl⟩
  · exact ⟨mirrorThenPost_same .., mirrorThenPost_counter _ _ _ _ _ (by decide) (by decide)⟩

end

/-! ## The rows -/

theorem exec_tsiPageWrite (r : Fin 64) (buf : Bytes) (s : State) : exec (.tsiPageWrite r buf) s =
    .next (s.having (runCommand 0x0280 r anyRight pageOwn pageBody buf s.dev)) := rfl

theorem exec_tsiSwitch (r : Fin 64) (s : State) : exec (.tsiSwitch r) s =
    .next (s.having (runCommand 0x0281 r anyRight switchOwn switchBody [] s.dev)) := rfl

theorem exec_tsiReferenceBoundary (s : State) :
    exec .tsiReferenceBoundary s = .next (s.having (referenceBoundary s.dev)) := rfl

theorem exec_tsiPortPageChange (p : Fin 128) (s : State) :
    exec (.tsiPortPageChange p) s = .next (s.having (portChanges s.dev p)) := rfl

/-- Settles O50: the two commands by the verdicts of their bodies, the boundary by its clock, and the change of a port by
what settling it leaves, with the end of the switch for the last one. -/
theorem pagesSwitchTogether : Obligations.PagesSwitchTogether := by
  refine ⟨?page, ?switch, ?boundary, ?change⟩
  case page =>
    intro r s f rest buf b first n hruns hfirst hn hlen hb hpage hactive hroom hgood hidle hrole
    obtain rfl : b = fit (originOf s.dev r f).bufLen buf := by rw [hlen]; exact hb
    rw [exec_tsiPageWrite, runCommand_done hruns (pageBody_of_pageZero (d := taken s.dev r rest)
      hfirst hn hlen hpage hactive hroom hgood hidle hrole)]
    rfl
  case switch =>
    rintro r s f rest o p d x hruns rfl hp hsdh hpage hrole hidle rfl hx
    rw [exec_tsiSwitch, runCommand_accept hruns (switchBody_of_consistent (d := taken s.dev r rest)
      hp hsdh hpage hrole hidle hx)]
    rfl
  case boundary =>
    intro s x hswitch hwaits hline hin
    rw [exec_tsiReferenceBoundary, referenceBoundary_of_inFrame hswitch hwaits hline hin]
  case change =>
    intro p s x t hswitch hboundary hsdh hnew
    have hchange := portChanges_of_boundary hswitch hboundary hsdh hnew
    have hsettled := portSettled_lineWork s.dev x p
    refine ⟨fun hmore => ?_, fun hlater hlast => ?_⟩
    · rw [exec_tsiPortPageChange, hchange, if_neg (by rw [hmore]; decide)]
      refine ⟨_, rfl, hsettled.switch, hsettled.active, hsettled.page0, hsettled.page1, fun i hi => ?_, fun i hi => ?_,
        hsettled.key⟩
      · rw [hsettled.connection, connection_portMoved_same hi]
      · rw [hsettled.connection, connection_portMoved_ne hswitch hi]
    · obtain ⟨hsame, hcounter⟩ := finishSwitch_of_noLater (hsettled.later.trans hlater) (x.moved p)
      obtain ⟨hother, hended, -, hcounted, hkey⟩ := pagesSwitched_leaves (portSettled s.dev x p) (x.moved p)
      have hreported := switchReported_lineWork (portSettled s.dev x p) (x.moved p)
      rw [exec_tsiPortPageChange, hchange, if_pos hlast]
      refine ⟨_, rfl, ?_, ?_, ?_, ?_⟩
      · rw [hsame.frm, hreported.active, hother, hsettled.active]
        rfl
      · rw [hsame.frm, hreported.switch, hended]
      · rw [hcounter, hreported.counters _ (by decide) (by decide), hcounted,
          hsettled.counters _ (by decide) (by decide)]
        rfl
      · rw [hsame.key, hreported.key, hkey, hsettled.key]
        rfl

end Sys2Proof.Machine

/-!
PROOF. Knadra's bytes in the frames of a superframe, and what a superframe period changes besides its association.
-/
namespace Sys2Proof.Machine

/-! ## Knadra's bytes in OTN frames (R324, R325) -/

section
variable {l r : Bytes} {i : Nat}

theorem byteAt_append_left (h : i < l.length) : byteAt (l ++ r) i = byteAt l i := by
  rw [byteAt, List.getElem?_append_left h, byteAt]

theorem byteAt_append_right (h : l.length ≤ i) : byteAt (l ++ r) i = byteAt r (i - l.length) := by
  rw [byteAt, List.getElem?_append_right h, byteAt]

end

theorem length_flatMap_range {f : Nat → Bytes} {len : Nat} (h : ∀ r, (f r).length = len) (m : Nat) :
    ((List.range m).flatMap f).length = len * m := by
  induction m with
  | zero => rfl
  | succ m ih =>
    rw [List.range_succ, List.flatMap_append, List.flatMap_singleton, List.length_append, ih, h, Nat.mul_succ]

/-- In rows of equal length a byte stands in its row. -/
theorem byteAt_flatMap_range {f : Nat → Bytes} {len r i : Nat} (h : ∀ r, (f r).length = len) (hi : i < len) {m : Nat}
    (hr : r < m) : byteAt ((List.range m).flatMap f) (len * r + i) = byteAt (f r) i := by
  induction m with
  | zero => exact absurd hr (Nat.not_lt_zero r)
  | succ m ih =>
    have hlen := length_flatMap_range h m
    rw [List.range_succ, List.flatMap_append, List.flatMap_singleton]
    rcases Nat.lt_succ_iff_lt_or_eq.1 hr with hlt | rfl
    · have hinside : len * r + i < len * m := by
        calc len * r + i < len * r + len := Nat.add_lt_add_left hi _
          _ = len * (r + 1) := (Nat.mul_succ ..).symm
          _ ≤ len * m := Nat.mul_le_mul_left _ hlt
      rw [byteAt_append_left (hlen ▸ hinside), ih hlt]
    · rw [byteAt_append_right (hlen ▸ Nat.le_add_right ..), hlen, Nat.add_sub_cancel_left]

section
variable (d : Device) (p n : Nat) (fields carried payload : Bytes)

theorem length_overheadRow (bip : Byte) (k r : Nat) : (overheadRow d p n carried bip k r).length = 14 := by
  unfold overheadRow
  (repeat' split) <;> simp [monitoring]

theorem length_fecBytes (mode : Nat) (row : Bytes) : (fecBytes mode row).length = 256 := by
  unfold fecBytes
  split
  · exact length_zeros 256
  · exact length_flatMap_range (len := 16) (fun _ => by simp) 16

/-- Columns 15 to 3,824 of row `r` of a frame. -/
def opuRow (k r : Nat) : Bytes :=
  (if r = 3 then [if (64 * n + k) % 256 = 0 then BitVec.ofNat 8 (sentPt d p) else 0#8, byteAt fields (4 * k + r)]
    else [byteAt fields (4 * k + r), 0#8]) ++ slice payload (15232 * k + 3808 * r) 3808

theorem length_opuRow (k r : Nat) : (opuRow d p n fields payload k r).length = 3810 := by
  unfold opuRow
  split <;> simp

/-- Row `r` of a frame with its FEC bytes. -/
def otnRow (bip : Byte) (k r : Nat) : Bytes :=
  (overheadRow d p n carried bip k r ++ opuRow d p n fields payload k r)
    ++ fecBytes (fecMode d p) (overheadRow d p n carried bip k r ++ opuRow d p n fields payload k r)

theorem length_otnRow (bip : Byte) (k r : Nat) : (otnRow d p n fields carried payload bip k r).length = 4080 := by
  simp [otnRow, length_overheadRow, length_opuRow, length_fecBytes]

/-- A byte of the payload unit follows the 14 columns of overhead. -/
theorem byteAt_otnRow (bip : Byte) (k r i : Nat) (hi : i < 3810) :
    byteAt (otnRow d p n fields carried payload bip k r) (14 + i) = byteAt (opuRow d p n fields payload k r) i := by
  have hhead := length_overheadRow d p n carried bip k r
  have hunit := length_opuRow d p n fields payload k r
  rw [otnRow, byteAt_append_left (by rw [List.length_append]; omega), byteAt_append_right (by omega), hhead,
    Nat.add_sub_cancel_left]

theorem byteAt_opuRow_zero {k r : Nat} (h : r < 3) :
    byteAt (opuRow d p n fields payload k r) 0 = byteAt fields (4 * k + r) := by
  rw [opuRow, if_neg (Nat.ne_of_lt h)]
  rfl

theorem byteAt_opuRow_last (k : Nat) : byteAt (opuRow d p n fields payload k 3) 1 = byteAt fields (4 * k + 3) := rfl

theorem length_otnFrames : (otnFrames d p n fields carried payload).2.length = 64 := by
  simp [otnFrames]

/-- Frame `k` is its four rows. -/
theorem otnFrames_frame {k : Nat} (hk : k < 64) :
    ∃ bip, (otnFrames d p n fields carried payload).2[k]? =
      some ((List.range 4).flatMap (otnRow d p n fields carried payload bip k)) := by
  refine ⟨byteAt (fit 2 (Tbl.getD d.frm.bips p []) ++
    ((List.range 64).map (opuRows d p n fields payload)).map (fun l => bip8 l.flatten)) k, ?_⟩
  simp only [otnFrames, List.getElem?_map, List.getElem?_range hk, Option.map_some, Option.getD_some]
  rfl

end

theorem otnFrames_carry_fields (d : Device) (p n k : Nat) (fields carried payload : Bytes) (hk : k < 64) :
    ∃ b : Bytes, (otnFrames d p n fields carried payload).2[k]? = some b ∧ b.length = 16320 ∧
      (∀ r, r < 3 → byteAt b (4080 * r + 14) = byteAt fields (4 * k + r)) ∧
      byteAt b (4080 * 3 + 15) = byteAt fields (4 * k + 3) := by
  obtain ⟨bip, hframe⟩ := otnFrames_frame d p n fields carried payload hk
  have hlen := length_otnRow d p n fields carried payload bip k
  refine ⟨_, hframe, length_flatMap_range hlen 4, fun r hr => ?_, ?_⟩
  · rw [byteAt_flatMap_range hlen (by decide) (by omega), byteAt_otnRow d p n fields carried payload bip k r 0 (by decide),
      byteAt_opuRow_zero _ _ _ _ _ hr]
  · rw [byteAt_flatMap_range hlen (by decide) (by decide),
      byteAt_otnRow d p n fields carried payload bip k 3 1 (by decide), byteAt_opuRow_last]

/-! ## Knadra's bytes in SDH frames (R326) -/

/-- A fold that appends one element a step, made from a state that it carries on. -/
theorem foldl_collects {σ β : Type} (next : σ → Nat → σ) (out : σ → Nat → β) (s : σ) (m : Nat) :
    (((List.range m).foldl (fun acc k => (next acc.1 k, acc.2 ++ [out acc.1 k])) (s, [])).2.length = m) ∧
    ∀ k, k < m → ∃ t,
      ((List.range m).foldl (fun acc k => (next acc.1 k, acc.2 ++ [out acc.1 k])) (s, [])).2[k]? = some (out t k) := by
  induction m with
  | zero => exact ⟨rfl, fun k hk => absurd hk (Nat.not_lt_zero k)⟩
  | succ m ih =>
    obtain ⟨hlen, hat⟩ := ih
    rw [List.range_succ, List.foldl_append]
    generalize (List.range m).foldl _ _ = acc at hlen hat
    refine ⟨by simp [hlen], fun k hk => ?_⟩
    rcases Nat.lt_succ_iff_lt_or_eq.1 hk with hlt | rfl
    · obtain ⟨t, ht⟩ := hat k hlt
      exact ⟨t, (List.getElem?_append_left (hlen ▸ hlt)).trans ht⟩
    · exact ⟨acc.1, by simp [← hlen]⟩

section
variable (d : Device) (p i size n : Nat) (fields carried payload : Bytes)

/-- Frame `k` with the bytes of its section, behind a frame of parity `b3`. -/
def sdhFrame (b3 : Byte) (k : Nat) : Bytes :=
  sectionBytes d p (16 * n + k) k ++ pathFrame d p i (16 * n + k) k (frameBytes size) fields carried payload b3
    ++ sectionParity d p (16 * n + k) ++ pointerBytes d p i size (16 * n + k)

theorem sdhFrames_frames : (sdhFrames d p i size n fields carried payload).2.length = 16 ∧
    ∀ k, k < 16 → ∃ b3, (sdhFrames d p i size n fields carried payload).2[k]? =
      some (sdhFrame d p i size n fields carried payload b3 k) :=
  foldl_collects (fun b3 k => bip8 (pathFrame d p i (16 * n + k) k (frameBytes size) fields carried payload b3))
    (sdhFrame d p i size n fields carried payload) (byteAt (Tbl.getD d.frm.bips (128 + i) []) 0) 16

end

theorem sdhFrames_carry_fields (d : Device) (p i size n k : Nat) (fields carried payload : Bytes) (hk : k < 16) :
    ∃ b : Bytes, (sdhFrames d p i size n fields carried payload).2[k]? = some b ∧
      byteAt b 8 = byteAt fields (2 * k) ∧ byteAt b 10 = byteAt fields (2 * k + 1) := by
  obtain ⟨b3, hframe⟩ := (sdhFrames_frames d p i size n fields carried payload).2 k hk
  exact ⟨_, hframe, rfl, rfl⟩

/-! ## Work on the side of a superframe -/

/-- `a` is `b` but for reporting, the caches of protected memory, and the digests and messages of the Duet; nothing that had
left is lost, and the ports' counters stand. -/
structure SideWork (a b : Device) : Prop where
  work : SameWork { a with mem := b.mem } b
  regs : a.regs = b.regs
  pinOut : a.duet.pinOut = b.duet.pinOut
  pairMember : a.duet.pairMember = b.duet.pairMember
  sent : b.out ⊆ a.out
  counters : ∀ i, i < 8192 → counter a i = counter b i

/-- As `SideWork`, and the framing of the outputs has gone on. -/
def OutputWork (a b : Device) : Prop := SideWork { a with frm := b.frm } b

section
variable {a b c : Device}

theorem SideWork.refl (d : Device) : SideWork d d := ⟨.refl d, rfl, rfl, rfl, fun _ h => h, fun _ _ => rfl⟩

theorem SideWork.trans (h : SideWork a b) (k : SideWork b c) : SideWork a c where
  work := SameWork.trans (b := { b with mem := c.mem }) { h.work with mem := rfl } k.work
  regs := h.regs.trans k.regs
  pinOut := h.pinOut.trans k.pinOut
  pairMember := h.pairMember.trans k.pairMember
  sent _ ho := h.sent (k.sent ho)
  counters i hi := (h.counters i hi).trans (k.counters i hi)

/-- A change of the Duet that leaves role, epoch, pin and member number. -/
theorem SideWork.changeDuet (h : SideWork a b) {q : Duet} (hrole : q.role = a.duet.role)
    (hepoch : q.epoch = a.duet.epoch) (hpin : q.pinOut = a.duet.pinOut) (hmember : q.pairMember = a.duet.pairMember) :
    SideWork { a with duet := q } b :=
  { h with
    work := { h.work with role := hrole.trans h.work.role, epoch := hepoch.trans h.work.epoch }
    pinOut := hpin.trans h.pinOut
    pairMember := hmember.trans h.pairMember }

theorem SideWork.output (h : SideWork a b) : OutputWork a b := { h with work := { h.work with frm := rfl } }

theorem OutputWork.trans (h : OutputWork a b) (k : OutputWork b c) : OutputWork a c :=
  SideWork.trans (b := { b with frm := c.frm }) { h with work := { h.work with frm := rfl } } k

theorem SideWork.frm (h : SideWork a b) : a.frm = b.frm := SameWork.frm (a := { a with mem := b.mem }) h.work
theorem OutputWork.clock (h : OutputWork a b) : a.clock = b.clock :=
  SameWork.clock (a := { a with frm := b.frm, mem := b.mem }) h.work
theorem OutputWork.glb (h : OutputWork a b) : a.glb = b.glb :=
  SameWork.glb (a := { a with frm := b.frm, mem := b.mem }) h.work
theorem OutputWork.boot (h : OutputWork a b) : a.boot = b.boot :=
  SameWork.boot (a := { a with frm := b.frm, mem := b.mem }) h.work
theorem OutputWork.key (h : OutputWork a b) : a.key = b.key :=
  SameWork.key (a := { a with frm := b.frm, mem := b.mem }) h.work
theorem OutputWork.kn (h : OutputWork a b) : a.kn = b.kn :=
  SameWork.kn (a := { a with frm := b.frm, mem := b.mem }) h.work
theorem OutputWork.tmp (h : OutputWork a b) : a.tmp = b.tmp :=
  SameWork.tmp (a := { a with frm := b.frm, mem := b.mem }) h.work
theorem OutputWork.regs (h : OutputWork a b) : a.regs = b.regs := SideWork.regs (a := { a with frm := b.frm }) h
theorem OutputWork.pinOut (h : OutputWork a b) : a.duet.pinOut = b.duet.pinOut :=
  SideWork.pinOut (a := { a with frm := b.frm }) h
theorem OutputWork.sent (h : OutputWork a b) : b.out ⊆ a.out := SideWork.sent (a := { a with frm := b.frm }) h
theorem OutputWork.counters (h : OutputWork a b) (i : Nat) (hi : i < 8192) : counter a i = counter b i :=
  SideWork.counters (a := { a with frm := b.frm }) h i hi
theorem OutputWork.muted (h : OutputWork a b) : muted a = muted b := by
  simp only [Machine.muted, trafficMode, h.glb, h.boot, h.tmp, h.pinOut]
theorem OutputWork.assoc? (h : OutputWork a b) (k : Nat) : assoc? a k = assoc? b k := by
  rw [Machine.assoc?, h.kn, Machine.assoc?]

theorem OutputWork.ite {p : Prop} [Decidable p] {a b d : Device} (ha : OutputWork a d) (hb : OutputWork b d) :
    OutputWork (if p then a else b) d := by
  split
  · exact ha
  · exact hb

theorem foldl_sideWork {α : Type} (g : Device → α → Device) (h : ∀ d x, SideWork (g d x) d) (l : List α) (d : Device) :
    SideWork (l.foldl g d) d := by
  induction l generalizing d with
  | nil => exact .refl d
  | cons x l ih => exact (ih (g d x)).trans (h d x)

theorem foldl_outputWork {α : Type} (g : Device → α → Device) (h : ∀ d x, OutputWork (g d x) d) (l : List α)
    (d : Device) : OutputWork (l.foldl g d) d := by
  induction l generalizing d with
  | nil => exact (SideWork.refl d).output
  | cons x l ih => exact (ih (g d x)).trans (h d x)

end

/-! ## Reporting and messages -/

section
variable (d : Device)

theorem emitRaw_out (src : Source) (t : Nat) (p : Bytes) : (emitRaw d src t p).out = d.out := by
  simp only [emitRaw]
  (repeat' split) <;> rfl

@[simp] theorem emit_out (src : Source) (t : Nat) (p : Bytes) : (emit d src t p).out = d.out := by
  have hdrops : ∀ e, (reportDrops e src).out = e.out := fun e => by
    unfold reportDrops
    split
    · split
      · exact emitRaw_out ..
      · rfl
    · rfl
  unfold emit
  split
  · rfl
  · rw [hdrops, emitRaw_out]

theorem emit_sideWork (src : Source) (t : Nat) (p : Bytes) : SideWork (emit d src t p) d where
  work := { emit_same d src t p with mem := rfl }
  regs := emit_regs ..
  pinOut := congrArg Duet.pinOut (emit_duet ..)
  pairMember := congrArg Duet.pairMember (emit_duet ..)
  sent := (emit_out d src t p) ▸ fun _ h => h
  counters i hi := emit_counter (by unfold devCtr; omega) (by unfold devCtr; omega)

theorem count_sideWork {j : Nat} (n : Nat) (h : 8192 ≤ j) : SideWork (count d j n) d :=
  ⟨{ count_same d j n with mem := rfl }, rfl, rfl, rfl, fun _ h => h,
    fun _ hi => counter_count_ne (Nat.ne_of_lt (Nat.lt_of_lt_of_le hi h))⟩

theorem send_sideWork (o : Out) : SideWork (send d o) d :=
  ⟨{ send_same d o with mem := rfl }, rfl, rfl, rfl, List.subset_cons_self .., fun _ _ => rfl⟩

theorem sendDuet_sideWork (t : Nat) (a : Bool) (p : Bytes) : SideWork (sendDuet d t a p) d where
  work := { sendDuet_same d t a p with mem := rfl }
  regs := sendDuet_regs ..
  pinOut := by rw [sendDuet_duet]
  pairMember := by rw [sendDuet_duet]
  sent := by
    unfold sendDuet putDuet
    split
    · exact fun _ h => h
    · split
      · exact List.subset_cons_self ..
      · exact fun _ h => h
  counters i _ := by simp only [counter, sendDuet_counters]

end

/-! ## A superframe joins its digest window (R582-R587) -/

section
variable (d : Device)

theorem sendResync_sideWork (sas : List Nat) : SideWork (sendResync d sas) d :=
  foldl_sideWork _ (fun _ _ => sendDuet_sideWork ..) ..

theorem digestMismatch_sideWork (kind index window : Nat) : SideWork (digestMismatch d kind index window) d := by
  have hreport : ∀ p, SideWork (emit (count d (devCtr 53)) .duet 0x07 p) d := fun _ =>
    (emit_sideWork ..).trans (count_sideWork d 1 (by decide))
  simp only [digestMismatch, beginDisagree]
  split
  · exact hreport _
  · exact (hreport _).changeDuet rfl rfl rfl rfl

theorem compareWindow_sideWork (own peer : Closed) : SideWork (compareWindow d own peer) d := by
  simp only [compareWindow]
  split
  · exact .refl d
  · split
    · have hcounted := count_sideWork d (j := devCtr 52) 1 (by decide)
      split
      · have hresync := (sendResync_sideWork (count d (devCtr 52)) own.sas).trans hcounted
        split
        · exact hresync.changeDuet rfl rfl rfl rfl
        · exact hresync
      · exact hcounted
    · have hcounted := count_sideWork d (j := devCtr 51) 1 (by decide)
      split
      · exact hcounted
      · exact (digestMismatch_sideWork ..).trans ((sendDuet_sideWork ..).trans hcounted)

theorem closeWindow_sideWork (c : Closed) : SideWork (closeWindow d c) d := by
  simp only [closeWindow]
  generalize hsent : sendDuet d 0x50 false _ = e
  have hside : SideWork e d := hsent ▸ sendDuet_sideWork ..
  split
  · exact (compareWindow_sideWork ..).trans (hside.changeDuet rfl rfl rfl rfl)
  · split
    · exact hside.changeDuet rfl rfl rfl rfl
    · exact hside.changeDuet rfl rfl rfl rfl

theorem addKnTuple_sideWork (a sfn : Nat) (tuple : Bytes) : SideWork (addKnTuple d a sfn tuple) d := by
  have hset : ∀ x, SideWork (setDigest d (128 + a) x) d := fun _ =>
    (SideWork.refl d).changeDuet rfl rfl rfl rfl
  simp only [addKnTuple]
  split
  · exact .refl d
  · split
    · exact .refl d
    · split
      · exact (closeWindow_sideWork ..).trans (hset _)
      · exact hset _

end

/-! ## A record is loaded (R456, R528) -/

section
variable {d : Device} {i : Nat} (hi : i < 8192)
include hi

theorem counter_count_unit (k c n : Nat) : counter (count d (unitCtr k c) n) i = counter d i :=
  counter_count_ne (by unfold unitCtr; omega)

theorem counter_touchTag (line : Nat) (write : Bool) : counter (touchTag d line write) i = counter d i := by
  have hcount : ∀ e k c, counter (count e (unitCtr k c)) i = counter e i := fun _ k c => counter_count_unit hi k c 1
  simp only [touchTag]
  generalize he : (if write && !d.mem.tagDirty.contains line then
    { d with mem := { d.mem with tagDirty := d.mem.tagDirty ++ [line] } } else d) = e
  have hsame : counter e i = counter d i := by
    rw [← he]
    split <;> rfl
  split
  · exact hsame
  · split
    · exact (hcount ..).trans hsame
    · split
      · exact (hcount ..).trans ((hcount ..).trans hsame)
      · exact (hcount ..).trans hsame

omit hi in
theorem counter_markDirty (level node : Nat) : counter (markDirty d level node) i = counter d i := by
  unfold markDirty
  split <;> rfl

theorem counter_insertNode (level node : Nat) : counter (insertNode d level node) i = counter d i := by
  have hread : ∀ k c, counter (count (count d (devCtr 38)) (unitCtr k c)) i = counter d i := fun k c =>
    (counter_count_unit hi k c 1).trans (counter_count_ne (by unfold devCtr; omega))
  simp only [insertNode]
  split
  · rfl
  · split
    · exact (counter_touchTag hi ..).trans (hread ..)
    · exact hread ..

theorem counter_writeNodeBack (level node : Nat) : counter (writeNodeBack d level node) i = counter d i := by
  have hstored : ∀ c, counter (count (storeNode (bumpVersion d level node) level node) (unitCtr 4 c)) i = counter d i :=
    fun c => counter_count_unit hi 4 c 1
  simp only [writeNodeBack]
  generalize he : (if level = 0 then touchTag _ _ true else _) = e
  have hsame : counter e i = counter d i := by
    rw [← he]
    split
    · exact (counter_touchTag hi ..).trans (hstored _)
    · exact hstored _
  split
  · exact hsame
  · exact (counter_markDirty ..).trans ((counter_insertNode hi ..).trans hsame)

theorem counter_fitNodes (fuel : Nat) : counter (fitNodes fuel d) i = counter d i := by
  induction fuel generalizing d with
  | zero => rfl
  | succ fuel ih =>
    simp only [fitNodes]
    split
    · rfl
    · refine ih.trans ?_
      split
      · exact counter_writeNodeBack hi ..
      · rfl

theorem counter_loadNode (fuel level node : Nat) : counter (loadNode fuel d level node) i = counter d i := by
  induction fuel generalizing level node with
  | zero => rfl
  | succ fuel ih =>
    simp only [loadNode]
    split
    · rfl
    · refine (counter_fitNodes hi _).trans ((counter_insertNode hi ..).trans ?_)
      split
      · rfl
      · exact ih ..

theorem counter_readLine (line : Nat) : counter (readLine d line) i = counter d i := by
  simp only [readLine]
  split
  · exact (counter_count_unit hi ..).trans ((counter_touchTag hi ..).trans (counter_loadNode hi ..))
  · exact counter_loadNode hi ..

end

theorem readLine_sideWork (d : Device) (line : Nat) : SideWork (readLine d line) d := by
  have hrest := (readLine_cacheWork d line).rest
  have hduet : (readLine d line).duet = d.duet := (congrArg Device.duet hrest :)
  have hout : (readLine d line).out = d.out := (congrArg Device.out hrest :)
  have hcounted : SameWork { readLine d line with mem := d.mem }
      { readLine d line with counters := d.counters, mem := d.mem } := by constructor <;> rfl
  exact ⟨hcounted.trans (by rw [hrest]; exact .refl d), (congrArg Device.regs hrest :), by rw [hduet], by rw [hduet],
    hout ▸ fun _ h => h,
    fun i hi => counter_readLine hi line⟩

theorem loadRecord_sideWork (d : Device) (i : Nat) : SideWork (loadRecord d i) d := by
  unfold loadRecord
  split
  · exact .refl d
  · exact readLine_sideWork ..

/-! ## Outputs (R274-R276, R288) -/

section
variable (d : Device)

theorem sendAis_sideWork (p i : Nat) : SideWork (sendAis d p i) d := send_sideWork ..

theorem outputWork_of_frm (m : Frm) : OutputWork { d with frm := m } d := SideWork.refl d

theorem otnFrames_outputWork (p n : Nat) (fields carried payload : Bytes) :
    OutputWork (otnFrames d p n fields carried payload).1 d := by
  simp only [otnFrames, returned]
  exact outputWork_of_frm ..

theorem sdhFrames_outputWork (p i size n : Nat) (fields carried payload : Bytes) :
    OutputWork (sdhFrames d p i size n fields carried payload).1 d := by
  simp only [sdhFrames, returned]
  exact outputWork_of_frm ..

theorem sendFrames_outputWork (p i n lo hi : Nat) (fields carried payload : Bytes) :
    OutputWork (sendFrames d p i n lo hi fields carried payload) d := by
  simp only [sendFrames]
  split
  · exact (sendAis_sideWork ..).output
  · refine (send_sideWork ..).output.trans ?_
    split
    · exact sdhFrames_outputWork ..
    · exact otnFrames_outputWork ..

end

section
variable {d : Device} {p : Nat} (hmuted : muted d = false) (i n : Nat) (fields carried payload : Bytes)
include hmuted

/-- A member that is not muted sends all 64 frames of an OTN port. -/
theorem otnFrames_mem_sendFrames (hotn : isSdh d p = false) :
    Out.frames p i (otnFrames d p n fields carried payload).2 ∈
      (sendFrames d p i n 0 64 fields carried payload).out := by
  have hall : (otnFrames d p n fields carried payload).2.take 64 = (otnFrames d p n fields carried payload).2 :=
    List.take_of_length_le (Nat.le_of_eq (length_otnFrames ..))
  simp [sendFrames, hmuted, hotn, hall, send]

/-- A member that is not muted sends all 16 frames of an SDH container. -/
theorem sdhFrames_mem_sendFrames (hsdh : isSdh d p = true) :
    Out.frames p i (sdhFrames d p i (outSize d i) n fields carried payload).2 ∈
      (sendFrames d p i n 0 64 fields carried payload).out := by
  have hall : (sdhFrames d p i (outSize d i) n fields carried payload).2.take 64 =
      (sdhFrames d p i (outSize d i) n fields carried payload).2 :=
    List.take_of_length_le (by rw [(sdhFrames_frames ..).1]; decide)
  simp [sendFrames, hmuted, hsdh, hall, send]

end

section
variable {a b : Device} (h : SideWork a b)
include h

theorem SideWork.outSize (i : Nat) : outSize a i = outSize b i := by
  simp only [Machine.outSize, connection, slotPort_congr h.output.boot, pageOf, activePage, standbyPage, h.frm]

/-- What is sent in frames comes from the framing, the registers and the ports alone. -/
theorem SideWork.otnFrames (p n : Nat) (fields carried payload : Bytes) :
    (otnFrames a p n fields carried payload).2 = (otnFrames b p n fields carried payload).2 := by
  have hfrm := h.frm
  have hglb := h.output.glb
  have hboot := h.output.boot
  have hregs := h.regs
  obtain ⟨⟩ := a
  obtain ⟨⟩ := b
  cases hfrm
  cases hglb
  cases hboot
  cases hregs
  rfl

theorem SideWork.sdhFrames (p i size n : Nat) (fields carried payload : Bytes) :
    (sdhFrames a p i size n fields carried payload).2 = (sdhFrames b p i size n fields carried payload).2 := by
  have hmuted := h.output.muted
  have hfrm := h.frm
  have hglb := h.output.glb
  have hboot := h.output.boot
  have hclock := h.output.clock
  have hregs := h.regs
  have hsent : sentK a p = sentK b p := by
    have hrdi : msRdi a p = msRdi b p := by
      unfold msRdi hasDefect portDefects
      rw [hfrm]
    rw [sentK, sentK, reg_congr hregs hglb, hmuted, hrdi]
  simp only [Machine.sdhFrames, sectionBytes, hsent]
  clear hmuted hsent
  generalize sentK b p = k
  obtain ⟨⟩ := a
  obtain ⟨⟩ := b
  cases hfrm
  cases hglb
  cases hboot
  cases hclock
  cases hregs
  rfl

end

end Sys2Proof.Machine

/-!
PROOF. A superframe in service is enciphered and sent, and a received one is deciphered, checked and delivered: O47.
-/
namespace Sys2Proof.Machine

/-! ## A superframe is sent (R328-R334) -/

section
variable {a b : Device} (h : OutputWork a b)
include h

theorem OutputWork.keyRec (i : Nat) : keyRec a i = keyRec b i := by rw [Machine.keyRec, h.key, Machine.keyRec]

theorem OutputWork.recGood (i : Nat) : recGood a i = recGood b i := by
  simp only [Machine.recGood, checkValue, h.keyRec, h.key]

theorem OutputWork.isSdh (p : Nat) : isSdh a p = isSdh b p := isSdh_congr h.boot p

theorem OutputWork.memberInUse (hmember : a.duet.pairMember = b.duet.pairMember) : memberInUse a = memberInUse b := by
  simp only [Machine.memberInUse, ownMember, hmember, h.boot]

end

theorem assoc?_setAssoc (d : Device) (a : Nat) (x : Assoc) : assoc? (setAssoc d a x) a = some x := Tbl.get?_put ..

theorem assoc?_setAssoc_ne (d : Device) {a k : Nat} (x : Assoc) (h : k ≠ a) : assoc? (setAssoc d a x) k = assoc? d k :=
  Tbl.get?_put_ne _ _ _ _ h

/-- What superframe `n` of an association without a turn is made of: key, IV, fields, cipher text and tag. -/
structure Enciphers (d : Device) (a n : Nat) (x : Assoc) (payload key iv fields ct tag : Bytes) : Prop where
  hkey : key = (keyRec d (knRecord a x 0 0)).key
  hiv : iv = knIv x.salt (memberInUse d) n
  hfields : fields =
    knFields (isSdh d x.port) (if x.sent then x.tagPrev else zeroTag) (x.txCur.getD 0) 0 (memberInUse d) n
  hcipher : ct = fit payload.length (gcmCrypt key iv payload)
  htag : tag = fit 16 (gcmTag key iv (fields.drop 16) ct)

theorem Enciphers.of_sideWork {d e : Device} {a n : Nat} {x : Assoc} {payload key iv fields ct tag : Bytes}
    (h : Enciphers d a n x payload key iv fields ct tag) (hside : SideWork e d) :
    Enciphers e a n x payload key iv fields ct tag := by
  have hmember := hside.output.memberInUse hside.pairMember
  exact { h with
    hkey := by rw [hside.output.keyRec, h.hkey]
    hiv := by rw [hmember, h.hiv]
    hfields := by rw [hside.output.isSdh, hmember, h.hfields] }

/-- Superframe `n` has joined its digest window and gone out, in its frames too. -/
def superframeOut (d : Device) (a n : Nat) (x : Assoc) (carried fields ct tag : Bytes) : Device :=
  sendFrames (send (addKnTuple d a n ([0x10#8] ++ beBytes 2 a ++ beBytes 8 n ++ tag)) (.superframe a fields ct tag))
    x.port x.slot n 0 64 fields carried ct

section
variable {d : Device} {a n : Nat} {x : Assoc} {payload carried key iv fields ct tag : Bytes}

/-- A superframe ends a period without a turn and without a change of FLAGS: the number advances. -/
theorem superframeEnd_of_noTurn (hturn : x.turn = none) (hpend : x.txPend = none) (hn : n < 2 ^ 64 - 1) :
    superframeEnd d a n x = setAssoc d a { x with sfn := n + 1, began := d.clock } := by
  have hnext : min (2 ^ 64 - 1) (n + 1) = n + 1 := Nat.min_eq_right hn
  obtain ⟨⟩ := x
  cases hturn
  cases hpend
  simp only [superframeEnd, hnext]
  rfl

theorem sendCiphered_of_enciphers (h : Enciphers d a n x payload key iv fields ct tag) (hturn : x.turn = none)
    (hpend : x.txPend = none) (hn : n < 2 ^ 64 - 1) (hlen : payload.length ≤ txPayload d x) (hmuted : muted d = false) :
    sendCiphered d a n 0 payload carried x = setAssoc (superframeOut d a n x carried fields ct tag) a
      { x with tagPrev := tag, sent := true, sfn := n + 1
               began := (superframeOut d a n x carried fields ct tag).clock } := by
  obtain ⟨rfl, rfl, rfl, rfl, rfl⟩ := h
  have hquiet : ∀ t, muted (addKnTuple d a n t) = false := fun t => (addKnTuple_sideWork d a n t).output.muted.trans hmuted
  have hannounced : countdown x.turn n = 0 := by rw [hturn]; rfl
  simp only [sendCiphered, List.take_of_length_le hlen, hannounced, hquiet]
  exact superframeEnd_of_noTurn hturn hpend hn

theorem superframeOut_outputWork (d : Device) (a n : Nat) (x : Assoc) (carried fields ct tag : Bytes) :
    OutputWork (superframeOut d a n x carried fields ct tag) d :=
  (sendFrames_outputWork ..).trans ((send_sideWork ..).trans (addKnTuple_sideWork ..)).output

theorem superframe_mem_superframeOut (d : Device) (a n : Nat) (x : Assoc) (carried fields ct tag : Bytes) :
    Out.superframe a fields ct tag ∈ (superframeOut d a n x carried fields ct tag).out :=
  (sendFrames_outputWork ..).sent (List.mem_cons_self ..)

theorem otnFrames_mem_superframeOut (hmuted : muted d = false) (hotn : isSdh d x.port = false) :
    Out.frames x.port x.slot (otnFrames d x.port n fields carried ct).2 ∈
      (superframeOut d a n x carried fields ct tag).out := by
  have hside : ∀ t o, SideWork (send (addKnTuple d a n t) o) d := fun _ _ =>
    (send_sideWork ..).trans (addKnTuple_sideWork ..)
  rw [← (hside _ _).otnFrames]
  exact otnFrames_mem_sendFrames ((hside ..).output.muted.trans hmuted) _ _ _ _ _ (((hside ..).output.isSdh _).trans hotn)

theorem sdhFrames_mem_superframeOut (hmuted : muted d = false) (hsdh : isSdh d x.port = true) :
    Out.frames x.port x.slot (sdhFrames d x.port x.slot (outSize d x.slot) n fields carried ct).2 ∈
      (superframeOut d a n x carried fields ct tag).out := by
  have hside : ∀ t o, SideWork (send (addKnTuple d a n t) o) d := fun _ _ =>
    (send_sideWork ..).trans (addKnTuple_sideWork ..)
  rw [← (hside _ _).sdhFrames, ← (hside _ _).outSize]
  exact sdhFrames_mem_sendFrames ((hside ..).output.muted.trans hmuted) _ _ _ _ _ (((hside ..).output.isSdh _).trans hsdh)

theorem sendSuperframe_of_inService (hthere : assoc? d a = some x) (hin : txInService x = true) (hturn : x.turn = none)
    (hrole : d.duet.role ≠ .active) (hruns : pathRuns d = true) (hais : sourceHasAis d x = false)
    (hn : x.sfn < 2 ^ 64 - 1) (hgood : recGood d (knRecord a x 0 0) = true) :
    sendSuperframe d a payload carried =
      sendCiphered (loadRecord d (knRecord a x 0 0)) a x.sfn 0 payload carried x := by
  have hawake : d.glb.awake = true ∧ d.pwr.holding = false := by
    simp only [pathRuns, Bool.and_eq_true, Bool.not_eq_true'] at hruns
    obtain ⟨⟨⟨⟨hawake, -⟩, hholding⟩, -⟩, -⟩ := hruns
    exact ⟨hawake, hholding⟩
  have hloaded := ((loadRecord_sideWork d (knRecord a x 0 0)).output.recGood _).trans hgood
  have hmark : knMark d a x.sfn = (d, true) := if_neg hrole
  have hlast : x.sfn ≠ 18446744073709551615 := Nat.ne_of_lt hn
  simp [sendSuperframe, hthere, hawake, hmark, hturn, hruns, hin, hais, hlast, hloaded]

end

/-! ## A superframe arrives (R336-R343) -/

/-- The association once a superframe has arrived, with an output change whose boundary has come. -/
def arrived (d : Device) (x : Assoc) : Assoc := { outputNow d x with skip := x.skip - 1, rxAt := d.clock }

theorem outputNow_keeps (d : Device) (x : Assoc) : ∃ v due c,
    outputNow d x = { x with output := v, outputDue := due, cut := c } := by
  unfold outputNow
  split
  · exact ⟨_, _, _, rfl⟩
  · exact ⟨x.output, x.outputDue, x.cut, rfl⟩

theorem arrived_of_noChange {d : Device} {x : Assoc} (hdue : x.outputDue = none) (hskip : x.skip = 0) :
    arrived d x = { x with rxAt := d.clock } := by
  simp only [arrived, outputNow, hdue, hskip]

section
variable {d : Device} {a : Nat} {x : Assoc} {frames : List (Byte × Bytes)} {payload tag : Bytes}
  (hthere : assoc? d a = some x) (hruns : pathRuns d = true) (hin : rxInService x = true) (hheld : x.withheld = false)
  (hotn : isSdh d x.port = false) (hskip : x.skip = 0)
include hthere hruns hin hheld hotn hskip

/-- A superframe received without a prediction gives the prediction (log 64). -/
theorem receiveSuperframe_of_first (hpred : x.pred = none) :
    receiveSuperframe d a frames payload tag = applyRxPend (aisSuperframe d a
      { arrived d x with pred := some (rxSfn false x (rxFields false 0 frames) + 1) }) a := by
  obtain ⟨v, due, c, hnow⟩ := outputNow_keeps d x
  unfold rxInService at hin
  simp only [receiveSuperframe, arrived, hthere, hruns, hotn, hnow, rxInService, hin, hheld, hpred, hskip, Bool.not_true,
    Bool.false_eq_true, if_false, Bool.or_false, ne_eq, not_true_eq_false, decide_false]
  rfl

theorem receiveSuperframe_of_pred {n : Nat} (hpred : x.pred = some n) (hlen : payload.length ≤ rxPayload d x) :
    receiveSuperframe d a frames payload tag = applyRxPend (judgeSuperframe d a n (arrived d x)
      (rxFields false 0 frames) (rxCarried false 0 frames) payload tag) a := by
  obtain ⟨v, due, c, hnow⟩ := outputNow_keeps d x
  unfold rxInService at hin
  simp only [rxPayload, hotn, Bool.false_eq_true, if_false] at hlen
  simp only [receiveSuperframe, arrived, hthere, hruns, hotn, hnow, rxInService, hin, hheld, hpred, hskip, rxPayload,
    List.take_of_length_le hlen, Bool.not_true,
    Bool.false_eq_true, if_false, Bool.or_false, ne_eq, not_true_eq_false, decide_false]
  rfl

end

section
variable {d : Device} {a : Nat} {x : Assoc}

theorem applyRxPend_of_none (hthere : assoc? d a = some x) (hpend : x.rxPend = none) : applyRxPend d a = d := by
  simp only [applyRxPend, hthere, hpend]

theorem foldl_sendAis_same (l : List (Nat × Nat)) (d : Device) :
    SameWork (l.foldl (fun d o => sendAis d o.1 o.2) d) d := foldl_same _ _ (fun _ _ => send_same ..) _

theorem foldl_sendAis_counter (l : List (Nat × Nat)) (d : Device) (i : Nat) :
    counter (l.foldl (fun d o => sendAis d o.1 o.2) d) i = counter d i :=
  foldl_keeps (counter · i) (fun d o => sendAis d o.1 o.2) (fun _ _ => rfl) l d

/-- In ACQUIRE the outputs of an association carry AIS for a superframe, which is counted. -/
theorem aisSuperframe_of_acquire (hin : rxInService x = true) (hheld : x.withheld = false) (hstate : x.rxState ≠ 1) :
    SameWork (aisSuperframe d a x) (setAssoc (count d (portCtr 26 x.port)) a { x with cut := none }) ∧
    counter (aisSuperframe d a x) (portCtr 26 x.port) = counter d (portCtr 26 x.port) + 1#64 := by
  simp only [aisSuperframe, hin, hheld, bne_iff_ne.2 hstate]
  exact ⟨foldl_sendAis_same .., (foldl_sendAis_counter ..).trans (counter_count ..)⟩

end

/-! ## What the judgement of a superframe does (R337-R340) -/

/-- The superframe has been deciphered and its frames delivered. -/
def deciphered (d : Device) (a n : Nat) (carried ct : Bytes) (x : Assoc) : Device :=
  deliverClear (loadRecord d (knRecord a x 1 0)) a n carried
    (fit ct.length (gcmCrypt (keyRec d (knRecord a x 1 0)).key (knIv x.salt x.peer n) ct)) x

/-- The superframe has been counted outside RUN and has joined its digest window. -/
def digested (d : Device) (a : Nat) (x : Assoc) (f : Bytes) (ok : Bool) : Device :=
  let e := if x.rxState = 1 then d else count d (portCtr 26 x.port)
  let n := rxSfn (isSdh e x.port) x f
  addKnTuple e a n ([0x11#8] ++ beBytes 2 a ++ beBytes 8 n ++ [if ok then 1#8 else 0#8])

/-- The superframe has passed, or failed with its cause. -/
def judged (d : Device) (a n : Nat) (f ct tag : Bytes) (x : Assoc) : Option Nat → Device
  | none => superframePass d a n f false x
  | some c => superframeFail d a n c f ct tag false x

theorem OutputWork.superframeCause {a b : Device} (h : OutputWork a b) (x : Assoc) (i idx n : Nat) (f ct tag : Bytes) :
    superframeCause a x i idx n f ct tag = superframeCause b x i idx n f ct tag := by
  unfold Machine.superframeCause tagOk
  rw [h.isSdh, h.keyRec]

section
variable {d : Device} {a n : Nat} {x : Assoc} {f carried ct tag : Bytes}

theorem judgeSuperframe_of_good (hturn : x.rxTurn = none) (hgood : recGood d (knRecord a x 1 0) = true) :
    judgeSuperframe d a n x f carried ct tag =
      turnBegins (judged (digested (deciphered d a n carried ct x) a x f
        (superframeCause d x (knRecord a x 1 0) (x.rxCur.getD 0) n f ct tag).isNone) a n f ct tag { x with cut := none }
        (superframeCause d x (knRecord a x 1 0) (x.rxCur.getD 0) n f ct tag)) a := by
  have hloaded := (loadRecord_sideWork d (knRecord a x 1 0)).output
  have hdecided : decideTurn d a n (n + 1) x = (d, x) := by simp only [decideTurn, hturn]
  have hcause := hloaded.superframeCause x (knRecord a x 1 0) (x.rxCur.getD 0) n f ct tag
  simp only [judgeSuperframe, hdecided, hturn, Option.any_none, Bool.and_false, Bool.false_eq_true, if_false,
    (hloaded.recGood _).trans hgood, Bool.not_true, hcause, hloaded.keyRec]
  generalize superframeCause d x (knRecord a x 1 0) (x.rxCur.getD 0) n f ct tag = c
  cases c <;> rfl

/-- The deciphered frames have gone out in the clear, where some are delivered and the member is not muted. -/
def clearSent (d : Device) (a : Nat) (plain : Bytes) (x : Assoc) (lo hi : Nat) : Device :=
  if lo < hi && !muted d then
    send d (.clear a ((plain.take (rxPayload d x / superframeFrames d x * hi)).drop
      (rxPayload d x / superframeFrames d x * lo)))
  else d

theorem deliverClear_clearSent (d : Device) (a n : Nat) (carried plain : Bytes) (x : Assoc) :
    OutputWork (deliverClear d a n carried plain x)
      (clearSent d a plain x (deliveredFrames d x).1 (deliveredFrames d x).2) := by
  have hframes : ∀ (e : Device) (o : Nat × Nat) (p : Bool) i j,
      OutputWork (if p then sendFrames e o.1 o.2 n i j [] carried plain else e) e := fun e _ _ _ _ =>
    .ite (sendFrames_outputWork ..) (SideWork.refl e).output
  simp only [deliverClear]
  exact foldl_outputWork _ (fun e o => .ite ((sendAis_sideWork ..).output.trans (hframes ..)) (hframes e o ..)) _ _

theorem deliverClear_outputWork (d : Device) (a n : Nat) (carried plain : Bytes) (x : Assoc) :
    OutputWork (deliverClear d a n carried plain x) d :=
  (deliverClear_clearSent ..).trans (.ite (send_sideWork ..).output (SideWork.refl d).output)

theorem deciphered_outputWork (d : Device) (a n : Nat) (carried ct : Bytes) (x : Assoc) :
    OutputWork (deciphered d a n carried ct x) d :=
  (deliverClear_outputWork ..).trans (loadRecord_sideWork ..).output

theorem digested_sideWork (d : Device) (a : Nat) (f : Bytes) (ok : Bool) (hrun : x.rxState = 1) :
    SideWork (digested d a x f ok) d := by
  simp only [digested, if_pos hrun]
  exact addKnTuple_sideWork ..

theorem digested_sent (d : Device) (a : Nat) (x : Assoc) (f : Bytes) (ok : Bool) : d.out ⊆ (digested d a x f ok).out := by
  intro o ho
  refine (addKnTuple_sideWork ..).sent ?_
  split
  · exact ho
  · exact ho

/-! ### In RUN -/

theorem takeAnnouncement_keeps (d : Device) (n : Nat) (f : Bytes) (x : Assoc) : ∃ t i b,
    takeAnnouncement d n f x = { x with rxTurn := t, rxIndex := i, rxDecided := b } := by
  simp only [takeAnnouncement]
  split
  · exact ⟨x.rxTurn, x.rxIndex, x.rxDecided, rfl⟩
  · exact ⟨_, _, _, rfl⟩

theorem superframePass_of_run (hrun : x.rxState = 1) : ∃ t i b,
    superframePass d a n f false x = setAssoc (count d (portCtr 24 x.port)) a
      { x with last := some n, passRun := x.passRun + 1, failRun := 0, rxTurn := t, rxIndex := i, rxDecided := b
               pred := some (n + 1) } := by
  obtain ⟨t, i, b, htaken⟩ := takeAnnouncement_keeps (count d (portCtr 24 x.port)) n f
    { x with last := some n, passRun := x.passRun + 1, failRun := 0 }
  refine ⟨t, i, b, ?_⟩
  simp only [superframePass, Bool.false_eq_true, if_false, htaken]
  rw [if_neg (fun h => h.1 hrun), if_pos hrun]

theorem failEvent_sideWork (d : Device) (a n c : Nat) (x : Assoc) : SideWork (failEvent d a n c x).1 d := by
  unfold failEvent
  split
  · exact emit_sideWork ..
  · exact .refl d

theorem failEvent_keeps (d : Device) (a n c : Nat) (x : Assoc) : ∃ l, (failEvent d a n c x).2 = { x with sfFail := l } := by
  unfold failEvent
  split <;> exact ⟨_, rfl⟩

/-- A failure that does not yet fill N_FAIL keeps RUN. -/
theorem superframeFail_of_run {c : Nat} (hrun : x.rxState = 1) (hnext : x.rxNext = none)
    (hfew : x.failRun + 1 < x.nFail) (hlimit : x.nFail ≤ 15) : ∃ e y,
    superframeFail d a n c f ct tag false x = setAssoc e a y ∧ SideWork e (count d (portCtr 25 x.port)) ∧
      y.rxState = 1 ∧ y.pred = some (n + 1) ∧ y.failRun = x.failRun + 1 ∧ y.rxPend = x.rxPend := by
  have hmissed : missedTurn d x a n false f ct tag = false := by simp [missedTurn, hnext]
  have hcount : min 15 (x.failRun + 1) = x.failRun + 1 := Nat.min_eq_right (Nat.le_of_lt (Nat.lt_of_lt_of_le hfew hlimit))
  simp only [superframeFail, hmissed, hcount, Bool.false_eq_true, if_false]
  generalize hevent : failEvent _ a n c _ = r
  have hside : SideWork r.1 (count d (portCtr 25 x.port)) := hevent ▸ failEvent_sideWork ..
  obtain ⟨l, hkeeps⟩ : ∃ l, r.2 = { x with passRun := 0, failRun := x.failRun + 1, fails := min (2 ^ 32 - 1) (x.fails + 1)
                                           sfFail := l } := hevent ▸ failEvent_keeps ..
  have hfull : ¬ (x.rxState = 1 ∧ x.failRun + 1 ≥ x.nFail) := fun h => Nat.not_le_of_lt hfew h.2
  simp only [hkeeps, if_neg hfull, if_pos hrun]
  split
  · obtain ⟨t, i, b, htaken⟩ := takeAnnouncement_keeps r.1 n f
      { x with passRun := 0, failRun := x.failRun + 1, fails := min (2 ^ 32 - 1) (x.fails + 1), sfFail := l
               pred := some (n + 1) }
    rw [htaken]
    exact ⟨_, _, rfl, hside, hrun, rfl, rfl, rfl⟩
  · exact ⟨_, _, rfl, hside, hrun, rfl, rfl, rfl⟩

theorem decideTurn_sideWork (d : Device) (a n cur : Nat) (x : Assoc) : SideWork (decideTurn d a n cur x).1 d := by
  unfold decideTurn
  split
  · split
    · exact .refl d
    · split
      · exact .refl d
      · exact emit_sideWork ..
  · exact .refl d

theorem decideTurn_keeps (d : Device) (a n cur : Nat) (x : Assoc) : ∃ t b,
    (decideTurn d a n cur x).2 = { x with rxTurn := t, rxDecided := b } := by
  unfold decideTurn
  split
  · split
    · exact ⟨x.rxTurn, x.rxDecided, rfl⟩
    · split
      · exact ⟨x.rxTurn, true, rfl⟩
      · exact ⟨none, x.rxDecided, rfl⟩
  · exact ⟨x.rxTurn, x.rxDecided, rfl⟩

/-- What a judged association of which no change of FLAGS waits leaves once the next superframe has begun. -/
theorem turnBegins_settles (e : Device) (a : Nat) {y : Assoc} (hpend : y.rxPend = none) : ∃ t b,
    assoc? (applyRxPend (turnBegins (setAssoc e a y) a) a) a = some { y with rxTurn := t, rxDecided := b } ∧
      (∀ i, i < 8192 → counter (applyRxPend (turnBegins (setAssoc e a y) a) a) i = counter e i) ∧
      (applyRxPend (turnBegins (setAssoc e a y) a) a).key = e.key := by
  have hside := decideTurn_sideWork (setAssoc e a y) a (y.pred.getD 0) (y.pred.getD 0) y
  obtain ⟨t, b, hkeeps⟩ := decideTurn_keeps (setAssoc e a y) a (y.pred.getD 0) (y.pred.getD 0) y
  have hbegun : turnBegins (setAssoc e a y) a =
      setAssoc (decideTurn (setAssoc e a y) a (y.pred.getD 0) (y.pred.getD 0) y).1 a
        { y with rxTurn := t, rxDecided := b } := by
    simp only [turnBegins, assoc?_setAssoc, hkeeps]
  have hthere := assoc?_setAssoc (decideTurn (setAssoc e a y) a (y.pred.getD 0) (y.pred.getD 0) y).1 a
    { y with rxTurn := t, rxDecided := b }
  rw [hbegun, applyRxPend_of_none hthere hpend]
  exact ⟨t, b, hthere, hside.counters, hside.output.key⟩

/-! ### What has left the device -/

theorem eraseRec_out (d : Device) (i : Nat) : (eraseRec d i).out = d.out := by
  simp only [eraseRec]
  split <;> rfl

theorem assocOut_out (d : Device) (a cause : Nat) : (assocOut d a cause).out = d.out := by
  unfold assocOut
  split
  · split
    · rfl
    · rw [emit_out]
      exact foldl_keeps Device.out _ (fun d i => eraseRec_out d i) ..
  · rfl

theorem eraseRecord_out (d : Device) (i : Nat) : (eraseRecord d i).out = d.out :=
  (writeLine_leaves (get := Device.out) (fun _ _ _ => rfl) emit_out (fun _ _ => rfl) assocOut_out ..).trans
    (eraseRec_out d i)

theorem starve_out (d : Device) (a : Nat) (x : Assoc) (v : Bool) : (starve d a x v).out = d.out := by
  simp only [starve]
  split
  · rfl
  · split
    · rw [emit_out]
      rfl
    · rfl

theorem knCapacity_out (d : Device) : (knCapacity d).out = d.out :=
  foldl_keeps Device.out _ (fun _ _ => starve_out ..) ..

theorem rxTurn_out (d : Device) (a : Nat) (x : Assoc) : (rxTurn d a x).1.out = d.out := eraseRecord_out ..

theorem out_ite {p : Prop} [Decidable p] {a b d : Device} (ha : a.out = d.out) (hb : b.out = d.out) :
    (if p then a else b).out = d.out := by
  split
  · exact ha
  · exact hb

theorem superframePass_out (d : Device) (a n : Nat) (f : Bytes) (x : Assoc) :
    (superframePass d a n f false x).out = d.out := by
  simp only [superframePass, Bool.false_eq_true, if_false]
  exact out_ite (emit_out ..) rfl

theorem failEvent_out (d : Device) (a n c : Nat) (x : Assoc) : (failEvent d a n c x).1.out = d.out := by
  unfold failEvent
  split
  · exact emit_out ..
  · rfl

theorem superframeFail_out (d : Device) (a n c : Nat) (f ct tag : Bytes) (x : Assoc) :
    (superframeFail d a n c f ct tag false x).out = d.out := by
  simp only [superframeFail, Bool.false_eq_true, if_false]
  generalize hevent : failEvent _ a n c _ = r
  have hout : r.1.out = d.out := hevent ▸ failEvent_out ..
  have hreported : ∀ (p : Prop) [Decidable p] i t b,
      (if p then emit (count r.1 i) .framer t b else r.1).out = d.out := fun _ _ _ _ _ =>
    out_ite ((emit_out ..).trans hout) hout
  exact out_ite ((emit_out ..).trans ((rxTurn_out ..).trans (hreported ..))) (out_ite (hreported ..) (hreported ..))

theorem judged_out (d : Device) (a n : Nat) (f ct tag : Bytes) (x : Assoc) (c : Option Nat) :
    (judged d a n f ct tag x c).out = d.out := by
  cases c with
  | none => exact superframePass_out ..
  | some c => exact superframeFail_out ..

theorem decideTurn_out (d : Device) (a n cur : Nat) (x : Assoc) : (decideTurn d a n cur x).1.out = d.out := by
  unfold decideTurn
  split
  · split
    · rfl
    · split
      · rfl
      · exact emit_out ..
  · rfl

theorem turnBegins_out (d : Device) (a : Nat) : (turnBegins d a).out = d.out := by
  unfold turnBegins
  split
  · exact decideTurn_out ..
  · rfl

theorem applyRxPend_out (d : Device) (a : Nat) : (applyRxPend d a).out = d.out := by
  unfold applyRxPend
  split
  · split
    · split
      · rfl
      · exact knCapacity_out _
    · rfl
  · rfl

/-- With the output on, the whole payload of an OTN superframe is delivered in the clear. -/
theorem clear_mem_deliverClear {plain : Bytes} (hotn : isSdh d x.port = false) (hon : x.output = true)
    (hcut : x.cut = none) (hmuted : muted d = false) (hlen : plain.length ≤ 974848) :
    Out.clear a plain ∈ (deliverClear d a n carried plain x).out := by
  have hwhole : deliveredFrames d x = (0, 64) := by simp [deliveredFrames, hcut, hon, superframeFrames, hotn]
  have hpart : (plain.take (rxPayload d x / superframeFrames d x * 64)).drop (rxPayload d x / superframeFrames d x * 0) =
      plain := by
    simp only [rxPayload, superframeFrames, hotn, Bool.false_eq_true, if_false, Nat.mul_zero, List.drop_zero]
    exact List.take_of_length_le hlen
  refine (deliverClear_clearSent ..).sent ?_
  simp only [hwhole, clearSent]
  rw [hpart]
  simp [hmuted, send]

/-- As long as the payload is no longer than a superframe's, what it deciphers to is delivered before the tag is checked. -/
theorem clear_mem_judgeSuperframe (hturn : x.rxTurn = none) (hgood : recGood d (knRecord a x 1 0) = true)
    (hotn : isSdh d x.port = false) (hon : x.output = true) (hcut : x.cut = none) (hmuted : muted d = false)
    (hlen : ct.length ≤ 974848) :
    Out.clear a (fit ct.length (gcmCrypt (keyRec d (knRecord a x 1 0)).key (knIv x.salt x.peer n) ct)) ∈
      (judgeSuperframe d a n x f carried ct tag).out := by
  have hloaded := (loadRecord_sideWork d (knRecord a x 1 0)).output
  rw [judgeSuperframe_of_good hturn hgood, turnBegins_out, judged_out]
  exact digested_sent _ _ _ _ _ (clear_mem_deliverClear ((hloaded.isSdh _).trans hotn) hon hcut
    (hloaded.muted.trans hmuted) (by rwa [length_fit]))

end

section
variable {d : Device} {a n : Nat} {x : Assoc} {frames : List (Byte × Bytes)} {payload tag : Bytes}
  (hthere : assoc? d a = some x) (hruns : pathRuns d = true) (hin : rxInService x = true) (hheld : x.withheld = false)
  (hotn : isSdh d x.port = false) (hskip : x.skip = 0) (hpred : x.pred = some n) (hlen : payload.length ≤ rxPayload d x)
  (hturn : x.rxTurn = none) (hgood : recGood d (knRecord a x 1 0) = true)
include hthere hruns hin hheld hotn hskip hpred hlen hturn hgood

/-- Where no turn is announced and the record is good, a predicted superframe is judged by the checks of R337; before that
nothing of the device has changed in RUN but its outputs and what is reported. -/
theorem receiveSuperframe_of_good : ∃ e v due j,
    receiveSuperframe d a frames payload tag = applyRxPend (turnBegins (judged e a n (rxFields false 0 frames) payload tag
      { x with output := v, outputDue := due, cut := none, skip := j, rxAt := d.clock }
      (superframeCause d x (knRecord a x 1 0) (x.rxCur.getD 0) n (rxFields false 0 frames) payload tag)) a) a ∧
      (x.rxState = 1 → OutputWork e d) := by
  obtain ⟨v, due, c, hnow⟩ := outputNow_keeps d x
  have hjudged := judgeSuperframe_of_good (d := d) (a := a) (n := n) (f := rxFields false 0 frames)
    (carried := rxCarried false 0 frames) (ct := payload) (tag := tag)
    (x := { x with output := v, outputDue := due, cut := c, skip := x.skip - 1, rxAt := d.clock }) hturn hgood
  rw [receiveSuperframe_of_pred hthere hruns hin hheld hotn hskip hpred hlen, arrived, hnow]
  exact ⟨_, v, due, _, congrArg (applyRxPend · a) hjudged, fun hrun =>
    (digested_sideWork _ _ _ _ hrun).output.trans (deciphered_outputWork ..)⟩

end

/-! ## The rows -/

theorem exec_knSuperframeTx (a : Fin 16384) (sent : ClientFrames) (s : State) : exec (.knSuperframeTx a sent) s =
    .next (s.having (sendSuperframe s.dev a sent.payload sent.carried)) := rfl

theorem exec_knSuperframeRx (a : Fin 16384) (frames : List (Byte × Bytes)) (payload tag : Bytes) (s : State) :
    exec (.knSuperframeRx a frames payload tag) s =
      .next (s.having (receiveSuperframe s.dev a frames payload tag)) := rfl

/-- Settles O47: what is sent and what arrives follow from the lemmas on the two rows, and what else changes is side work;
the fields' places in the frames are counted column by column. -/
theorem superframesCipherAndCheck : Obligations.SuperframesCipherAndCheck := by
  refine ⟨?send, otnFrames_carry_fields, sdhFrames_carry_fields, ?first, ?judge⟩
  case send =>
    intro a payload carried key iv fields ct tag s x n own hthere hin hturn hpend hrole hruns hais hlen hsfn hn hgood
      hmuted hown hkey hiv hfields hct htag
    subst hsfn hown
    have hparts : Enciphers s.dev a x.sfn x payload key iv fields ct tag := ⟨hkey, hiv, hfields, hct, htag⟩
    have hload := loadRecord_sideWork s.dev (knRecord a x 0 0)
    have hquiet := hload.output.muted.trans hmuted
    have hlen' : payload.length ≤ txPayload (loadRecord s.dev (knRecord a x 0 0)) x := by
      rwa [txPayload, hload.output.isSdh, txFrame, hload.outSize]
    have hsent := superframeOut_outputWork (loadRecord s.dev (knRecord a x 0 0)) a x.sfn x carried fields ct tag
    have hdone := hsent.trans hload.output
    rw [exec_knSuperframeTx, sendSuperframe_of_inService hthere hin hturn hrole hruns hais hn hgood,
      sendCiphered_of_enciphers (hparts.of_sideWork hload) hturn hpend hn hlen' hquiet]
    refine ⟨_, rfl, superframe_mem_superframeOut .., fun hotn => ?_, fun hsdh => ?_, ?_, fun k hk => ?_, hdone.key,
      hdone.regs⟩
    · rw [← hload.otnFrames]
      exact otnFrames_mem_superframeOut hquiet ((hload.output.isSdh _).trans hotn)
    · rw [← hload.sdhFrames, ← hload.outSize]
      exact sdhFrames_mem_superframeOut hquiet ((hload.output.isSdh _).trans hsdh)
    · rw [assoc?_setAssoc, hdone.clock]
    · rw [assoc?_setAssoc_ne _ _ hk, hdone.assoc?]
  case first =>
    intro a frames payload tag s x hthere hin hheld hotn hruns hskip hdue hpend hstate hpred
    rw [exec_knSuperframeRx, receiveSuperframe_of_first hthere hruns hin hheld hotn hskip hpred,
      arrived_of_noChange hdue hskip]
    obtain ⟨hsame, hcounter⟩ := aisSuperframe_of_acquire (d := s.dev) (a := a)
      (x := { x with rxAt := s.dev.clock, pred := some (rxSfn false x (rxFields false 0 frames) + 1) }) hin hheld hstate
    have hkept : ∀ k, assoc? (aisSuperframe s.dev a _) k = assoc? (setAssoc (count s.dev _) a _) k := fun k => by
      rw [assoc?, hsame.kn, assoc?]
    have hthere' := (hkept a).trans (assoc?_setAssoc ..)
    rw [applyRxPend_of_none hthere' hpend]
    exact ⟨_, rfl, hthere', hcounter, fun k hk => (hkept k).trans (assoc?_setAssoc_ne _ _ hk),
      { hsame with kn := rfl }⟩
  case judge =>
    intro a frames f payload tag s x n hthere hin hheld hotn hport hruns hskip hpend hlen hf hpred hturn hgood
    subst hf
    obtain ⟨e, v, due, j, hjudged, hside⟩ := receiveSuperframe_of_good (frames := frames) (tag := tag) hthere hruns hin
      hheld hotn hskip hpred hlen hturn hgood
    have hcounted : ∀ k, k < 26 → portCtr k x.port < 8192 := fun k hk => by
      unfold portCtr
      omega
    refine ⟨fun hrun hcause => ?_, fun c hrun hcause hnext hfew hlimit => ?_, fun hon hdue hcut hmuted => ?_⟩
    · rw [hcause] at hjudged
      obtain ⟨t, i, b, hpass⟩ := superframePass_of_run (d := e) (a := a) (n := n) (f := rxFields false 0 frames)
        (x := { x with output := v, outputDue := due, cut := none, skip := j, rxAt := s.dev.clock }) hrun
      obtain ⟨u, w, hthere', hcounters, hkey⟩ := turnBegins_settles (count e (portCtr 24 x.port)) a
        (y := { x with output := v, outputDue := due, cut := none, skip := j, rxAt := s.dev.clock, last := some n
                       passRun := x.passRun + 1, failRun := 0, rxTurn := t, rxIndex := i, rxDecided := b
                       pred := some (n + 1) }) hpend
      rw [exec_knSuperframeRx, hjudged, judged, hpass]
      refine ⟨_, _, rfl, hthere', hrun, rfl, rfl, rfl, ?_, hkey.trans (hside hrun).key⟩
      rw [hcounters _ (hcounted 24 (by decide)), counter_count, (hside hrun).counters _ (hcounted 24 (by decide))]
    · rw [hcause] at hjudged
      obtain ⟨g, y, hfail, hreported, hstate, hnumber, hruns', hpend'⟩ := superframeFail_of_run (d := e) (a := a) (n := n)
        (f := rxFields false 0 frames) (ct := payload) (tag := tag) (c := c)
        (x := { x with output := v, outputDue := due, cut := none, skip := j, rxAt := s.dev.clock }) hrun hnext hfew hlimit
      obtain ⟨u, w, hthere', hcounters, hkey⟩ := turnBegins_settles g a (hpend'.trans hpend)
      rw [exec_knSuperframeRx, hjudged, judged, hfail]
      refine ⟨_, _, rfl, hthere', hstate, hnumber, hruns', ?_, hkey.trans (hreported.output.key.trans (hside hrun).key)⟩
      rw [hcounters _ (hcounted 25 (by decide)), hreported.counters _ (hcounted 25 (by decide)), counter_count,
        (hside hrun).counters _ (hcounted 25 (by decide))]
    · rw [exec_knSuperframeRx, receiveSuperframe_of_pred hthere hruns hin hheld hotn hskip hpred hlen,
        arrived_of_noChange hdue hskip]
      refine ⟨_, rfl, ?_⟩
      rw [applyRxPend_out]
      have hshort : payload.length ≤ 974848 := by
        simpa only [rxPayload, hotn, Bool.false_eq_true, if_false] using hlen
      exact clear_mem_judgeSuperframe (x := { x with rxAt := s.dev.clock }) hturn hgood hotn hon hcut hmuted hshort

end Sys2Proof.Machine

/-!
PROOF. Routes, static addresses, ageing and the scrub of the forwarding tables: O40.
-/
namespace Sys2Proof

section
variable {α : Type} {t : Tbl α} {k : Nat} {v : α}

theorem Tbl.mem_of_get? (h : Tbl.get? t k = some v) : (k, v) ∈ t := by
  induction t with
  | nil => simp [Tbl.get?] at h
  | cons e t ih =>
    obtain ⟨j, w⟩ := e
    by_cases hj : j = k
    · simp_all [Tbl.get?]
    · simp only [Tbl.get?, hj, if_false] at h
      exact List.mem_cons_of_mem _ (ih h)

/-- Where no key stands twice, every listed entry reads under its key. -/
theorem Tbl.get?_of_mem (hkeys : (t.map Prod.fst).Nodup) (h : (k, v) ∈ t) : Tbl.get? t k = some v := by
  induction t with
  | nil => simp at h
  | cons e t ih =>
    obtain ⟨hfresh, htail⟩ := List.nodup_cons.1 hkeys
    rcases List.mem_cons.1 h with rfl | hmem
    · simp [Tbl.get?]
    · have hne : e.1 ≠ k := fun heq => hfresh (heq ▸ List.mem_map_of_mem hmem)
      simpa [Tbl.get?, hne] using ih htail hmem

theorem Tbl.mem_put_self (t : Tbl α) (k : Nat) (v : α) : (k, v) ∈ Tbl.put t k v := Tbl.mem_of_get? (Tbl.get?_put ..)

theorem Tbl.eq_or_mem_of_mem_put {e : Nat × α} (h : e ∈ Tbl.put t k v) : e = (k, v) ∨ e ∈ t := by
  induction t with
  | nil => simpa [Tbl.put] using h
  | cons x t ih =>
    rw [Tbl.put] at h
    split at h
    · exact (List.mem_cons.1 h).imp_right (List.mem_cons_of_mem _)
    · split at h
      · exact List.mem_cons.1 h
      · rcases List.mem_cons.1 h with rfl | htail
        · exact .inr (List.mem_cons_self ..)
        · exact (ih htail).imp_right (List.mem_cons_of_mem _)

end

end Sys2Proof

namespace Sys2Proof.Machine

/-! ## The commit (R393) -/

@[simp] theorem bumpEpoch_tcam (d : Device) : (bumpEpoch d).cls.tcam = d.cls.tcam := rfl
@[simp] theorem setTcam_tcam (d : Device) (t : Tbl TcamEnt) : (setTcam d t).cls.tcam = t := rfl

/-! ## ROUTE_ADD and ROUTE_DEL (R369-R374) -/

section
variable {d : Device} {x : Route} {i : Nat}

theorem findRoute_of_mem {e : Nat × TcamEnt} (h : e ∈ d.cls.tcam) (hsame : sameRoute e.2.route x = true) :
    (findRoute d x).isSome = true := by
  rw [findRoute, Tbl.findKey?, Option.isSome_map, List.find?_isSome]
  exact ⟨e, h, hsame⟩

theorem sameRoute_refl (x : Route) : sameRoute x x = true := by simp [sameRoute]

theorem addRoute_of_known (h : findRoute d x = some i) :
    addRoute d x = (bumpEpoch (setTcam d (Tbl.put d.cls.tcam i { route := x })),
      routeResult (bumpEpoch (setTcam d (Tbl.put d.cls.tcam i { route := x }))) i 0 true) := by
  simp only [addRoute, h]

/-- A new route is written last, at the hole that the moves leave. -/
theorem addRoute_tcam_of_new (h : findRoute d x = none) : ∃ t k, (addRoute d x).1.cls.tcam = Tbl.put t k { route := x } := by
  simp only [addRoute, h, count_cls, bumpEpoch_tcam, setTcam_tcam]
  exact ⟨_, _, rfl⟩

theorem findRoute_addRoute_of_new (h : findRoute d x = none) : (findRoute (addRoute d x).1 x).isSome = true := by
  obtain ⟨t, k, htcam⟩ := addRoute_tcam_of_new h
  exact findRoute_of_mem (e := (k, { route := x })) (htcam ▸ Tbl.mem_put_self ..) (sameRoute_refl x)

theorem addRoute_epoch (d : Device) (x : Route) : (addRoute d x).1.cls.epoch = (d.cls.epoch + 1) % 65536 := by
  rw [addRoute]
  split <;> rfl

theorem addRoute_mac (d : Device) (x : Route) : (addRoute d x).1.cls.mac = d.cls.mac := by
  rw [addRoute]
  split <;> rfl

theorem delRoute_epoch (d : Device) (x : Route) (i : Nat) : (delRoute d x i).1.cls.epoch = (d.cls.epoch + 1) % 65536 := rfl

theorem delRoute_mac (d : Device) (x : Route) (i : Nat) : (delRoute d x i).1.cls.mac = d.cls.mac := rfl

variable {o : Origin} {desc buf : Bytes}

/-- A well-formed route is added where it is known already or two entries are free. -/
theorem routeAddBody_of_room (hx : x = routeOf desc) (hlen : x.len ≤ famBits x.v6)
    (hpre : x.pre % 2 ^ (famBits x.v6 - x.len) = 0) (hresult : resultStatus d x.port x.secy = none)
    (hroom : (findRoute d x).isSome = true ∨ 2 ≤ tcamFree d) (hrole : roleStale d = false) :
    routeAddBody o desc buf d = .done (addRoute d x).1 (addRoute d x).2 none := by
  subst hx
  have hfits : ¬((findRoute d (routeOf desc)).isNone = true ∧ tcamFree d < if (routeOf desc).v6 then 2 else 1) := by
    rintro ⟨hnew, hfull⟩
    rcases hroom with hknown | hfree
    · simp [Option.isNone_iff_eq_none.1 hnew] at hknown
    · split at hfull <;> omega
  simp only [routeAddBody, Nat.not_lt.2 hlen, hpre, hresult, hrole, hfits, ne_eq, not_true_eq_false, if_false,
    Bool.false_eq_true]

theorem routeDelBody_of_known (h : findRoute d (routeOf desc) = some i) (hrole : roleStale d = false) :
    routeDelBody o desc buf d = .done (delRoute d (routeOf desc) i).1 (delRoute d (routeOf desc) i).2 none := by
  simp only [routeDelBody, h, hrole, Bool.false_eq_true, if_false]

end

/-! ## MAC_ADD, MAC_DEL and MAC_FLUSH (R389-R391) -/

section
variable {d : Device} {o : Origin} {desc buf : Bytes} {k : Nat} {old : MacEnt}

/-- An address of the table is rewritten in place. -/
theorem macAddBody_of_known {e : MacEnt}
    (he : e = { domain := leField desc 20 2, mac := beField desc 28 6, port := leField desc 22 1
                secy := leField desc 24 2 % 1024, policer := leField desc 26 2, static := true, seen := d.clock })
    (hresult : resultStatus d e.port e.secy = none) (hknown : macFind d e.domain e.mac = some (k, old)) :
    macAddBody o desc buf d = .done (bumpEpoch (setMac d k e)) (zeros 16) none := by
  subst he
  simp only [macAddBody, hresult, hknown]

theorem macDelBody_of_known (h : macFind d (leField desc 20 2) (beField desc 28 6) = some (k, old)) :
    macDelBody o desc buf d = .done (bumpEpoch (delMac d k)) (zeros 16) none := by
  simp only [macDelBody, h]

end

/-! ## Ageing (R387) -/

/-- A pass keeps exactly the static entries and those seen within AGE_TIME. -/
theorem mem_macAge {d : Device} (h : ageTime d ≠ 0) (x : Nat × MacEnt) : x ∈ (macAge d).cls.mac ↔
    x ∈ d.cls.mac ∧ (x.2.static = true ∨ ageTick d < x.2.seen + ageTime d * 1000 * msTicks) := by
  simp only [macAge, h, if_false, count_cls, Tbl.keep, List.mem_filter, Bool.not_and, Bool.not_not, Bool.or_eq_true,
    Bool.not_eq_true', decide_eq_false_iff_not, Nat.not_le]

theorem macAge_keeps (d : Device) : (macAge d).cls.tcam = d.cls.tcam ∧ (macAge d).regs = d.regs := by
  rw [macAge]
  split <;> exact ⟨rfl, rfl⟩

/-! ## The scrub and the repair (R375-R378) -/

/-- An entry that an upset has hit. -/
def struckBy (x : TcamEnt) (u : TcamUpset) : TcamEnt :=
  { x with badParity := true, keyFlip := x.keyFlip ^^^ u.key, maskFlip := x.maskFlip ^^^ u.mask }

section
variable {d : Device} {i : Nat} {x : TcamEnt}

theorem upsetEnt_of_there {u : TcamUpset} (hi : i = entryAt d u.entry) (h : Tbl.get? d.cls.tcam i = some x) :
    upsetEnt d u = setTcam d (Tbl.put d.cls.tcam i (struckBy x u)) := by
  subst hi
  simp only [upsetEnt, Tbl.modify, h, struckBy]

theorem disableEnt_of_disabled (h : Tbl.get? d.cls.tcam i = some x) (hoff : x.disabled = true) (by_ : Nat) :
    disableEnt d i by_ = d := by
  simp only [disableEnt, h, hoff, if_true]

theorem disableEnt_tcam (h : Tbl.get? d.cls.tcam i = some x) (hon : x.disabled = false) (by_ : Nat) :
    (disableEnt d i by_).cls.tcam = Tbl.put d.cls.tcam i { x with badParity := true, disabled := true } := by
  simp only [disableEnt, h, hon, Bool.false_eq_true, if_false, (emit_same ..).cls, setTcam_tcam]

/-- Disabling an entry touches the TCAM and what reporting touches. -/
theorem disableEnt_same (d : Device) (i by_ : Nat) : SameWork { disableEnt d i by_ with cls := d.cls } d := by
  rw [disableEnt]
  split
  · split
    · exact .refl d
    · exact { emit_same .. with cls := rfl }
  · exact .refl d

theorem foldl_disableEnt_of_disabled {l : List Nat} (by_ : Nat)
    (h : ∀ k ∈ l, ∃ y, Tbl.get? d.cls.tcam k = some y ∧ y.disabled = true) :
    l.foldl (fun d k => disableEnt d k by_) d = d := by
  induction l with
  | nil => rfl
  | cons k l ih =>
    obtain ⟨hhead, htail⟩ := List.forall_mem_cons.1 h
    obtain ⟨y, hy, hoff⟩ := hhead
    rw [List.foldl_cons, disableEnt_of_disabled hy hoff, ih htail]

/-- Where one entry of a list is in use and the others are disabled, only that one is disabled, and once. -/
theorem foldl_disableEnt_of_one {l : List Nat} (by_ : Nat) (hi : i ∈ l) (hx : Tbl.get? d.cls.tcam i = some x)
    (hon : x.disabled = false) (hothers : ∀ k ∈ l, k ≠ i → ∃ y, Tbl.get? d.cls.tcam k = some y ∧ y.disabled = true) :
    l.foldl (fun d k => disableEnt d k by_) d = disableEnt d i by_ := by
  induction l with
  | nil => simp at hi
  | cons k l ih =>
    obtain ⟨hhead, htail⟩ := List.forall_mem_cons.1 hothers
    rw [List.foldl_cons]
    by_cases hk : k = i
    · subst hk
      refine foldl_disableEnt_of_disabled by_ fun j hj => ?_
      rw [disableEnt_tcam hx hon]
      by_cases hjk : j = k
      · rw [hjk]
        exact ⟨_, Tbl.get?_put .., rfl⟩
      · rw [Tbl.get?_put_ne _ _ _ _ hjk]
        exact htail j hj hjk
    · obtain ⟨y, hy, hoff⟩ := hhead hk
      rw [disableEnt_of_disabled hy hoff, ih ((List.mem_cons.1 hi).resolve_left (Ne.symm hk)) htail]

/-- A scrub over a table whose bad entries are all disabled disables the entry that has just been hit. -/
theorem scrubTcam_of_struck {u : TcamUpset} (hi : i = entryAt d u.entry) (hx : Tbl.get? d.cls.tcam i = some x)
    (hon : x.disabled = false) (hbad : ∀ e ∈ d.cls.tcam, e.2.badParity = true → e.2.disabled = true)
    (hkeys : (d.cls.tcam.map Prod.fst).Nodup) :
    scrubTcam d [u] = disableEnt (setTcam d (Tbl.put d.cls.tcam i (struckBy x u))) i 1 := by
  rw [scrubTcam, List.foldl_cons, List.foldl_nil, upsetEnt_of_there hi hx]
  refine foldl_disableEnt_of_one 1 ?_ (Tbl.get?_put ..) hon fun k hk hne => ?_
  · exact List.mem_map_of_mem (List.mem_filter.2 ⟨Tbl.mem_put_self .., rfl⟩)
  · obtain ⟨e, he, rfl⟩ := List.mem_map.1 hk
    obtain ⟨hmem, hparity⟩ := List.mem_filter.1 he
    have hold : e ∈ d.cls.tcam := (Tbl.eq_or_mem_of_mem_put hmem).resolve_left (fun heq => hne (congrArg Prod.fst heq))
    refine ⟨e.2, ?_, hbad e hold hparity⟩
    rw [setTcam_tcam, Tbl.get?_put_ne _ _ _ _ hne]
    exact Tbl.get?_of_mem hkeys hold

theorem entryAt_of_there (h : Tbl.get? d.cls.tcam i = some x) : entryAt d i = i := by
  simp [entryAt, Tbl.has, h]

theorem repairEnt_of_lost (h : Tbl.get? d.cls.tcam i = some x) (hlost : x.lost = true) : repairEnt d i = d := by
  simp [repairEnt, h, hlost]

/-- With AUTO_REPAIR a disabled entry is rewritten from the Caller's copy of its route. -/
theorem repairEnt_tcam (h : Tbl.get? d.cls.tcam i = some x) (hoff : x.disabled = true) (hheld : x.lost = false)
    (hauto : bit (reg d 0x101004) 31 = true) :
    (repairEnt d i).cls.tcam = Tbl.put d.cls.tcam i { route := x.route } := by
  simp only [repairEnt, h, hoff, hheld, hauto, Bool.not_false, Bool.and_self, if_true, (emit_same ..).cls, count_cls,
    setTcam_tcam]

/-- A repair touches the TCAM and what reporting touches. -/
theorem repairEnt_same (d : Device) (i : Nat) : SameWork { repairEnt d i with cls := d.cls } d := by
  rw [repairEnt]
  split
  · split
    · exact { (emit_same ..).trans (count_same ..) with cls := rfl }
    · exact .refl d
  · exact .refl d

end

/-! ## The rows -/

theorem exec_routeAdd (r : Fin 64) (s : State) : exec (.routeAdd r) s =
    .next (s.having (runCommand 0x0200 r anyRight (routeAddOwn s.dev) routeAddBody [] s.dev)) := rfl

theorem exec_routeDel (r : Fin 64) (s : State) : exec (.routeDel r) s =
    .next (s.having (runCommand 0x0201 r anyRight routeDelOwn routeDelBody [] s.dev)) := rfl

theorem exec_macAdd (r : Fin 64) (s : State) : exec (.macAdd r) s =
    .next (s.having (runCommand 0x0202 r anyRight (macAddOwn s.dev) macAddBody [] s.dev)) := rfl

theorem exec_macDel (r : Fin 64) (s : State) : exec (.macDel r) s =
    .next (s.having (runCommand 0x0203 r anyRight macDelOwn macDelBody [] s.dev)) := rfl

theorem exec_macFlush (r : Fin 64) (s : State) : exec (.macFlush r) s =
    .next (s.having (runCommand 0x0204 r anyRight macFlushOwn macFlushBody [] s.dev)) := rfl

theorem exec_macAgeing_clean (s : State) : exec (.macAgeing []) s = .next (s.having (macAge s.dev)) := rfl

theorem exec_tcamScrub (bad : List TcamUpset) (s : State) :
    exec (.tcamScrub bad) s = .next (s.having (scrubTcam s.dev bad)) := rfl

theorem exec_tcamRepaired (i : Fin 65536) (s : State) :
    exec (.tcamRepaired i) s = .next (s.having (repairEnt s.dev (entryAt s.dev i))) := rfl

/-- Settles O40: the commands by the verdicts of their bodies, ageing by what its pass keeps, and the scrub and the repair by
the one entry that each rewrites. -/
theorem forwardingTablesFollowCommands : Obligations.ForwardingTablesFollowCommands := by
  refine ⟨?rewrite, ?insert, ?remove, ?addMac, ?delMac, ?flush, ?age, ?scrub, ?repair⟩
  case rewrite =>
    rintro r s f rest x i _ hruns hx hlen hpre - hresult hknown hrole rfl
    have hfound : findRoute (taken s.dev r rest) x = some i := hknown
    rw [exec_routeAdd, runCommand_done hruns
      (routeAddBody_of_room (d := taken s.dev r rest) hx hlen hpre hresult (.inl (by rw [hfound]; rfl)) hrole),
      addRoute_of_known hfound]
    rfl
  case insert =>
    rintro r s f rest x _ hruns hx hlen hpre - hresult hnew hfree hrole rfl
    rw [exec_routeAdd, runCommand_done hruns
      (routeAddBody_of_room (d := taken s.dev r rest) hx hlen hpre hresult (.inr hfree) hrole)]
    exact ⟨rfl, findRoute_addRoute_of_new hnew, addRoute_epoch .., addRoute_mac ..⟩
  case remove =>
    rintro r s f rest i _ hruns hknown hrole rfl
    rw [exec_routeDel, runCommand_done hruns (routeDelBody_of_known (d := taken s.dev r rest) hknown hrole)]
    exact ⟨rfl, delRoute_epoch .., delRoute_mac ..⟩
  case addMac =>
    intro r s f rest k old e hruns he _ hresult hknown
    rw [exec_macAdd, runCommand_done hruns (macAddBody_of_known (d := taken s.dev r rest) he hresult hknown)]
  case delMac =>
    intro r s f rest k old hruns hknown
    rw [exec_macDel, runCommand_done hruns (macDelBody_of_known (d := taken s.dev r rest) hknown)]
  case flush =>
    rintro r s f rest _ hruns rfl
    refine ⟨?_, fun e he => ?_, rfl⟩
    · rw [exec_macFlush, runCommand_done hruns rfl]
      rfl
    · simpa using (List.mem_filter.1 he).2
  case age =>
    intro s hage
    obtain ⟨htcam, hregs⟩ := macAge_keeps s.dev
    exact ⟨_, exec_macAgeing_clean s, mem_macAge hage, htcam, hregs⟩
  case scrub =>
    intro u s i x hi hx hon hbad hkeys
    have hstruck : Tbl.get? (setTcam s.dev (Tbl.put s.dev.cls.tcam i (struckBy x u))).cls.tcam i = some (struckBy x u) :=
      Tbl.get?_put ..
    rw [exec_tcamScrub, scrubTcam_of_struck hi hx hon hbad hkeys]
    refine ⟨_, rfl, ?_, fun k hk => ?_, { disableEnt_same .. with cls := rfl }⟩
    · rw [disableEnt_tcam hstruck hon, Tbl.get?_put]
      rfl
    · rw [disableEnt_tcam hstruck hon, Tbl.get?_put_ne _ _ _ _ hk]
      exact Tbl.get?_put_ne _ _ _ _ hk
  case repair =>
    intro i s x hx hoff hauto
    rw [exec_tcamRepaired, entryAt_of_there hx]
    refine ⟨fun hlost => ?_, fun hheld => ?_⟩
    · rw [repairEnt_of_lost hx hlost]
      rfl
    · exact ⟨_, rfl, repairEnt_tcam hx hoff hheld hauto, repairEnt_same ..⟩

end Sys2Proof.Machine

/-!
PROOF. Policers, shapers, queues, map changes, holds and the shed class of the Galley: O41.
-/
namespace Sys2Proof.Machine

theorem elapseTo_gal (d : Device) (t : Nat) : (elapseTo d t).gal = d.gal := by
  unfold elapseTo
  split <;> rfl

/-! ## POLICER_SET, SHAPER_SET and QUEUE_SET (R434-R438) -/

section
variable {d : Device} {o : Origin} {desc buf : Bytes}

/-- Parameters of an enabled policer that are in range wait for its next refill. -/
theorem policerBody_of_inRange {n : Nat} {c : PolicerCfg} (hn : n = leField desc 20 2) (hmode : leField desc 22 1 ≠ 0)
    (hrange : policerRange desc = none)
    (hc : c = { mode := leField desc 22 1, aware := (byteAt desc 23).getLsbD 0
                coupled := leField desc 22 1 == 2 && (byteAt desc 23).getLsbD 1
                cir := leField desc 24 4, cbs := leField desc 28 4, pir := leField desc 32 4, pbs := leField desc 36 4 })
    (hrole : roleStale d = false) :
    policerBody o desc buf d = .done (setPolicer d n { policer d n with next := some c }) (zeros 16) none := by
  subst hn hc
  simp only [policerBody, hrange, hrole, hmode, if_false, Bool.false_eq_true]

/-- Parameters of a queue's shaper that are in range wait for its next refill. -/
theorem shaperBody_of_inRange {k : Nat} {c : ShaperCfg} (hlevel : leField desc 20 1 = 0)
    (hindex : leField desc 22 2 < levelRange d 0) (hk : k = shaperKey 0 (leField desc 22 2))
    (hc : c = { overhead := leField desc 21 1 == 1, rate := leField desc 24 4, burst := leField desc 28 4 })
    (hrate : c.rate ≤ maxRate) (hburst : c.burst ≤ maxBurst) (hrole : roleStale d = false) :
    shaperBody o desc buf d = .done { d with gal := { d.gal with
      shapers := Tbl.put d.gal.shapers k { Tbl.getD d.gal.shapers k {} with next := some c } } } (zeros 16) none := by
  subst hk hc
  simp only [shaperBody, hlevel, Nat.zero_ne_one, false_and, Nat.not_lt.2 hrate, Nat.not_lt.2 hburst,
    Nat.not_le.2 hindex, hrole, if_false, Bool.false_eq_true]

/-- A queue takes a weight of 1 to 255, which both scheduler families allow, at once. -/
theorem queueSetBody_of_weight {q w : Nat} (hobject : leField desc 20 1 = 0) (hq : q = leField desc 22 2)
    (hw : w = leField desc 26 2) (hweighted : leField desc 21 1 = 0) (hindex : q < levelRange d 0) (hlow : 1 ≤ w)
    (hhigh : w ≤ 255) (hrole : roleStale d = false) :
    queueSetBody o desc buf d = .done { d with gal := { d.gal with
      cfg := Tbl.setD d.gal.cfg q {} { strict := false, weight := w } } } (zeros 16) none := by
  subst hq hw
  have hpositive : leField desc 26 2 ≠ 0 := Nat.one_le_iff_ne_zero.1 hlow
  simp [queueSetBody, hobject, setQueue, hweighted, Nat.not_le.2 hindex, hpositive, Nat.not_lt.2 hhigh, hrole]

end

/-! ## The timeout of a map change (R425) -/

theorem dropWhere_of_noFormes {d : Device} (h : d.prs.formes = []) (p : Forme → Bool) (outcome : Nat) (localDrop : Bool)
    (each : Device → Forme → Device) : dropWhere d p outcome localDrop each = d := by
  rw [dropWhere, h]
  rfl

/-- A change to group `g` that takes effect sets the pair's entry and no longer waits; the rest of it is reporting. -/
theorem commitRemap_same_of_group (d : Device) {x : Remap} {g : Nat} (h : x.group = some g) :
    SameWork (commitRemap d x) { d with gal := { d.gal with
      map := Tbl.put d.gal.map (pairKey x.eg x.ing) g, remaps := d.gal.remaps.erase x } } := by
  simp only [commitRemap, h]
  cases x.origin with
  | none => exact .refl _
  | some o => exact mirrorThenPost_same ..

theorem commitRemap_map_of_group (d : Device) {x : Remap} {g : Nat} (h : x.group = some g) :
    Tbl.get? (commitRemap d x).gal.map (pairKey x.eg x.ing) = some g := by
  rw [(commitRemap_same_of_group d h).gal]
  exact Tbl.get?_put ..

theorem commitRemap_clock_of_group (d : Device) {x : Remap} {g : Nat} (h : x.group = some g) :
    (commitRemap d x).clock = d.clock := (commitRemap_same_of_group d h).clock

theorem commitRemap_key_of_group (d : Device) {x : Remap} {g : Nat} (h : x.group = some g) :
    (commitRemap d x).key = d.key := (commitRemap_same_of_group d h).key

theorem commitRemap_remaps_of_only {d : Device} {x : Remap} {g : Nat} (h : x.group = some g)
    (hone : d.gal.remaps = [x]) : (commitRemap d x).gal.remaps = [] := by
  simp [(commitRemap_same_of_group d h).gal, hone]

/-- Where no frame is on its way, the timeout of the only map change commits it. -/
theorem remapTimeout_of_only {d : Device} {x : Remap} (hone : d.gal.remaps = [x]) (hformes : d.prs.formes = []) :
    remapTimeout d x.ing x.eg = commitRemap (elapseTo d (x.started + 50000000)) x := by
  have hidle : (elapseTo d (x.started + 50000000)).prs.formes = [] := by rw [elapseTo_prs, hformes]
  simp [remapTimeout, hone, msTicks, dropWhere_of_noFormes hidle, commitPair, elapseTo_gal]

/-! ## Refills (R429, R431) -/

/-- An RFC 2698 policer without new parameters: each bucket gains its own rate up to its burst, and nothing spills over. -/
theorem policerRefill_of_mode1 {x : Policer} (hnext : x.next = none) (hmode : x.cfg.mode = 1) :
    (policerRefill x).tc = min (31250 * (x.cfg.cbs : Int)) (min (31250 * (x.cfg.cbs : Int)) x.tc + x.cfg.cir) ∧
    (policerRefill x).te = min (31250 * (x.cfg.pbs : Int)) (min (31250 * (x.cfg.pbs : Int)) x.te + x.cfg.pir) := by
  simp [policerRefill, hnext, hmode]

/-! ## The shed class (R415) -/

theorem shedUpdate_of_above {d : Device} (h : 8192 * pressesIn d < queuedWork d) :
    (shedUpdate d).prs.shed = min 7 (d.prs.shed + 1) := if_pos h

theorem shedUpdate_of_below {d : Device} (h : queuedWork d < 4096 * pressesIn d) :
    (shedUpdate d).prs.shed = d.prs.shed - 1 :=
  (if_neg (by omega)).trans (if_pos h)

/-! ## Holds (R421) -/

@[simp] theorem galPort_setGalPort (d : Device) (p : Nat) (x : GalPort) : galPort (setGalPort d p x) p = x :=
  Tbl.getD_setD ..

theorem galPort_congr {a b : Device} (h : a.gal = b.gal) (p : Nat) : galPort a p = galPort b p := by
  rw [galPort, h, galPort]

theorem flushPort_of_noFormes {d : Device} (h : d.prs.formes = []) (p outcome ctr : Nat) :
    flushPort d p outcome ctr = d := by
  rw [flushPort, portQueued, galQueued, galFormes, h]
  rfl

/-- Where no frame is on its way, the end of a hold is the port's change of state and its record, of no dropped frame. -/
theorem endHold_of_noFormes {d : Device} (h : d.prs.formes = []) (p : Nat) :
    endHold d p = emit (setGalPort d p { galPort d p with holding := false, dropping := true }) .galley 0x03
      (leBytes 1 p ++ leBytes 4 0) := by
  rw [endHold, flushPort_of_noFormes h, portQueued, galQueued, galFormes, h]
  rfl

theorem holdExpiry_of_holding {d : Device} {p : Nat} (h : (galPort d p).holding = true) :
    holdExpiry d p = endHold (elapseTo d ((galPort d p).downAt + holdMs d p * 500000)) p := by
  rw [holdExpiry, if_pos h, msTicks]

/-! ## The rows -/

theorem exec_policerSet (r : Fin 64) (s : State) :
    exec (.policerSet r) s = .next (s.having (runCommand 0x0210 r anyRight policerOwn policerBody [] s.dev)) := rfl

theorem exec_shaperSet (r : Fin 64) (s : State) :
    exec (.shaperSet r) s = .next (s.having (runCommand 0x0211 r anyRight shaperOwn shaperBody [] s.dev)) := rfl

theorem exec_queueSet (r : Fin 64) (s : State) :
    exec (.queueSet r) s = .next (s.having (runCommand 0x0212 r anyRight queueOwn queueSetBody [] s.dev)) := rfl

theorem exec_queueRemapTimeout (ing eg : Fin 128) (s : State) :
    exec (.queueRemapTimeout ing eg) s = .next (s.having (remapTimeout s.dev ing eg)) := rfl

theorem exec_policerRefill (s : State) : exec .policerRefill s = .next (s.having { settleMeters s.dev with
    gal := { (settleMeters s.dev).gal with
      policers := Tbl.mapVals (settleMeters s.dev).gal.policers (fun _ x => policerRefill x) } }) := rfl

theorem exec_shaperRefill (s : State) : exec .shaperRefill s = .next (s.having { s.dev with
    gal := { s.dev.gal with shapers := Tbl.mapVals s.dev.gal.shapers (fun _ x => shaperRefill x) } }) := rfl

theorem exec_shedClassUpdate (s : State) : exec .shedClassUpdate s = .next (s.having (shedUpdate s.dev)) := rfl

theorem exec_galleyHoldExpiry (p : Fin 128) (s : State) :
    exec (.galleyHoldExpiry p) s = .next (s.having (holdExpiry s.dev p)) := rfl

/-- Settles O41: the commands by the verdicts of their bodies, the map change and the hold by what their deadlines leave
where no frame is on its way, and the buckets and the shed class by their updates. -/
theorem galleyFollowsCommands : Obligations.GalleyFollowsCommands := by
  refine ⟨?policer, ?shaper, ?queue, ?remap, ?policers, ?shapers, ?buckets, ?shed, ?hold⟩
  case policer =>
    intro r s f rest n c hruns hn hmode hrange hc hrole
    rw [exec_policerSet,
      runCommand_done hruns (policerBody_of_inRange (d := taken s.dev r rest) hn hmode hrange hc hrole)]
    rfl
  case shaper =>
    rintro r s f rest k c _ hruns hlevel hindex hk rfl hc hrate hburst hrole
    rw [exec_shaperSet, runCommand_done hruns
      (shaperBody_of_inRange (d := taken s.dev r rest) hlevel hindex hk hc hrate hburst hrole)]
    rfl
  case queue =>
    intro r s f rest q w hruns hobject hq hw hweighted hindex hlow hhigh hrole
    rw [exec_queueSet, runCommand_done hruns
      (queueSetBody_of_weight (d := taken s.dev r rest) hobject hq hw hweighted hindex hlow hhigh hrole)]
    rfl
  case remap =>
    intro ing eg s x g hone heg hing hgroup hformes
    rw [exec_queueRemapTimeout, ← heg, ← hing, remapTimeout_of_only hone hformes]
    refine ⟨_, rfl, commitRemap_map_of_group _ hgroup, ?_, ?_, ?_⟩
    · exact commitRemap_remaps_of_only hgroup (by rw [elapseTo_gal, hone])
    · rw [commitRemap_clock_of_group _ hgroup, elapseTo_clock]
    · rw [commitRemap_key_of_group _ hgroup, elapseTo_key]
  case policers =>
    rintro s _ rfl
    exact exec_policerRefill s
  case shapers => exact exec_shaperRefill
  case buckets => exact fun _ => policerRefill_of_mode1
  case shed => exact fun s => ⟨_, exec_shedClassUpdate s, shedUpdate_of_above, shedUpdate_of_below, rfl⟩
  case hold =>
    intro p s hholding hformes
    have hidle (t : Nat) : (elapseTo s.dev t).prs.formes = [] := by rw [elapseTo_prs, hformes]
    rw [exec_galleyHoldExpiry, holdExpiry_of_holding hholding, endHold_of_noFormes (hidle _)]
    refine ⟨_, rfl, ?_, ?_, ?_, ?_⟩
    · rw [galPort_congr (emit_same ..).gal, galPort_setGalPort]
    · rw [galPort_congr (emit_same ..).gal, galPort_setGalPort]
    · exact (emit_same ..).clock.trans (elapseTo_clock ..)
    · exact (emit_same ..).key.trans (elapseTo_key ..)

end Sys2Proof.Machine

/-!
PROOF. Slots of the key store: SLOT_DELETE (O15), KEY_INVALIDATE (O16), SLOT_IMPORT and SLOT_GENERATE (O17), the sweep
and the view (O18).
-/
namespace Sys2Proof.Machine

/-! ## Slots -/

theorem slot_congr {a b : Device} (h : a.key = b.key) (i : Nat) : slot a i = slot b i := by
  rw [slot, h, slot]

theorem slot_setSlot_ne (d : Device) {i k : Nat} (x : Slot) (h : k ≠ i) : slot (setSlot d i x) k = slot d k :=
  Tbl.getD_setD_ne _ _ _ _ _ _ h

@[simp] theorem slot_emit (d : Device) (src : Source) (t : Nat) (p : Bytes) (i : Nat) :
    slot (emit d src t p) i = slot d i := slot_congr (emit_same ..).key i

theorem nextGen_of_ne {g : W32} (h : g ≠ 0xFFFFFFFF#32) : nextGen g = g + 1#32 := if_neg h

theorem nextGen_of_notFull {d : Device} {i : Nat} (h : genFull d i = false) :
    nextGen (slot d i).gen = (slot d i).gen + 1#32 :=
  nextGen_of_ne (by simpa [genFull] using h)

theorem staleAux_of_parentGen {d : Device} {k p : Nat} {g : W32} (hparent : (slot d k).parent = some (p, g))
    (hgen : (slot d p).gen ≠ g) (fuel : Nat) : staleAux d (fuel + 1) k = true := by
  simp [staleAux, hparent, hgen]

/-- A slot whose recorded parent holds another GEN is stale (R459). -/
theorem stale_of_parentGen {d : Device} {k p : Nat} {g : W32} (hparent : (slot d k).parent = some (p, g))
    (hgen : (slot d p).gen ≠ g) : stale d k = true :=
  staleAux_of_parentGen hparent hgen 1023

/-! ## SLOT_DELETE (R474) -/

section
variable {d : Device} {o : Origin} {desc buf : Bytes} {i : Nat}

theorem deleteBody_of_outside (hi : i = slotNo16 desc 20) (hrange : slotInRange d o.fn i = false) :
    deleteBody o desc buf d = failAt d .badIndex 20 := by
  subst hi
  simp [deleteBody, hrange]

theorem deleteBody_of_full (hi : i = slotNo16 desc 20) (hrange : slotInRange d o.fn i = true)
    (hfull : genFull d i = true) : deleteBody o desc buf d = fail d .noRoom := by
  subst hi
  simp [deleteBody, hrange, hfull]

theorem deleteBody_of_mirrored (hi : i = slotNo16 desc 20) (hrange : slotInRange d o.fn i = true)
    (hfull : genFull d i = false) (hrole : mirrorRole d i = true) :
    deleteBody o desc buf d = fail d .roleStale := by
  subst hi
  simp [deleteBody, hrange, hfull, hrole]

theorem deleteBody_of_free (hi : i = slotNo16 desc 20) (hrange : slotInRange d o.fn i = true)
    (hfull : genFull d i = false) (hrole : mirrorRole d i = false) :
    deleteBody o desc buf d = .done (deleteSlot d i) (zeros 16) none := by
  subst hi
  simp [deleteBody, hrange, hfull, hrole]

/-! ## KEY_INVALIDATE (R476) -/

/-- KEY_INVALIDATE of a slot that holds a key: GEN moves on, CHECK is made for it, and a record says so. -/
theorem invalidateBody_of_used {g : W32} (hi : i = slotNo16 desc 20) (hg : g = (slot d i).gen + 1#32)
    (hrange : slotInRange d o.fn i = true) (hused : (slot d i).state ≠ 0) (hfull : genFull d i = false)
    (hrole : mirrorRole d i = false) :
    invalidateBody o desc buf d = .done
      (emit (setSlot d i { slot d i with
          gen := g, check := checkValue d (slot d i).type (slot d i).key (slot d i).attr g })
        .key 0x04 (leBytes 2 i ++ leBytes 4 g.toNat ++ leBytes 2 (descendants d i)))
      (leBytes 4 g.toNat ++ leBytes 2 (descendants d i)) none := by
  subst hi hg
  simp [invalidateBody, hrange, hused, hfull, hrole, nextGen_of_notFull hfull]

/-! ## SLOT_IMPORT and SLOT_GENERATE (R470-R473) -/

/-- A 32-byte AES key in the clear, which PROVISION allows, fills an empty slot. -/
theorem importBody_of_clear (hi : i = slotNo desc 20) (hclear : leField desc 22 1 = 1) (htype : leField desc 23 1 = 1)
    (hlen : o.bufLen = 32) (hmode : d.glb.mode = .provision) (hrange : slotInRange d o.fn i = true)
    (hempty : (slot d i).state = 0) (hfree : (slot d i).reserved = false)
    (hattr : attrBad 1 (leField desc 26 2) i = false) (hmirror : mirrorBad (leField desc 26 2) i none = false)
    (hfull : genFull d i = false) (hrole : mirrorRole d i = false) : importBody o desc buf d =
      .done (writeSlot d i 1 (leField desc 28 1) (leField desc 26 2) buf none) (zeros 16) none := by
  subst hi
  simp [importBody, hclear, htype, hlen, hmode, hrange, hempty, hfree, hattr, hmirror, hfull, hrole, keyLen, keyValueOk,
    keyCurve]

/-- A generated secret is the next bytes of the DRBG. -/
theorem generateBody_of_secret {n : Nat} (hi : i = slotNo16 desc 20) (htype : leField desc 22 1 = 2)
    (hn : n = leField desc 26 1) (hlen : o.bufLen = 0) (hrange : slotInRange d o.fn i = true)
    (hempty : (slot d i).state = 0) (hfree : (slot d i).reserved = false)
    (hattr : attrBad 2 (leField desc 24 2) i = false) (hmirror : mirrorBad (leField desc 24 2) i none = false)
    (hdrbg : drbgOk d = true) (hfull : genFull d i = false) (hrole : mirrorRole d i = false) :
    generateBody o desc buf d = .done (writeSlot (drbgRequest d n) i 2 (leField desc 23 1) (leField desc 24 2)
      (drbgBytes d n) none) (zeros 16) none := by
  subst hi hn
  simp [generateBody, htype, hlen, hrange, hempty, hfree, hattr, hmirror, hdrbg, hfull, hrole, keyLen, keyCurve]

end

/-! ## Bits of a word put together -/

theorem bit_flagAt {i k : Nat} (b : Bool) (hk : k < 32) : bit (flagAt i b) k = (b && decide (k = i)) := by
  cases b
  · simp [flagAt, bit]
  · simp only [flagAt, bit, if_true, BitVec.getLsbD_ofNat, Nat.testBit_two_pow, hk, decide_true, Bool.true_and,
      eq_comm]

theorem bit_place {hi lo v k : Nat} (hk : k < 32) :
    bit (place hi lo v) k = (decide (lo ≤ k ∧ k ≤ hi) && v.testBit (k - lo)) := by
  simp only [place, bit, BitVec.getLsbD_ofNat, hk, Nat.testBit_mul_two_pow, Nat.testBit_mod_two_pow, decide_true,
    Bool.true_and]
  by_cases hlo : lo ≤ k
  · have hhi : k - lo < hi + 1 - lo ↔ k ≤ hi := by omega
    simp [hlo, hhi]
  · simp [hlo]

theorem testBit_bits (w : W32) (hi lo j : Nat) :
    (bits w hi lo).testBit j = (decide (j < hi + 1 - lo) && bit w (lo + j)) := by
  simp [bits, bitsNat, bit, BitVec.getLsbD, Nat.testBit_div_two_pow, Nat.add_comm]

/-! ## The view (R478) -/

section
variable (d : Device) (i : Nat)

theorem slotView_used : bit (slotView d i).info 31 = decide ((slot d i).state ≠ 0) := by
  simp [slotView, bit_or, bit_flagAt, bit_place, bne, Bool.beq_eq_decide_eq]

theorem slotView_bad : bit (slotView d i).info 30 = decide ((slot d i).state = 2) := by
  simp [slotView, bit_or, bit_flagAt, bit_place, Bool.beq_eq_decide_eq]

theorem slotView_attr : bits (slotView d i).info 15 0 = (slot d i).attr.toNat := by
  refine Nat.eq_of_testBit_eq fun j => ?_
  rw [testBit_bits, Nat.zero_add]
  by_cases hj : j < 16
  · have hword : j < 32 := by omega
    have habove : j ≠ 31 ∧ j ≠ 30 ∧ j ≠ 29 ∧ ¬26 ≤ j ∧ ¬16 ≤ j ∧ j ≤ 15 := by omega
    simp [slotView, bit_or, bit_flagAt _ hword, bit_place hword, habove, hj]
  · have hhigh : (slot d i).attr.toNat.testBit j = false := BitVec.getLsbD_of_ge _ _ (by omega)
    simp [hhigh, hj]

end

/-- Selecting a slot changes the view alone of what the key store holds. -/
theorem selectSlot_key (d : Device) (val : W32) : (selectSlot d val).key =
    { d.key with view := slotView (plainWrite d 0x1C0004 val) (bits val 9 0) } := by
  simp only [selectSlot, (plainWrite_same ..).key]

theorem exec_keySlotSelWrite (val : W32) (s : State) :
    exec (.keySlotSelWrite val) s = .next (s.having (selectSlot s.dev val)) := rfl

/-! ## The sweep (R456, R457) -/

section
variable {d : Device} {i : Nat}

/-- A slot in use that holds its CHECK, and one that is not in use, stay as they are. -/
theorem verifySlot_of_check (h : (slot d i).state = 1 →
      checkValue d (slot d i).type (slot d i).key (slot d i).attr (slot d i).gen = (slot d i).check) (by_ : Nat) :
    (verifySlot d i by_).1 = d := by
  by_cases hused : (slot d i).state = 1
  · simp [verifySlot, hused, h hused]
  · simp [verifySlot, hused]

/-- A fold whose every step leaves the device leaves it. -/
theorem foldl_of_fixed {α : Type} {g : Device → α → Device} (h : ∀ a, g d a = d) (l : List α) :
    l.foldl g d = d := by
  induction l with
  | nil => rfl
  | cons a l ih => rw [List.foldl_cons, h, ih]

/-- A sweep that finds every CHECK good leaves the store as it is. -/
theorem sweepSlots_of_good (h : ∀ k, (slot d k).state = 1 →
      checkValue d (slot d k).type (slot d k).key (slot d k).attr (slot d k).gen = (slot d k).check) (by_ : Nat) :
    sweepSlots d by_ = d :=
  foldl_of_fixed (fun k => verifySlot_of_check (h k) by_) _

theorem verifySlot_of_badCheck (hused : (slot d i).state = 1)
    (hcheck : checkValue d (slot d i).type (slot d i).key (slot d i).attr (slot d i).gen ≠ (slot d i).check)
    (by_ : Nat) : verifySlot d i by_ = (markBad d i by_, false) := by
  simp [verifySlot, hused, hcheck]

/-- Marking a slot bad writes that slot; the rest of it is the health of the Duet and a record. -/
theorem markBad_key (by_ : Nat) :
    (markBad d i by_).key = (setSlot d i { slot d i with state := 2, gen := nextGen (slot d i).gen }).key := by
  simp only [markBad]
  rw [(emit_same ..).key]
  split <;> rfl

theorem slot_markBad (by_ : Nat) :
    slot (markBad d i by_) i = { slot d i with state := 2, gen := nextGen (slot d i).gen } := by
  rw [slot_congr (markBad_key by_), slot_setSlot]

theorem slot_markBad_ne {k : Nat} (h : k ≠ i) (by_ : Nat) : slot (markBad d i by_) k = slot d k := by
  rw [slot_congr (markBad_key by_), slot_setSlot_ne _ _ h]

end

theorem exec_keySweep (s : State) : exec (.keySweep []) s = .next (s.having
    (if bit (reg s.dev 0x1C0020) 31 then count (sweepSlots s.dev 1) (devCtr 29) else s.dev)) := rfl

/-! ## The commands as they run -/

theorem exec_slotDelete (r : Fin 64) (s : State) :
    exec (.slotDelete r) s = .next (s.having (runCommand 0x0312 r anyRight slotOnlyOwn deleteBody [] s.dev)) := rfl

theorem exec_keyInvalidate (r : Fin 64) (s : State) :
    exec (.keyInvalidate r) s =
      .next (s.having (runCommand 0x0314 r anyRight slotOnlyOwn invalidateBody [] s.dev)) := rfl

theorem exec_slotImport (r : Fin 64) (buf : Bytes) (s : State) :
    exec (.slotImport r buf) s = .next (s.having (runCommand 0x0310 r anyRight importOwn importBody buf s.dev)) := rfl

theorem exec_slotGenerate (r : Fin 64) (s : State) :
    exec (.slotGenerate r) s =
      .next (s.having (runCommand 0x0311 r anyRight generateOwn generateBody [] s.dev)) := rfl

/-- Settles O15: each check of the command by the verdict of its body, and the erased slot by what its write leaves. -/
theorem slotDeleteErases : Obligations.SlotDeleteErases := by
  intro r s f rest i o hruns hi ho
  subst ho
  rw [exec_slotDelete]
  refine ⟨?outside, ?full, fun hrange hfull => ⟨?mirrored, ?erased⟩⟩
  case outside =>
    intro hrange
    rw [runCommand_fail hruns (deleteBody_of_outside (d := taken s.dev r rest) hi hrange)]
  case full =>
    intro hrange hfull
    rw [runCommand_fail hruns (deleteBody_of_full (d := taken s.dev r rest) hi hrange hfull)]
  case mirrored =>
    intro hrole
    rw [runCommand_fail hruns (deleteBody_of_mirrored (d := taken s.dev r rest) hi hrange hfull hrole)]
  case erased =>
    intro hrole
    rw [runCommand_done hruns (deleteBody_of_free (d := taken s.dev r rest) hi hrange hfull hrole)]
    refine ⟨_, rfl, ?_, fun k hk => slot_setSlot_ne _ _ hk, rfl, rfl⟩
    rw [deleteSlot, slot_setSlot, nextGen_of_notFull (d := taken s.dev r rest) hfull]
    rfl

/-- Settles O16: the command by the verdict of its body, and the child by the GEN that its parent no longer holds. -/
theorem keyInvalidateStalesChildren : Obligations.KeyInvalidateStalesChildren := by
  refine ⟨?command, ?child⟩
  case command =>
    intro r s f rest i g hruns hi hg hrange hused hfull hrole
    rw [exec_keyInvalidate, runCommand_done hruns
      (invalidateBody_of_used (d := taken s.dev r rest) hi hg hrange hused hfull hrole)]
    refine ⟨_, _, rfl, ?_, ?_, fun k hk => ?_, rfl⟩
    · rw [slot_emit, slot_setSlot]
    · rw [slot_emit, slot_setSlot]
      rfl
    · rw [slot_emit, slot_setSlot_ne _ _ hk]
      rfl
  case child =>
    intro d i k hparent hk
    rw [← slot_setSlot_ne d _ hk] at hparent
    refine stale_of_parentGen hparent ?_
    rw [slot_setSlot]
    bv_omega

/-- Settles O17: the two commands by the verdicts of their bodies, and the written slot by its fields. -/
theorem slotWritesFillEmptySlot : Obligations.SlotWritesFillEmptySlot := by
  refine ⟨?clear, ?secret, ?written⟩
  case clear =>
    intro r s f rest buf i hruns hi hclear htype hlen hmode hrange hempty hfree hattr hmirror hfull hrole
    rw [exec_slotImport, runCommand_done hruns (importBody_of_clear (d := taken s.dev r rest) hi hclear htype hlen hmode
      hrange hempty hfree hattr hmirror hfull hrole), hlen]
  case secret =>
    intro r s f rest i n hruns hi htype hn hlen hrange hempty hfree hattr hmirror hdrbg hfull hrole
    rw [exec_slotGenerate, runCommand_done hruns (generateBody_of_secret (d := taken s.dev r rest) hi htype hn hlen
      hrange hempty hfree hattr hmirror hdrbg hfull hrole)]
    rfl
  case written =>
    intro d i type curve attr key
    rw [writeSlot, slot_setSlot]
    exact ⟨rfl, rfl, rfl, rfl, fun k hk => slot_setSlot_ne _ _ hk⟩

/-- Settles O18: the view by the bits of its word, the sweep by each slot that it verifies, and a bad slot by what
marking it writes. -/
theorem sweepMarksBadSlots : Obligations.SweepMarksBadSlots := by
  refine ⟨?view, ?sweep, ?bad⟩
  case view =>
    rintro val s i rfl
    rw [exec_keySlotSelWrite, ← slot_congr (plainWrite_same s.dev 0x1C0004 val).key]
    refine ⟨_, rfl, ?_⟩
    rw [selectSlot_key]
    exact ⟨rfl, rfl, slotView_used .., slotView_bad .., slotView_attr ..⟩
  case sweep =>
    intro s henabled hgood
    rw [exec_keySweep, if_pos henabled, sweepSlots_of_good hgood]
  case bad =>
    intro d i by_ hused hgen hcheck
    rw [verifySlot_of_badCheck hused hcheck]
    refine ⟨rfl, ?_, ?_, fun k hk => slot_markBad_ne hk _⟩
    · rw [slot_markBad]
    · rw [slot_markBad, nextGen_of_ne hgen]

end Sys2Proof.Machine

/-!
PROOF. Attestations and exports (O19), and the order in which the service engines serve their jobs (O21).
-/
namespace Sys2Proof.Machine

/-! ## Acceptance (R482, R483) -/

section
variable {d : Device} {j : Job} {e : Nat}

theorem accepted_clock (d : Device) (j : Job) : (accepted d j).1.clock = d.clock := (granting_same ..).clock

theorem acceptPk_of_busy (hbusy : freeEngine d.svc.pkRun = none) (hroom : pkWaiting d < 64) :
    acceptPk d j = some { (accepted d j).1 with svc := { (accepted d j).1.svc with
      pkQueue := d.svc.pkQueue ++ [(accepted d j).2] } } := by
  simp [acceptPk, hbusy, hroom]

theorem acceptSym_of_busy (hbusy : freeEngine d.svc.symRun = none) (hroom : d.svc.symQueue.length < 256) :
    acceptSym d j = some { (accepted d j).1 with svc := { (accepted d j).1.svc with
      symQueue := d.svc.symQueue ++ [(accepted d j).2] } } := by
  simp [acceptSym, hbusy, hroom]

/-! ## Starts (R461, R483) -/

/-- An attestation and a curve load need the DRBG alone. -/
theorem startPk_of_unkeyed (hopcode : j.opcode = 0x0302 ∨ j.opcode = 0x0010) (hdrbg : drbgOk d = true) :
    startPk d j = (d, .ok j) := by
  have hcurve : j.opcode ≠ 0x0301 := by omega
  simp [startPk, hcurve, hopcode, hdrbg]

/-- A PK_JOB whose OP is neither 0 nor 2 reads no slot. -/
theorem startPk_of_keylessOp (hopcode : j.opcode = 0x0301) (hsign : leField j.desc 20 1 ≠ 0)
    (hagree : leField j.desc 20 1 ≠ 2) (hdrbg : drbgOk d = true) : startPk d j = (d, .ok j) := by
  simp [startPk, startPkJob, hopcode, hsign, hagree, hdrbg]

theorem shortJob_opcode (h : shortJob j = true) : j.opcode = 0x0301 := by
  simp only [shortJob, Bool.and_eq_true, beq_iff_eq] at h
  exact h.1.1

/-- A hash reads no slot and needs no DRBG. -/
theorem startSym_of_hash (hopcode : j.opcode = 0x0300) (hlow : 5 ≤ symMode j) (hhigh : symMode j ≤ 7) :
    startSym d j = (d, .ok j) := by
  simp [startSym, startSymJob, hopcode, hlow, hhigh]

theorem runSym_of_ok (h : startSym d j = (d, .ok j)) : runSym d e j =
    { d with svc := { d.svc with symRun := Tbl.put d.svc.symRun e { j with started := d.clock } } } := by
  rw [runSym, h]

theorem runPk_of_ok (h : startPk d j = (d, .ok j)) : runPk d e j =
    ({ d with svc := { d.svc with pkRun := Tbl.put d.svc.pkRun e { j with started := d.clock } } }, true) := by
  rw [runPk, h]

/-- A modular job that finds an engine free and no job before it starts at once. -/
theorem acceptPk_of_free (hfree : freeEngine d.svc.pkRun = some e) (hnone : d.svc.pkQueue = [])
    (hstart : startPk (accepted d j).1 (accepted d j).2 = ((accepted d j).1, .ok (accepted d j).2)) :
    acceptPk d j = some { (accepted d j).1 with svc := { (accepted d j).1.svc with
      pkRun := Tbl.put (accepted d j).1.svc.pkRun e { (accepted d j).2 with started := d.clock } } } := by
  simp only [acceptPk, hfree, hnone, runPk_of_ok hstart, accepted_clock]

theorem jobStart_sym {i : Fin 2} {rest : List Job} (hfree : freeEngine d.svc.symRun = some i.val)
    (hqueue : d.svc.symQueue = j :: rest) :
    jobStart d (.sym i) = runSym { d with svc := { d.svc with symQueue := rest } } i j := by
  simp [jobStart, hfree, hqueue]

theorem jobStart_pk {i : Fin 2} {rest : List Job} (hfree : freeEngine d.svc.pkRun = some i.val)
    (hqueue : d.svc.pkQueue = j :: rest) :
    jobStart d (.pk i) = (runPk { d with svc := { d.svc with pkQueue := rest } } i j).1 := by
  simp [jobStart, hfree, hqueue]

end

theorem exec_jobStart (e : Engine) (s : State) : exec (.jobStart e) s = .next (s.having (jobStart s.dev e)) := rfl

/-! ## IDENTITY_ATTEST and SLOT_EXPORT_WRAPPED (R475, R477) -/

section
variable {o : Origin} {desc buf : Bytes} {d e : Device}

theorem attestBody_of_accepted (hlen : o.bufLen = 276) (hidentity : d.tmp.identity = true) (hdrbg : drbgOk d = true)
    (h : acceptPk d { origin := o, opcode := 0x0010, desc := desc, buf := buf } = some e) :
    attestBody o desc buf d = .accept e := by
  simp [attestBody, hlen, hidentity, hdrbg, h]

theorem exportBody_of_accepted
    (hcheck : exportCheck d o.fn (slotNo16 desc 20) (slotNo16 desc 22) o.bufLen = (d, none))
    (h : acceptSym d { origin := o, opcode := 0x0313, desc := desc, buf := buf } = some e) :
    exportBody o desc buf d = .accept e := by
  simp [exportBody, hcheck, h]

end

theorem attestDone_of_running {d : Device} {e : Nat} {j : Job} {t : Tree} {body : Bytes} (f : Fuses)
    (hrun : Tbl.get? d.svc.pkRun e = some j) (htree : d.key.tree = some t) (hopcode : j.opcode = 0x0010)
    (hbody : body = attestBodyBytes d f t (slice j.desc 24 32)) :
    attestDone d f e = finishOut (count (leavePk (drbgRequest d 40) e) (unitCtr 9 e)) j.origin (zeros 16)
      (some (body ++ identitySign t (drbgBytes d 40) body)) := by
  subst hbody
  simp only [attestDone, hrun, htree, hopcode, if_true]

theorem exportDone_of_running {d : Device} {e : Nat} {j : Job} {w : Bytes} (hrun : Tbl.get? d.svc.symRun e = some j)
    (hopcode : j.opcode = 0x0313) (hw : w = wrapKey j.res.type j.res.wrap j.res.key) :
    exportDone d e = finishOut (count (count (count (leaveSym d e) (unitCtr 7 e)) (unitCtr 8 e) j.res.key.length)
      (devCtr 30)) j.origin (leBytes 2 w.length) (some w) := by
  subst hw
  simp only [exportDone, hrun, hopcode, if_true]

theorem exec_identityAttest (r : Fin 64) (s : State) :
    exec (.identityAttest r) s = .next (s.having (runCommand 0x0010 r anyRight attestOwn attestBody [] s.dev)) := rfl

theorem exec_identityAttestDone (e : Fin 2) (s : State) :
    exec (.identityAttestDone e) s = .next (s.having (attestDone s.dev s.fuses e)) := rfl

theorem exec_slotExportWrapped (r : Fin 64) (s : State) :
    exec (.slotExportWrapped r) s = .next (s.having (runCommand 0x0313 r anyRight exportOwn exportBody [] s.dev)) := rfl

theorem exec_slotExportWrappedDone (e : Fin 2) (s : State) :
    exec (.slotExportWrappedDone e) s = .next (s.having (exportDone s.dev e)) := rfl

/-- Settles O19: each command by the place that its job takes, in the queue or on an engine, and each end by the job
that runs. -/
theorem attestAndExportComplete : Obligations.AttestAndExportComplete := by
  refine ⟨?attest, ?attestEnds, ?exportTaken, ?exportEnds⟩
  case attest =>
    rintro r s f rest _ hruns hlen hidentity hdrbg rfl
    rw [exec_identityAttest]
    refine ⟨fun hbusy hroom => ?_, fun k hfree hnone => ?_⟩
    · rw [runCommand_accept hruns (attestBody_of_accepted (d := taken s.dev r rest) hlen hidentity hdrbg
        (acceptPk_of_busy (d := taken s.dev r rest) hbusy hroom)), hlen]
      rfl
    · rw [runCommand_accept hruns (attestBody_of_accepted (d := taken s.dev r rest) hlen hidentity hdrbg
        (acceptPk_of_free (d := taken s.dev r rest) hfree hnone (startPk_of_unkeyed (.inr rfl) hdrbg))), hlen]
      rfl
  case attestEnds =>
    rintro e s j t _ body hrun htree hopcode hbody rfl
    rw [exec_identityAttestDone, attestDone_of_running s.fuses hrun htree hopcode hbody]
  case exportTaken =>
    rintro r s f rest _ hruns hcheck hbusy hroom rfl
    rw [exec_slotExportWrapped, runCommand_accept hruns (exportBody_of_accepted (d := taken s.dev r rest) hcheck
      (acceptSym_of_busy (d := taken s.dev r rest) hbusy hroom))]
    rfl
  case exportEnds =>
    intro e s j w hrun hopcode hw
    rw [exec_slotExportWrappedDone, exportDone_of_running hrun hopcode hw]

/-! ## Yield points (R506, R507) -/

section
variable {d : Device} {e : Nat} {long j : Job}

theorem atYield_of_ahead (hrun : Tbl.get? d.svc.pkRun e = some long) (hlong : longJob long = true)
    (hhere : Tbl.has d.svc.yielded e = false) (hahead : long.points < yieldPoints long) :
    atYield d e = some long := by
  simp [atYield, hrun, hlong, hhere, hahead]

/-- A long job whose yield points are passed has none ahead. -/
theorem atYield_of_passed (hrun : Tbl.get? d.svc.pkRun e = some long) (hpassed : yieldPoints long ≤ long.points) :
    atYield d e = none := by
  simp [atYield, hrun, Nat.not_lt.2 hpassed]

/-- The device once the long job on engine `e` has counted the yield point that it is at. -/
def atNextPoint (d : Device) (e : Nat) (long : Job) : Device :=
  { d with svc := { d.svc with pkRun := Tbl.put d.svc.pkRun e { long with points := long.points + 1 } } }

theorem reachPoint_of_now (hat : atYield d e = some long)
    (hnow : engineTime long (yieldAt long (long.points + 1)) ≤ d.clock) :
    reachPoint d e = atNextPoint d e long := by
  simp only [reachPoint, hat, elapseTo_of_past hnow, atNextPoint]

theorem yieldTo_nil : yieldTo d e [] = d := by
  simp only [yieldTo, List.isEmpty_nil, if_true]
  split <;> rfl

/-- The first dealt job that can run keeps the engine; the others stay dealt behind it. -/
theorem runDealt_of_ok {rest : List Job} (hstart : startPk d j = (d, .ok j)) :
    runDealt d e long (j :: rest) = { d with svc := { d.svc with
      pkRun := Tbl.put d.svc.pkRun e { j with started := d.clock }
      yielded := Tbl.put d.svc.yielded e (long, rest) } } := by
  rw [runDealt, runPk_of_ok hstart]

/-- Where one of the dealt jobs keeps the engine, the long job has yielded. -/
theorem yieldTo_of_yielded {jobs waiting : List Job} {x : Device} {l : Job} (hrun : Tbl.get? d.svc.pkRun e = some long)
    (hjobs : jobs.isEmpty = false) (hwaiting : d.svc.pkQueue.filter (fun j => !jobs.contains j) = waiting)
    (hl : l = { long with spent := long.spent + (d.clock - long.started) })
    (hdealt : runDealt { d with svc := { d.svc with
      pkQueue := waiting, yielded := Tbl.put d.svc.yielded e (l, []) } } e l jobs = x)
    (hyielded : Tbl.has x.svc.yielded e = true) : yieldTo d e jobs = count x (unitCtr 10 e) := by
  subst hl hwaiting hdealt
  simp only [yieldTo, hrun, hjobs, Bool.false_eq_true, if_false, if_pos hyielded]

/-- A long job lends its engine to the one short job that waits, where that starts without a key. -/
theorem yieldTo_of_single {l : Job} (hrun : Tbl.get? d.svc.pkRun e = some long) (hqueue : d.svc.pkQueue = [j])
    (hstart : ∀ d, drbgOk d = true → startPk d j = (d, .ok j)) (hdrbg : drbgOk d = true)
    (hl : l = { long with spent := long.spent + (d.clock - long.started) }) :
    yieldTo d e [j] = count { d with svc := { d.svc with
      pkQueue := []
      yielded := Tbl.put (Tbl.put d.svc.yielded e (l, [])) e (l, [])
      pkRun := Tbl.put d.svc.pkRun e { j with started := d.clock } } } (unitCtr 10 e) :=
  yieldTo_of_yielded hrun rfl (by simp [hqueue]) hl (runDealt_of_ok (hstart _ hdrbg)) (Tbl.has_put ..)

end

/-- An engine that reaches a yield point by itself offers it to the first four waiting short jobs. -/
theorem exec_pkYield (e : Fin 2) (s : State) : exec (.pkYield e false) s = .next (s.having
    (if (atYield s.dev e).isSome then
      yieldTo (reachPoint s.dev e) e ((s.dev.svc.pkQueue.filter shortJob).take 4) else s.dev)) := rfl

/-- Settles O21: the starts by what each job needs, and the yield by the point that the long job is at. -/
theorem enginesServeInOrder : Obligations.EnginesServeInOrder := by
  refine ⟨?hash, ?curve, ?lent, ?kept⟩
  case hash =>
    intro i s j rest hfree hqueue hopcode hlow hhigh
    rw [exec_jobStart, jobStart_sym hfree hqueue, runSym_of_ok (startSym_of_hash hopcode hlow hhigh)]
  case curve =>
    intro i s j rest hfree hqueue hopcode hdrbg
    rw [exec_jobStart, jobStart_pk hfree hqueue, runPk_of_ok (startPk_of_unkeyed
      (d := { s.dev with svc := { s.dev.svc with pkQueue := rest } }) (.inl hopcode) hdrbg)]
  case lent =>
    rintro e s long l j _ hrun hlong hhere hqueue hshort hdrbg hop hahead hnow rfl rfl
    have hat := atYield_of_ahead hrun hlong hhere hahead
    have hreached := reachPoint_of_now hat hnow
    have hstart (d : Device) (hd : drbgOk d = true) : startPk d j = (d, .ok j) :=
      startPk_of_keylessOp (shortJob_opcode hshort) (by omega) (by omega) hd
    have hshorts : (s.dev.svc.pkQueue.filter shortJob).take 4 = [j] := by simp [hqueue, hshort]
    rw [exec_pkYield, hat, hshorts, hreached, Option.isSome_some, if_pos rfl,
      yieldTo_of_single (d := atNextPoint s.dev e long) (Tbl.get?_put ..) hqueue hstart hdrbg rfl]
    rfl
  case kept =>
    intro e s long hrun hlong hhere hnone
    refine ⟨fun hahead hnow => ?_, fun hpassed => ?_⟩
    · have hat := atYield_of_ahead hrun hlong hhere hahead
      rw [exec_pkYield, hat, reachPoint_of_now hat hnow, hnone, Option.isSome_some, if_pos rfl, List.filter_nil,
        List.take_nil, yieldTo_nil, atNextPoint]
    · rw [exec_pkYield, atYield_of_passed hrun hpassed]
      rfl

end Sys2Proof.Machine

/-!
PROOF. The battery domain, a new identity, re-provisioning and the retries of a press (O35).
-/
namespace Sys2Proof.Machine

/-! ## Battery alarms with the main supplies off (R630, R631) -/

theorem batteryAlarm_cell_of_off {d : Device} (h : d.tmp.mainPower = false) (kind afterNs : Nat) :
    batteryAlarm d 4 kind afterNs = setBatt d { d.tmp.batt with ns := d.tmp.batt.ns + afterNs } := by
  simp [batteryAlarm, h]

/-- An alarm of another source acts in the battery domain alone: it is logged, and the BBK erased. -/
theorem batteryAlarm_of_off {d : Device} {n : Nat} (h : d.tmp.mainPower = false) (hn : n ≠ 4) (kind afterNs : Nat) :
    ∃ t entry, batteryAlarm d n kind afterNs = { d with tmp := t } ∧
      t.batt = eraseBbk (addLog { d.tmp.batt with ns := d.tmp.batt.ns + afterNs } entry) := by
  simp only [batteryAlarm, h, hn, Bool.false_eq_true, if_false, setLoop]
  split <;> exact ⟨_, _, rfl, rfl⟩

/-- The log's entries before the last place stay (Table 14-4). -/
theorem addLog_log_getElem? {b : Batt} {k : Nat} (e : W64) (hk : k < b.log.length) (hplace : k < 15) :
    (addLog b e).log[k]? = b.log[k]? := by
  unfold addLog
  split
  · exact List.getElem?_append_left hk
  · have hkept : k < (b.log.take 15).length := by
      rw [List.length_take]
      omega
    exact (List.getElem?_append_left hkept).trans (List.getElem?_take_of_lt hplace)

theorem addLog_ns (b : Batt) (e : W64) : (addLog b e).ns = b.ns := by
  unfold addLog
  split <;> rfl

theorem eraseBbk_ns (b : Batt) : (eraseBbk b).ns = b.ns := rfl

theorem eraseBbk_log (b : Batt) : (eraseBbk b).log = b.log := rfl

/-! ## VBAT (R635) -/

/-- A measurement sets VBAT and CELL_LOW; the rest of it is a record. -/
theorem measureVbat_same {d : Device} (h : d.tmp.mainPower = true) (mv : Nat) : SameWork (measureVbat d mv)
    { d with tmp := { d.tmp with vbat := mv, cellLow := decide (mv < 2500) } } := by
  simp only [measureVbat, h, Bool.not_true, Bool.false_eq_true, if_false]
  exact ite_same (emit_same ..) (.refl _)

theorem measureVbat_regs (d : Device) (mv : Nat) : (measureVbat d mv).regs = d.regs := by
  simp only [measureVbat]
  (repeat' split) <;> simp

/-! ## A new identity (R465, R621) -/

/-- A request to the DRBG leaves all but its own counts and its place in the stream. -/
theorem drbgRequest_same (d : Device) (n : Nat) :
    SameWork { drbgRequest d n with svc := d.svc } { d with drawn := d.drawn + n } := by
  simp only [drbgRequest]
  split <;> (constructor <;> rfl)

section
variable (d : Device) (f : Fuses)

theorem drawIdentity_tmp : (drawIdentity d f).tmp = { d.tmp with
    batt := { d.tmp.batt with bbk := some (drbgBytes d 32), everHeld := true }, identity := true } := by
  rw [drawIdentity, (emit_same ..).tmp]
  simp only [show (drbgRequest d 32).tmp = d.tmp from (drbgRequest_same ..).tmp]

theorem drawIdentity_zeroWait : (drawIdentity d f).tmp.zeroWait = d.tmp.zeroWait := by
  rw [drawIdentity_tmp]

theorem drawIdentity_key : (drawIdentity d f).key = { d.key with
    tree := some (deriveTree f.key (drbgBytes d 32)), identityNew := true } := by
  rw [drawIdentity, (emit_same ..).key]
  simp only [show (drbgRequest d 32).key = d.key from (drbgRequest_same ..).key]

theorem drawIdentity_glb : (drawIdentity d f).glb = d.glb := by
  rw [drawIdentity, emit_glb]
  exact (drbgRequest_same ..).glb

theorem drawIdentity_drawn : (drawIdentity d f).drawn = d.drawn + 32 := by
  rw [drawIdentity, (emit_same ..).drawn]
  exact (drbgRequest_same ..).drawn

end

theorem elapseTo_glb (d : Device) (t : Nat) : (elapseTo d t).glb = d.glb := by
  unfold elapseTo
  split <;> rfl

theorem elapseTo_drawn (d : Device) (t : Nat) : (elapseTo d t).drawn = d.drawn := by
  unfold elapseTo
  split <;> rfl

theorem drbgBytes_congr {a b : Device} (h : a.drawn = b.drawn) (n : Nat) : drbgBytes a n = drbgBytes b n := by
  rw [drbgBytes, h, drbgBytes]

/-- The device whose quiet second is over: its DRBG is ready, and it waits for an identity no more. -/
def readyToDraw (d : Device) : Device :=
  { d with svc := { d.svc with drbgReady := true, drbgRequests := 0, reseedAt := d.clock }
           tmp := { d.tmp with zeroWait := none } }

@[simp] theorem readyToDraw_key (d : Device) : (readyToDraw d).key = d.key := rfl
@[simp] theorem readyToDraw_glb (d : Device) : (readyToDraw d).glb = d.glb := rfl
@[simp] theorem readyToDraw_drawn (d : Device) : (readyToDraw d).drawn = d.drawn := rfl
@[simp] theorem readyToDraw_zeroWait (d : Device) : (readyToDraw d).tmp.zeroWait = none := rfl

theorem exec_identityRederive_of_quiet {s : State} {t : Nat} (hwait : s.dev.tmp.zeroWait = some t)
    (hquiet : zeroQuiet s.dev = true) (hdrbg : s.dev.svc.drbgStopped = none) :
    exec .identityRederive s =
      .next (s.having (drawIdentity (readyToDraw (elapseTo s.dev (t + 1000 * msTicks))) s.fuses)) := by
  show execIdentityRederive s = _
  simp only [execIdentityRederive, hwait, hquiet, hdrbg, Option.isNone_none, Bool.and_self, if_true]
  rfl

/-! ## Re-provisioning (R638-R640) -/

theorem reprovisionBody_of_match {o : Origin} {desc buf : Bytes} {d : Device} {t : Tree} (f : Fuses)
    (hlen : o.bufLen = 148) (hidentity : d.tmp.identity = true) (htree : d.key.tree = some t)
    (hbytes : firstDiffer (slice buf 0 84) (authExpected d f t) 84 = none) :
    reprovisionBody f o desc buf d = .accept (enterInflight { d with
      tmp := { d.tmp with requests := d.tmp.requests ++ [(o, buf)] } } o 0x0030) := by
  simp [reprovisionBody, hlen, hidentity, htree, hbytes]

/-- The device once the oldest request has been granted, before its command ends. -/
def grantGiven (d : Device) (rest : List (Origin × Bytes)) : Device :=
  let e := elapse { d with tmp := { d.tmp with requests := rest } } 48000
  emit (setBatt e { e.tmp.batt with grant := true }) .tamper 0x04 [1#8]

theorem grantGiven_same (d : Device) (rest : List (Origin × Bytes)) : SameWork (grantGiven d rest)
    (let e := elapse { d with tmp := { d.tmp with requests := rest } } 48000
     setBatt e { e.tmp.batt with grant := true }) := emit_same ..

theorem grantNext_of_enrolled {d : Device} {o : Origin} {buf : Bytes} {rest : List (Origin × Bytes)} {x : Enrolment}
    (hqueue : d.tmp.requests = (o, buf) :: rest) (henrolled : d.boot.flash.enrolment = some x) :
    grantNext d = if verifyP256 x.authority (slice buf 0 84) (slice buf 84 64)
      then finish (grantGiven d rest) o .ok (zeros 16)
      else finish (elapse { d with tmp := { d.tmp with requests := rest } } 48000) o .inputRejected (zeros 16) := by
  simp only [grantNext, hqueue, henrolled]
  rfl

/-! ## A press that is out of service (R133, R629) -/

theorem proofRetry_of_firstPass {d : Device} {m : Nat} (hout : (press d m).out = true)
    (hpasses : (press d m).passes = 0)
    (hhealthy : (source d (10 + m % 4)).raised = false ∨ effective d (10 + m % 4) ≠ 1) :
    proofRetry d m true = setPress d m { press d m with passes := 1 } := by
  have hnotHeld : ((source d (10 + m % 4)).raised && effective d (10 + m % 4) == 1) = false := by
    obtain hquiet | hmild := hhealthy
    · simp [hquiet]
    · simp [hmild]
  simp [proofRetry, hout, hpasses, hnotHeld]

/-! ## The rows -/

theorem exec_batteryAlarm (n : Fin 5) (kind : Fin 16) (afterNs : Nat) (s : State) :
    exec (.batteryAlarm n kind afterNs) s = .next (s.having (batteryAlarm s.dev n kind afterNs)) := rfl

theorem exec_vbatMeasure (mv : Fin 65536) (s : State) :
    exec (.vbatMeasure mv) s = .next (s.having (measureVbat s.dev mv)) := rfl

theorem exec_reprovisionRequest (r : Fin 64) (buf : Bytes) (s : State) :
    exec (.reprovisionRequest r buf) s = .next (s.having (runCommand 0x0030 r anyRight (fun desc => zeroFrom desc 20 63)
      (reprovisionBody s.fuses) buf s.dev)) := rfl

theorem exec_reprovisionGranted (s : State) : exec .reprovisionGranted s = .next (s.having (grantNext s.dev)) := rfl

theorem exec_pressProofRetry (m : Fin 24) (passes : Bool) (s : State) :
    exec (.pressProofRetry m passes) s = .next (s.having (proofRetry s.dev m passes)) := rfl

/-- Settles O35: the battery domain by what it does without the main supplies, the new identity by what drawing it
writes, and the requests and the press by the branch that each takes. -/
theorem batteryAndIdentity : Obligations.BatteryAndIdentity := by
  refine ⟨?cell, ?loop, ?vbat, ?identity, ?request, ?grant, ?retry⟩
  case cell =>
    intro kind afterNs s hoff
    rw [exec_batteryAlarm]
    exact congrArg _ (congrArg _ (batteryAlarm_cell_of_off hoff kind afterNs))
  case loop =>
    intro n kind afterNs s hoff hn
    obtain ⟨t, entry, halarm, hbatt⟩ := batteryAlarm_of_off hoff (by omega : n.val ≠ 4) kind afterNs
    rw [exec_batteryAlarm, halarm]
    refine ⟨t, rfl, ?_⟩
    rw [hbatt, eraseBbk_ns, eraseBbk_log, addLog_ns]
    exact ⟨rfl, rfl, rfl, rfl, fun k hk hplace => addLog_log_getElem? entry hk hplace⟩
  case vbat =>
    intro mv s hpower
    have hsame := measureVbat_same hpower mv
    exact ⟨_, exec_vbatMeasure mv s, hsame.tmp, measureVbat_regs .., { hsame with tmp := rfl }⟩
  case identity =>
    intro s t hwait hquiet hdrbg
    have hbytes : drbgBytes (readyToDraw (elapseTo s.dev (t + 1000 * msTicks))) 32 = drbgBytes s.dev 32 :=
      drbgBytes_congr (by rw [readyToDraw_drawn, elapseTo_drawn]) 32
    rw [exec_identityRederive_of_quiet hwait hquiet hdrbg]
    refine ⟨_, rfl, ?_, ?_, ?_, ?_, ?_, ?_, ?_⟩
    · rw [drawIdentity_tmp, hbytes]
    · rw [drawIdentity_key, hbytes]
    · rw [drawIdentity_tmp]
    · rw [drawIdentity_zeroWait, readyToDraw_zeroWait]
    · rw [drawIdentity_drawn, readyToDraw_drawn, elapseTo_drawn]
    · rw [drawIdentity_key, readyToDraw_key, elapseTo_key]
    · rw [drawIdentity_glb, readyToDraw_glb, elapseTo_glb]
  case request =>
    rintro r s f rest buf _ _ t hruns rfl hlen rfl hidentity htree hbytes
    rw [← hlen] at hbytes
    rw [exec_reprovisionRequest, runCommand_accept hruns
      (reprovisionBody_of_match (d := taken s.dev r rest) s.fuses hlen hidentity htree hbytes), hlen]
    rfl
  case grant =>
    intro s o buf rest x hqueue henrolled
    have hsame := grantGiven_same s.dev rest
    refine ⟨grantGiven s.dev rest, ?_, congrArg (fun t => t.batt.grant) hsame.tmp, congrArg Tmp.requests hsame.tmp,
      hsame.clock, hsame.key, hsame.glb⟩
    rw [exec_reprovisionGranted, grantNext_of_enrolled hqueue henrolled]
  case retry =>
    intro m s hout hpasses hhealthy
    rw [exec_pressProofRetry, proofRetry_of_firstPass hout hpasses hhealthy]

end Sys2Proof.Machine

/-!
PROOF. One step, and the fuses that a step blows: O1 and O60.
-/
namespace Sys2Proof.Machine

/-- Settles O1: the queue's front decides the branch of `step`. -/
theorem stepRunsFrontCommand : Obligations.StepRunsFrontCommand := by
  intro c rest s hqueue
  simp only [step, hqueue]

/-! ## Fuses only grow (R679, R680) -/

theorem FusesGrow.trans {a b c : Fuses} (h : FusesGrow a b) (k : FusesGrow b c) : FusesGrow a c where
  key := k.key.trans h.key
  dieId := k.dieId.trans h.dieId
  keyHash := k.keyHash.trans h.keyHash
  revoke := by rw [← k.revoke, ← BitVec.or_assoc, h.revoke]
  rollback := h.rollback.trans k.rollback
  field := k.field ∘ h.field
  debugKill := k.debugKill ∘ h.debugKill

theorem blowEnrol_grows (f : Fuses) (x : Enrol) : FusesGrow f (blowEnrol f x) where
  key := rfl
  dieId := rfl
  keyHash := rfl
  revoke := BitVec.or_self
  rollback := le_rfl
  field h := by simp [blowEnrol, h]
  debugKill h := by simp [blowEnrol, h]

theorem blowInstall_grows (f : Fuses) (x : Install) : FusesGrow f (blowInstall f x) where
  key := rfl
  dieId := rfl
  keyHash := rfl
  revoke := by rw [blowInstall, ← BitVec.or_assoc, BitVec.or_self]
  rollback := by
    simp only [blowInstall]
    split
    · exact Nat.le_max_left ..
    · exact le_rfl
  field := id
  debugKill := id

theorem enrolDone_fuses (s : State) : FusesGrow s.fuses (enrolDone s).fuses := by
  simp only [enrolDone]
  split
  · exact .refl _
  · split
    · exact blowEnrol_grows ..
    · exact .refl _

theorem suppDone_fuses (s : State) (readBackOk : Bool) : FusesGrow s.fuses (suppDone s readBackOk).fuses := by
  simp only [suppDone]
  split
  · exact .refl _
  · split
    · exact blowInstall_grows ..
    · exact .refl _

/-- The two commands that blow fuses only add to what is blown; no other touches them. -/
theorem exec_fuses {i : Instr} {s t : State} (h : exec i s = .next t) : FusesGrow s.fuses t.fuses := by
  by_cases henrol : i = .domainEnrolDone
  · subst henrol
    obtain rfl : enrolDone s = t := by injection h
    exact enrolDone_fuses s
  by_cases hsupp : ∃ b, i = .supplementInstallDone b
  · obtain ⟨b, rfl⟩ := hsupp
    obtain rfl : suppDone s b = t := by injection h
    exact suppDone_fuses s b
  obtain ⟨e, he⟩ := exec_changesDevice i s henrol (fun b hb => hsupp ⟨b, hb⟩)
  obtain rfl : s.having e = t := by rw [h] at he; injection he with he; exact he.symm
  exact .refl _

/-- Settles O60: the empty queue's tick keeps the fuses, and a command's blows are added to those of the moment before. -/
theorem fusesOnlyGrow : Obligations.FusesOnlyGrow := by
  intro f s t hgrown hstep
  cases hqueue : s.pending with
  | nil =>
    rw [step_of_empty hqueue] at hstep
    injection hstep with ht
    exact ht ▸ hgrown
  | cons c rest =>
    rw [stepRunsFrontCommand c rest s hqueue] at hstep
    exact hgrown.trans (exec_fuses (s := { s with pending := rest }) hstep)

end Sys2Proof.Machine

/-!
PROOF. The rows of protected memory: O31 (the controller's own rows) and O30 (rebuilds and the patrol).
-/
namespace Sys2Proof.Machine

/-! ## The controller's rows (R526, R529) -/

theorem emitRaw_lastRead (d : Device) (src : Source) (t : Nat) (p : Bytes) : (emitRaw d src t p).lastRead = d.lastRead := by
  unfold emitRaw
  simp only
  (repeat' split) <;> rfl

@[simp] theorem emit_lastRead (d : Device) (src : Source) (t : Nat) (p : Bytes) : (emit d src t p).lastRead = d.lastRead := by
  have hdrops : ∀ e, (reportDrops e src).lastRead = e.lastRead := fun e => by
    unfold reportDrops
    split
    · split
      · exact emitRaw_lastRead ..
      · rfl
    · rfl
  unfold emit
  split
  · rfl
  · rw [hdrops, emitRaw_lastRead]

/-- An access of the Caller to another address than its own: reported as MEM_BLOCKED_ACCESS. -/
theorem exec_blockedAccess (addr : W64) (write : Bool) (s : State) : exec (.blockedDdr4Access 1 addr write) s =
    .next (s.having (emit (count (if write then s.dev else { s.dev with lastRead := 0#64 }) (devCtr 42)) .memory 0x08
      (leBytes 1 (1 : Fin 2) ++ leBytes 8 addr.toNat))) := rfl

/-- Settles O31: a blocked access counts and reports, and neither touches more than reporting does. -/
theorem memoryControllerRows : Obligations.MemoryControllerRows := by
  have hcounted : ∀ (e : Device) p, counter (emit (count e (devCtr 42)) .memory 0x08 p) (devCtr 42) =
      counter e (devCtr 42) + 1#64 := fun e p => (emit_counter (by decide) (by decide)).trans (counter_count ..)
  have hsame : ∀ (e : Device) p, SameWork (emit (count e (devCtr 42)) .memory 0x08 p) e :=
    fun _ _ => (emit_same ..).trans (count_same ..)
  refine ⟨fun _ => ⟨rfl, rfl⟩, fun _ _ => rfl, fun addr s => ?read, fun addr s => ?write⟩
  case read =>
    exact ⟨_, exec_blockedAccess addr false s, emit_lastRead .., hcounted ..,
      (hsame ..).trans (by constructor <;> rfl)⟩
  case write => exact ⟨_, exec_blockedAccess addr true s, emit_lastRead .., hcounted .., hsame ..⟩

/-! ## What work on lines leaves of the key and of the rebuilds -/

section
variable (d : Device)

/-- What no read, write or erasure of lines changes: the fitted devices, the memory key, the accepted rebuilds, the slots. -/
def lineBase : Nat × Option Bytes × List Rebuild × Tbl Slot :=
  (d.mem.density, d.mem.memKey, d.mem.rebuilds, d.key.slots)

theorem SameWork.lineBase {a b : Device} (h : SameWork a b) : lineBase a = lineBase b := by
  rw [Machine.lineBase, Machine.lineBase, h.mem, h.key]

/-- A part of the device that neither the lines' caches and tables nor the counters beyond the ports' hold. -/
structure KeepsLines {β : Type} (get : Device → β) : Prop where
  mem : ∀ d m, m.density = d.mem.density → m.memKey = d.mem.memKey → m.rebuilds = d.mem.rebuilds →
    get { d with mem := m } = get d
  count : ∀ d i n, 8192 ≤ i → get (Machine.count d i n) = get d

theorem unitCtr_high (k n : Nat) : 8192 ≤ unitCtr k n := by
  rw [unitCtr]
  omega

namespace KeepsLines

variable {β : Type} {get : Device → β} (h : KeepsLines get)
include h

theorem touchTag (line : Nat) (write : Bool) : get (touchTag d line write) = get d := by
  simp only [Machine.touchTag]
  generalize he : (if (write && !d.mem.tagDirty.contains line) = true then _ else d) = e
  have hdirty : get e = get d := by
    rw [← he]
    split
    · exact h.mem _ _ rfl rfl rfl
    · rfl
  have hread : get (Machine.count { e with mem := { e.mem with tagCache := e.mem.tagCache ++ [line] } }
      (unitCtr 3 (channelOf line))) = get d :=
    (h.count _ _ _ (unitCtr_high ..)).trans (Eq.trans (h.mem _ _ rfl rfl rfl) hdirty)
  generalize Machine.count { e with mem := { e.mem with tagCache := e.mem.tagCache ++ [line] } }
    (unitCtr 3 (channelOf line)) = e2 at hread ⊢
  split
  · exact hdirty
  · split
    · exact hread
    · split
      · exact (h.count _ _ _ (unitCtr_high ..)).trans (Eq.trans (h.mem _ _ rfl rfl rfl) hread)
      · exact Eq.trans (h.mem _ _ rfl rfl rfl) hread

theorem markDirty (level node : Nat) : get (markDirty d level node) = get d := by
  unfold Machine.markDirty
  split
  · rfl
  · exact h.mem _ _ rfl rfl rfl

theorem insertNode (level node : Nat) : get (insertNode d level node) = get d := by
  have hread : ∀ c, 8192 ≤ c → get { Machine.count (Machine.count d (devCtr 38)) c with
      mem := { d.mem with ctrCache := d.mem.ctrCache ++ [ctrKey level node] } } = get d := fun c hc =>
    Eq.trans (h.mem (Machine.count (Machine.count d (devCtr 38)) c) _ rfl rfl rfl)
      ((h.count _ _ _ hc).trans (h.count d (devCtr 38) 1 (by decide)))
  simp only [Machine.insertNode]
  split
  · rfl
  · split
    · exact (h.touchTag ..).trans (hread _ (unitCtr_high ..))
    · exact hread _ (unitCtr_high ..)

theorem bumpVersion (level node : Nat) : get (bumpVersion d level node) = get d := by
  simp only [Machine.bumpVersion]
  split <;> exact h.mem _ _ rfl rfl rfl

theorem storeNode (level node : Nat) : get (storeNode d level node) = get d := h.mem _ _ rfl rfl rfl

theorem writeNodeBack (level node : Nat) : get (writeNodeBack d level node) = get d := by
  have hstored : ∀ c, 8192 ≤ c →
      get (Machine.count (Machine.storeNode (Machine.bumpVersion d level node) level node) c) = get d :=
    fun c hc => (h.count _ _ _ hc).trans ((h.storeNode ..).trans (h.bumpVersion ..))
  simp only [Machine.writeNodeBack]
  generalize he : (if level = 0 then Machine.touchTag _ _ true else _) = e
  have hsame : get e = get d := by
    rw [← he]
    split
    · exact (h.touchTag ..).trans (hstored _ (unitCtr_high ..))
    · exact hstored _ (unitCtr_high ..)
  split
  · exact hsame
  · exact (h.markDirty ..).trans ((h.insertNode ..).trans hsame)

theorem fitNodes (fuel : Nat) : get (fitNodes fuel d) = get d := by
  induction fuel generalizing d with
  | zero => rfl
  | succ fuel ih =>
    simp only [Machine.fitNodes]
    split
    · rfl
    · refine (ih _).trans ?_
      split
      · exact (h.writeNodeBack ..).trans (h.mem _ _ rfl rfl rfl)
      · exact h.mem _ _ rfl rfl rfl

theorem loadNode (fuel level node : Nat) : get (loadNode fuel d level node) = get d := by
  induction fuel generalizing d level node with
  | zero => rfl
  | succ fuel ih =>
    simp only [Machine.loadNode]
    split
    · rfl
    · refine (h.fitNodes ..).trans ((h.insertNode ..).trans ?_)
      split
      · rfl
      · exact ih ..

theorem sealLine (line : Nat) (plain : Bytes) : get (sealLine d line plain) = get d := h.mem _ _ rfl rfl rfl

theorem reencrypt (g major : Nat) : get (reencrypt d g major) = get d := by
  have hgroup : ∀ x, get (setGroup d g x) = get d := fun x => h.mem _ _ rfl rfl rfl
  refine (foldl_keeps get _ (fun d (e : Nat × Bytes) => h.sealLine d e.1 e.2) ..).trans ?_
  refine (h.count _ _ _ (unitCtr_high ..)).trans ((h.count _ _ _ (unitCtr_high ..)).trans
    ((h.count _ _ _ (by decide)).trans ?_))
  exact Eq.trans (h.mem (setGroup d g { major := major, minors := [] }) _ rfl rfl rfl) (hgroup _)

theorem readied (line : Nat) : get (readied d line) = get d := by
  have hloaded : get (Machine.markDirty (Machine.loadNode 9 d 0 (line / 64)) 0 (line / 64)) = get d :=
    (h.markDirty ..).trans (h.loadNode ..)
  exact (h.count _ _ _ (unitCtr_high ..)).trans ((h.touchTag ..).trans (Eq.trans (h.mem _ _ rfl rfl rfl) hloaded))

end KeepsLines

theorem lineBase_keepsLines : KeepsLines lineBase where
  mem d m hdensity hkey hrebuilds := by
    simp only [lineBase, hdensity, hkey, hrebuilds]
  count _ _ _ _ := rfl

theorem assocOut_mem (a cause : Nat) : (assocOut d a cause).mem = d.mem := by
  unfold assocOut
  split
  · split
    · rfl
    · rw [(emit_same ..).mem]
      exact foldl_keeps Device.mem _ (fun _ _ => by simp only [eraseRec]; split <;> rfl) ..
  · rfl

/-- Taking SAs and associations out of service leaves protected memory as it is. -/
theorem outAll_mem (p : Nat → Bool) : (outAll d p).mem = d.mem :=
  (foldl_keeps Device.mem _ (fun _ _ => assocOut_mem ..) ..).trans (foldl_keeps Device.mem saOut (fun _ _ => rfl) ..)

theorem outAll_slots (p : Nat → Bool) : (outAll d p).key.slots = d.key.slots :=
  (foldl_keeps (fun d => d.key.slots) _ (fun _ _ => assocOut_slots ..) ..).trans
    (foldl_keeps (fun d => d.key.slots) saOut (fun _ _ => rfl) ..)

theorem outAll_lineBase (p : Nat → Bool) : lineBase (outAll d p) = lineBase d := by
  rw [lineBase, outAll_mem, outAll_slots]
  rfl

theorem freeze_lineBase (g : Nat) : lineBase (freeze d g) = lineBase d :=
  (outAll_lineBase ..).trans (emit_same ..).lineBase

/-- A write that is not discarded seals the line in the readied device, whose group may have been re-encrypted first. -/
theorem writeLine_of_readied {line : Nat} (h : takesWrite d line = true) :
    ∃ e x, (e = readied d line ∨ ∃ major, e = reencrypt (readied d line) (line / 64) major) ∧
      writeLine d line = sealLine (setGroup e (line / 64) x) line (plainLine e line) := by
  obtain ⟨hwritable, hfreezes⟩ : writable d line = true ∧ freezes d line = false := by simpa [takesWrite] using h
  rw [writeLine, if_neg (by simp [hwritable]), if_neg (by simp [hfreezes])]
  by_cases hminor : Tbl.getD (group (readied d line) (line / 64)).minors (line % 64) 0 < 127
  · exact ⟨_, _, .inl rfl, if_pos hminor⟩
  · exact ⟨_, _, .inr ⟨_, rfl⟩, if_neg hminor⟩

theorem KeepsLines.writeLine {β : Type} {get : Device → β} (h : KeepsLines get) (hfreeze : ∀ d g, get (freeze d g) = get d)
    (line : Nat) : get (writeLine d line) = get d := by
  cases hw : writable d line
  · rw [writeLine_of_unwritable hw]
  cases hf : freezes d line
  · obtain ⟨e, x, he, hwrite⟩ := writeLine_of_readied d (line := line) (by simp [takesWrite, hw, hf])
    have hsame : get e = get d := by
      obtain rfl | ⟨major, rfl⟩ := he
      · exact h.readied ..
      · exact (h.reencrypt ..).trans (h.readied ..)
    rw [hwrite]
    exact (h.sealLine ..).trans (Eq.trans (h.mem _ _ rfl rfl rfl) hsame)
  · rw [writeLine_of_freezes hw hf]
    exact hfreeze ..

theorem writeLine_lineBase (line : Nat) : lineBase (writeLine d line) = lineBase d :=
  lineBase_keepsLines.writeLine d freeze_lineBase line

theorem eraseRec_lineBase (i : Nat) : lineBase (eraseRec d i) = lineBase d := by
  simp only [eraseRec]
  split <;> rfl

theorem eraseRecord_lineBase (i : Nat) : lineBase (eraseRecord d i) = lineBase d :=
  (writeLine_lineBase ..).trans (eraseRec_lineBase ..)

theorem addToLine_lineBase (line : Nat) (l : Tbl W64) : lineBase (addToLine d line l) = lineBase d := by
  unfold addToLine
  split
  · rfl
  · refine (writeLine_lineBase ..).trans ?_
    split <;> rfl

theorem flushStats_lineBase (i : Nat) : lineBase (flushStats d i) = lineBase d := by
  rw [flushStats_eq, addToLine_lineBase, addToLine_lineBase]
  rfl

theorem writeLines_lineBase (l : List Nat) : lineBase (writeLines d l) = lineBase d :=
  foldl_keeps lineBase _ writeLine_lineBase ..

/-- Once an SA's context is gone, its record and its context lines are erased. -/
theorem eraseSa_eq (i : Nat) : ∃ e, lineBase e = lineBase (flushStats d i) ∧
    eraseSa d i = writeLines (eraseRecord e i) [ctxLine i 0, ctxLine i 1] := by
  refine ⟨_, ?_, rfl⟩
  generalize flushStats d i = e
  simp only [lineBase]
  split <;> rfl

theorem eraseSa_lineBase (i : Nat) : lineBase (eraseSa d i) = lineBase d := by
  obtain ⟨e, he, herase⟩ := eraseSa_eq d i
  rw [herase, writeLines_lineBase, eraseRecord_lineBase, he, flushStats_lineBase]

theorem unencode_lineBase (i : Nat) : lineBase (unencode d i) = lineBase d := by
  unfold unencode
  (repeat' split) <;> rfl

theorem starve_lineBase (a : Nat) (x : Assoc) (v : Bool) : lineBase (starve d a x v) = lineBase d := by
  simp only [starve]
  split
  · rfl
  · split
    · exact (emit_same ..).lineBase
    · rfl

theorem knCapacity_lineBase : lineBase (knCapacity d) = lineBase d :=
  foldl_keeps lineBase _ (fun d (x : Nat × Assoc) => starve_lineBase d x.1 x.2 _) ..

theorem withoutAssoc_lineBase (a : Nat) : lineBase (withoutAssoc d a) = lineBase d := rfl

theorem removeAssoc_lineBase (a : Nat) : lineBase (removeAssoc d a) = lineBase d := by
  rw [removeAssoc_eq, knCapacity_lineBase, withoutAssoc_lineBase, foldl_keeps lineBase eraseRecord eraseRecord_lineBase]

theorem assocDelDone_lineBase (a : Nat) : lineBase (assocDelDone d a) = lineBase d := by
  unfold assocDelDone
  split
  · exact (mirrorThenPost_same ..).lineBase.trans (removeAssoc_lineBase ..)
  · rfl

theorem freshGroups_lineBase (groups : List Nat) : lineBase (freshGroups d groups) = lineBase d := by
  simp only [freshGroups]
  split
  · rfl
  · exact foldl_keeps lineBase _ freeze_lineBase ..

theorem freshNodes_lineBase (level node : Nat) : lineBase (freshNodes d level node) = lineBase d := by
  have hstored : ∀ (l : List (Nat × Nat)) (e : Device),
      lineBase (l.foldl (fun d e => storeNode (bumpVersion d e.1 e.2) e.1 e.2) e) = lineBase e :=
    foldl_keeps lineBase _ (fun d e => (lineBase_keepsLines.storeNode ..).trans (lineBase_keepsLines.bumpVersion d e.1 e.2))
  simp only [freshNodes]
  split
  · exact hstored ..
  · exact (lineBase_keepsLines.markDirty ..).trans ((lineBase_keepsLines.loadNode ..).trans (hstored ..))

end

/-! ## MEM_REBUILD (R547-R549) -/

section
variable {d : Device}

theorem exec_memRebuild (r : Fin 64) (s : State) : exec (.memRebuild r) s =
    .next (s.having (runCommand 0x0320 r anyRight rebuildOwn rebuildBody [] s.dev)) := rfl

theorem rebuildBody_of_node {o : Origin} {desc buf : Bytes} {l : List Quar} (hone : leField desc 20 1 = 0)
    (hlow : leField desc 21 1 ≠ topLevel d)
    (hl : l = d.mem.quar.filter (fun q => q.level == leField desc 21 1 && q.node == leField desc 24 3)) (hsome : l ≠ []) :
    rebuildBody o desc buf d = .accept (enterInflight { d with mem := { d.mem with
      quar := d.mem.quar.map (fun q => if l.contains q then { q with rebuilding := true } else q)
      rebuilds := d.mem.rebuilds ++ [{ origin := o, nodes := l, roots := [] }] } } o 0x0320) := by
  simp only [rebuildBody, hone, hlow, ← hl, hsome, ↓reduceIte, false_and, Nat.zero_ne_one]

/-- The device once everything beneath a node has been erased: its SAs, those whose erasure waited, its associations, their
statistics. -/
def erasedBeneath (d : Device) (level node : Nat) : Device :=
  let under := nodeCovers level node
  let sas := (sasIn d under ++ d.mem.eraseLater.filter (fun i => under (ctxLine i 0) || under (recLine i))).eraseDups
  let e := (assocsIn d under).foldl (fun d a => removeAssoc (assocDelDone d a) a)
    (sas.foldl (fun d i => eraseSa (unencode d i) i) d)
  { e with ms := { e.ms with stats := Tbl.keep e.ms.stats (fun k _ => !under (statLine (k / 16) (k % 16 / 8))) } }

/-- And once its groups and nodes have been written anew. -/
def rewrittenBeneath (d : Device) (level node : Nat) : Device :=
  let groups := upFrom (node * 8 ^ level) (8 ^ level)
  groups.foldl (fun d g => count d (unitCtr 4 (g % 4)) 64)
    (freshNodes (freshGroups (erasedBeneath d level node) groups) level node)

theorem rebuildNode_eq (acc : Device × Erased) (level node : Nat) : ∃ (later : List Nat) (payload : Bytes),
    (rebuildNode acc level node).1 = emit { liftQuarantine (rewrittenBeneath acc.1 level node) level node with
      mem := { (liftQuarantine (rewrittenBeneath acc.1 level node) level node).mem with eraseLater := later } }
      .memory 0x07 payload := ⟨_, _, rfl⟩

theorem rewrittenBeneath_lineBase (d : Device) (level node : Nat) :
    lineBase (rewrittenBeneath d level node) = lineBase d := by
  have hsas : ∀ l : List Nat, lineBase (l.foldl (fun d i => eraseSa (unencode d i) i) d) = lineBase d := fun l =>
    foldl_keeps lineBase _ (fun d i => (eraseSa_lineBase _ i).trans (unencode_lineBase d i)) l d
  have hassocs : ∀ (l : List Nat) e, lineBase (l.foldl (fun d a => removeAssoc (assocDelDone d a) a) e) = lineBase e :=
    foldl_keeps lineBase _ (fun d a => (removeAssoc_lineBase _ a).trans (assocDelDone_lineBase d a))
  have herased : lineBase (erasedBeneath d level node) = lineBase d := (hassocs ..).trans (hsas _)
  have hcounted : ∀ (l : List Nat) e, lineBase (l.foldl (fun d g => count d (unitCtr 4 (g % 4)) 64) e) = lineBase e :=
    foldl_keeps lineBase _ (fun _ _ => rfl)
  rw [rewrittenBeneath, hcounted, freshNodes_lineBase, freshGroups_lineBase, herased]

/-- What a rebuild of one node leaves: the node and what lies beneath it are free, and no line beneath it is poisoned. -/
theorem rebuildNode_frees (acc : Device × Erased) (level node : Nat) :
    lineBase (rebuildNode acc level node).1 = lineBase acc.1 ∧
    (∀ y ∈ (rebuildNode acc level node).1.mem.quar, ¬(y.level = level ∧ y.node = node)) ∧
    (∀ line, line < dataLines acc.1 → nodeCovers level node line = true →
      poisoned (rebuildNode acc level node).1 line = false) := by
  obtain ⟨later, payload, hrebuilt⟩ := rebuildNode_eq acc level node
  have hbase := rewrittenBeneath_lineBase acc.1 level node
  generalize rewrittenBeneath acc.1 level node = e at hrebuilt hbase
  have hmem : (rebuildNode acc level node).1.mem = { (liftQuarantine e level node).mem with eraseLater := later } := by
    rw [hrebuilt, (emit_same ..).mem]
  refine ⟨?_, ?_, ?_⟩
  · rw [hrebuilt, (emit_same ..).lineBase]
    exact hbase
  · rintro y hy ⟨rfl, rfl⟩
    rw [hmem] at hy
    simp [liftQuarantine] at hy
  · intro line hline hcovers
    have hdata : line < lineTags e := by
      rw [lineTags, dataLines, dataGib, show e.mem.density = acc.1.mem.density from congrArg Prod.fst hbase]
      exact hline
    rw [poisoned, hmem]
    simp [liftQuarantine, beneath, hdata, hcovers]

theorem exec_memRebuilt (s : State) : exec .memRebuilt s = .next (s.having (finishRebuild s.dev)) := rfl

theorem finishRebuild_of_node {x : Rebuild} {rest : List Rebuild} {q : Quar} (hoften : d.mem.rebuilds = x :: rest)
    (hnode : x.nodes = [q]) (hroots : x.roots = []) : ∃ res, finishRebuild d =
      finish (rebuildNode ({ d with mem := { d.mem with rebuilds := rest } }, {}) q.level q.node).1 x.origin .ok res := by
  rw [finishRebuild, hoften]
  simp only [hnode, hroots, List.foldl_cons, List.foldl_nil]
  exact ⟨_, rfl⟩

/-! ## The patrol (R540, R541, R544) -/

theorem exec_memPatrol (found : List LineError) {s : State} (hruns : bit (reg s.dev 0x1E0000) 31 = true)
    (hready : s.dev.mem.ready = true) : exec (.memPatrol found) s =
      .next (s.having (patrolPass (found.foldl (fun d e => lineError e.by_ d e) s.dev))) := by
  have hseen : found.filter (fun e => bit (reg s.dev 0x1E0000) 31 || e.by_ != 1) = found :=
    List.filter_eq_self.2 fun e _ => by rw [hruns, Bool.true_or]
  show execMemPatrol found s = _
  rw [execMemPatrol, hseen, if_pos hready, if_pos hruns]
  rfl

theorem patrolled_congr {a b : Device} (h : a.mem = b.mem) (c : Nat) : patrolled a c = patrolled b c := by
  simp only [patrolled, topLevel, dataLines, dataGib, treeLines, lineTags, h]

theorem patrolled_count (d : Device) (i n c : Nat) : patrolled (count d i n) c = patrolled d c := patrolled_congr rfl c

/-- A pass counts itself and, in each channel, the lines that it reads there. -/
theorem patrolPass_eq (d : Device) : patrolPass d =
    count (count (count (count (count d (devCtr 44)) (unitCtr 3 0) (patrolled d 0)) (unitCtr 3 1) (patrolled d 1))
      (unitCtr 3 2) (patrolled d 2)) (unitCtr 3 3) (patrolled d 3) := by
  simp only [patrolPass, show List.range 4 = [0, 1, 2, 3] from rfl, List.foldl_cons, List.foldl_nil, patrolled_count]

theorem patrolPass_same (d : Device) : SameWork (patrolPass d) d := by
  rw [patrolPass_eq]
  exact (count_same ..).trans ((count_same ..).trans ((count_same ..).trans ((count_same ..).trans (count_same ..))))

theorem patrolPass_out (d : Device) : (patrolPass d).out = d.out := by
  rw [patrolPass_eq]
  iterate 5 rw [count_out]

theorem counter_patrolPass (d : Device) : counter (patrolPass d) (devCtr 44) = counter d (devCtr 44) + 1#64 := by
  rw [patrolPass_eq]
  iterate 4 rw [counter_count_ne (by decide)]
  exact counter_count ..

theorem counter_patrolPass_channel (d : Device) {c : Nat} (hc : c < 4) :
    counter (patrolPass d) (unitCtr 3 c) = counter d (unitCtr 3 c) + BitVec.ofNat 64 (patrolled d c) := by
  have hne : ∀ i j : Nat, i ≠ j → unitCtr 3 i ≠ unitCtr 3 j := fun i j h => by unfold unitCtr; omega
  have hdev : ∀ i : Nat, i < 4 → unitCtr 3 i ≠ devCtr 44 := fun i h => by unfold unitCtr devCtr; omega
  rw [patrolPass_eq]
  obtain rfl | rfl | rfl | rfl : c = 0 ∨ c = 1 ∨ c = 2 ∨ c = 3 := by omega
  all_goals simp [counter_count, counter_count_ne (hne _ _ _), counter_count_ne (hdev _ _)]

/-- A data line that the patrol finds uncorrectable joins the poison list. -/
theorem uncorrectable_poisons {line : Nat} (hline : line < 0xC0000) (hfree : quarantined d line = false)
    (hroom : d.mem.poison.length < 1024) :
    poisoned (uncorrectable d line) line = true ∧ (uncorrectable d line).key.slots = d.key.slots := by
  have hdata : line < lineTags d := by
    have hgib : 12 ≤ dataGib d := by
      unfold dataGib
      (repeat' split) <;> omega
    rw [lineTags, dataLines]
    omega
  have hfits : poisonRoom d [line] = true := by
    by_cases hin : line ∈ d.mem.poison
    · simp [poisonRoom, hin]
    · simp [poisonRoom, hin, hroom]
  have hlisted : ∀ e, e.mem = d.mem → poisonData e line = outAll (listPoison e line) (· == line) := fun e he => by
    have hsame : quarantined e line = false := by
      rw [← hfree, quarantined, quarantined, he, rootOf, rootOf, topLevel, topLevel, he]
    rw [poisonData, if_neg (by simp [hsame]), if_neg (by omega), if_neg (by unfold firmwareLine; omega)]
  have hcounted : uncorrectable d line = poisonLine (count d (unitCtr 6 (channelOf line))) line := if_pos hdata
  have hpoison : ∃ payload, poisonLine (count d (unitCtr 6 (channelOf line))) line =
      poisonData (emit (count (count d (unitCtr 6 (channelOf line))) (devCtr 40)) .memory 0x02 payload) line := by
    have hfree' : ¬quarantined (count d (unitCtr 6 (channelOf line))) line = true := by
      rw [show quarantined (count d _) line = quarantined d line from rfl, hfree]
      exact Bool.false_ne_true
    have hfits' : ¬(!poisonRoom (count d (unitCtr 6 (channelOf line))) [line]) = true := by
      rw [show poisonRoom (count d _) [line] = poisonRoom d [line] from rfl, hfits]
      exact Bool.false_ne_true
    exact ⟨_, (if_neg hfree').trans (if_neg hfits')⟩
  obtain ⟨payload, hpoison⟩ := hpoison
  rw [hcounted, hpoison, hlisted _ (by rw [(emit_same ..).mem, count_mem, count_mem]), poisoned, outAll_mem, outAll_slots]
  refine ⟨by simp [listPoison], ?_⟩
  show (emit ..).key.slots = _
  rw [(emit_same ..).key, count_key, count_key]

end

/-! ## The rows -/

/-- Settles O30: the commands by the verdicts of their bodies, the rebuild by what lifting the quarantine leaves, and the
patrol by what it counts and what it finds. -/
theorem rebuildFreesQuarantine : Obligations.RebuildFreesQuarantine := by
  refine ⟨?accepted, ?rebuilt, ?pass, ?poisons⟩
  case accepted =>
    rintro r s f rest o l d hruns rfl hone hlow hl hsome rfl
    rw [exec_memRebuild, runCommand_accept hruns (rebuildBody_of_node (d := taken s.dev r rest) hone hlow hl hsome)]
    rfl
  case rebuilt =>
    intro s x rest q hoften hnode hroots
    obtain ⟨res, hfinish⟩ := finishRebuild_of_node hoften hnode hroots
    obtain ⟨hbase, hquar, hpoison⟩ :=
      rebuildNode_frees ({ s.dev with mem := { s.dev.mem with rebuilds := rest } }, {}) q.level q.node
    simp only [lineBase, Prod.mk.injEq] at hbase
    obtain ⟨-, hkey, hrest, hslots⟩ := hbase
    exact ⟨_, res, by rw [exec_memRebuilt, hfinish], hrest, hquar, hpoison, hkey, hslots⟩
  case pass =>
    intro s hruns hready
    have hsame := patrolPass_same s.dev
    exact ⟨_, exec_memPatrol [] hruns hready, counter_patrolPass .., fun c hc => counter_patrolPass_channel _ hc, hsame.mem,
      patrolPass_out .., hsame⟩
  case poisons =>
    intro s line hruns hready hline hwritten hfree hroom
    obtain ⟨hpoisoned, hslots⟩ := uncorrectable_poisons hline hfree hroom
    have hexec := exec_memPatrol [{ line := line, fault := .uncorrectable }] hruns hready
    rw [List.foldl_cons, List.foldl_nil, lineError, if_neg (by simp [hwritten])] at hexec
    refine ⟨_, hexec, ?_, ?_⟩
    · rw [poisoned, (patrolPass_same _).mem]
      exact hpoisoned
    · rw [(patrolPass_same _).key]
      exact hslots

end Sys2Proof.Machine

/-!
PROOF. The time unit: O11 (steering a base), O12 (control and snapshots) and O13 (trigger units and capture inputs).
-/
namespace Sys2Proof.Machine

/-! ## Steering (R649-R652) -/

section
variable {d : Device} {b : Nat}

theorem tbase_congr {a b : Device} (h : a.time = b.time) (n : Nat) : tbase a n = tbase b n := by
  rw [tbase, tbase, h]

theorem tbase_setBase_ne (d : Device) {b k : Nat} (t : TBase) (h : k ≠ b) : tbase (setBase d b t) k = tbase d k :=
  Tbl.getD_setD_ne _ _ _ _ _ _ h

@[simp] theorem tbase_emit (d : Device) (src : Source) (t : Nat) (p : Bytes) (n : Nat) :
    tbase (emit d src t p) n = tbase d n := tbase_congr (emit_same ..).time n

/-- A stepped base reads its new value; the clock and the registers stay. -/
theorem stepBase_steps (d : Device) (b : Nat) (byAgent : Bool) (v : Nat) : (tbase (stepBase d b byAgent v) b).value = v ∧
    (stepBase d b byAgent v).clock = d.clock ∧ (stepBase d b byAgent v).regs = d.regs := by
  simp only [stepBase]
  exact ⟨by rw [tbase_emit, tbase_setBase], (emit_same ..).clock, emit_regs ..⟩

theorem writeFreqHi_of_off (h : agentOn d b = false) (val : W32) {e : Device} (he : e = plainWrite d (ctlOff b + 8) val) :
    writeFreqHi d b val = elapse (setBase e b { tbase e b with freq := clipFreq (freqWord e b) }) 1 := by
  subst he
  simp only [writeFreqHi, h, Bool.false_eq_true, ↓reduceIte]

theorem cmdStep_of_off (h : agentOn d b = false) : cmdStep d b = stepBase (elapse d 1) b false (stepNs d b * nsUnit) := by
  simp only [cmdStep, h, Bool.false_eq_true, ↓reduceIte]

theorem cmdOffset_of_off (h : agentOn d b = false) : cmdOffset d b =
    stepBase (elapse d 1) b false (addNs (tbase (elapse d 1) b).value (reg d (ctlOff b + 0x18)).toInt) := by
  simp only [cmdOffset, h, Bool.false_eq_true, ↓reduceIte]

end

theorem exec_timeFreqHiWrite (b : Fin 4) (val : W32) (s : State) :
    exec (.timeFreqHiWrite b val) s = .next (s.having (writeFreqHi s.dev b val)) := rfl

theorem exec_timeCmdStep (b : Fin 4) (s : State) : exec (.timeCmdStep b) s = .next (s.having (cmdStep s.dev b)) := rfl

theorem exec_timeCmdOffset (b : Fin 4) (s : State) : exec (.timeCmdOffset b) s = .next (s.having (cmdOffset s.dev b)) := rfl

/-- Settles O11: each write by whether the agent holds the base, and a step by `stepBase_steps`. -/
theorem hostSteersBase : Obligations.HostSteersBase := by
  refine ⟨?freq, ?step, ?offset, ?ignored⟩
  case freq =>
    intro b val s e hoff he
    rw [exec_timeFreqHiWrite, writeFreqHi_of_off hoff val he]
  case step =>
    intro b s hoff
    rw [exec_timeCmdStep, cmdStep_of_off hoff]
    exact ⟨_, rfl, stepBase_steps ..⟩
  case offset =>
    intro b s hoff
    rw [exec_timeCmdOffset, cmdOffset_of_off hoff]
    exact ⟨_, rfl, stepBase_steps ..⟩
  case ignored =>
    intro b val s hon
    rw [exec_timeFreqHiWrite, exec_timeCmdStep, exec_timeCmdOffset, writeFreqHi, cmdStep, cmdOffset, hon]
    exact ⟨rfl, rfl, rfl⟩

/-! ## TIME_BASE_CTL and TIME_SNAP (R652, R653, R676) -/

theorem bit_mask {hi lo k : Nat} (hk : k < 32) : bit (mask hi lo) k = decide (lo ≤ k ∧ k ≤ hi) := by
  have hplace : mask hi lo = place hi lo (2 ^ (hi + 1 - lo) - 1) := by
    rw [mask, place, Nat.mod_eq_of_lt (Nat.sub_lt (Nat.two_pow_pos _) Nat.one_pos)]
  rw [hplace, bit_place hk, Nat.testBit_two_pow_sub_one]
  by_cases h : lo ≤ k ∧ k ≤ hi
  · simp [h]; omega
  · simp [h]

/-- LOCKED reads as it is set, and no other bit of the control register changes with it. -/
theorem setLocked_reg (d : Device) (b : Nat) (v byAgent : Bool) {k : Nat} (hk : k < 32) :
    bit (reg (setLocked d b v byAgent) (ctlOff b)) k = if k = 31 then v else bit (reg d (ctlOff b)) k := by
  unfold setLocked
  split
  · next h =>
    split
    · next hk => rw [hk, ← h, baseLocked]
    · rfl
  · rw [reg_emit, reg_setBits, bit_merge _ _ _ hk, bit_mask hk, bit_flagAt _ hk]
    by_cases h31 : k = 31
    · simp [h31]
    · simp [h31, show ¬(31 ≤ k ∧ k ≤ 31) by omega]

theorem baseLocked_setLocked (d : Device) (b : Nat) (v byAgent : Bool) : baseLocked (setLocked d b v byAgent) b = v :=
  (setLocked_reg d b v byAgent (by decide)).trans (if_pos rfl)

theorem setLocked_same (d : Device) (b : Nat) (v byAgent : Bool) : SameWork (setLocked d b v byAgent) d := by
  unfold setLocked
  split
  · exact .refl d
  · exact (emit_same ..).trans (setBits_same ..)

/-- A write with the agent off stores the fields of the word, and LOCKED follows it. -/
theorem writeBaseCtl_of_off {d : Device} {b : Nat} (val : W32) (hoff : agentOn d b = false) :
    ∃ e, writeBaseCtl d b val = setLocked e b (bit val 31) false ∧ SameWork { e with time := d.time } d ∧
      ∀ k, k = 30 ∨ k = 27 ∨ k ≤ 6 → bit (reg e (ctlOff b)) k = bit val k := by
  have hword : ∀ (old : W32) (profile domain k : Nat), k = 30 ∨ k = 27 ∨ k ≤ 6 →
      bit (((old &&& (mask 31 31 ||| mask 26 26)) &&& ~~~(val &&& mask 26 26)) |||
        ((val &&& (mask 30 30 ||| mask 27 27 ||| mask 15 15 ||| mask 6 0)) ||| place 29 28 profile ||| place 23 16 domain)) k
        = bit val k := by
    intro old profile domain k hk
    have h32 : k < 32 := by omega
    have hfields : decide (31 ≤ k ∧ k ≤ 31) = false ∧ decide (26 ≤ k ∧ k ≤ 26) = false ∧
        decide (28 ≤ k ∧ k ≤ 29) = false ∧ decide (16 ≤ k ∧ k ≤ 23) = false ∧
        (decide (30 ≤ k ∧ k ≤ 30) || decide (27 ≤ k ∧ k ≤ 27) || decide (15 ≤ k ∧ k ≤ 15) || decide (0 ≤ k ∧ k ≤ 6)) = true := by
      refine ⟨?_, ?_, ?_, ?_, ?_⟩ <;> simp <;> omega
    obtain ⟨hlock, hignored, hprofile, hdomain, htaken⟩ := hfields
    simp only [bit_or, bit_and, bit_mask h32, bit_place h32, hlock, hignored, hprofile, hdomain, htaken, Bool.and_true,
      Bool.and_false, Bool.false_and, Bool.or_false, Bool.false_or]
  have hagent : bit (reg d (ctlOff b)) 30 = false := hoff
  unfold writeBaseCtl
  simp only [hagent, Bool.not_false, Bool.and_true, Bool.false_eq_true, ↓reduceIte]
  refine ⟨_, rfl, ?same, ?bits⟩
  case same => split <;> (constructor <;> rfl)
  case bits =>
    intro k hk
    split
    · exact (congrArg (bit · k) (reg_setReg ..)).trans (hword _ _ _ k hk)
    · exact (congrArg (bit · k) (reg_setReg ..)).trans (hword _ _ _ k hk)

theorem exec_timeBaseCtlWrite (b : Fin 4) (val : W32) (s : State) :
    exec (.timeBaseCtlWrite b val) s = .next (s.having (writeBaseCtl s.dev b val)) := rfl

theorem exec_timeSnapWrite (val : W32) (s : State) :
    exec (.timeSnapWrite val) s = .next (s.having (snapBases s.dev val)) := rfl

/-- One base is latched, where it is selected. -/
def snapBase (val : W32) (d : Device) (b : Nat) : Device :=
  if bit val b then setBase d b { tbase d b with snap := (tbase d b).value } else d

theorem tbase_snapBase (val : W32) (d : Device) (b k : Nat) : tbase (snapBase val d b) k =
    if k = b ∧ bit val k = true then { tbase d k with snap := (tbase d k).value } else tbase d k := by
  unfold snapBase
  by_cases hk : k = b
  · subst hk
    cases bit val k <;> simp
  · split
    · rw [tbase_setBase_ne _ _ hk, if_neg (fun h => hk h.1)]
    · rw [if_neg (fun h => hk h.1)]

theorem tbase_snapBases (d : Device) (val : W32) {b : Nat} (hb : b < 4) : tbase (snapBases d val) b =
    if bit val b then { tbase d b with snap := (tbase d b).value } else tbase d b := by
  have hfold : snapBases d val = [0, 1, 2, 3].foldl (snapBase val) d := rfl
  rw [hfold]
  obtain rfl | rfl | rfl | rfl : b = 0 ∨ b = 1 ∨ b = 2 ∨ b = 3 := by omega
  all_goals simp [List.foldl_cons, tbase_snapBase]

theorem snapBases_regs (d : Device) (val : W32) : (snapBases d val).regs = d.regs :=
  foldl_keeps Device.regs (snapBase val) (fun d b => by unfold snapBase; split <;> rfl) (List.range 4) d

/-- Settles O12: the control word's bits by `writeBaseCtl_of_off`, LOCKED by what `setLocked` leaves, and each base by whether
it is selected. -/
theorem baseControlAndSnapshot : Obligations.BaseControlAndSnapshot := by
  refine ⟨?control, ?snap⟩
  case control =>
    intro b val s hoff
    obtain ⟨e, hwrite, hsame, hbits⟩ := writeBaseCtl_of_off val hoff
    have hlock := setLocked_same e b (bit val 31) false
    have hkept : ∀ k, k < 31 → bit (reg (setLocked e b (bit val 31) false) (ctlOff b)) k = bit (reg e (ctlOff b)) k :=
      fun k hk => (setLocked_reg _ _ _ _ (by omega)).trans (if_neg (by omega))
    refine ⟨_, by rw [exec_timeBaseCtlWrite, hwrite], baseLocked_setLocked .., ?_, ?_, ?_, hlock.clock.trans hsame.clock,
      hlock.prs.trans hsame.prs, hlock.ms.trans hsame.ms⟩
    · exact (hkept 30 (by decide)).trans (hbits 30 (by decide))
    · exact (hkept 27 (by decide)).trans (hbits 27 (by decide))
    · refine Nat.eq_of_testBit_eq fun j => ?_
      rw [testBit_bits, testBit_bits, Nat.zero_add]
      by_cases hj : j < 7
      · rw [hkept j (by omega), hbits j (by omega)]
      · simp [hj]
  case snap =>
    intro val s
    have hbase : ∀ b : Fin 4, _ := fun b => tbase_snapBases s.dev val b.isLt
    refine ⟨_, exec_timeSnapWrite val s, ?_, ?_, ?_, snapBases_regs ..⟩
    · intro b hsel
      rw [hbase b, if_pos hsel]
    · intro b
      rw [hbase b]
      split <;> rfl
    · intro b hsel
      rw [hbase b, hsel]
      exact if_neg Bool.false_ne_true

/-! ## Trigger units and capture inputs (R667-R675) -/

theorem exec_triggerEnable (u : Fin 8) (val : W32) (s : State) :
    exec (.triggerEnable u val) s = .next (s.having (writeTrgCtl s.dev u val)) := rfl

theorem exec_triggerFire (u : Fin 8) (s : State) : exec (.triggerFire u) s = .next (s.having (fire s.dev u)) := rfl

theorem exec_ppsPulseEnd (u : Fin 8) (s : State) : exec (.ppsPulseEnd u) s = .next (s.having (endPulse s.dev u)) := rfl

theorem exec_tsCapEdge (i : Fin 4) (falling : Bool) (s : State) :
    exec (.tsCapEdge i falling) s = .next (s.having (capture s.dev i falling)) := rfl

/-- The first fire is START plus whole periods, the least such moment that is not before the value (R667). -/
theorem firstFire_least (start period value : Nat) (hp : 0 < period) :
    value ≤ firstFire start period value * nsUnit ∧
      (start * nsUnit < value → firstFire start period value * nsUnit < value + period * nsUnit) ∧
      ∃ k, firstFire start period value = start + k * period := by
  have hunit : 0 < nsUnit := by decide
  have hstep : 0 < period * nsUnit := Nat.mul_pos hp hunit
  unfold firstFire
  split
  · next hreached => exact ⟨hreached, fun h => absurd hreached (Nat.not_le.2 h), 0, by simp⟩
  · next hbefore =>
    have hk := Nat.div_add_mod (value - start * nsUnit + period * nsUnit - 1) (period * nsUnit)
    have hrest := Nat.mod_lt (value - start * nsUnit + period * nsUnit - 1) hstep
    generalize (value - start * nsUnit + period * nsUnit - 1) / (period * nsUnit) = k at *
    have hvalue : (start + k * period) * nsUnit = start * nsUnit + period * nsUnit * k := by ring
    rw [hvalue]
    exact ⟨by omega, fun _ => by omega, k, rfl⟩

section
variable {d : Device} {u : Nat}

@[simp] theorem trg_setTrg (d : Device) (u : Nat) (t : Trg) : trg (setTrg d u t) u = t := Tbl.getD_setD ..

theorem trg_congr {a b : Device} (h : a.time = b.time) (u : Nat) : trg a u = trg b u := by rw [trg, trg, h]

/-- What a fire's pulse, conversion start and marker leave as the fire set it. -/
def fireView (u : Nat) (d : Device) : (Nat × Nat) × Nat × Tbl W32 := (((trg d u).next, (trg d u).fired), d.clock, d.regs)

theorem fireView_setTrg (d : Device) (u : Nat) (t : Trg) : fireView u (setTrg d u t) = ((t.next, t.fired), d.clock, d.regs) := by
  simp only [fireView, trg_setTrg]; rfl

theorem fireView_pulse (d : Device) (u : Nat) : fireView u (pulse d u) = fireView u d := by
  unfold pulse
  split
  · exact fireView_setTrg ..
  · rfl

theorem fireView_startMag (d : Device) (u : Nat) : fireView u (startMag d u) = fireView u d := by
  simp only [startMag]; split <;> rfl

theorem fireView_emit (d : Device) (src : Source) (t : Nat) (p : Bytes) : fireView u (emit d src t p) = fireView u d := by
  simp only [fireView, trg_congr (emit_same d src t p).time, (emit_same d src t p).clock, emit_regs]

theorem fireView_count (d : Device) (k n : Nat) : fireView u (count d k n) = fireView u d := rfl

theorem fireView_marker (d : Device) (u : Nat) : fireView u (marker d u) = fireView u d := by
  simp only [marker]
  split
  · exact (fireView_emit ..).trans (fireView_setTrg ..)
  · exact fireView_setTrg ..

/-- A fire advances N past the base's value and counts itself. -/
theorem fireNow_view (d : Device) (u : Nat) : fireView u (fireNow d u) = (((trg d u).next +
    (((tbase d (trgBase d u)).value - (trg d u).next * nsUnit) / (trgPeriod d u * nsUnit) + 1) * trgPeriod d u,
      min (2 ^ 31 - 1) ((trg d u).fired + 1)), d.clock, d.regs) := by
  simp only [fireNow]
  rw [fireView_marker, fireView_startMag, fireView_pulse]
  split
  · rw [fireView_setTrg]
  · rw [fireView_count, fireView_setTrg]

theorem fire_of_reached (hrun : (trg d u).running = true) (hen : trgEnabled d u = true) (htime : d.time.running = true)
    (hreached : (trg d u).next * nsUnit ≤ (tbase d (trgBase d u)).value) : fire d u = fireNow d u := by
  simp only [fire, hrun, hen, htime, Bool.and_self, ↓reduceIte, if_neg (Nat.not_lt.2 hreached)]

theorem endPulse_of_due {t : Nat} (hpulse : (trg d u).pulseEnd = some t) (ht : t ≤ d.clock) : endPulse d u =
    send (setTrg d u { trg d u with pulseEnd := none, running := (trg d u).running && trgEnabled d u })
      (.pin (ppsPin (bits (reg d (trgOff u)) 26 25)) (bit (reg d (trgOff u)) 24)) := by
  simp only [endPulse, hpulse, elapseTo_of_past ht]; rfl

/-- The device with input `i`'s capture latched: its base in steps of 250 ps, and NEW (R675). -/
def captured (d : Device) (i : Nat) : Device :=
  let last : Cap := ⟨(tbase d (bits (reg d (capOff i)) 30 29)).value / quarterNs * quarterNs, d.clock + 1⟩
  setBits { d with time := { d.time with cap := Tbl.put d.time.cap i last } } (capOff i) (mask 26 26) (mask 26 26)

theorem captured_new (d : Device) (i : Nat) : bit (reg (captured d i) (capOff i)) 26 = true := by
  rw [captured, reg_setBits, bit_merge _ _ _ (by decide)]
  simp [bit_mask]

/-- An edge that the input captures is latched, with its record where the input asks for one. -/
theorem capture_of_first {i : Nat} (hen : bit (reg d (capOff i)) 31 = true)
    (hlast : (Tbl.getD d.time.cap i {}).at_ = 0) :
    ∃ p, capture d i (bit (reg d (capOff i)) 28) =
      if bit (reg d (capOff i)) 27 then emit (captured d i) .time 0x04 p else captured d i := by
  simp only [capture, hen, hlast, Bool.not_true, bne_self_eq_false, Bool.or_self, Bool.false_eq_true, ne_eq,
    not_true_eq_false, false_and, ↓reduceIte]
  exact ⟨_, rfl⟩

theorem capture_of_again {i : Nat} (hen : bit (reg d (capOff i)) 31 = true)
    (hlast : (Tbl.getD d.time.cap i {}).at_ = d.clock + 1) :
    capture d i (bit (reg d (capOff i)) 28) = count d (unitCtr 12 i) := by
  have hsoon : d.clock + 1 ≠ 0 ∧ d.clock + 1 < d.clock + 1 + usTicks := ⟨by omega, Nat.lt_add_of_pos_right (by decide)⟩
  simp only [capture, hen, hlast, Bool.not_true, bne_self_eq_false, Bool.or_self, Bool.false_eq_true, ↓reduceIte,
    if_pos hsoon]

end

/-- Settles O13: a unit's grid by `firstFire_least`, a fire by `fireNow_view`, and the rest by the branch taken. -/
theorem triggersAndCaptures : Obligations.TriggersAndCaptures := by
  refine ⟨?start, ?stop, firstFire_least, ?fire, ?pulseEnd, ?edge⟩
  case start =>
    intro u val s e n hset hwas he hn
    subst he hn
    rw [exec_triggerEnable]
    simp only [writeTrgCtl, hset, hwas, Bool.not_false, Bool.and_self, ↓reduceIte]
  case stop =>
    intro u val s e hclear he
    subst he
    rw [exec_triggerEnable]
    simp only [writeTrgCtl, hclear, Bool.false_and, Bool.not_false, Bool.false_eq_true, ↓reduceIte]
  case fire =>
    intro u s p v hrun hen htime hp hv hreached
    subst hp hv
    rw [exec_triggerFire, fire_of_reached hrun hen htime hreached]
    have hview := fireNow_view s.dev u
    simp only [fireView, Prod.mk.injEq] at hview
    obtain ⟨⟨hnext, hfired⟩, hclock, hregs⟩ := hview
    exact ⟨_, rfl, hnext, hfired, hclock, hregs⟩
  case pulseEnd =>
    intro u s t hpulse ht
    rw [exec_ppsPulseEnd, endPulse_of_due hpulse ht]
  case edge =>
    intro i falling s c hc hen hedge
    subst hc hedge
    refine ⟨fun hlast => ?_, fun hlast => by rw [exec_tsCapEdge, capture_of_again hen hlast]⟩
    obtain ⟨p, hcap⟩ := capture_of_first hen hlast
    refine ⟨_, by rw [exec_tsCapEdge, hcap], ?_⟩
    have hvalue : (Tbl.getD (captured s.dev i).time.cap i {}).value =
        (tbase s.dev (bits (reg s.dev (capOff i)) 30 29)).value / 2 ^ 62 * 2 ^ 62 := by
      exact congrArg Cap.value (Tbl.getD_put ..)
    split
    · have hemit := emit_same (captured s.dev i) .time 0x04 p
      rw [hemit.time, reg_emit, hemit.clock]
      exact ⟨hvalue, captured_new .., rfl, rfl⟩
    · exact ⟨hvalue, captured_new .., rfl, rfl⟩

end Sys2Proof.Machine

/-!
PROOF. The PTP agent: O14 (received messages, the loss of Sync, and the messages that the agent sends).
-/
namespace Sys2Proof.Machine

theorem exec_ptpMessageRx (p : Fin 128) (m : PtpMsg) (s : State) :
    exec (.ptpMessageRx p m) s = .next (s.having (ptpReceive s.dev p m)) := rfl

theorem exec_ptpSyncTimeout (b : Fin 4) (s : State) : exec (.ptpSyncTimeout b) s = .next (s.having (syncLost s.dev b)) := rfl

theorem exec_ptpSyncInterval (p : Fin 128) (s : State) :
    exec (.ptpSyncInterval p) s = .next (s.having (syncInterval s.dev p)) := rfl

section
variable {d : Device} {p b : Nat}

/-! ## Received messages and the loss of Sync (R655-R657) -/

theorem ptpReceive_of_none {m : PtpMsg} (hport : agentPort d p = true) (hm : m.offset = none) :
    ptpReceive d p m = count d (portCtr 43 p) := by
  simp only [ptpReceive, hport, hm, ↓reduceIte]

theorem ptpReceive_of_sync {m : PtpMsg} {o : Int} (hport : agentPort d p = true) (hm : m.offset = some o)
    (hslave : m.slave = true) (hmay : maySlave d p = true) :
    ptpReceive d p m = agentSync (count d (portCtr 43 p)) (ptpBase d p) o := by
  have hmay' : maySlave (count d (portCtr 43 p)) p = true := hmay
  simp only [ptpReceive, hport, hm, hslave, hmay', Bool.and_self, ↓reduceIte]
  rfl

/-- A Sync beyond 1 ms steps the base, with its goodRun begun anew, and clears LOCKED. -/
theorem agentSync_of_far {o : Int} (ho : 1000000 < o.natAbs) : agentSync d b o =
    setLocked (stepToMaster (setBase d b { tbase d b with lastOffset := o, lastSync := d.clock, goodRun := 0 }) b o) b
      false true := by
  have hgood : within o 100 = false := by simp [within]; omega
  have hstep : within o 1000000 = false := by simp [within]; omega
  have hlock : within o 1000 = false := by simp [within]; omega
  simp only [agentSync, hgood, hstep, hlock, Bool.not_false, or_true, Bool.false_eq_true, ↓reduceIte]

theorem tbase_setLocked (d : Device) (b : Nat) (v byAgent : Bool) (n : Nat) :
    tbase (setLocked d b v byAgent) n = tbase d n := tbase_congr (setLocked_same ..).time n

theorem agentSync_steps {o : Int} (ho : 1000000 < o.natAbs) :
    (tbase (agentSync d b o) b).value = addNs (tbase d b).value (-o) ∧ baseLocked (agentSync d b o) b = false := by
  rw [agentSync_of_far ho]
  refine ⟨?_, baseLocked_setLocked ..⟩
  rw [tbase_setLocked, stepToMaster, (stepBase_steps ..).1, tbase_setBase]

theorem syncLost_unlocks (hon : agentOn d b = true) (hlate : (tbase d b).lastSync + 1500000000 ≤ d.clock) :
    baseLocked (syncLost d b) b = false ∧ (syncLost d b).clock = d.clock := by
  have hpast : elapseTo d ((tbase d b).lastSync + 3000 * msTicks) = d := elapseTo_of_past hlate
  simp only [syncLost, hon, hpast, ↓reduceIte]
  exact ⟨baseLocked_setLocked .., (setLocked_same ..).clock⟩

/-! ## Messages that the agent sends (R655, R658) -/

theorem syncInterval_of_oneStep (hport : agentPort d p = true)
    (hone : bit (reg d (ctlOff (ptpBase d p))) 27 = false) : syncInterval d p = agentSend d p 0 := by
  simp only [syncInterval, hport, hone, Bool.false_eq_true, ↓reduceIte]

/-- A port outside the LINKs sends in the clear. -/
theorem agentSend_of_clear (type : Nat) (hline : isLine d p = false) : agentSend d p type =
    ptpClear d p (fit 60 (Config.agentFrame p type (bits (reg d (ctlOff (ptpBase d p))) 23 16) d.clock)) := by
  simp only [agentSend, hline, Bool.not_false, ↓reduceIte]

theorem ptpClear_of_plain (data : Bytes) (hplain : allExpress d p = false) : ptpClear d p data = ptpOut d p data := by
  simp only [ptpClear, hplain, Bool.false_eq_true, ↓reduceIte]

theorem ptpOut_of_muted (data : Bytes) (hmuted : muted d = true) : ptpOut d p data = d := if_pos hmuted

theorem agentSend_of_muted (type : Nat) (hline : isLine d p = false) (hplain : allExpress d p = false)
    (hmuted : muted d = true) : agentSend d p type = d := by
  rw [agentSend_of_clear type hline, ptpClear_of_plain _ hplain, ptpOut_of_muted _ hmuted]

theorem syncInterval_of_muted (hline : isLine d p = false) (hplain : allExpress d p = false) (hmuted : muted d = true) :
    syncInterval d p = d := by
  simp only [syncInterval, agentSend_of_muted _ hline hplain hmuted, ite_self]

theorem ptpClear_of_express (data : Bytes) (hexpress : allExpress d p = true) : ptpClear d p data =
    flForme { d with prs := { d.prs with nextNo := d.prs.nextNo + 1 } } { agentWork d p data true with action := 1 } := by
  simp only [ptpClear, hexpress, ↓reduceIte]
  rfl

/-- A LINK with a SecY of its own sends through that SecY, where the SecY is of the port and carries the port's class. -/
theorem agentSend_of_secy {y : SecY} (type : Nat) (hline : isLine d p = true) (hown : bit (msPort d p) 31 = true)
    (hsecy : secy d (bits (msPort d p) 25 16) = some y) (hport : y.port = p)
    (hfits : flFits d p (bits (msPort d p) 25 16) = true) :
    agentSend d p type = ptpUnder d p (bits (msPort d p) 25 16) y
      (fit 60 (Config.agentFrame p type (bits (reg d (ctlOff (ptpBase d p))) 23 16) d.clock)) := by
  simp only [agentSend, hline, hown, hsecy, hport, hfits, Bool.not_true, Bool.false_eq_true, ne_eq, not_true_eq_false,
    or_self, ↓reduceIte]

theorem agentSend_of_noSecy (type : Nat) (hline : isLine d p = true) (hown : bit (msPort d p) 31 = true)
    (hsecy : secy d (bits (msPort d p) 25 16) = none) : agentSend d p type = count d (portCtr 46 p) := by
  simp only [agentSend, hline, hown, hsecy, Bool.not_true, Bool.false_eq_true, ↓reduceIte]
  rfl

/-- The turn cut's count changes neither the path of a frame nor the SAs, the key store and the FIFOs, while none is owed. -/
theorem countCut_of_paid (i : Nat) (w : Work) (howed : d.ms.owed = []) :
    (countCut d i w).1.prs = d.prs ∧ (countCut d i w).1.ms.sas = d.ms.sas ∧ (countCut d i w).1.key = d.key ∧
      ∃ n, (countCut d i w).2 = { w with cut := n } := by
  have hnext : oweNext d (i / 4) w.ing = none := by simp only [oweNext, howed]; rfl
  unfold countCut
  split
  · exact ⟨rfl, rfl, rfl, w.cut, rfl⟩
  · rw [hnext]; exact ⟨rfl, rfl, rfl, _, rfl⟩

theorem encryptUnder_of_encoding {w : Work} {k i : Nat} (y : SecY) (hsa : encodingSa d k = some i) :
    encryptUnder d w k y = ((countCut d i { w with secy := some k, cls := y.cls, sa := some i }).1,
      .go (countCut d i { w with secy := some k, cls := y.cls, sa := some i }).2) := by
  simp only [encryptUnder, hsa]

theorem agentGo_queues (d : Device) {w : Work} (hfl : w.fl = false) : fifoOf (agentGo d w) w.ing = fifoOf d w.ing ++ [w] ∧
    (agentGo d w).ms = d.ms ∧ (agentGo d w).key = d.key := by
  simp only [agentGo, hfl, Bool.false_eq_true, ↓reduceIte]
  exact ⟨Tbl.getD_setD .., rfl, rfl⟩

/-- A message under a SecY with an encoding SA joins its port's FIFO as an encrypt frame of that SA. -/
theorem ptpUnder_queues {k i : Nat} (y : SecY) (data : Bytes) (hplain : allExpress d p = false)
    (hsa : encodingSa d k = some i) (howed : d.ms.owed = []) :
    ∃ w, fifoOf (ptpUnder d p k y data) p = fifoOf d p ++ [w] ∧ w.secy = some k ∧ w.sa = some i ∧ w.eg = p ∧
      w.agent = true ∧ w.dec = false ∧ (ptpUnder d p k y data).ms.sas = d.ms.sas ∧ (ptpUnder d p k y data).key = d.key := by
  obtain ⟨hprs, hsas, hkey, n, hw⟩ := countCut_of_paid i
    { agentWork d p data false with secy := some k, cls := y.cls, sa := some i } howed
  have hunder : ptpUnder d p k y data = agentGo
      (countCut d i { agentWork d p data false with secy := some k, cls := y.cls, sa := some i }).1
      { agentWork d p data false with secy := some k, cls := y.cls, sa := some i, cut := n } := by
    simp only [ptpUnder, hplain, encryptUnder_of_encoding y hsa, hw]
  rw [hunder]
  obtain ⟨hfifo, hms, hk⟩ := agentGo_queues
    (countCut d i { agentWork d p data false with secy := some k, cls := y.cls, sa := some i }).1
    (w := { agentWork d p data false with secy := some k, cls := y.cls, sa := some i, cut := n }) rfl
  refine ⟨{ agentWork d p data false with secy := some k, cls := y.cls, sa := some i, cut := n }, hfifo.trans ?_, rfl, rfl, rfl,
    rfl, rfl, (congrArg _ hms).trans hsas, hk.trans hkey⟩
  rw [fifoOf, hprs]
  rfl

end

/-- Settles O14: each message by the branch of its port and SecY. -/
theorem agentFollowsMaster : Obligations.AgentFollowsMaster := by
  refine ⟨?counted, ?stepped, ?lost, ?clear, ?muted, ?express, ?under⟩
  case counted =>
    intro p m s hport hm
    rw [exec_ptpMessageRx, ptpReceive_of_none hport hm]
  case stepped =>
    intro p m s o hport hm hslave hmay ho
    obtain ⟨hvalue, hlocked⟩ := agentSync_steps (d := count s.dev (portCtr 43 p)) (b := ptpBase s.dev p) ho
    exact ⟨_, by rw [exec_ptpMessageRx, ptpReceive_of_sync hport hm hslave hmay], hvalue, hlocked⟩
  case lost =>
    intro b s hon hlate
    exact ⟨_, exec_ptpSyncTimeout b s, syncLost_unlocks hon hlate⟩
  case clear =>
    intro p s hport hline hplain hmuted hone
    rw [exec_ptpSyncInterval, syncInterval_of_oneStep hport hone, agentSend_of_clear 0 hline, ptpClear_of_plain _ hplain,
      ptpOut, hmuted, if_neg Bool.false_ne_true]
  case muted =>
    intro p s _ hline hplain hmuted
    rw [exec_ptpSyncInterval, syncInterval_of_muted hline hplain hmuted]
    rfl
  case express =>
    intro p s data hport hline hexpress hone hdata
    subst hdata
    rw [exec_ptpSyncInterval, syncInterval_of_oneStep hport hone, agentSend_of_clear 0 hline, ptpClear_of_express _ hexpress]
  case under =>
    intro p s k i y hport hline hone hown hk hplain hfits howed
    subst hk
    rw [exec_ptpSyncInterval, syncInterval_of_oneStep hport hone]
    refine ⟨fun hsecy hy hsa => ?_, fun hsecy => by rw [agentSend_of_noSecy 0 hline hown hsecy]⟩
    rw [agentSend_of_secy 0 hline hown hsecy hy hfits]
    obtain ⟨w, hqueued⟩ := ptpUnder_queues y _ hplain hsa howed
    exact ⟨_, w, rfl, hqueued⟩

end Sys2Proof.Machine

/-!
PROOF. Service jobs: O20 (acceptance) and O22 (how jobs end).
-/
namespace Sys2Proof.Machine

/-! ## Acceptance (R482, R486, R495, R503, R514, R515) -/

section
variable {d e : Device} {o : Origin} {desc buf : Bytes}

/-- A symmetric job that finds an engine free and no job before it starts at once. -/
theorem acceptSym_of_free {j : Job} {k : Nat} (hfree : freeEngine d.svc.symRun = some k) (hnone : d.svc.symQueue = [])
    (hstart : startSym (accepted d j).1 (accepted d j).2 = ((accepted d j).1, .ok (accepted d j).2)) :
    acceptSym d j = some { (accepted d j).1 with svc := { (accepted d j).1.svc with
      symRun := Tbl.put (accepted d j).1.svc.symRun k { (accepted d j).2 with started := d.clock } } } := by
  simp only [acceptSym, hfree, hnone, runSym_of_ok hstart, accepted_clock]

/-- A SHA-256 job of good lengths takes its place. -/
theorem symBody_of_hash (hmode : leField desc 20 1 = 5) (hforward : (byteAt desc 21).getLsbD 0 = false)
    (hlen : symLenBad o desc = none)
    (haccept : acceptSym d { origin := o, opcode := 0x0300, desc := desc, buf := buf } = some e) :
    symBody o desc buf d = .accept e := by
  have hkdf : ((5 : Nat) == 11) = false := rfl
  simp only [symBody, hmode, hforward, hlen, haccept, hkdf, Bool.false_and, Bool.false_eq_true, ↓reduceIte]

/-- An ECDSA verification on P-256 takes its place. -/
theorem pkBody_of_verify (hop : leField desc 20 1 = 1) (hcode : leField desc 21 1 = 0)
    (hlen : o.bufLen = pkBufLen (some p256) desc)
    (haccept : acceptPk d { origin := o, opcode := 0x0301, desc := desc, buf := buf } = some e) :
    pkBody o desc buf d = .accept e := by
  simp [pkBody, pkCurve, hop, hcode, hlen, haccept]

theorem curveBody_of_good (hcurve : leField desc 20 1 ≤ 7) (hcofactor : 1 ≤ leField desc 21 1) (hsmall : leField desc 21 1 ≤ 4)
    (hlow : 224 ≤ leField desc 22 2) (hhigh : leField desc 22 2 ≤ 521) (hlen : o.bufLen = 6 * ((leField desc 22 2 + 7) / 8))
    (hslots : d.key.slots = []) (haccept : acceptPk d { origin := o, opcode := 0x0302, desc := desc, buf := buf } = some e) :
    curveBody o desc buf d = .accept e := by
  have hunused : Tbl.any d.key.slots (fun _ s => s.state != 0 && s.type == 5 && s.curve == leField desc 20 1) = false := by
    rw [hslots]; rfl
  have hcofactor' : ¬(leField desc 21 1 = 0 ∨ leField desc 21 1 > 4) := by omega
  have hbits : ¬(leField desc 22 2 < 224 ∨ leField desc 22 2 > 521) := by omega
  simp only [curveBody, Nat.not_lt.2 hcurve, hcofactor', hbits, hlen, hunused, haccept, ne_eq, not_true_eq_false,
    Bool.false_eq_true, ↓reduceIte]

theorem drbgBody_of_good (hlow : 1 ≤ o.bufLen) (hhigh : o.bufLen ≤ 65536) (hdrbg : drbgOk d = true) :
    drbgBody o desc buf d = .accept { (accepted d { origin := o, opcode := 0x0303, desc := desc, buf := buf }).1 with svc :=
      { (accepted d { origin := o, opcode := 0x0303, desc := desc, buf := buf }).1.svc with drbgQueue := d.svc.drbgQueue ++
        [(accepted d { origin := o, opcode := 0x0303, desc := desc, buf := buf }).2] } } := by
  have hlen : ¬(o.bufLen = 0 ∨ o.bufLen > 65536) := by omega
  simp only [drbgBody, acceptDrbg, hlen, hdrbg, ↓reduceIte]

theorem revokeBody_of_good (henrolled : d.boot.enrolled = true) (hlen : o.bufLen = 16 + 4 * leField buf 2 2 + 64)
    (hshape : updateShapeOk buf = true) (hnewer : d.svc.revSeq < leField buf 8 8)
    (haccept : acceptPk d { origin := o, opcode := 0x0304, desc := desc, buf := buf } = some e) :
    revokeBody o desc buf d = .accept e := by
  simp [revokeBody, henrolled, hlen, hshape, Nat.not_le.2 hnewer, haccept]

/-- A revocation update needs no key and no DRBG. -/
theorem startPk_of_revocation {j : Job} (hopcode : j.opcode = 0x0304) : startPk d j = (d, .ok j) := by
  simp [startPk, hopcode]

end

theorem exec_symJob (r : Fin 64) (buf : Bytes) (s : State) :
    exec (.symJob r buf) s = .next (s.having (runCommand 0x0300 r anyRight symOwn symBody buf s.dev)) := rfl

theorem exec_pkJob (r : Fin 64) (buf : Bytes) (s : State) :
    exec (.pkJob r buf) s = .next (s.having (runCommand 0x0301 r anyRight pkOwn pkBody buf s.dev)) := rfl

theorem exec_pkCurveLoad (r : Fin 64) (buf : Bytes) (s : State) :
    exec (.pkCurveLoad r buf) s = .next (s.having (runCommand 0x0302 r anyRight curveOwn curveBody buf s.dev)) := rfl

theorem exec_drbgGenerate (r : Fin 64) (s : State) :
    exec (.drbgGenerate r) s = .next (s.having (runCommand 0x0303 r anyRight drbgOwn drbgBody [] s.dev)) := rfl

theorem exec_revocationUpdate (r : Fin 64) (buf : Bytes) (s : State) : exec (.revocationUpdate r buf) s =
    .next (s.having (runCommand 0x0304 r anyRight (fun desc => zeroFrom desc 20 63) revokeBody buf s.dev)) := rfl

/-- Settles O20: each command by its body's checks and the place that its job takes, in the queue or on an engine. -/
theorem jobsAcceptedInOrder : Obligations.JobsAcceptedInOrder := by
  refine ⟨?sym, ?pk, ?curve, ?drbg, ?revoke⟩
  case sym =>
    rintro r s f rest buf _ _ hruns rfl hmode hforward hlen rfl
    rw [exec_symJob]
    refine ⟨fun hbusy hroom => ?_, fun k hfree hnone => ?_⟩
    · rw [runCommand_accept hruns (symBody_of_hash hmode hforward hlen
        (acceptSym_of_busy (d := taken s.dev r rest) hbusy hroom))]
      rfl
    · rw [runCommand_accept hruns (symBody_of_hash hmode hforward hlen
        (acceptSym_of_free (d := taken s.dev r rest) hfree hnone
          (startSym_of_hash rfl (Nat.le_of_eq hmode.symm) (Nat.le_of_eq hmode |>.trans (by decide)))))]
      rfl
  case pk =>
    rintro r s f rest buf _ _ hruns rfl hop hcode hlen rfl
    rw [exec_pkJob]
    refine ⟨fun hbusy hroom => ?_, fun k hfree hnone hdrbg => ?_⟩
    · rw [runCommand_accept hruns (pkBody_of_verify hop hcode hlen
        (acceptPk_of_busy (d := taken s.dev r rest) hbusy hroom))]
      rfl
    · rw [runCommand_accept hruns (pkBody_of_verify hop hcode hlen
        (acceptPk_of_free (d := taken s.dev r rest) hfree hnone (startPk_of_keylessOp rfl
          (fun h => absurd (hop.symm.trans h) (by decide)) (fun h => absurd (hop.symm.trans h) (by decide)) hdrbg)))]
      rfl
  case curve =>
    rintro r s f rest buf _ _ n hruns rfl hcurve hcofactor hsmall rfl hlow hhigh hlen hslots rfl
    rw [exec_pkCurveLoad]
    refine ⟨fun hbusy hroom => ?_, fun k hfree hnone hdrbg => ?_⟩
    · rw [runCommand_accept hruns (curveBody_of_good hcurve hcofactor hsmall hlow hhigh hlen hslots
        (acceptPk_of_busy (d := taken s.dev r rest) hbusy hroom))]
      rfl
    · rw [runCommand_accept hruns (curveBody_of_good hcurve hcofactor hsmall hlow hhigh hlen hslots
        (acceptPk_of_free (d := taken s.dev r rest) hfree hnone (startPk_of_unkeyed (.inl rfl) hdrbg)))]
      rfl
  case drbg =>
    rintro r s f rest _ _ hruns rfl hlow hhigh hdrbg rfl
    rw [exec_drbgGenerate, runCommand_accept hruns (drbgBody_of_good (d := taken s.dev r rest) hlow hhigh hdrbg)]
    rfl
  case revoke =>
    rintro r s f rest buf _ _ _ hruns rfl henrolled rfl hlen hshape hnewer rfl
    rw [exec_revocationUpdate]
    refine ⟨fun hbusy hroom => ?_, fun k hfree hnone => ?_⟩
    · rw [runCommand_accept hruns (revokeBody_of_good (d := taken s.dev r rest) henrolled hlen hshape hnewer
        (acceptPk_of_busy (d := taken s.dev r rest) hbusy hroom))]
      rfl
    · rw [runCommand_accept hruns (revokeBody_of_good (d := taken s.dev r rest) henrolled hlen hshape hnewer
        (acceptPk_of_free (d := taken s.dev r rest) hfree hnone (startPk_of_revocation rfl)))]
      rfl

/-! ## Ends (R490, R499, R504, R511, R514, R517) -/

section
variable {d : Device} {e : Nat} {j : Job}

/-- The device once the symmetric job `j` has left engine `e` and is counted. -/
def symLeft (d : Device) (e : Nat) (j : Job) : Device :=
  count (count (leaveSym d e) (unitCtr 7 e)) (unitCtr 8 e) (leField j.desc 24 2)

theorem symDone_of_output {out : Bytes} {k : Nat} {d1 : Device} (hrun : Tbl.get? d.svc.symRun e = some j)
    (hopcode : j.opcode = 0x0300) (hmode : symMode j ≤ 3) (hresult : symResult j.res.key j.desc j.buf = (some out, k))
    (hwrite : writeBuf (symLeft d e j) j.origin (leField j.desc 40 8) (leField j.desc 48 4) out = some d1) :
    symDone d e = post (dropInflight d1 j.origin) (dueOf d1 j.origin .ok (zeros 16) (out != [])) := by
  have hkdf : symMode j ≠ 11 := by omega
  have hunwrap : ¬(symMode j = 4 ∧ symReverse j = true) := by omega
  simp only [symLeft] at hwrite
  simp only [symDone, hrun, hopcode, hkdf, hunwrap, hresult, hwrite, ↓reduceIte]

theorem symDone_of_failed {k : Nat} (hrun : Tbl.get? d.svc.symRun e = some j) (hopcode : j.opcode = 0x0300)
    (hmode : symMode j ≤ 3) (hresult : symResult j.res.key j.desc j.buf = (none, k)) :
    symDone d e = finish (count (symLeft d e j) (devCtr 31)) j.origin .ok [1#8] := by
  have hkdf : symMode j ≠ 11 := by omega
  simp only [symDone, hrun, hopcode, hkdf, hresult, ↓reduceIte]
  rfl

theorem engineTime_le (j : Job) (n : Nat) : engineTime j n ≤ j.started + n := Nat.add_le_add_left (Nat.sub_le ..) _

theorem pkDone_of_verdict {ok : Bool} (hrun : Tbl.get? d.svc.pkRun e = some j) (hopcode : j.opcode = 0x0301)
    (hop : leField j.desc 20 1 = 1) (hcode : leField j.desc 21 1 = 0) (htime : j.started + 48000 ≤ d.clock)
    (hresult : pkResult (some p256) (drbgBytes d 80) j.res.key j.desc j.buf = .ok (.verdict ok)) :
    pkDone d e none = finish (count (leavePk (drbgRequest d 80) e) (unitCtr 9 e)) j.origin .ok [if ok then 0#8 else 1#8] := by
  have hcurve : pkCurve d 0 = some p256 := rfl
  have hmicros : pkMicros 1 0 p256.bits = 96 := rfl
  have hnow : elapseTo d (engineTime j (96 * usTicks)) = d := elapseTo_of_past ((engineTime_le ..).trans htime)
  have hrsa : ¬(1 : Nat) = 4 := by decide
  simp only [pkDone, hrun, hopcode, hop, hcode, hrsa, hcurve, hmicros, hnow, hresult, ↓reduceIte]
  rfl

/-- The device with a curve loaded, and its record. -/
def withCurve (d : Device) (k : Nat) (c : Curve) : Device :=
  emit { d with svc := { d.svc with curves := Tbl.put d.svc.curves k c } } .service 0x04
    (leBytes 1 k ++ leBytes 2 c.bits ++ leBytes 1 c.cofactor)

theorem withCurve_curves (d : Device) (k : Nat) (c : Curve) : Tbl.get? (withCurve d k c).svc.curves k = some c := by
  rw [withCurve, (emit_same ..).svc]
  exact Tbl.get?_put ..

theorem curveLoaded_of_time (hrun : Tbl.get? d.svc.pkRun e = some j) (hopcode : j.opcode = 0x0302)
    (htime : j.started + curveMicros (curveOf j.desc j.buf).bits * 500 ≤ d.clock) :
    curveLoaded d e = if curveOk (curveOf j.desc j.buf) (drbgBytes d 8448)
      then finish (withCurve (count (leavePk (drbgRequest d 8448) e) (unitCtr 9 e)) (leField j.desc 20 1)
        (curveOf j.desc j.buf)) j.origin .ok (zeros 16)
      else pkReject (count (leavePk (drbgRequest d 8448) e) (unitCtr 9 e)) j := by
  have hnow : elapseTo d (engineTime j (curveMicros (curveOf j.desc j.buf).bits * usTicks)) = d :=
    elapseTo_of_past ((engineTime_le ..).trans htime)
  simp only [curveLoaded, hrun, hopcode, hnow, ↓reduceIte]
  rfl

theorem drbgDone_of_plain {rest : List Job} (hqueue : d.svc.drbgQueue = j :: rest) (hdrbg : drbgOk d = true)
    (hkeep : (byteAt j.desc 20).getLsbD 0 = false) :
    drbgDone d = finishOut (drbgRequest { d with svc := { d.svc with drbgQueue := rest } } j.origin.bufLen) j.origin
      (zeros 16) (some (drbgBytes d j.origin.bufLen)) := by
  have hdrbg' : drbgOk { d with svc := { d.svc with drbgQueue := rest } } = true := hdrbg
  simp only [drbgDone, hqueue, hdrbg', hkeep, Bool.false_eq_true, ↓reduceIte]
  rfl

theorem reseedDue_of_past (hdrbg : drbgOk d = true) (htime : d.svc.reseedAt + reseedS d * 500000000 ≤ d.clock) :
    reseedDue d none = reseed d := by
  have hnow : elapseTo d (d.svc.reseedAt + reseedS d * 1000 * msTicks) = d :=
    elapseTo_of_past (by rw [Nat.mul_assoc]; exact htime)
  simp only [reseedDue, hdrbg, hnow, ↓reduceIte]

theorem stopDrbg_of_running (cause : Nat) (hrun : d.svc.drbgStopped = none) :
    (stopDrbg d cause).svc = { d.svc with drbgStopped := some cause } ∧ (stopDrbg d cause).key = d.key := by
  simp only [stopDrbg, hrun, Option.isSome_none, Bool.false_eq_true, ↓reduceIte]
  exact ⟨(emit_same ..).svc, (emit_same ..).key⟩

/-! ## A revocation update (R517) -/

/-- The device with an update's bitmap and SEQ taken over. -/
def updated (d : Device) (j : Job) : Device := { d with svc :=
  { d.svc with revoked := applyEntries d.svc.revoked (updateEntries j.buf), revSeq := leField j.buf 8 8 } }

theorem sealRevocation_svc (d : Device) : (sealRevocation d).svc = d.svc := by
  unfold sealRevocation
  split <;> rfl

/-- With no association in place an update seals its bitmap, counts, reports and completes. -/
theorem applyUpdate_of_noAssoc (hassocs : d.kn.assocs = []) : ∃ p res, applyUpdate d j =
    finish (emit (count (sealRevocation (updated d j)) (devCtr 37)) .service 0x03 p) j.origin .ok res := by
  simp only [applyUpdate, hassocs, List.filter_nil, List.map_nil, List.foldl_nil]
  exact ⟨_, _, rfl⟩

theorem revocationDone_of_time {a : Bytes} (hrun : Tbl.get? d.svc.pkRun e = some j) (hopcode : j.opcode = 0x0304)
    (htime : j.started + 48000 ≤ d.clock) (hauthority : authority (count (leavePk d e) (unitCtr 9 e)) = some a)
    (hnewer : (count (leavePk d e) (unitCtr 9 e)).svc.revSeq < leField j.buf 8 8) :
    revocationDone d e = if verifyP256 a (j.buf.take (j.buf.length - 64)) (slice j.buf (j.buf.length - 64) 64)
      then applyUpdate (count (leavePk d e) (unitCtr 9 e)) j else pkReject (count (leavePk d e) (unitCtr 9 e)) j := by
  have hnow : elapseTo d (j.started + 96 * usTicks) = d := elapseTo_of_past htime
  simp only [revocationDone, hrun, hopcode, hnow, hauthority, Nat.not_le.2 hnewer, ↓reduceIte]

end

theorem exec_symJobDone (e : Fin 2) (s : State) : exec (.symJobDone e) s = .next (s.having (symDone s.dev e)) := rfl

theorem exec_pkJobDone (e : Fin 2) (k : Option (Fin 3)) (s : State) :
    exec (.pkJobDone e k) s = .next (s.having (pkDone s.dev e k)) := rfl

theorem exec_curveLoaded (e : Fin 2) (s : State) : exec (.curveLoaded e) s = .next (s.having (curveLoaded s.dev e)) := rfl

theorem exec_drbgGenerateDone (s : State) : exec .drbgGenerateDone s = .next (s.having (drbgDone s.dev)) := rfl

theorem exec_drbgReseed (c : Option (Fin 4)) (s : State) :
    exec (.drbgReseed c) s = .next (s.having (reseedDue s.dev c)) := rfl

theorem exec_entropyHealthFail (c : Fin 4) (s : State) :
    exec (.entropyHealthFail c) s = .next (s.having (stopDrbg s.dev c)) := rfl

theorem exec_revocationApplied (e : Fin 2) (s : State) :
    exec (.revocationApplied e) s = .next (s.having (revocationDone s.dev e)) := rfl

/-- Settles O22: each row by the job that ends. -/
theorem jobsEndWithTheirResult : Obligations.JobsEndWithTheirResult := by
  refine ⟨?output, ?failed, ?verdict, ?curve, ?random, ?reseeds, ?stops, ?revoked⟩
  case output =>
    rintro e s j out k _ d1 hrun hopcode hmode hresult rfl hwrite
    rw [exec_symJobDone, symDone_of_output hrun hopcode hmode hresult hwrite]
  case failed =>
    rintro e s j k _ hrun hopcode hmode hresult rfl
    rw [exec_symJobDone, symDone_of_failed hrun hopcode hmode hresult]
    rfl
  case verdict =>
    rintro e s j _ ok hrun hopcode hop hcode htime rfl hresult
    rw [exec_pkJobDone, pkDone_of_verdict hrun hopcode hop hcode htime hresult]
  case curve =>
    rintro e s j _ _ hrun hopcode rfl htime rfl
    refine ⟨_, by rw [exec_curveLoaded, curveLoaded_of_time hrun hopcode htime], withCurve_curves .., ?_⟩
    rw [withCurve, (emit_same ..).key]
  case random =>
    intro s j rest hqueue hdrbg hkeep
    rw [exec_drbgGenerateDone, drbgDone_of_plain hqueue hdrbg hkeep]
  case reseeds =>
    intro s hdrbg htime
    rw [exec_drbgReseed, reseedDue_of_past hdrbg htime, reseed]
  case stops =>
    intro s c hrun
    obtain ⟨hsvc, hkey⟩ := stopDrbg_of_running c.val hrun
    refine ⟨_, exec_entropyHealthFail c s, hsvc, ?_, hkey⟩
    simp [drbgOk, hsvc]
  case revoked =>
    rintro e s j a n _ hrun hopcode htime rfl hauthority rfl hnewer hassocs
    obtain ⟨p, res, happly⟩ := applyUpdate_of_noAssoc (j := j) hassocs
    refine ⟨_, res, by rw [exec_revocationApplied, revocationDone_of_time hrun hopcode htime hauthority hnewer, happly], ?_⟩
    rw [(emit_same ..).svc, count_svc, sealRevocation_svc]
    exact ⟨rfl, rfl⟩

end Sys2Proof.Machine

/-!
PROOF. What dropped frames leave unmoved: clock, mode, boot, slots, service engines, tamper unit, time unit, lanes, power, role
and the Ethernet ports' settings.
-/
namespace Sys2Proof.Machine

/-- PORT_ETH_CFG of each port. -/
def ethCfgs (d : Device) (p : Nat) : W32 := reg d (ethCfgOff p)

theorem ethCfgs_congr {a b : Device} (hregs : a.regs = b.regs) (hglb : a.glb = b.glb) : ethCfgs a = ethCfgs b :=
  funext fun _ => reg_congr hregs hglb _

/-- The units that neither a report nor the end of a frame changes. -/
structure Unmoved where
  clock : Nat
  glb : Glb
  boot : Boot
  slots : Tbl Slot
  svc : Svc
  tmp : Tmp
  time : TimeUnit
  lane : Lanes
  pwr : Power
  role : Role
  epoch : W32
  ethCfgs : Nat → W32

def unmoved (d : Device) : Unmoved :=
  ⟨d.clock, d.glb, d.boot, d.key.slots, d.svc, d.tmp, d.time, d.lane, d.pwr, d.duet.role, d.duet.epoch, ethCfgs d⟩

theorem SameWork.unmoved {a b : Device} (h : SameWork a b) (hcfg : ethCfgs a = ethCfgs b) : unmoved a = unmoved b := by
  simp only [Machine.unmoved, h.clock, h.glb, h.boot, h.key, h.svc, h.tmp, h.time, h.lane, h.pwr, h.role, h.epoch, hcfg]

theorem SideWork.unmoved {a b : Device} (h : SideWork a b) : unmoved a = unmoved b :=
  h.work.unmoved (ethCfgs_congr h.regs h.work.glb)

/-! ## Completions leave the ports' settings (R89, R90) -/

theorem raiseVector_ethCfgs (d : Device) (f v : Nat) : ethCfgs (raiseVector d f v) = ethCfgs d := by
  unfold raiseVector
  split <;> rfl

theorem signalCq_ethCfgs (d : Device) (m : Nat) (now : Bool) : ethCfgs (signalCq d m now) = ethCfgs d := by
  simp only [signalCq]
  split
  · exact raiseVector_ethCfgs ..
  · rfl

theorem markStall_ethCfgs (d : Device) (m : Nat) : ethCfgs (markStall d m) = ethCfgs d :=
  markStall_keeps (get := ethCfgs)
    (fun _ _ => funext fun p => reg_setBits_ne _ _ _ _ _ (by rw [ethCfgOff, cmdStatusOff]; omega)) (fun _ _ => rfl)

theorem writeEntry_ethCfgs (d : Device) (m size : Nat) (due : Due) : ethCfgs (writeEntry d m size due) = ethCfgs d := by
  simp only [writeEntry]
  generalize hsignalled : signalCq _ m _ = e
  have hcfg : ethCfgs e = ethCfgs d := by
    rw [← hsignalled, signalCq_ethCfgs]
    rfl
  split
  · rw [markStall_ethCfgs, hcfg]
  · exact hcfg

theorem drainCq_ethCfgs (l : List Due) (d : Device) (m : Nat) : ethCfgs (drainCq d m l) = ethCfgs d := by
  induction l generalizing d with
  | nil => rfl
  | cons due rest ih =>
    unfold drainCq
    split
    · split
      · split
        · rfl
        · rw [ih, writeEntry_ethCfgs]
      · exact ih d
    · exact ih d

theorem post_ethCfgs (d : Device) (due : Due) : ethCfgs (post d due) = ethCfgs d := by
  have hcount : ethCfgs (countRejected d due) = ethCfgs d := by
    unfold countRejected
    split <;> rfl
  simp only [post]
  split
  · rfl
  · split
    · rfl
    · split
      · rfl
      · rw [drainCq_ethCfgs, hcount]

theorem mirrorThenPost_ethCfgs (d : Device) (op : Nat) (desc buf : Bytes) (due : Due) :
    ethCfgs (mirrorThenPost d op desc buf due) = ethCfgs d := by
  have hgrant : ethCfgs (granting d due.origin.ring op) = ethCfgs d := by
    unfold granting
    split <;> rfl
  have hposted : ∀ e, ethCfgs e = ethCfgs d → ethCfgs (post (dropInflight e due.origin) due) = ethCfgs d :=
    fun e he => (post_ethCfgs ..).trans he
  have hsend : ∀ e p, ethCfgs (sendMirror e p) = ethCfgs e := fun e p =>
    ethCfgs_congr (sendDuet_regs ..) (sendDuet_same ..).glb
  have hsent : ∀ l : List Bytes, ethCfgs (l.foldl sendMirror (granting d due.origin.ring op)) = ethCfgs d := fun l =>
    (foldl_keeps ethCfgs sendMirror hsend ..).trans hgrant
  simp only [mirrorThenPost]
  split
  · split
    · exact hsent _
    · exact hposted _ (hsent _)
  · exact hposted _ hgrant

/-! ## Parts of the device that erasures and drops leave -/

/-- A part of the device that the erasure of contexts, records and associations leaves: it holds none of these, nothing that
reporting touches, and of the presses' facts at most the formes and the FIFOs. -/
structure KeepsErasures {β : Type} (get : Device → β) : Prop where
  same : ∀ {a b : Device}, SameWork a b → ethCfgs a = ethCfgs b → get a = get b
  mem : ∀ d m, get { d with mem := m } = get d
  ms : ∀ d m, get { d with ms := m } = get d
  kn : ∀ d k, get { d with kn := k } = get d
  cls : ∀ d c, get { d with cls := c } = get d
  record : ∀ d i r, get (setKeyRec d i r) = get d
  prs : ∀ d x, x.formes = d.prs.formes → x.fifo = d.prs.fifo → get { d with prs := x } = get d

/-- As `KeepsErasures`, and the end of a frame leaves it, but for the frame's own forme. -/
structure KeepsDrops {β : Type} (get : Device → β) : Prop extends KeepsErasures get where
  gal : ∀ d g, get { d with gal := g } = get d
  queues : ∀ d x, x.formes = d.prs.formes → get { d with prs := x } = get d

namespace KeepsErasures

variable {β : Type} {get : Device → β} (h : KeepsErasures get) (d : Device)
include h

theorem count (i n : Nat) : get (count d i n) = get d := h.same (count_same ..) rfl

theorem emit (src : Source) (t : Nat) (p : Bytes) : get (emit d src t p) = get d :=
  h.same (emit_same ..) (ethCfgs_congr (emit_regs ..) (emit_same ..).glb)

theorem mirrorThenPost (op : Nat) (desc buf : Bytes) (due : Due) : get (mirrorThenPost d op desc buf due) = get d :=
  h.same (mirrorThenPost_same ..) (mirrorThenPost_ethCfgs ..)

theorem sideWork {a b : Device} (hside : SideWork a b) : get a = get b :=
  (h.mem a b.mem).symm.trans (h.same hside.work (ethCfgs_congr hside.regs hside.work.glb))

/-! ### Lines of protected memory, and statistics in them -/

theorem eraseRec (i : Nat) : get (eraseRec d i) = get d := by
  simp only [Machine.eraseRec]
  split
  · exact h.record ..
  · rfl

theorem assocOut (a cause : Nat) : get (assocOut d a cause) = get d := by
  unfold Machine.assocOut
  split
  · split
    · rfl
    · exact (h.emit ..).trans ((h.count ..).trans ((h.kn ..).trans (foldl_keeps get Machine.eraseRec h.eraseRec ..)))
  · rfl

theorem writeLine (line : Nat) : get (writeLine d line) = get d :=
  writeLine_leaves (fun d c m => (h.mem { d with counters := c } m).trans (h.same (by constructor <;> rfl) rfl)) h.emit
    (fun d _ => h.ms d _) h.assocOut ..

theorem addToLine (line : Nat) (l : Tbl W64) : get (addToLine d line l) = get d := by
  unfold Machine.addToLine
  split
  · rfl
  · refine (h.writeLine ..).trans ?_
    split
    · exact h.ms ..
    · rfl

theorem addStat (i word n : Nat) : get (addStat d i word n) = get d := by
  simp only [Machine.addStat]
  split
  · exact h.ms ..
  · exact h.addToLine ..

end KeepsErasures

namespace KeepsDrops

variable {β : Type} {get : Device → β} (h : KeepsDrops get) (d : Device)
include h

/-! ### Values of frames (R582, R583) -/

theorem addTuple (p no : Nat) (win : Option Nat) (tuple : Bytes) (sa : Option Nat) (pn : Nat) (localDrop : Bool) :
    get (addTuple d p no win tuple sa pn localDrop) = get d := by
  simp only [Machine.addTuple]
  split
  · rfl
  · split
    · exact h.same (by constructor <;> rfl) rfl
    · split
      · exact (h.sideWork (closeWindow_sideWork ..)).trans (h.same (by constructor <;> rfl) rfl)
      · exact h.same (by constructor <;> rfl) rfl

theorem voidWindow (p : Nat) (win : Option Nat) : get (voidWindow d p win) = get d := by
  unfold Machine.voidWindow
  split
  · exact h.same (by constructor <;> rfl) rfl
  · rfl

/-! ### Samples, FIFOs and formes (R118-R121, R425, R728) -/

theorem sendSample (b : Bytes) : get (sendSample d b) = get d := by
  simp only [Machine.sendSample]
  split
  · split
    · split
      · exact h.same (by constructor <;> rfl) rfl
      · exact (h.same (raiseVector_same ..) (raiseVector_ethCfgs ..)).trans (h.same (by constructor <;> rfl) rfl)
    · rfl
  · rfl

theorem sampleWork (w : Work) (outcome stage : Nat) : get (sampleWork d w outcome stage) = get d := by
  unfold Machine.sampleWork
  split
  · exact (h.count ..).trans (h.sendSample ..)
  · rfl

theorem sampleForme (x : Forme) (outcome stage : Nat) : get (sampleForme d x outcome stage) = get d := by
  unfold Machine.sampleForme
  split
  · exact (h.count ..).trans (h.sendSample ..)
  · rfl

theorem judgeLength (w : Work) : get (judgeLength d w) = get d := by
  simp only [Machine.judgeLength, tooLongDrop]
  split
  · split
    · exact (h.count ..).trans (h.count ..)
    · exact h.count ..
  · rfl

/-- The length of a frame that is still arriving is judged as it is dropped. -/
theorem judged (w : Work) : get (if w.whole then d else Machine.judgeLength d w) = get d := by
  split
  · rfl
  · exact h.judgeLength ..

theorem dropWork (w : Work) (stage : Nat) (localDrop : Bool) : get (dropWork d w stage localDrop) = get d :=
  (h.sampleWork ..).trans ((h.addTuple ..).trans (h.judged ..))

theorem countOverrun (p : Nat) : get (countOverrun d p) = get d := by
  simp only [Machine.countOverrun]
  split
  · exact (h.emit ..).trans (Eq.trans (h.queues _ _ rfl) (h.count ..))
  · exact Eq.trans (h.queues _ _ rfl) (h.count ..)

theorem settleFifo (p : Nat) : get (settleFifo d p) = get d := by
  unfold Machine.settleFifo
  split
  · split
    · exact (h.countOverrun ..).trans ((h.dropWork ..).trans (h.queues _ _ rfl))
    · rfl
  · rfl

theorem resumeAlloc : get (resumeAlloc d) = get d := by
  unfold Machine.resumeAlloc
  split
  · split
    · exact (h.count ..).trans (Eq.trans (h.queues _ _ rfl) (foldl_keeps get Machine.settleFifo h.settleFifo ..))
    · rfl
  · rfl

theorem commitRemap (r : Remap) : get (commitRemap d r) = get d := by
  simp only [Machine.commitRemap]
  split
  · exact (h.mirrorThenPost ..).trans (h.gal ..)
  · exact h.gal ..

theorem settleRemaps : get (settleRemaps d) = get d := foldl_keeps get Machine.commitRemap h.commitRemap ..

theorem unqueue (f : Nat) (x : Forme) : get (unqueue d f x) = get d := by
  unfold Machine.unqueue
  split
  · exact h.gal ..
  · exact h.queues _ _ rfl

/-- The frame of a forme has been sampled, and has left its queue, its cells and its port. -/
theorem leftPort (f : Nat) (x : Forme) (outcome stage : Nat) : ∃ e, get e = get d ∧
    endForme d f x outcome stage = Machine.resumeAlloc (Machine.settleRemaps (removeForme e f)) := by
  refine ⟨_, ?_, rfl⟩
  have hfreed : get (freeCells (Machine.unqueue d f x) x) = get d := (h.gal ..).trans (h.unqueue ..)
  exact (h.sampleForme ..).trans (Eq.trans (h.queues _ _ rfl) hfreed)

/-- The device on which a dropped forme ends. -/
theorem valued (f : Nat) (x : Forme) (outcome : Nat) (localDrop : Bool) : ∃ e, get e = get d ∧
    dropOnly d f x outcome localDrop = endForme e f x outcome (stageNo x) := by
  refine ⟨_, ?_, rfl⟩
  generalize he : (if x.w.whole then d else Machine.judgeLength d x.w) = e
  have hjudged : get e = get d := he ▸ h.judged ..
  split
  · split
    · exact (h.voidWindow ..).trans hjudged
    · exact hjudged
  · exact (h.addTuple ..).trans hjudged

/-! ### Outcomes of received frames (R193-R200, R381-R385) -/

theorem learn (domain mac port secy : Nat) : get (learn d domain mac port secy) = get d := by
  have hplace : ∀ e k b, macPlace d domain mac = some (e, k, b) → get e = get d := by
    intro e k b hplace
    simp only [macPlace] at hplace
    split at hplace
    · cases hplace; rfl
    · split at hplace
      · split at hplace
        · split at hplace <;> cases hplace
          · exact (h.emit ..).trans ((h.cls ..).trans (h.count ..))
          · exact (h.cls ..).trans (h.count ..)
        · cases hplace
          exact h.count ..
      · cases hplace
  have hfail : get (learnFail d domain mac) = get d := by
    simp only [learnFail]
    split
    · exact (h.emit ..).trans ((h.cls ..).trans (h.count ..))
    · exact (h.cls ..).trans (h.count ..)
  unfold Machine.learn
  split
  · rfl
  · split
    · split
      · split
        · rfl
        · exact h.count ..
      · split
        · exact h.cls ..
        · exact (h.count ..).trans (h.cls ..)
    · split
      · split
        · next hsome => exact (h.cls ..).trans ((h.cls ..).trans (hplace _ _ _ hsome))
        · exact hfail
      · exact h.count ..

theorem teach (p : Nat) (data : Bytes) (s : Nat) : get (teach d p data s) = get d := by
  unfold Machine.teach
  split
  · exact h.learn ..
  · rfl

theorem countStomp (p i pn : Nat) : get (countStomp d p i pn) = get d := by
  have hcounted : ∀ x, get { Machine.addStat (Machine.count d (portCtr 3 p)) i 10 1 with
      prs := { (Machine.addStat (Machine.count d (portCtr 3 p)) i 10 1).prs with stomps := x } } = get d := fun x =>
    Eq.trans (h.queues _ _ rfl) ((h.addStat ..).trans (h.count ..))
  simp only [Machine.countStomp]
  split
  · exact (h.emit ..).trans (hcounted _)
  · exact hcounted _

end KeepsDrops

theorem unmoved_keepsDrops : KeepsDrops unmoved where
  same := SameWork.unmoved
  mem _ _ := rfl
  ms _ _ := rfl
  kn _ _ := rfl
  cls _ _ := rfl
  record _ _ _ := rfl
  prs _ _ _ _ := rfl
  gal _ _ := rfl
  queues _ _ _ := rfl

/-! ## What the end of a frame leaves unmoved -/

section
variable (d : Device)

@[simp] theorem count_unmoved (i n : Nat) : unmoved (count d i n) = unmoved d := rfl

@[simp] theorem emit_unmoved (src : Source) (t : Nat) (p : Bytes) : unmoved (emit d src t p) = unmoved d :=
  unmoved_keepsDrops.emit ..

theorem endForme_unmoved (f : Nat) (x : Forme) (outcome stage : Nat) :
    unmoved (endForme d f x outcome stage) = unmoved d := by
  obtain ⟨e, he, hend⟩ := unmoved_keepsDrops.leftPort d f x outcome stage
  have hremove : unmoved (removeForme e f) = unmoved e := rfl
  rw [hend, unmoved_keepsDrops.resumeAlloc, unmoved_keepsDrops.settleRemaps, hremove, he]

theorem dropOnly_unmoved (f : Nat) (x : Forme) (outcome : Nat) (localDrop : Bool) :
    unmoved (dropOnly d f x outcome localDrop) = unmoved d := by
  obtain ⟨e, he, hdrop⟩ := unmoved_keepsDrops.valued d f x outcome localDrop
  rw [hdrop, endForme_unmoved, he]

theorem discardRx_unmoved (f i : Nat) (x : Forme) : unmoved (discardRx d f i x) = unmoved d := by
  unfold discardRx
  split
  · exact unmoved_keepsDrops.countStomp ..
  · exact dropOnly_unmoved ..

theorem deliverRx_unmoved (f : Nat) (x : Forme) : unmoved (deliverRx d f x) = unmoved d := by
  unfold deliverRx
  split
  · exact dropOnly_unmoved ..
  · rfl

theorem settleFrame_unmoved (f i : Nat) (x : Forme) : unmoved (settleFrame d f i x) = unmoved d := by
  have hsa : ∀ e a, unmoved (setSa e i a) = unmoved e := fun _ _ => rfl
  unfold settleFrame
  split
  · simp only [apply_ite unmoved, deliverRx_unmoved, discardRx_unmoved, emit_unmoved, hsa, unmoved_keepsDrops.addTuple,
      unmoved_keepsDrops.teach, unmoved_keepsDrops.addStat, ite_self]
  · exact dropOnly_unmoved ..

theorem settleSa_unmoved (i n : Nat) : unmoved (settleSa i n d) = unmoved d := by
  induction n generalizing d with
  | zero => rfl
  | succ n ih =>
    unfold settleSa
    split
    · split
      · exact (ih _).trans (settleFrame_unmoved ..)
      · rfl
    · rfl

@[simp] theorem dropForme_unmoved (f : Nat) (x : Forme) (outcome : Nat) (localDrop : Bool) :
    unmoved (dropForme d f x outcome localDrop) = unmoved d := by
  rw [dropForme, settleAfter]
  split
  · split
    · exact (settleSa_unmoved ..).trans (dropOnly_unmoved ..)
    · exact dropOnly_unmoved ..
  · exact dropOnly_unmoved ..

/-! ## Many frames at once -/

theorem dropWhere_unmoved (p : Forme → Bool) (outcome : Nat) (localDrop : Bool) (each : Device → Forme → Device)
    (heach : ∀ e x, unmoved (each e x) = unmoved e) : unmoved (dropWhere d p outcome localDrop each) = unmoved d :=
  foldl_keeps unmoved _ (fun e f => by
    split
    · exact (heach _ _).trans (dropForme_unmoved ..)
    · rfl) ..

theorem setFetching_unmoved (l : List Nat) : unmoved (setFetching d l) = unmoved d := by
  simp only [setFetching]
  (repeat' split) <;> rfl

/-- The frames that wait in a port's FIFO are dropped, and counted as discarded. -/
def dropFifo (d : Device) (e : Nat × List Work) : Device :=
  e.2.foldl (fun d w => count (dropWork d w 4 false) (devCtr 61)) d

theorem dropFifo_unmoved (e : Nat × List Work) : unmoved (dropFifo d e) = unmoved d :=
  foldl_keeps unmoved _ (fun e w => (count_unmoved ..).trans (unmoved_keepsDrops.dropWork e w ..)) ..

/-- The device with every frame dropped and no port's path kept. -/
def pathsEmptied (d : Device) : Device :=
  { d with prs := { d.prs with fifo := [], waiting := [], flBusy := [], tx := [] } }

theorem stopTraffic_eq : ∃ l : List (Nat × List Work), stopTraffic d = pathsEmptied (setFetching
    (l.foldl dropFifo (dropWhere d (fun _ => true) 4 false (fun d _ => count d (devCtr 61)))) []) := ⟨_, rfl⟩

@[simp] theorem stopTraffic_unmoved : unmoved (stopTraffic d) = unmoved d := by
  obtain ⟨l, hstop⟩ := stopTraffic_eq d
  have hpaths : ∀ e, unmoved (pathsEmptied e) = unmoved e := fun _ => rfl
  rw [hstop, hpaths, setFetching_unmoved]
  exact (foldl_keeps unmoved dropFifo dropFifo_unmoved ..).trans (dropWhere_unmoved d _ _ _ _ (fun _ _ => rfl))

theorem stopTraffic_fifo : (stopTraffic d).prs.fifo = [] := rfl

end

end Sys2Proof.Machine

/-!
PROOF. The tamper response: O33 (events, filters, alarms and HALT).
-/
namespace Sys2Proof.Machine

/-! ## One detection (R606, R610) -/

theorem filterMap_range_single {α : Type} (n k : Nat) (v : α) :
    (List.range n).filterMap (fun s => if k = s then some v else none) = if k < n then [v] else [] := by
  induction n with
  | zero => rfl
  | succ n ih =>
    rw [List.range_succ, List.filterMap_append, ih]
    obtain hlt | heq | hgt := Nat.lt_trichotomy k n
    · simp [hlt, Nat.lt_succ_of_lt hlt, Nat.ne_of_lt hlt]
    · simp [heq]
    · simp [Nat.not_lt.2 (Nat.le_of_lt hgt), Nat.not_lt.2 hgt, Nat.ne_of_gt hgt]

/-- The detection of a source as the filters take it. -/
def hitOf (x : TamperHit) : Hit := { src := x.source, reading := x.reading.toNat, line := x.reading.toNat / 64 }

theorem hitsOf_single {d : Device} {f : Fuses} {x : TamperHit} (harmed : sourceArmed d f x.source x.reading.toNat = true) :
    hitsOf d f [x] = [hitOf x] := by
  have hone := filterMap_range_single 18 x.source.val (hitOf x)
  rw [if_pos x.source.isLt] at hone
  rw [← hone, hitsOf]
  refine congrArg (List.filterMap · (List.range 18)) (funext fun s => ?_)
  by_cases hs : x.source.val = s
  · subst hs
    simp [harmed, hitOf]
  · simp [hs]

section
variable {d : Device} {h : Hit}

theorem source_setSource (d : Device) (s : Nat) (x : TSource) : source (setSource d s x) s = x := Tbl.getD_setD ..

theorem source_setSource_ne (d : Device) {s k : Nat} (x : TSource) (hk : k ≠ s) : source (setSource d s x) k = source d k :=
  Tbl.getD_setD_ne _ _ _ _ _ _ hk

/-- The device once a source without events has its first one. -/
def firstEvent (d : Device) (s : Nat) : Device :=
  setSource (count d (unitCtr 13 s) 1) s { events := [d.clock], raised := decide ((sensor d s).n ≤ 1)
                                           raisedAt := if (sensor d s).n ≤ 1 then d.clock else 0 }

theorem firstEvent_same (d : Device) (s : Nat) : SameWork { firstEvent d s with tmp := d.tmp } d := by
  constructor <;> rfl

theorem filterEvent_of_fresh (hfresh : source d h.src = {}) :
    filterEvent d h false = (firstEvent d h.src, decide ((sensor d h.src).n ≤ 1)) := by
  have hclear : clearAlarm d h.src = d := by simp only [clearAlarm, hfresh]
  have hsensor : sensor (count d (unitCtr 13 h.src)) h.src = sensor d h.src := rfl
  simp only [filterEvent, hclear, hfresh, firstEvent, hsensor, List.filter_nil, Bool.false_and, Bool.false_or, Bool.not_false,
    Bool.true_and, Bool.false_eq_true, ↓reduceIte]
  simp

theorem tamperEvents_of_fresh (hfresh : source d h.src = {}) : tamperEvents d [h] =
    if (sensor d h.src).n ≤ 1 then raiseAlarms (firstEvent d h.src) [h] else firstEvent d h.src := by
  simp only [tamperEvents, List.foldl_cons, List.foldl_nil, filterEvent_of_fresh hfresh, decide_eq_true_eq, List.nil_append]
  split
  · rfl
  · rfl

/-! ## Alarms (R613-R616) -/

theorem alarmRecord_same (d : Device) (same starting : Bool) (h : Hit) : SameWork (alarmRecord d same starting h) d :=
  (emit_same ..).trans ((setBits_same ..).trans (count_same ..))

/-- One alarm is recorded, after what the battery domain does at one of its own, and calls for its source's response. -/
theorem raiseAlarms_single (hmain : d.tmp.mainPower = true) : ∃ e, raiseAlarms d [h] = applyResponse e (effective d h.src) [h] ∧
    (battSource h.src = false → SameWork e d) := by
  unfold raiseAlarms
  cases hbatt : battSource h.src
  · refine ⟨alarmRecord d false (!d.boot.ended) h, ?_, fun _ => alarmRecord_same ..⟩
    simp [hbatt, hmain]
  · have hwhole : ∃ e, ((if h.src = 5 then setBatt d (eraseBbk d.tmp.batt) else battAlarm d h.src h.reading) : Device) = e ∧
        e.tmp.mainPower = true ∧ effective e h.src = effective d h.src := by
      refine ⟨_, rfl, ?_⟩
      split <;> exact ⟨hmain, rfl⟩
    obtain ⟨e, he, hpower, heff⟩ := hwhole
    refine ⟨alarmRecord e false (!d.boot.ended) h, ?_, fun hfalse => absurd hfalse (by simp)⟩
    simp [hbatt, he, hpower, heff]

/-! ## The end of every job (R508, R618) -/

/-- The slots of `a` are those of `b` but for their reservations. -/
def SameSlots (a b : Device) : Prop := ∀ k, slot a k = { slot b k with reserved := (slot a k).reserved }

theorem SameSlots.of_eq {a b : Device} (h : a.key.slots = b.key.slots) : SameSlots a b := fun k => by
  have hslot : slot a k = slot b k := congrArg (Tbl.getD · k ({} : Slot)) h
  rw [hslot]

theorem SameSlots.trans {a b c : Device} (h : SameSlots a b) (k : SameSlots b c) : SameSlots a c := fun n => by
  rw [h n, k n]

theorem releaseSlot_slots (d : Device) (j : Job) : SameSlots (releaseSlot d j) d := by
  unfold releaseSlot
  split
  · next i _ =>
    intro k
    by_cases hk : k = i
    · rw [hk, slot_setSlot]
    · rw [show slot (setSlot d i _) k = slot d k from Tbl.getD_setD_ne _ _ _ _ _ _ hk]
  · exact .of_eq rfl

/-- The device without a job in the service engines. -/
def idle (d : Device) : Device :=
  { d with svc := { d.svc with symQueue := [], symRun := [], pkQueue := [], pkRun := [], yielded := [], drbgQueue := [] } }

theorem idle_jobs {d e : Device} (h : e.svc = (idle d).svc) : allJobs e = [] := by
  rw [allJobs, h]
  rfl

/-- The output slots of these jobs are released, each counted as aborted. -/
def jobsReleased (d : Device) (l : List Job) : Device := l.foldl (fun d j => svcCtrAborts (releaseSlot d j)) d

theorem jobsReleased_slots (d : Device) (l : List Job) : SameSlots (jobsReleased d l) d := by
  induction l generalizing d with
  | nil => exact .of_eq rfl
  | cons j l ih => exact (ih _).trans (releaseSlot_slots d j)

theorem jobsReleased_same (d : Device) (l : List Job) : SameWork { jobsReleased d l with key := d.key } d := by
  induction l generalizing d with
  | nil => exact .refl d
  | cons j l ih =>
    have hone : SameWork { svcCtrAborts (releaseSlot d j) with key := d.key } d := by
      unfold releaseSlot
      split <;> (constructor <;> rfl)
    exact SameWork.trans (b := { svcCtrAborts (releaseSlot d j) with key := d.key })
      { ih (svcCtrAborts (releaseSlot d j)) with key := rfl } hone

theorem removeJobs_all (d : Device) : removeJobs d (fun _ => true) = idle (jobsReleased d (allJobs d)) := by
  have hnext : ∀ e : Device, ∀ k, e.svc.yielded = [] → nextDealt e k = e := by
    intro e k hnone
    simp only [nextDealt, hnone, Tbl.get?]
  have hfold : ∀ (l : List Nat) (e : Device), e.svc.yielded = [] →
      l.foldl (fun d k => if Tbl.has d.svc.pkRun k then d else nextDealt d k) e = e := by
    intro l e hnone
    induction l with
    | nil => rfl
    | cons k l ih => rw [List.foldl_cons, hnext e k hnone, ite_self, ih]
  have hyielded : d.svc.yielded.filterMap (fun e => (trimYield (fun _ : Job => !true) e.2).map (fun y => (e.1, y))) = [] :=
    List.filterMap_eq_nil_iff.2 fun _ _ => rfl
  have horphans : d.svc.yielded.flatMap (fun _ => ([] : List Job)) = [] := List.flatMap_eq_nil_iff.2 fun _ _ => rfl
  have hnone : ∀ {α : Type} (l : List α), l.filter (fun _ => !true) = [] := fun l => by simp
  simp only [removeJobs, hyielded, hnone, horphans, List.foldl_nil, if_true]
  rw [hfold _ _ rfl]
  rfl

/-- Every job ends with a status; what else is done is a report. -/
theorem abortJobs_all (d : Device) (st : Status) :
    SameWork (abortJobs d (fun _ => true) st) (idle (jobsReleased d (allJobs d))) := by
  rw [abortJobs, removeJobs_all]
  exact foldl_same _ _ (fun _ _ => finish_same ..) _

/-! ## HALT (R618) -/

theorem assertAlarm_tmp (d : Device) : (assertAlarm d).tmp = { d.tmp with alarmN := true } := by
  unfold assertAlarm
  split
  · next halarm => rw [← halarm]
  · rfl

theorem assertAlarm_same (d : Device) : SameWork { assertAlarm d with tmp := d.tmp } d := by
  unfold assertAlarm
  split <;> (constructor <;> rfl)

theorem declareFault_same (d : Device) (cause : Nat) : SameWork { declareFault d cause with duet := d.duet } d := by
  unfold declareFault
  split
  · exact { (setPin_same ..).trans (sendDuet_same ..) with role := rfl, epoch := rfl }
  · exact { setPin_same d false with role := rfl, epoch := rfl }

/-- The device that rebuilds and re-provisioning requests have left. -/
def othersGone (d : Device) : Device :=
  { d with mem := { d.mem with rebuilds := [], quar := d.mem.quar.map (fun q => { q with rebuilding := false }) }
           tmp := { d.tmp with requests := [] } }

theorem abortOthers_same (d : Device) {done : Device → Origin → Device} (hdone : ∀ e o, SameWork (done e o) e) :
    SameWork (abortOthers d done) (othersGone d) := foldl_same _ _ hdone _

/-- The device as HALT has stopped its traffic, asserted ALARM_N and declared the fault. -/
def faulted (d : Device) : Device :=
  declareFault (assertAlarm { stopTraffic d with tmp := { (stopTraffic d).tmp with halted := true } }) 0

theorem haltDevice_eq (d : Device) : haltDevice d =
    abortOthers (abortJobs (faulted d) (fun _ => true) .aborted) (fun d o => finish d o .aborted (zeros 16)) := rfl

theorem alarmFault_keeps (d : Device) (cause : Nat) : (declareFault (assertAlarm d) cause).tmp = { d.tmp with alarmN := true } ∧
    (declareFault (assertAlarm d) cause).glb = d.glb ∧ (declareFault (assertAlarm d) cause).key = d.key :=
  have hfault := declareFault_same (assertAlarm d) cause
  ⟨hfault.tmp.trans (assertAlarm_tmp d), hfault.glb.trans (assertAlarm_same d).glb, hfault.key.trans (assertAlarm_same d).key⟩

theorem faulted_keeps (d : Device) : (faulted d).tmp = { d.tmp with halted := true, alarmN := true } ∧
    (faulted d).glb = d.glb ∧ (faulted d).key.slots = d.key.slots := by
  have hstop := stopTraffic_unmoved d
  rw [faulted]
  generalize stopTraffic d = e at *
  obtain ⟨htmp, hglb, hkey⟩ := alarmFault_keeps { e with tmp := { e.tmp with halted := true } } 0
  have htmp' : e.tmp = d.tmp := congrArg Unmoved.tmp hstop
  refine ⟨?_, hglb.trans (congrArg Unmoved.glb hstop), (congrArg Keys.slots hkey).trans (congrArg Unmoved.slots hstop)⟩
  rw [htmp, htmp']

/-- Ending every job with the other requests keeps the mode and the slots. -/
theorem allAborted_keeps (d : Device) (st : Status) {done : Device → Origin → Device} (hdone : ∀ e o, SameWork (done e o) e) :
    (abortOthers (abortJobs d (fun _ => true) st) done).tmp = { d.tmp with requests := [] } ∧
      (abortOthers (abortJobs d (fun _ => true) st) done).glb = d.glb ∧
      SameSlots (abortOthers (abortJobs d (fun _ => true) st) done) d ∧
      allJobs (abortOthers (abortJobs d (fun _ => true) st) done) = [] := by
  have hjobs := abortJobs_all d st
  have hreleased := jobsReleased_same d (allJobs d)
  have hslots := jobsReleased_slots d (allJobs d)
  generalize abortJobs d (fun _ => true) st = e at *
  generalize jobsReleased d (allJobs d) = r at *
  have hothers := abortOthers_same e hdone
  have htmp : e.tmp = d.tmp := hjobs.tmp.trans hreleased.tmp
  have hkept : SameSlots e r := .of_eq (congrArg Keys.slots hjobs.key)
  refine ⟨?_, hothers.glb.trans (hjobs.glb.trans hreleased.glb), ?_, idle_jobs (hothers.svc.trans hjobs.svc)⟩
  · rw [hothers.tmp, othersGone, htmp]
  · exact (SameSlots.of_eq (congrArg Keys.slots hothers.key)).trans (hkept.trans hslots)

/-- HALT keeps the mode and the slots, ends every job, and leaves the device halted with ALARM_N asserted. -/
theorem haltDevice_halts (d : Device) : (haltDevice d).tmp = { d.tmp with halted := true, alarmN := true, requests := [] } ∧
    (haltDevice d).glb = d.glb ∧ SameSlots (haltDevice d) d ∧ allJobs (haltDevice d) = [] := by
  obtain ⟨htmp, hglb, hslots⟩ := faulted_keeps d
  rw [haltDevice_eq]
  obtain ⟨htmp', hglb', hslots', hjobs⟩ := allAborted_keeps (faulted d) .aborted
    (done := fun d o => finish d o .aborted (zeros 16)) (fun _ _ => finish_same ..)
  exact ⟨htmp'.trans (by rw [htmp]), hglb'.trans hglb, hslots'.trans (.of_eq hslots), hjobs⟩

/-! ## Responses (R613, R614) -/

theorem applyResponse_of_none {hs : List Hit} : ∃ t, applyResponse d 0 hs = { d with tmp := t } ∧ t.sources = d.tmp.sources := by
  have hzero : ¬(0 : Nat) = 3 ∧ ¬(0 : Nat) = 2 ∧ ¬(0 : Nat) = 1 := by decide
  simp only [applyResponse, hzero, if_false]
  split
  all_goals
    split
    · exact ⟨d.tmp, rfl, rfl⟩
    · exact ⟨_, rfl, rfl⟩

theorem applyResponse_of_halt {hs : List Hit} (hmode : d.glb.mode ≠ .locked) (hfirst : d.tmp.applied = none) :
    applyResponse d 2 hs = haltDevice { d with tmp := { d.tmp with applied := some 2 } } := by
  simp [applyResponse, hmode, hfirst]

end

/-! ## Sensors and clearing (R611, R617, R673) -/

section
variable {d : Device}

/-- The readings of one conversion. -/
def magRead4 (t : Tbl Nat) (a b c e : Nat) : Tbl Nat :=
  Tbl.setD (Tbl.setD (Tbl.setD (Tbl.setD t 0 0 a) 1 0 b) 2 0 c) 3 0 e

theorem magRead4_reads (t : Tbl Nat) (a b c e : Nat) : Tbl.getD (magRead4 t a b c e) 0 0 = a ∧
    Tbl.getD (magRead4 t a b c e) 1 0 = b ∧ Tbl.getD (magRead4 t a b c e) 2 0 = c ∧ Tbl.getD (magRead4 t a b c e) 3 0 = e := by
  unfold magRead4
  refine ⟨?_, ?_, ?_, Tbl.getD_setD ..⟩
  · rw [Tbl.getD_setD_ne _ _ _ _ _ _ (by decide), Tbl.getD_setD_ne _ _ _ _ _ _ (by decide),
      Tbl.getD_setD_ne _ _ _ _ _ _ (by decide), Tbl.getD_setD]
  · rw [Tbl.getD_setD_ne _ _ _ _ _ _ (by decide), Tbl.getD_setD_ne _ _ _ _ _ _ (by decide), Tbl.getD_setD]
  · rw [Tbl.getD_setD_ne _ _ _ _ _ _ (by decide), Tbl.getD_setD]

/-- Readings within the threshold are kept and raise nothing. -/
theorem magConversion_of_low {a b c e : Nat} (hfree : bit (magCfg d) 11 = false) (hmain : d.tmp.mainPower = true)
    (ha : a ≤ 10 * d.tmp.thresh) (hb : b ≤ 10 * d.tmp.thresh) (hc : c ≤ 10 * d.tmp.thresh) (he : e ≤ 10 * d.tmp.thresh) :
    ∃ start, magConversion d [a, b, c, e] = { d with tmp := { d.tmp with
      magStarted := false, magAt := start, magRead := magRead4 d.tmp.magRead a b c e } } := by
  have hself : magByUnit d = false := by simp [magByUnit, hfree]
  have hquiet : ∀ x : Device, tamperEvents x [] = x := fun x => by simp [tamperEvents, raiseAlarms]
  refine ⟨if d.tmp.magStarted then d.tmp.magAt else d.clock + 1, ?_⟩
  simp [magConversion, hself, hmain, Nat.not_lt.2 ha, Nat.not_lt.2 hb, Nat.not_lt.2 hc, Nat.not_lt.2 he, hquiet, magRead4]

theorem elapseTo_sources (d : Device) (t : Nat) : (elapseTo d t).tmp.sources = d.tmp.sources := by
  unfold elapseTo
  split <;> rfl

theorem elapseTo_sensors (d : Device) (t : Nat) : (elapseTo d t).tmp.sensors = d.tmp.sensors := by
  unfold elapseTo
  split <;> rfl

theorem source_congr {a b : Device} (h : a.tmp.sources = b.tmp.sources) (k : Nat) : source a k = source b k := by
  rw [source, source, h]

/-- A raised alarm whose last event lies W back clears: no other source, key or mode changes. -/
theorem clearAlarm_of_quiet {n t : Nat} {l : List Nat} (hraised : (source d n).raised = true)
    (hevents : (source d n).events = t :: l) (htime : t + windowTicks d n ≤ d.clock) :
    (source (clearAlarm d n) n).raised = false ∧ (∀ k, k ≠ n → source (clearAlarm d n) k = source d k) ∧
      (clearAlarm d n).clock = d.clock ∧ (clearAlarm d n).key = d.key ∧ (clearAlarm d n).glb = d.glb := by
  obtain ⟨p, z, hclear⟩ : ∃ p z, clearAlarm d n =
      { emit (setSource d n { source d n with raised := false }) .tamper 0x03 p with tmp :=
        { (emit (setSource d n { source d n with raised := false }) .tamper 0x03 p).tmp with zeroWait := z } } := by
    simp only [clearAlarm, hevents, hraised, htime, and_self, if_true]
    split
    · exact ⟨_, _, rfl⟩
    · exact ⟨_, _, rfl⟩
  have hsame := emit_same (setSource d n { source d n with raised := false }) .tamper 0x03 p
  have hsources : ∀ k, source (clearAlarm d n) k = source (setSource d n { source d n with raised := false }) k :=
    fun k => source_congr (by rw [hclear, hsame.tmp]) k
  refine ⟨?_, fun k hk => ?_, ?_, ?_, ?_⟩
  · rw [hsources, source_setSource]
  · rw [hsources, source_setSource_ne _ _ hk]
  · rw [hclear]; exact hsame.clock
  · rw [hclear]; exact hsame.key
  · rw [hclear]; exact hsame.glb

end

theorem exec_tamperEvent (l : List TamperHit) (s : State) : exec (.tamperEvent l) s = .next (s.having
    (tamperEvents ((hitsOf s.dev s.fuses l).foldl clockOff ((hitsOf s.dev s.fuses l).foldl setLoop s.dev))
      (hitsOf s.dev s.fuses l))) := rfl

theorem exec_shadowScan (l : List (Fin 1024)) (s : State) : exec (.shadowScan l) s = .next (s.having
    (l.foldl (fun d _ => tamperEvents d [{ src := 14, reading := 0, line := 0 }]) s.dev)) := rfl

theorem exec_watchdogExpiry (s : State) : exec .watchdogExpiry s = .next (s.having
    (if s.dev.tmp.mainPower then tamperEvents s.dev [{ src := 17, reading := 0, line := 0 }] else s.dev)) := rfl

theorem exec_magConversion (l : List (Fin 65536)) (s : State) :
    exec (.magConversion l) s = .next (s.having (magConversion s.dev (l.map Fin.val))) := rfl

theorem exec_alarmClear {n : Fin 18} {s : State} {t : Nat} {l : List Nat} (hraised : (source s.dev n).raised = true)
    (hevents : (source s.dev n).events = t :: l) :
    exec (.alarmClear n) s = .next (s.having (clearAlarm (elapseTo s.dev (t + windowTicks s.dev n)) n)) := by
  have hrow : exec (.alarmClear n) s = execAlarmClear n s := rfl
  rw [hrow, execAlarmClear, hraised, hevents]
  rfl

/-! ## One event of a source without others (R610-R618) -/

section
variable {s : State} {x : TamperHit}

/-- A source of the main domain leaves the loops as they are. -/
theorem setLoop_of_main {d : Device} {h : Hit} (hsrc : 5 < h.src) : setLoop d h = d := if_neg (by omega)

/-- The clock monitor's finding changes the clock's status bits alone, and no other source's does. -/
theorem clockOff_eq (d : Device) (h : Hit) : ∃ g, clockOff d h = { d with glb := g } ∧ g.mode = d.glb.mode ∧
    (h.src ≠ 9 → g = d.glb) := by
  unfold clockOff
  split
  · next h9 => exact ⟨_, rfl, rfl, fun hne => absurd h9 hne⟩
  · exact ⟨d.glb, rfl, rfl, fun _ => rfl⟩

theorem setLoop_eq (d : Device) (h : Hit) : ∃ l, setLoop d h = { d with tmp := { d.tmp with loops := l } } := by
  unfold setLoop
  split
  · exact ⟨_, rfl⟩
  · exact ⟨d.tmp.loops, rfl⟩

/-- An event of a fresh, armed source is its first; where the filter asks for one alone it raises the alarm. -/
theorem exec_tamperEvent_of_fresh (harmed : sourceArmed s.dev s.fuses x.source x.reading.toNat = true)
    (hfresh : source s.dev x.source = {}) : ∃ g l, g.mode = s.dev.glb.mode ∧ (x.source.val ≠ 9 → g = s.dev.glb) ∧
      (5 < x.source.val → l = s.dev.tmp.loops) ∧
      exec (.tamperEvent [x]) s = .next (s.having (if (sensor s.dev x.source).n ≤ 1
        then raiseAlarms (firstEvent { s.dev with glb := g, tmp := { s.dev.tmp with loops := l } } x.source) [hitOf x]
        else firstEvent { s.dev with glb := g, tmp := { s.dev.tmp with loops := l } } x.source)) := by
  obtain ⟨l, hloop⟩ := setLoop_eq s.dev (hitOf x)
  obtain ⟨g, hclock, hmode, hglb⟩ := clockOff_eq (setLoop s.dev (hitOf x)) (hitOf x)
  rw [hloop] at hclock hmode hglb
  refine ⟨g, l, hmode, hglb, fun hmain => ?_, ?_⟩
  · have hkept := (congrArg (fun d : Device => d.tmp.loops) hloop).symm
    rwa [setLoop_of_main (d := s.dev) (h := hitOf x) hmain] at hkept
  · rw [exec_tamperEvent, hitsOf_single harmed, List.foldl_cons, List.foldl_nil, List.foldl_cons, List.foldl_nil, hloop, hclock]
    exact congrArg (fun d => Host.Outcome.next (s.having d)) (tamperEvents_of_fresh
      (d := { s.dev with glb := g, tmp := { s.dev.tmp with loops := l } }) (h := hitOf x) hfresh)

theorem mainPower_of_armed {d : Device} {f : Fuses} {n r : Nat} (hn : 5 < n) (harmed : sourceArmed d f n r = true) :
    d.tmp.mainPower = true := by
  have hbatt : battSource n = false := by simp [battSource]; omega
  simp only [sourceArmed, hbatt, Bool.false_or, Bool.and_eq_true] at harmed
  exact harmed.1.1.1.1.1

end

/-- Settles O33: a first event by its source's filter, an alarm by its response, and the rows of the monitors. -/
theorem eventsFilterIntoAlarms : Obligations.EventsFilterIntoAlarms := by
  refine ⟨?event, ?shadow, ?watchdog, ?sensors, ?clear⟩
  case event =>
    intro s x hsrc harmed hfresh
    obtain ⟨g, l, hmode, hglb, hloops, hexec⟩ := exec_tamperEvent_of_fresh harmed hfresh
    obtain rfl := hloops hsrc
    have hmain := mainPower_of_armed hsrc harmed
    have hbatt : battSource x.source.val = false := by simp [battSource]; omega
    have hsource : ∀ e : Device, e.tmp.sources = (firstEvent { s.dev with glb := g } x.source).tmp.sources →
        source e x.source = { events := [s.dev.clock], raised := decide ((sensor s.dev x.source).n ≤ 1)
                              raisedAt := if (sensor s.dev x.source).n ≤ 1 then s.dev.clock else 0 } :=
      fun e he => (source_congr he _).trans (source_setSource ..)
    rw [hexec]
    obtain ⟨e, hraise, hrecord⟩ := raiseAlarms_single (d := firstEvent { s.dev with glb := g } x.source) (h := hitOf x) hmain
    have hwork := hrecord hbatt
    refine ⟨fun hmany => ?below, fun hone heff => ?raised, fun hone heff hlocked hfirst => ?halt⟩
    case below =>
      rw [if_neg (by omega)]
      refine ⟨_, rfl, ?_, ?_, hglb, ?_, counter_count ..⟩
      · rw [hsource _ rfl]
      · rw [hsource _ rfl]
        exact decide_eq_false (by omega)
      · constructor <;> rfl
    case raised =>
      rw [if_pos hone]
      have heff' : effective (firstEvent { s.dev with glb := g } x.source) (hitOf x).src = 0 := heff
      rw [heff'] at hraise
      obtain ⟨t, happly, hsources⟩ := applyResponse_of_none (d := e) (hs := [hitOf x])
      refine ⟨_, rfl, ?_⟩
      have hkept : source { e with tmp := t } x.source = _ := hsource _ (hsources.trans (congrArg Tmp.sources hwork.tmp))
      rw [show raiseAlarms _ _ = _ from hraise.trans happly, hkept]
      refine ⟨decide_eq_true hone, if_pos hone, fun h9 => hwork.glb.trans (hglb h9), ?_⟩
      exact { hwork with tmp := rfl, glb := rfl }
    case halt =>
      rw [if_pos hone]
      have heff' : effective (firstEvent { s.dev with glb := g } x.source) (hitOf x).src = 2 := heff
      have hmode' : e.glb.mode = s.dev.glb.mode := (congrArg Glb.mode hwork.glb).trans hmode
      have hfirst' : e.tmp.applied = none := (congrArg Tmp.applied hwork.tmp).trans hfirst
      rw [heff', applyResponse_of_halt (hmode'.symm ▸ hlocked) hfirst'] at hraise
      obtain ⟨htmp, hglb', hslots, hjobs⟩ := haltDevice_halts { e with tmp := { e.tmp with applied := some 2 } }
      refine ⟨_, rfl, ?_⟩
      rw [show raiseAlarms _ _ = _ from hraise]
      generalize haltDevice _ = r at *
      have hsources : e.tmp.sources = _ := congrArg Tmp.sources hwork.tmp
      have hkept : source r x.source = _ := hsource r ((congrArg Tmp.sources htmp).trans hsources)
      rw [hkept, htmp]
      refine ⟨decide_eq_true hone, rfl, rfl, rfl, hjobs, ?_, (congrArg Glb.mode hglb').trans hmode'⟩
      exact hslots.trans (.of_eq (congrArg Keys.slots hwork.key))
  case shadow => exact fun i s => exec_shadowScan [i] s
  case watchdog =>
    intro s hmain
    rw [exec_watchdogExpiry, if_pos hmain]
  case sensors =>
    intro a b c e4 s hfree hmain ha hb hc he
    obtain ⟨start, hconvert⟩ := magConversion_of_low hfree hmain ha hb hc he
    refine ⟨_, (exec_magConversion ..).trans (congrArg (fun d => Host.Outcome.next (s.having d)) hconvert), ?_⟩
    obtain ⟨h0, h1, h2, h3⟩ := magRead4_reads s.dev.tmp.magRead a b c e4
    exact ⟨h0, h1, h2, h3, rfl⟩
  case clear =>
    intro n s t l hraised hevents
    have hsource := source_congr (elapseTo_sources s.dev (t + windowTicks s.dev n))
    have hwindow : windowTicks (elapseTo s.dev (t + windowTicks s.dev n)) n = windowTicks s.dev n := by
      rw [windowTicks, sensor, elapseTo_sensors]
      rfl
    obtain ⟨hdown, hothers, hclock, hkey, hglb⟩ := clearAlarm_of_quiet
      (d := elapseTo s.dev (t + windowTicks s.dev n)) (n := n) (t := t) (l := l)
      (by rw [hsource, hraised]) (by rw [hsource, hevents]) (by rw [hwindow, elapseTo_clock]; exact Nat.le_max_right ..)
    exact ⟨_, exec_alarmClear hraised hevents, hdown, fun k hk => (hothers k hk).trans (hsource k),
      hclock.trans (elapseTo_clock ..), hkey.trans (elapseTo_key ..), hglb.trans (elapseTo_glb ..)⟩

end Sys2Proof.Machine

/-!
PROOF. ZEROISE: O34 (what Table 14-3 erases stays erased to the end of the response).
-/
namespace Sys2Proof.Machine

/-- What ZEROISE leaves: LOCKED and SOLO, the tamper latch set, and none of the secrets of Table 14-3. -/
structure Zeroised (d : Device) : Prop where
  locked : d.glb.mode = .locked
  solo : d.duet.role = .solo
  bbk : d.tmp.batt.bbk = none
  latch : d.tmp.batt.latch = true
  grant : d.tmp.batt.grant = false
  tree : d.key.tree = none
  slots : d.key.slots = []
  records : d.key.records = []
  sas : d.ms.sas = []
  memKey : d.mem.memKey = none
  linkKey : d.duet.linkKey = none
  pairKey : d.duet.pairKey = none
  identity : d.tmp.identity = false

/-- A report that leaves the Duet leaves what is erased. -/
theorem Zeroised.of_work {a b : Device} (h : Zeroised b) (hwork : SameWork a b) (hduet : a.duet = b.duet) : Zeroised a where
  locked := hwork.glb ▸ h.locked
  solo := hduet ▸ h.solo
  bbk := hwork.tmp ▸ h.bbk
  latch := hwork.tmp ▸ h.latch
  grant := hwork.tmp ▸ h.grant
  tree := hwork.key ▸ h.tree
  slots := hwork.key ▸ h.slots
  records := hwork.key ▸ h.records
  sas := hwork.ms ▸ h.sas
  memKey := hwork.mem ▸ h.memKey
  linkKey := hduet ▸ h.linkKey
  pairKey := hduet ▸ h.pairKey
  identity := hwork.tmp ▸ h.identity

theorem finish_duet (d : Device) (o : Origin) (st : Status) (res : Bytes) : (finish d o st res).duet = d.duet :=
  (post_duet ..).trans rfl

theorem zeroDone_same (d : Device) (o : Origin) : SameWork (zeroDone d o) d := by
  unfold zeroDone
  split
  · exact finish_same ..
  · exact dropInflight_same ..

theorem zeroDone_duet (d : Device) (o : Origin) : (zeroDone d o).duet = d.duet := by
  unfold zeroDone
  split
  · exact finish_duet ..
  · rfl

section
variable {d : Device}

theorem Zeroised.done (h : Zeroised d) (o : Origin) : Zeroised (zeroDone d o) :=
  h.of_work (zeroDone_same ..) (zeroDone_duet ..)

theorem Zeroised.allDone {α : Type} (f : α → Origin) (l : List α) (h : Zeroised d) :
    Zeroised (l.foldl (fun d a => zeroDone d (f a)) d) := by
  induction l generalizing d with
  | nil => exact h
  | cons a l ih => exact ih (h.done (f a))

/-! ## The requests that end (R469, R510, R628) -/

theorem zeroKeyWaits_eq (d : Device) : ∃ (l : List MirrorWait) (w : List MirrorWait), zeroKeyWaits d =
    l.foldl (fun d w => zeroDone d w.due.origin) { d with duet := { d.duet with waits := w } } := ⟨_, _, rfl⟩

theorem Zeroised.keyWaits (h : Zeroised d) : Zeroised (zeroKeyWaits d) := by
  obtain ⟨l, w, heq⟩ := zeroKeyWaits_eq d
  rw [heq]
  exact Zeroised.allDone _ l { h with }

theorem Zeroised.releaseSlot (h : Zeroised d) (j : Job) : Zeroised (releaseSlot d j) := by
  unfold Machine.releaseSlot
  split
  · next i _ =>
    have hempty : slot d i = {} := by rw [slot, h.slots]; rfl
    have hslots : (setSlot d i { slot d i with reserved := false }).key.slots = [] := by
      rw [hempty, setSlot, h.slots]
      rfl
    exact { h with slots := hslots }
  · exact h

theorem Zeroised.released (l : List Job) (h : Zeroised d) : Zeroised (jobsReleased d l) := by
  induction l generalizing d with
  | nil => exact h
  | cons j l ih => exact ih { h.releaseSlot j with }

/-- A pairing in progress ends. -/
def zeroPairing (d : Device) : Device :=
  match d.duet.pairing with
  | some p => zeroDone { d with duet := { d.duet with pairing := none } } p.origin
  | none => d

/-- A warm restart in progress ends. -/
def zeroRestart (d : Device) : Device :=
  match d.boot.restart with
  | some x => zeroDone { d with boot := { d.boot with restart := none } } x.origin
  | none => d

theorem Zeroised.pairing (h : Zeroised d) : Zeroised (zeroPairing d) := by
  unfold zeroPairing
  split
  · have hended : Zeroised { d with duet := { d.duet with pairing := none } } := { h with }
    exact hended.done _
  · exact h

theorem Zeroised.restart (h : Zeroised d) : Zeroised (zeroRestart d) := by
  unfold zeroRestart
  split
  · have hended : Zeroised { d with boot := { d.boot with restart := none } } := { h with }
    exact hended.done _
  · exact h

theorem zeroPairing_svc (d : Device) : (zeroPairing d).svc = d.svc := by
  unfold zeroPairing
  split
  · exact (zeroDone_same ..).svc
  · rfl

theorem zeroRestart_svc (d : Device) : (zeroRestart d).svc = d.svc := by
  unfold zeroRestart
  split
  · exact (zeroDone_same ..).svc
  · rfl

/-- The accepted jobs end, each with its completion where the host is there. -/
def zeroAccepted (d : Device) : Device :=
  (allJobs d).foldl (fun d j => zeroDone d j.origin) (removeJobs d (fun _ => true))

theorem zeroJobs_eq (d : Device) :
    zeroJobs d = zeroRestart (zeroPairing (abortOthers (zeroAccepted (zeroKeyWaits d)) zeroDone)) := by
  simp only [zeroJobs, zeroAccepted]
  generalize abortOthers _ zeroDone = e
  rfl

theorem Zeroised.accepted (h : Zeroised d) : Zeroised (zeroAccepted d) := by
  have hidle : Zeroised (idle (jobsReleased d (allJobs d))) := { h.released (allJobs d) with }
  rw [zeroAccepted, removeJobs_all]
  exact hidle.allDone Job.origin (allJobs d)

theorem Zeroised.others (h : Zeroised d) : Zeroised (abortOthers d zeroDone) :=
  have hgone : Zeroised (othersGone d) := { h with }
  hgone.allDone id _

theorem Zeroised.jobs (h : Zeroised d) : Zeroised (zeroJobs d) := by
  rw [zeroJobs_eq]
  exact h.keyWaits.accepted.others.pairing.restart

/-- No job is left once every accepted one has ended. -/
theorem zeroJobs_none (d : Device) : allJobs (zeroJobs d) = [] := by
  have hothers := abortOthers_same (zeroAccepted (zeroKeyWaits d)) zeroDone_same
  have haccepted : (zeroAccepted (zeroKeyWaits d)).svc = (idle (jobsReleased (zeroKeyWaits d) (allJobs (zeroKeyWaits d)))).svc := by
    rw [zeroAccepted, removeJobs_all]
    exact (foldl_same _ _ (fun _ _ => zeroDone_same ..) _).svc
  rw [zeroJobs_eq]
  exact idle_jobs ((zeroRestart_svc ..).trans ((zeroPairing_svc ..).trans (hothers.svc.trans haccepted)))

/-! ## The response (R620, Table 14-3) -/

theorem Zeroised.portsOff (h : Zeroised d) : Zeroised (portsOff d) := { h with }

/-- The stores of Table 14-3 are erased on a device that is LOCKED and SOLO. -/
theorem zeroised_eraseSecrets (hlocked : d.glb.mode = .locked) (hsolo : d.duet.role = .solo) : Zeroised (eraseSecrets d) where
  locked := hlocked
  solo := hsolo
  bbk := rfl
  latch := rfl
  grant := rfl
  tree := rfl
  slots := rfl
  records := rfl
  sas := rfl
  memKey := rfl
  linkKey := rfl
  pairKey := rfl
  identity := rfl

/-- The device as ZEROISE has locked it and stopped its traffic. -/
def lockedDown (d : Device) : Device :=
  stopTraffic { setRole (assertAlarm (declareFault d 0)) .solo with
    glb := { (setRole (assertAlarm (declareFault d 0)) .solo).glb with mode := .locked } }

theorem lockedDown_locked (d : Device) : (lockedDown d).glb.mode = .locked ∧ (lockedDown d).duet.role = .solo := by
  unfold lockedDown
  generalize assertAlarm (declareFault d 0) = e
  have hstop := stopTraffic_unmoved { setRole e .solo with glb := { (setRole e .solo).glb with mode := .locked } }
  exact ⟨congrArg (fun x : Unmoved => x.glb.mode) hstop, congrArg Unmoved.role hstop⟩

theorem zeroise_eq (d : Device) (s : Nat) : ∃ p z, zeroise d s =
    emit (count { zeroJobs (portsOff (eraseSecrets (lockedDown d))) with tmp :=
      { (zeroJobs (portsOff (eraseSecrets (lockedDown d)))).tmp with zeroWait := z } } (devCtr 55)) .tamper 0x02 p := by
  simp only [zeroise, lockedDown]
  generalize zeroJobs _ = e
  exact ⟨_, _, rfl⟩

theorem zeroise_zeroises (d : Device) (s : Nat) : Zeroised (zeroise d s) ∧ allJobs (zeroise d s) = [] := by
  obtain ⟨p, z, heq⟩ := zeroise_eq d s
  obtain ⟨hlocked, hsolo⟩ := lockedDown_locked d
  have hjobs := (zeroised_eraseSecrets hlocked hsolo).portsOff.jobs
  have hnone := zeroJobs_none (portsOff (eraseSecrets (lockedDown d)))
  rw [heq]
  generalize zeroJobs (portsOff (eraseSecrets (lockedDown d))) = e at *
  have hwait : Zeroised (count { e with tmp := { e.tmp with zeroWait := z } } (devCtr 55)) := { hjobs with }
  refine ⟨hwait.of_work (emit_same ..) (emit_duet ..), ?_⟩
  rw [allJobs, (emit_same ..).svc]
  exact hnone

theorem applyResponse_of_zeroise (d : Device) (hs : List Hit) : ∃ e s, applyResponse d 3 hs = zeroise e s := by
  simp only [applyResponse, if_true]
  exact ⟨_, _, rfl⟩

end

/-- Settles O34: the event raises its alarm, the alarm calls for ZEROISE, and `zeroise_zeroises` says what that leaves. -/
theorem zeroiseErasesSecrets : Obligations.ZeroiseErasesSecrets := by
  intro s x harmed hmain hfresh hone heff
  obtain ⟨g, l, _, _, _, hexec⟩ := exec_tamperEvent_of_fresh harmed hfresh
  obtain ⟨e, hraise, _⟩ := raiseAlarms_single
    (d := firstEvent { s.dev with glb := g, tmp := { s.dev.tmp with loops := l } } x.source) (h := hitOf x) hmain
  have heff' : effective (firstEvent { s.dev with glb := g, tmp := { s.dev.tmp with loops := l } } x.source) (hitOf x).src = 3 := heff
  rw [heff'] at hraise
  obtain ⟨e', n, hzeroise⟩ := applyResponse_of_zeroise e [hitOf x]
  rw [if_pos hone, hraise, hzeroise] at hexec
  obtain ⟨h, hnone⟩ := zeroise_zeroises e' n
  exact ⟨_, hexec, h.locked, h.solo, h.bbk, h.latch, h.grant, h.tree, h.slots, h.records, h.sas, h.memKey, h.linkKey,
    h.pairKey, h.identity, hnone⟩

end Sys2Proof.Machine

/-!
PROOF. Enrolment and supplements: O28, refuted by the longest host buffer that a command may name.
-/
namespace Sys2Proof.Machine

/-! ## O28: a supplement beyond the longest host buffer (R76, R692) -/

/-- The bytes that a host gives read the same once the buffer is filled up. -/
theorem slice_fit {buf : Bytes} {n lo k : Nat} (hlen : lo + k ≤ buf.length) (hn : buf.length ≤ n) :
    slice (fit n buf) lo k = slice buf lo k := by
  have hfit : fit n buf = buf ++ zeros (n - buf.length) := by
    rw [fit, List.take_append, List.take_of_length_le hn, zeros, List.take_replicate, Nat.min_eq_left (Nat.sub_le ..)]
    rfl
  have hin : k ≤ (buf.drop lo).length := by rw [List.length_drop]; omega
  rw [slice, slice, hfit, List.drop_append_of_le_length (by omega), fit, fit, List.append_assoc,
    List.take_append_of_le_length hin, List.take_append_of_le_length hin]

/-- A SUPPLEMENT_INSTALL of slot 0 whose host buffer has 16,777,217 bytes. -/
def longInstall : Fetched :=
  { order := 0, desc := fit 64 (leBytes 2 0x0022 ++ zeros 2 ++ leBytes 4 7 ++ leBytes 8 0x1000 ++ leBytes 4 16777217) }

/-- LENGTH of the image says the same. -/
def longHeader : Bytes := zeros 8 ++ leBytes 4 16777217

/-- A started device in mode PROVISION with its command ring 0 mapped to an enabled completion ring. -/
def longDevice : Device :=
  { glb := { mode := .provision }
    boot := { ended := true, suppSlot := 1 }
    hif := { cmd := [(0, { fetched := [longInstall] })] }
    regs := [(cqCfgOff 0, 6#32), (cqCtrlOff 0, 0x80000000#32)] }

theorem longDevice_runs : Runs longDevice 0 0x0022 anyRight suppOwn longInstall [] where
  front := by decide
  opcode := by decide
  free := by decide
  checks := by decide

theorem suppBody_of_long {f : Fuses} {o : Origin} {desc buf : Bytes} {d : Device} (hlong : maxBuf < o.bufLen) :
    suppBody f o desc buf d = failAt d .lengthError 16 := by
  simp only [suppBody, if_pos (Or.inr (a := o.bufLen ≠ leField buf 8 4) hlong)]

/-- STATUS of the newest completion that the device has written. -/
def lastStatus (d : Device) : Option Byte :=
  d.out.findSome? fun o => match o with
    | .hostWrite _ _ b => some (byteAt b 4)
    | _ => none

/-- STATUS of the command as the model ends it, and as the clause says. -/
theorem longInstall_statuses :
    lastStatus (failed (taken longDevice 0 []) (originOf longDevice 0 longInstall) .lengthError (fit 16 (leBytes 2 16))) = some 0x40#8 ∧
    lastStatus (failed (taken longDevice 0 []) (originOf longDevice 0 longInstall) .badField (leBytes 2 8 ++ leBytes 1 1)) =
      some 0x11#8 := by decide

/-- An image without the mark TSUP is refused for its shape. -/
theorem suppReason_of_noMark {f : Fuses} {part : Part} {img : Bytes} (h : (slice img 0 4 == [0x54#8, 0x53#8, 0x55#8, 0x50#8]) = false) :
    suppReason f part img = some 1 := by
  simp only [suppReason, suppShapeOk, h, Bool.false_and, Bool.not_false, if_true]

theorem exec_supplementInstall (r : Fin 64) (buf : Bytes) (s : State) : exec (.supplementInstall r buf) s =
    .next (s.having (runCommand 0x0022 r anyRight suppOwn (suppBody s.fuses) buf s.dev)) := rfl

/-- Refutes O28: the clause on SUPPLEMENT_INSTALL lacks the premise that BUF_LEN is at most 16 MiB (R76). An install of
16,777,217 bytes whose LENGTH field says the same answers LENGTH_ERROR, and is neither accepted nor refused for its image. -/
theorem not_enrolmentAndSupplements : ¬ Obligations.EnrolmentAndSupplements := by
  rintro ⟨-, -, -, hinstall, -⟩
  have hlong : maxBuf < (originOf longDevice 0 longInstall).bufLen := by decide
  have hn : longHeader.length ≤ (originOf longDevice 0 longInstall).bufLen := Nat.le_trans (by decide) (Nat.le_of_lt hlong)
  have hlen : (originOf longDevice 0 longInstall).bufLen = leField (fit (originOf longDevice 0 longInstall).bufLen longHeader) 8 4 := by
    rw [leField, slice_fit (by decide) hn]
    decide
  have hreason : suppReason Fuses.fresh longDevice.glb.part (fit (originOf longDevice 0 longInstall).bufLen longHeader) = some 1 :=
    suppReason_of_noMark (by rw [slice_fit (by decide) hn]; decide)
  have hrevoke : ∀ k, leField longInstall.desc 22 1 / 2 ^ k % 2 = 0 := fun k => by
    rw [show leField longInstall.desc 22 1 = 0 by decide, Nat.zero_div]
  have hrun : exec (.supplementInstall 0 longHeader) (State.reset.having longDevice) = .next ((State.reset.having longDevice).having
      (failed (taken longDevice 0 []) (originOf longDevice 0 longInstall) .lengthError (fit 16 (leBytes 2 16)))) :=
    (exec_supplementInstall ..).trans (congrArg (fun d => Host.Outcome.next ((State.reset.having longDevice).having d))
      (runCommand_fail longDevice_runs (suppBody_of_long hlong)))
  have hclause := hrun.symm.trans (hinstall 0 (State.reset.having longDevice) longInstall [] longHeader _ _ _ longDevice_runs rfl
    rfl hlen (by decide) (hrevoke _) rfl rfl)
  have hdev := dev_of_next hclause
  simp only [State.having, State.reset, Fin.val_zero, hreason, Option.some_ne_none, if_false, Option.getD_some] at hdev
  obtain ⟨hmodel, hstated⟩ := longInstall_statuses
  have hstatus := hmodel.symm.trans ((congrArg lastStatus hdev).trans hstated)
  exact absurd hstatus (by decide)

end Sys2Proof.Machine

/-!
PROOF. The arbiter: O36, refuted at the end of HOLD by an SA number beyond the last.
-/
namespace Sys2Proof.Machine

set_option maxRecDepth 20000

/-- An association on port 0 without its own superframes so far. -/
def farAssoc : Assoc :=
  { port := 0, slot := 0, txOn := true, rxOn := true, nFail := 3, mGood := 2, peer := 0, txStart := 0, rxHi := 0, salt := []
    sfn := 0 }

/-- SecY 5 of port 0. -/
def farSecY : SecY :=
  { port := 0, suite := 0, protect := true, tagMode := 0, conf := 0, validate := 0, replay := false, implicitRx := false
    cls := 0, clearTags := 0, window := 0, txVlan := 0 }

/-- A sealed device of mode LINK in HOLD, whose port 0 passes the checks of the fixed-latency class. A set of its context cache
holds a seventeenth context, changed since it was written: that of SA 0x58000, whose PN line 0xB0001 would be a line of the key
records of association 0, and lies in a group at its last major (R537). -/
def farDevice : Device :=
  { glb := { mode := .link, sealed := true }
    boot := { profile := { mode := .link, groups := [1, 0, 0, 0, 0, 0, 0, 0]
                           ports := [(0, { firstLane := 0, lanes := 1, type := 1, line := true, partner := 1, flags := 0 }),
                                     (1, { firstLane := 1, lanes := 1, type := 1, line := false, partner := 0, flags := 0 })] } }
    pwr := { holding := true }
    regs := [(0x140300, 0x80000005#32), (0x140304, 0x00000005#32)]
    ms := { secys := [(5, farSecY)], sas := [(0x58000, { suite := 0, salt := [], ssci := 0#32, pn := 0, dirty := true })] }
    prs := { cache := [(0, List.range 16 ++ [0x58000])] }
    kn := { assocs := [(0, farAssoc)] }
    key := { records := [(196608, { present := true })] }
    mem := { groups := [(0xB0001 / 64, { major := 2 ^ 56 - 1, minors := [(1, 127)] })] } }

theorem exec_holdExit (val : W32) (s : State) : exec (.holdExit val) s = .next (s.having (writePwrCfg s.dev val)) := rfl

/-- The end of HOLD pins the class's contexts; the seventeenth is written back, its group freezes, and association 0 goes out of
service with its key records. -/
theorem farDevice_erases :
    (keyRec farDevice 196608).present = true ∧ (keyRec (writePwrCfg farDevice 0#32) 196608).present = false := by decide

/-- Refutes O36: the clause that the end of HOLD keeps the key store holds for the SA numbers of R123 alone, and it has no such
premise. A changed context of an SA beyond 2^18 that the checks of GLB_SEAL evict has its PN line among the key records of an
association; where that line's group freezes (R537) the association's records are erased. -/
theorem not_arbiterKeepsBudget : ¬ Obligations.ArbiterKeepsBudget := by
  rintro ⟨-, -, -, -, -, -, hexit, -⟩
  obtain ⟨e, hexec, -, -, hkey⟩ := hexit 0#32 (State.reset.having farDevice) (by decide) rfl
  rw [exec_holdExit] at hexec
  obtain rfl := dev_of_next hexec
  obtain ⟨hpresent, hgone⟩ := farDevice_erases
  have hsame : keyRec (writePwrCfg farDevice 0#32) 196608 = keyRec farDevice 196608 := by
    rw [keyRec, keyRec]
    exact congrArg (fun k : Keys => Tbl.getD k.records 196608 {}) hkey
  rw [hsame, hpresent] at hgone
  exact absurd hgone (by decide)

end Sys2Proof.Machine

/-!
PROOF. Lane maintenance: O52 (equalisation, loopbacks, PRBS and margin scans).
-/
namespace Sys2Proof.Machine

/-! ## Fields of a word -/

/-- Two words agree in a field where they agree bit by bit. -/
theorem bits_congr {a b : W32} {hi lo : Nat} (h : ∀ k, lo ≤ k → k ≤ hi → bit a k = bit b k) : bits a hi lo = bits b hi lo := by
  refine Nat.eq_of_testBit_eq fun j => ?_
  rw [testBit_bits, testBit_bits]
  by_cases hj : j < hi + 1 - lo
  · rw [h (lo + j) (by omega) (by omega)]
  · simp [hj]

theorem bits_lt (w : W32) (hi lo : Nat) : bits w hi lo < 2 ^ (hi + 1 - lo) := Nat.mod_lt _ (Nat.two_pow_pos _)

/-! ## The transmit taps (R733) -/

/-- Fitting the taps lowers MAIN alone. -/
theorem bit_fitTaps (w : W32) {k : Nat} (hk : k < 32) (hmain : k < 8 ∨ 13 < k) : bit (fitTaps w) k = bit w k := by
  have hmask : bit (mask 13 8) k = false := by
    rw [show mask 13 8 = place 13 8 63 by decide, bit_place hk]
    simp only [show ¬(8 ≤ k ∧ k ≤ 13) by omega, decide_false, Bool.false_and]
  rw [fitTaps]
  split
  · rw [bit_or, bit_and, bit_not _ hk, hmask, bit_place hk]
    simp only [show ¬(8 ≤ k ∧ k ≤ 13) by omega, decide_false, Bool.false_and, Bool.not_false, Bool.and_true, Bool.or_false]
  · rfl

theorem bits_or_place (w : W32) {v : Nat} (hv : v < 64) : bits ((w &&& ~~~(mask 13 8)) ||| place 13 8 v) 13 8 = v := by
  refine Nat.eq_of_testBit_eq fun j => ?_
  rw [testBit_bits]
  by_cases hj : j < 6
  · have hk : 8 + j < 32 := by omega
    have hmask : bit (mask 13 8) (8 + j) = true := by
      rw [show mask 13 8 = place 13 8 63 by decide, bit_place hk, show (63 : Nat) = 2 ^ 6 - 1 by decide,
        Nat.testBit_two_pow_sub_one]
      simp; omega
    rw [bit_or, bit_and, bit_not _ hk, hmask, bit_place hk]
    simp [hj]; omega
  · have hpow : 2 ^ 6 ≤ 2 ^ j := Nat.pow_le_pow_right (by decide) (by omega)
    have hhigh : v.testBit j = false := Nat.testBit_lt_two_pow (Nat.lt_of_lt_of_le hv hpow)
    simp [hhigh, hj]

/-- The taps that a lane uses sum to 63 at most. -/
theorem fitTaps_sum (w : W32) :
    bits (fitTaps w) 3 0 + max 16 (bits (fitTaps w) 13 8) + min 31 (bits (fitTaps w) 21 16) ≤ 63 := by
  have hpre : bits (fitTaps w) 3 0 = bits w 3 0 := bits_congr fun k _ hk => bit_fitTaps w (by omega) (by omega)
  have hpost : bits (fitTaps w) 21 16 = bits w 21 16 := bits_congr fun k _ hk => bit_fitTaps w (by omega) (by omega)
  have hlt : bits w 3 0 < 16 := bits_lt w 3 0
  rw [hpre, hpost]
  by_cases h : bits w 3 0 + max 16 (bits w 13 8) + min 31 (bits w 21 16) > 63
  · have hfit : bits (fitTaps w) 13 8 = 63 - bits w 3 0 - min 31 (bits w 21 16) := by
      rw [fitTaps]
      simp only [if_pos h]
      exact bits_or_place w (by omega)
    omega
  · have hsame : fitTaps w = w := by
      rw [fitTaps]
      simp only [h, if_false]
    rw [hsame]
    omega

/-! ## The equalisation registers -/

/-- A plain write to a register of the table stores each bit that is RW. -/
theorem bit_plainWrite {d : Device} {off : Nat} {i : RegInfo} (hf : fusedOff d.glb.part off = false) (hi : i ∈ regTable)
    (hholds : i.holds off = true) (val : W32) {k : Nat} (hk : k < 32) (hrw : bit i.rw k = true) (hw1c : i.w1c = 0#32) :
    bit (reg (plainWrite d off val) off) k = bit val k := by
  rw [plainWrite_of_regInfo hf (regInfo?_of_holds hi hholds), reg_setReg, bit_written _ _ _ _ hk, hrw, hw1c]
  simp [bit]

/-- The registers of the general lanes and those of the duet-link lanes are two rows of the table. -/
theorem laneBase_cases (lane : Fin 133) :
    (∃ n < 128, laneBase lane = 0x40000 + 0x400 * n) ∨ (∃ n < 5, laneBase lane = 0x60000 + 0x400 * n) := by
  by_cases h : lane.val < 128
  · exact .inl ⟨lane, h, if_pos h⟩
  · exact .inr ⟨lane - 128, by omega, if_neg h⟩

theorem bit_plainWrite_txeq {d : Device} (lane : Fin 133) (hf : fusedOff d.glb.part (laneBase lane + 4) = false) (val : W32)
    {k : Nat} (hk : k < 32) (hmask : bit (mask 21 16 ||| mask 13 8 ||| mask 3 0) k = true) :
    bit (reg (plainWrite d (laneBase lane + 4) val) (laneBase lane + 4)) k = bit val k := by
  obtain ⟨n, hn, hbase⟩ | ⟨n, hn, hbase⟩ := laneBase_cases lane
  · refine bit_plainWrite hf (i := regN 0x40004 0x400 128 (mask 21 16 ||| mask 13 8 ||| mask 3 0) 0 0 0x3F00#32) (by decide) ?_
      val hk hmask rfl
    rw [hbase, Nat.add_right_comm]
    exact RegInfo.holds_elem (by decide) hn
  · refine bit_plainWrite hf (i := regN 0x60004 0x400 5 (mask 21 16 ||| mask 13 8 ||| mask 3 0) 0 0 0x3F00#32) (by decide) ?_
      val hk hmask rfl
    rw [hbase, Nat.add_right_comm]
    exact RegInfo.holds_elem (by decide) hn

theorem bit_plainWrite_ctle {d : Device} (lane : Fin 133) (hf : fusedOff d.glb.part (laneBase lane + 8) = false) (val : W32)
    {k : Nat} (hk : k = 31 ∨ k < 4) :
    bit (reg (plainWrite d (laneBase lane + 8) val) (laneBase lane + 8)) k = bit val k := by
  have hmasks : bit (mask 31 30 ||| mask 3 0) k = true ∧ bit (mask 31 31 ||| mask 3 0) k = true := by
    obtain rfl | rfl | rfl | rfl | rfl : k = 31 ∨ k = 0 ∨ k = 1 ∨ k = 2 ∨ k = 3 := by omega
    all_goals decide
  obtain ⟨hgeneral, hduet⟩ := hmasks
  obtain ⟨n, hn, hbase⟩ | ⟨n, hn, hbase⟩ := laneBase_cases lane
  · refine bit_plainWrite hf (i := regN 0x40008 0x400 128 (mask 31 30 ||| mask 3 0) 0 0 0xC0000008#32) (by decide) ?_ val
      (by omega) hgeneral rfl
    rw [hbase, Nat.add_right_comm]
    exact RegInfo.holds_elem (by decide) hn
  · refine bit_plainWrite hf (i := regN 0x60008 0x400 5 (mask 31 31 ||| mask 3 0) 0 0 0x80000008#32) (by decide) ?_ val
      (by omega) hduet rfl
    rw [hbase, Nat.add_right_comm]
    exact RegInfo.holds_elem (by decide) hn

theorem exec_laneEqWrite_txeq (lane : Fin 133) (val : W32) (s : State) :
    exec (.laneEqWrite lane false val) s = .next (s.having (writeTxeq s.dev lane val)) := rfl

theorem exec_laneEqWrite_ctle (lane : Fin 133) (val : W32) (s : State) :
    exec (.laneEqWrite lane true val) s = .next (s.having (writeCtle s.dev lane val)) := rfl

theorem writeTxeq_fused {d : Device} {n : Nat} (val : W32) (h : fusedOff d.glb.part (laneBase n + 4) = true) :
    writeTxeq d n val = d := by
  simp [writeTxeq, h]

theorem writeTxeq_free {d : Device} {n : Nat} (val : W32) (howned : (laneOf d n).ltOwned = false)
    (hf : fusedOff d.glb.part (laneBase n + 4) = false) :
    writeTxeq d n val = setReg (plainWrite d (laneBase n + 4) val) (laneBase n + 4)
      (fitTaps (reg (plainWrite d (laneBase n + 4) val) (laneBase n + 4))) := by
  simp [writeTxeq, howned, hf]

theorem writeCtle_byHand {d : Device} {n : Nat} {val : W32}
    (hbit : bit (reg (plainWrite d (laneBase n + 8) val) (laneBase n + 8)) 31 = false)
    (hcdr : (laneOf (plainWrite d (laneBase n + 8) val) n).cdr = true) :
    writeCtle d n val = setLane (plainWrite d (laneBase n + 8) val) n
      { laneOf (plainWrite d (laneBase n + 8) val) n with peakUsed := bits val 3 0 } := by
  simp [writeCtle, hbit, hcdr]

/-! ## Maintenance commands (R742-R744) -/

theorem laneOf_setLane_ne (d : Device) {n k : Nat} (x : Lane) (h : k ≠ n) : laneOf (setLane d n x) k = laneOf d k :=
  Tbl.getD_setD_ne _ _ _ _ _ _ h

theorem laneOf_congr {a b : Device} (h : a.lane = b.lane) (n : Nat) : laneOf a n = laneOf b n := by rw [laneOf, laneOf, h]

/-- A loopback other than that of the PCS covers its lane alone. -/
theorem loopLanes_own {d : Device} {n type : Nat} (htype : type ≠ 3) (hloop : (laneOf d n).loopback ≠ 3) :
    loopLanes d n type = [n] := by
  simp [loopLanes, htype, hloop]

theorem loopBody_own {d : Device} {o : Origin} {desc buf : Bytes} {n : Nat} (hlane : namedLane d desc = some n)
    (htype : leField desc 22 1 ≠ 3) (hloop : (laneOf d n).loopback ≠ 3) :
    loopBody o desc buf d = .done (setLane d n { laneOf d n with loopback := leField desc 22 1 }) (zeros 16) none := by
  simp [loopBody, hlane, loopLanes_own htype hloop]

theorem prbsBody_stop {d : Device} {o : Origin} {desc buf : Bytes} {n : Nat} (hlane : namedLane d desc = some n)
    (hop : leField desc 22 1 = 0) :
    prbsBody o desc buf d = .done (setLane d n { laneOf d n with prbs := none }) (zeros 16) none := by
  simp [prbsBody, hlane, hop]

theorem prbsBody_start {d : Device} {o : Origin} {desc buf : Bytes} {n : Nat} (hlane : namedLane d desc = some n)
    (hpattern : decide (6 ≤ leField desc 23 1) = pam4 (prbsRate d n (leField desc 24 1)))
    (hrate : leField desc 20 1 = 1 → leField desc 24 1 = 0) (hop : leField desc 22 1 = 1) :
    prbsBody o desc buf d = .done (setLane d n { laneOf d n with
      prbs := some { pattern := leField desc 23 1, rate := prbsRate d n (leField desc 24 1) } }) (zeros 16) none := by
  have hduet : ¬(leField desc 20 1 = 1 ∧ leField desc 24 1 ≠ 0) := fun ⟨hkind, hne⟩ => hne (hrate hkind)
  rw [prbsBody, hlane]
  simp only [hop, hduet, if_false, ge_iff_le, hpattern, bne_self_eq_false, Bool.false_eq_true]

theorem marginBody_named {d : Device} {o : Origin} {desc buf : Bytes} {n : Nat} (hlane : namedLane d desc = some n) :
    marginBody o desc buf d = .accept (enterInflight { d with
      lane := { d.lane with scans := d.lane.scans ++ [{ origin := o, lane := n }] } } o 0x0403) := by
  simp [marginBody, hlane]

/-- The device whose figures a completed scan has recorded. -/
def scanned (d : Device) (n width height : Nat) (x : Scan) : Device :=
  recordMargin { d with lane := { d.lane with scans := d.lane.scans.erase x } } n width height

theorem scanDone_found {d : Device} {n width height : Nat} {x : Scan}
    (h : d.lane.scans.find? (fun x => x.lane == n) = some x) :
    scanDone d n width height = finish (scanned d n width height x) x.origin .ok (leBytes 2 width ++ leBytes 2 height ++
      [if pam4 (laneRate d n) then 3#8 else 1#8] ++ [if marginOk d width height then 1#8 else 0#8]) := by
  simp only [scanDone, h]
  rfl

theorem exec_loopbackSet (r : Fin 64) (s : State) :
    exec (.loopbackSet r) s = .next (s.having (runCommand 0x0400 r anyRight loopOwn loopBody [] s.dev)) := rfl

theorem exec_prbsSet (r : Fin 64) (s : State) :
    exec (.prbsSet r) s = .next (s.having (runCommand 0x0401 r anyRight prbsOwn prbsBody [] s.dev)) := rfl

theorem exec_marginScan (r : Fin 64) (s : State) :
    exec (.marginScan r) s = .next (s.having (runCommand 0x0403 r anyRight marginOwn marginBody [] s.dev)) := rfl

theorem exec_marginScanDone (lane : Fin 133) (w h : Fin 65536) (s : State) :
    exec (.marginScanDone lane w h) s = .next (s.having (scanDone s.dev lane w h)) := rfl

/-- Settles O52: the taps by `fitTaps_sum`, each command by its body on the lane that it names. -/
theorem laneMaintenance : Obligations.LaneMaintenance := by
  refine ⟨?taps, ?fused, ?peaking, ?loopback, ?prbsStop, ?prbsStart, ?scan, ?scanDone⟩
  case taps =>
    rintro lane val s off rfl howned hf
    have hstored : ∀ {k : Nat}, k < 32 → bit (mask 21 16 ||| mask 13 8 ||| mask 3 0) k = true →
        bit (reg (plainWrite s.dev (laneBase lane + 4) val) (laneBase lane + 4)) k = bit val k :=
      fun hk hmask => bit_plainWrite_txeq lane hf val hk hmask
    refine ⟨_, exec_laneEqWrite_txeq lane val s, ?_⟩
    rw [writeTxeq_free val howned hf, reg_setReg]
    refine ⟨bits_congr fun k _ hk => ?_, bits_congr fun k hlo hk => ?_, fitTaps_sum _, fun o ho => ?_,
      (setReg_same ..).trans (plainWrite_same ..)⟩
    · rw [bit_fitTaps _ (by omega) (by omega), hstored (by omega)]
      obtain rfl | rfl | rfl | rfl : k = 0 ∨ k = 1 ∨ k = 2 ∨ k = 3 := by omega
      all_goals decide
    · rw [bit_fitTaps _ (by omega) (by omega), hstored (by omega)]
      obtain rfl | rfl | rfl | rfl | rfl | rfl : k = 16 ∨ k = 17 ∨ k = 18 ∨ k = 19 ∨ k = 20 ∨ k = 21 := by omega
      all_goals decide
    · rw [reg_setReg_ne _ _ _ _ ho, reg_plainWrite_ne val ho]
  case fused =>
    intro lane val s hf
    rw [exec_laneEqWrite_txeq, writeTxeq_fused val hf]
    rfl
  case peaking =>
    intro lane val s hbit hcdr hf
    have hsame : SameWork (plainWrite s.dev (laneBase lane + 8) val) s.dev := plainWrite_same ..
    have hstored : bit (reg (plainWrite s.dev (laneBase lane + 8) val) (laneBase lane + 8)) 31 = false := by
      rw [bit_plainWrite_ctle lane hf val (.inl rfl), hbit]
    have hlock : (laneOf (plainWrite s.dev (laneBase lane + 8) val) lane).cdr = true := by rw [laneOf_congr hsame.lane, hcdr]
    refine ⟨_, exec_laneEqWrite_ctle lane val s, ?_⟩
    rw [writeCtle_byHand hstored hlock, laneOf_setLane]
    exact ⟨rfl, bits_congr fun k _ hk => bit_plainWrite_ctle lane hf val (.inr (by omega)), { hsame with lane := rfl }⟩
  case loopback =>
    rintro r s f rest n _ hruns hlane rfl htype hloop
    rw [exec_loopbackSet, runCommand_done hruns (loopBody_own (d := taken s.dev r rest) hlane htype hloop)]
    rfl
  case prbsStop =>
    intro r s f rest n hruns hlane hop
    rw [exec_prbsSet, runCommand_done hruns (prbsBody_stop (d := taken s.dev r rest) hlane hop)]
    rfl
  case prbsStart =>
    rintro r s f rest n _ _ hruns hlane rfl rfl hpattern hrate hop
    rw [exec_prbsSet, runCommand_done hruns (prbsBody_start (d := taken s.dev r rest) hlane hpattern hrate hop)]
    rfl
  case scan =>
    rintro r s f rest n _ hruns hlane rfl
    rw [exec_marginScan, runCommand_accept hruns (marginBody_named (d := taken s.dev r rest) hlane)]
    rfl
  case scanDone =>
    intro lane w h s x hfound
    have hlane : laneOf (scanned s.dev lane w h x) lane = { laneOf s.dev lane with
        width := byteField w, height := byteField h, marginLow := !marginOk s.dev w h } := laneOf_setLane ..
    refine ⟨scanned s.dev lane w h x, ?_, rfl, fun hw => ?_, fun hh => ?_, fun n hn => laneOf_setLane_ne _ _ hn,
      { SameWork.refl s.dev with lane := rfl }⟩
    · rw [exec_marginScanDone, scanDone_found hfound]
    · rw [hlane]
      exact if_pos hw
    · rw [hlane]
      exact if_pos hh

end Sys2Proof.Machine

/-!
PROOF. Marks granted at the Duet: O53 and O55, refuted where the count of mark waits is running.
-/
namespace Sys2Proof.Machine

/-! ## The count of mark waits (Table 13-16) -/

/-- A member of a Duet with a link key, whose count of mark waits has begun. -/
def waitingDuet (x : Duet) : Device :=
  { duet := { x with linkKey := some [], confirmed := true }
    prs := { markSince := some 0 } }

/-- A message of the member's epoch that its sender has sealed. -/
def sealedHdr : DuetHdr := { epoch := 0#32, seq := 1 }

/-- An ACTIVE member without its peer, which was STANDBY when it last heard it. -/
def lonelyActive : Device := waitingDuet { role := .active, peerLost := true, peerRole := .standby }

/-- An ACTIVE member that has asked for a mark of SA 0. -/
def askingActive : Device := waitingDuet { role := .active, peerRole := .standby, marks := [(0, { mark := 0, pend := some (5, 7) })] }

theorem lonelyActive_heard : Heard lonelyActive sealedHdr (.beat (roleOfCode 3) 0#32 false) where
  tag := rfl
  key := rfl
  joined := rfl
  newer := Nat.zero_lt_one
  epoch := rfl

theorem askingActive_heard : Heard askingActive sealedHdr (.markAck 7) where
  tag := rfl
  key := rfl
  joined := rfl
  newer := Nat.zero_lt_one
  epoch := rfl

theorem lonelyActive_ends :
    (receive lonelyActive sealedHdr (.beat (roleOfCode 3) 0#32 false)).prs.markSince = none := by decide

theorem askingActive_ends : (receive askingActive sealedHdr (.markAck 7)).prs.markSince = none := by decide

theorem exec_heartbeatRx (h : DuetHdr) (role : Fin 4) (health : W32) (pinOut : Bool) (s : State) :
    exec (.heartbeatRx h role health pinOut) s =
      .next (s.having (receive s.dev h (.beat (roleOfCode role) health pinOut))) := rfl

theorem exec_markAckRx (h : DuetHdr) (q : Nat) (s : State) :
    exec (.markAckRx h q) s = .next (s.having (receive s.dev h (.markAck q))) := rfl

/-- Refutes O53: a peer that comes back SYNCING has its marks granted (R581), which ends the count of mark waits; the clause on
the HEARTBEAT that finds the peer again says that the presses' part of the state stays, which keeps the count. -/
theorem not_duetLinkAndHeartbeats : ¬ Obligations.DuetLinkAndHeartbeats := by
  rintro ⟨-, -, -, -, -, -, hbeat, -⟩
  obtain ⟨-, hback, -⟩ := hbeat sealedHdr 3 0#32 false (State.reset.having lonelyActive)
  obtain ⟨e, hexec, -, -, -, hsame⟩ := hback lonelyActive_heard rfl rfl rfl (by decide)
  rw [exec_heartbeatRx] at hexec
  obtain rfl := dev_of_next hexec
  have hsince := congrArg Prs.markSince hsame.prs
  exact absurd (lonelyActive_ends.symm.trans hsince) (by decide)

/-- Refutes O55: an acknowledged mark ends the count of mark waits (R579, R581), and the clause on MARK_ACK says that the presses'
part of the state stays, which keeps the count. -/
theorem not_duetRolesChange : ¬ Obligations.DuetRolesChange := by
  rintro ⟨-, -, -, -, -, -, -, -, -, -, hack, -⟩
  obtain ⟨e, hexec, -, hsame⟩ := hack sealedHdr 7 0 5 (State.reset.having askingActive) { mark := 0, pend := some (5, 7) }
    askingActive_heard rfl rfl rfl
  rw [exec_markAckRx] at hexec
  obtain rfl := dev_of_next hexec
  have hsince := congrArg Prs.markSince hsame.prs
  exact absurd (askingActive_ends.symm.trans hsince) (by decide)

end Sys2Proof.Machine

/-!
PROOF. Pairing, switchover and unpairing: O56.
-/
namespace Sys2Proof.Machine

/-! ## What pairing leaves -/

section
variable (d : Device)

theorem putDuet_same (msg : Bytes) : SameWork (putDuet d msg) d := by
  unfold putDuet
  split
  · exact send_same ..
  · exact .refl d

theorem putDuet_duet (msg : Bytes) : (putDuet d msg).duet = d.duet := by
  unfold putDuet
  split <;> rfl

theorem drbgRequest_duet (n : Nat) : (drbgRequest d n).duet = d.duet := by
  simp only [drbgRequest]
  split <;> rfl

theorem enterInflight_duet (o : Origin) (op : Nat) : (enterInflight d o op).duet = d.duet := by
  simp only [enterInflight, granting]
  (repeat' split) <;> rfl

theorem enterInflight_same (o : Origin) (op : Nat) : SameWork (enterInflight d o op) d :=
  SameWork.trans (b := granting d o.ring op) (by constructor <;> rfl) (granting_same ..)

theorem elapseTo_duet (t : Nat) : (elapseTo d t).duet = d.duet := by
  unfold elapseTo
  split <;> rfl

theorem sendHello_duet : (sendHello d).duet = d.duet := by
  unfold sendHello
  split
  · split
    · rw [putDuet_duet, drbgRequest_duet]
    · rfl
  · rfl

theorem sendHello_key : (sendHello d).key = d.key := by
  unfold sendHello
  split
  · split
    · exact (putDuet_same ..).key.trans (drbgRequest_same ..).key
    · rfl
  · rfl

/-! ## Marks once the members are paired (R579, R581) -/

/-- The Duet but for its marks and its next SEQ. -/
def unmarked : Duet := { d.duet with marks := [], knMarks := [], txSeq := 0 }

theorem sendDuet_unmarked (t : Nat) (a : Bool) (p : Bytes) : unmarked (sendDuet d t a p) = unmarked d := by
  rw [unmarked, sendDuet_duet]
  rfl

theorem requestMark_unmarked (isKn : Bool) (key m : Nat) : unmarked (requestMark d isKn key m) = unmarked d := by
  rw [← sendDuet_unmarked d 0x30 true (markKeyBytes (if isKn then 2 ^ 18 + key else key) m)]
  simp only [requestMark]
  split <;> rfl

theorem requestMark_key (isKn : Bool) (key m : Nat) : (requestMark d isKn key m).key = d.key := by
  rw [← (sendDuet_same d 0x30 true (markKeyBytes (if isKn then 2 ^ 18 + key else key) m)).key]
  simp only [requestMark]
  split <;> rfl

theorem topMarks_keeps {α : Type} (get : Device → α) (h : ∀ e isKn key m, get (requestMark e isKn key m) = get e) :
    get (topMarks d) = get d :=
  foldl_keeps get _ (fun e (x : Nat × Sa) => by
    unfold topMark
    split
    · exact h ..
    · rfl) ..

theorem grantMarks_unmarked : unmarked (grantMarks d) = unmarked d := by
  rw [unmarked, grantMarks, noteMarkWait_duet]
  rfl

theorem grantMarks_key : (grantMarks d).key = d.key := (noteMarkWait_turnWork _).key

end

/-! ## DUET_PAIR (R564, R565) -/

section
variable {d : Device} {o : Origin} {desc buf : Bytes}

/-- The pairing that DUET_PAIR begins. -/
def freshPairing (d : Device) (o : Origin) (desc : Bytes) : Pairing :=
  { origin := o, peer := leField desc 20 4 % 2 ^ 18, waitS := if leField desc 24 2 = 0 then 10 else leField desc 24 2
    started := d.clock, nonce := drbgBytes d 32
    scalar := beBytes 48 (pairScalar (drbgRequest d 32) (leField desc 20 4 % 2 ^ 18) (drbgBytes d 32)) }

/-- A device that has taken a DUET_PAIR and has sent its HELLO where the link is up. -/
def pairingBegun (d : Device) (o : Origin) (desc : Bytes) : Device :=
  sendHello (enterInflight (setDuet (drbgRequest d 32)
    { (drbgRequest d 32).duet with pairing := some (freshPairing d o desc) }) o 0x0380)

theorem drbgRequest_clock (d : Device) (n : Nat) : (drbgRequest d n).clock = d.clock :=
  (drbgRequest_same d n).clock

theorem pairBody_begins (henrolled : d.boot.enrolled = true) (hstyle : style d ≠ 0) (hrole : d.duet.role = .solo)
    (hidle : d.duet.pairing = none) (hdrbg : drbgOk d = true) :
    pairBody o desc buf d = .accept (takeEarly (pairingBegun d o desc)) := by
  have hfree : ¬(d.duet.role = .standby ∨ d.duet.role = .syncing ∨ d.duet.role = .active ∧ peerPresent d = true ∨
      d.duet.pairing.isSome = true) := by simp [hrole, hidle]
  simp only [pairBody, henrolled, beq_false_of_ne hstyle, if_neg hfree, hdrbg, Bool.not_true, Bool.or_self,
    Bool.false_eq_true, if_false, drbgRequest_clock]
  rfl

theorem pairingBegun_duet : (pairingBegun d o desc).duet = { d.duet with pairing := some (freshPairing d o desc) } := by
  rw [pairingBegun, sendHello_duet, enterInflight_duet]
  dsimp only [setDuet]
  rw [drbgRequest_duet]

theorem pairingBegun_key : (pairingBegun d o desc).key = d.key := by
  rw [pairingBegun, sendHello_key, (enterInflight_same ..).key]
  exact (drbgRequest_same d 32).key

end

/-! ## HELLO and CONFIRM (R566-R568) -/

section
variable {d : Device} {p : Pairing}

/-- What a HELLO makes of a pairing that waits for it. -/
def helloTaken (d : Device) (p : Pairing) (h : Hello) (pair : Nat) : Pairing :=
  if (helloReason d p h pair).isNone && (pairKeys d p h).isSome then
    { p with hello := (pairKeys d p h).map (fun y => (y.1, y.2, h.epoch, pair)) }
  else { p with outcome := some ((helloReason d p h pair).getD 3, 0) }

theorem helloIn_answers (h : Hello) (hpairing : d.duet.pairing = some p) (hopen : p.outcome = none) (hfirst : p.hello = none)
    (hmay : mayPair d = true) :
    ∃ msg, helloIn d h = putDuet (setPairing d (helloTaken d p h (pairNumber d h))) msg := by
  have hgo : (p.outcome.isSome || p.hello.isSome || !mayPair d) = false := by simp [hopen, hfirst, hmay]
  cases hreason : helloReason d p h (pairNumber d h) with
  | some r =>
    refine ⟨duetHeader d 0x14 0 0 0, ?_⟩
    simp only [helloIn, hpairing, hgo, hreason, helloTaken]
    rfl
  | none =>
    cases hkeys : pairKeys d p h with
    | none =>
      refine ⟨duetHeader d 0x14 0 0 0, ?_⟩
      simp only [helloIn, hpairing, hgo, hreason, hkeys, helloTaken]
      rfl
    | some keys =>
      refine ⟨duetBytes d keys.1 0 0x02 false (pairDigest d), ?_⟩
      simp only [helloIn, hpairing, hgo, hreason, hkeys, helloTaken]
      rfl

theorem helloIn_of_mayNot (h : Hello) (hpairing : d.duet.pairing.isSome = true) (hmay : mayPair d = false) :
    helloIn d h = d := by
  obtain ⟨p, hp⟩ := Option.isSome_iff_exists.1 hpairing
  simp [helloIn, hp, hmay]

theorem helloIn_early (h : Hello) (hpairing : d.duet.pairing = none) (hpeer : peerPresent d = false) :
    helloIn d h = setDuet d { d.duet with early := some h } := by
  simp [helloIn, hpairing, hpeer]

theorem confirmIn_of_mayNot (h : DuetHdr) (digest : Bytes) (hmay : mayPair d = false) : confirmIn d h digest = d := by
  unfold confirmIn
  split
  · split
    · simp [hmay]
    · rfl
  · rfl

variable {link key : Bytes} {epoch : W32} {pair : Nat}

theorem confirmIn_judges (h : DuetHdr) (digest : Bytes) (hpairing : d.duet.pairing = some p) (hopen : p.outcome = none)
    (hhello : p.hello = some (link, key, epoch, pair)) (hmay : mayPair d = true) :
    confirmIn d h digest = if confirmOk link p h digest = true ∧ fit 32 digest = pairDigest d then joinDuet d p link key epoch pair
      else refusePair d p 3 := by
  simp only [confirmIn, hpairing, hopen, hhello, hmay, Bool.not_true, Bool.false_eq_true, if_false]

/-- The members are paired, before the ACTIVE one asks for its marks. -/
def paired (d : Device) (p : Pairing) (link key : Bytes) (epoch : W32) (pair : Nat) : Device :=
  let e := releaseWaits (clearDigests d) (fun _ => true)
  setDuet e { e.duet with
    role := if d.duet.pinOut then .active else .syncing, peerRole := if d.duet.pinOut then .syncing else .active
    epoch := (if epoch.toNat < d.duet.epoch.toNat then d.duet.epoch else epoch) + 1#32
    linkKey := some link, pairKey := some key, confirmed := true, txSeq := 1, rxSeq := 0, discards := [], held := []
    pairMember := some pair, peerMember := some p.peer, lastBeat := e.clock, beatLost := false, lossAt := none
    peerLost := false, selfGrant := false, waits := [], bulkAt := none, bulkObjects := 0, bulkBad := false
    bulkSent := false, syncPct := 0, pairing := some { p with outcome := some (0, 0) } }

theorem joinDuet_eq : joinDuet d p link key epoch pair =
    if d.duet.pinOut then topMarks (grantMarks (paired d p link key epoch pair)) else paired d p link key epoch pair := rfl

theorem joinDuet_unmarked : unmarked (joinDuet d p link key epoch pair) = unmarked (paired d p link key epoch pair) := by
  rw [joinDuet_eq]
  split
  · exact (topMarks_keeps _ unmarked requestMark_unmarked).trans (grantMarks_unmarked _)
  · rfl

theorem joinDuet_key : (joinDuet d p link key epoch pair).key = d.key := by
  have hpaired : (paired d p link key epoch pair).key = d.key :=
    ((releaseWaits_turnWork (clearDigests d) (fun _ => true)).trans (clearDigests_turnWork d)).key
  rw [joinDuet_eq]
  split
  · exact ((topMarks_keeps _ Device.key requestMark_key).trans (grantMarks_key _)).trans hpaired
  · exact hpaired

end

/-! ## The end of a pairing, DUET_SWITCHOVER and DUET_UNPAIR -/

section
variable {d : Device} {p : Pairing}

theorem pairTimeout_ends (hpairing : d.duet.pairing = some p) (hopen : p.outcome = none) :
    pairTimeout d = setPairing (elapseTo d (p.started + p.waitS * 500000000))
      { p with outcome := some (if p.hello.isSome then 8 else 1, 0) } := by
  have hus : p.started + p.waitS * 1000 * msTicks = p.started + p.waitS * 500000000 := by
    rw [Nat.mul_assoc]
    rfl
  simp only [pairTimeout, hpairing, hopen, Option.isSome_none, Bool.false_eq_true, if_false, hus]
  rfl

/-- Pairing has ended: its record is written. -/
theorem pairDone_finishes {reason theirs : Nat} (hpairing : d.duet.pairing = some p)
    (hend : p.outcome = some (reason, theirs)) :
    ∃ t payload, pairDone d = finish (emit (setDuet d { d.duet with pairing := none }) .duet t payload) p.origin .ok
      (pairResult d reason theirs) := by
  have hresult : ∀ t payload, pairResult (emit (setDuet d { d.duet with pairing := none }) .duet t payload) reason theirs =
      pairResult d reason theirs := fun t payload => by
    rw [pairResult, emit_duet]
    rfl
  simp only [pairDone, hpairing, hend]
  split
  · exact ⟨_, _, by rw [hresult]⟩
  · exact ⟨_, _, by rw [hresult]⟩

/-- The device that has sent SWITCH. -/
def switchSent (d : Device) (o : Origin) : Device :=
  let e := sendDuet (enterInflight d o 0x0381) 0x13 true (leBytes 4 (d.duet.epoch + 1#32).toNat)
  setDuet e { e.duet with switching := some { origin := o, epoch := d.duet.epoch + 1#32, sent := e.clock } }

theorem switchSent_same (o : Origin) : SameWork (switchSent d o) d :=
  SameWork.trans (b := sendDuet (enterInflight d o 0x0381) 0x13 true (leBytes 4 (d.duet.epoch + 1#32).toNat))
    (by constructor <;> rfl) ((sendDuet_same ..).trans (enterInflight_same ..))

theorem switchSent_switching (o : Origin) :
    (switchSent d o).duet.switching = some { origin := o, epoch := d.duet.epoch + 1#32, sent := d.clock } := by
  rw [← (switchSent_same (d := d) o).clock]
  rfl

theorem switchoverBody_sends {o : Origin} {desc buf : Bytes} (hrole : d.duet.role = .active) (hpeer : peerPresent d = true)
    (hstandby : d.duet.peerRole = .standby) (hhealth : bits d.duet.peerHealth 31 29 = 7) (hagree : d.duet.disagree = none)
    (hidle : d.duet.switching = none) : switchoverBody o desc buf d = .accept (switchSent d o) := by
  have hactive : ¬(d.duet.role ≠ .active ∨ (!peerPresent d) = true) := by simp [hrole, hpeer]
  have hready : ¬(d.duet.peerRole ≠ .standby ∨ bits d.duet.peerHealth 31 29 ≠ 7 ∨ d.duet.disagree.isSome = true ∨
      d.duet.switching.isSome = true) := by simp [hstandby, hhealth, hagree, hidle]
  simp only [switchoverBody, if_neg hactive, if_neg hready]
  rfl

theorem unpairBody_leaves {o : Origin} {desc buf : Bytes} (hrole : d.duet.role ≠ .solo) :
    unpairBody o desc buf d = .done (unpair (sendDuet d 0x14 false []) true) (zeros 16) none := by
  simp [unpairBody, hrole]

end

section
variable (s : State) (r : Fin 64)

theorem exec_duetPair : exec (.duetPair r) s = .next (s.having (runCommand 0x0380 r anyRight pairOwn pairBody [] s.dev)) := rfl

theorem exec_duetSwitchover :
    exec (.duetSwitchover r) s = .next (s.having (runCommand 0x0381 r anyRight switchoverOwn switchoverBody [] s.dev)) := rfl

theorem exec_duetUnpair :
    exec (.duetUnpair r) s = .next (s.having (runCommand 0x0382 r anyRight switchoverOwn unpairBody [] s.dev)) := rfl

theorem exec_helloRx (hello : Hello) : exec (.helloRx hello) s = .next (s.having (helloIn s.dev hello)) := rfl

theorem exec_confirmRx (h : DuetHdr) (digest : Bytes) :
    exec (.confirmRx h digest) s = .next (s.having (confirmIn s.dev h digest)) := rfl

theorem exec_pairWaitTimeout : exec .pairWaitTimeout s = .next (s.having (pairTimeout s.dev)) := rfl

theorem exec_duetPairDone : exec .duetPairDone s = .next (s.having (pairDone s.dev)) := rfl

end

/-- Settles O56: each step of a pairing by the lemma on it above; the paired member's facts are read before its marks are
asked for, which leave them. -/
theorem duetPairsAndUnpairs : Obligations.DuetPairsAndUnpairs := by
  refine ⟨?pair, ?hello, ?confirm, ?mayNot, ?timeout, ?done, ?switchover, ?unpair⟩
  case pair =>
    rintro r s f rest _ hruns rfl henrolled hstyle hrole hidle hdrbg
    have hduet := pairingBegun_duet (d := taken s.dev r rest) (o := originOf s.dev r f) (desc := f.desc)
    refine ⟨pairingBegun (taken s.dev r rest) (originOf s.dev r f) f.desc,
      freshPairing (taken s.dev r rest) (originOf s.dev r f) f.desc, ?_, ?_, ?_, rfl, rfl, rfl, rfl, rfl, rfl, rfl, ?_, ?_⟩
    · rw [exec_duetPair, runCommand_accept hruns (pairBody_begins (d := taken s.dev r rest) henrolled hstyle hrole hidle hdrbg)]
    · rw [hduet]
      rfl
    · rw [hduet]
    · rw [hduet]
      exact hrole
    · exact pairingBegun_key
  case hello =>
    rintro hello s p _ hpairing hopen hfirst rfl hmay
    obtain ⟨msg, hanswer⟩ := helloIn_answers hello hpairing hopen hfirst hmay
    refine ⟨_, by rw [exec_helloRx, hanswer], ?_, putDuet_duet ..⟩
    exact (putDuet_same ..).trans (by constructor <;> rfl)
  case confirm =>
    intro h digest link key epoch pair s p hpairing hopen hhello hmay
    rw [exec_confirmRx, confirmIn_judges h digest hpairing hopen hhello hmay]
    refine ⟨fun hbad => ?_, fun htag hdigest => ?_⟩
    · rw [if_neg (fun ⟨htag, hdigest⟩ => hbad.elim (by simp [htag]) (fun hne => hne hdigest))]
    · have hduet : unmarked (joinDuet s.dev p link key epoch pair) = unmarked (paired s.dev p link key epoch pair) := joinDuet_unmarked
      refine ⟨joinDuet s.dev p link key epoch pair, by rw [if_pos ⟨htag, hdigest⟩], ?_⟩
      exact ⟨congrArg Duet.role hduet, congrArg Duet.linkKey hduet, congrArg Duet.pairKey hduet,
        congrArg Duet.confirmed hduet, congrArg Duet.pairMember hduet, congrArg Duet.peerMember hduet,
        congrArg Duet.pairing hduet, congrArg Duet.epoch hduet, joinDuet_key⟩
  case mayNot =>
    intro hello h digest s hmay
    refine ⟨fun hpairing => ?_, fun hpairing hpeer => ?_, ?_⟩
    · rw [exec_helloRx, helloIn_of_mayNot hello hpairing hmay]
      rfl
    · rw [exec_helloRx, helloIn_early hello hpairing hpeer]
    · rw [exec_confirmRx, confirmIn_of_mayNot h digest hmay]
      rfl
  case timeout =>
    intro s p hpairing hopen
    rw [exec_pairWaitTimeout, pairTimeout_ends hpairing hopen]
  case done =>
    intro s p reason theirs hpairing hend
    obtain ⟨t, payload, hdone⟩ := pairDone_finishes hpairing hend
    refine ⟨_, by rw [exec_duetPairDone, hdone], emit_duet .., ?_⟩
    exact (emit_same ..).trans (by constructor <;> rfl)
  case switchover =>
    intro r s f rest hruns hrole hpeer hstandby hhealth hagree hidle
    refine ⟨switchSent (taken s.dev r rest) (originOf s.dev r f), ?_, switchSent_switching _, (switchSent_same _).trans (taken_same ..)⟩
    rw [exec_duetSwitchover, runCommand_accept hruns
      (switchoverBody_sends (d := taken s.dev r rest) hrole hpeer hstandby hhealth hagree hidle)]
  case unpair =>
    intro r s f rest hruns hrole
    refine ⟨unpair (sendDuet (taken s.dev r rest) 0x14 false []) true, ?_, ?_, ?_, ?_, ?_, ?_, ?_, ?_⟩
    · rw [exec_duetUnpair, runCommand_done hruns (unpairBody_leaves (d := taken s.dev r rest) hrole)]
    · rw [unpair_duet]
      rfl
    · rw [unpair_duet]
      rfl
    · rw [unpair_duet]
      rfl
    · rw [unpair_duet]
      rfl
    · rw [unpair_holdStart, (sendDuet_same ..).clock]
      rfl
    · rw [unpair_pinOut, sendDuet_duet]
      rfl
    · rw [unpair_key, (sendDuet_same ..).key]
      rfl

end Sys2Proof.Machine

/-!
PROOF. The recorder's reports: O23.
-/
namespace Sys2Proof.Machine

/-! ## Delivery and the journal (R709-R711) -/

section
variable (d : Device)

theorem raiseVector_rcd (f v : Nat) : (raiseVector d f v).rcd = d.rcd := by
  unfold raiseVector
  split <;> rfl

/-- Nothing or a filler ahead of a record (R92). -/
theorem filled_same (gap : Nat) (o : Out) : SameWork (if gap = 0 then d else send d o) d := by
  split
  · exact .refl d
  · exact send_same ..

theorem filled_rcd (gap : Nat) (o : Out) : (if gap = 0 then d else send d o).rcd = d.rcd := by
  split <;> rfl

theorem setEvRing_same (e : Nat) (x : EvRing) : SameWork (setEvRing d e x) d := by constructor <;> rfl

theorem deliverTo_same (e size : Nat) (rec : Bytes) : SameWork (deliverTo d e size rec) d := by
  unfold deliverTo
  extract_lets
  split
  · exact (raiseVector_same ..).trans
      ((send_same ..).trans ((setEvRing_same ..).trans ((send_same ..).trans (filled_same ..))))
  · exact setEvRing_same ..

theorem deliverTo_rcd (e size : Nat) (rec : Bytes) : (deliverTo d e size rec).rcd = d.rcd := by
  unfold deliverTo
  extract_lets
  split
  · exact (raiseVector_rcd ..).trans (filled_rcd ..)
  · rfl

theorem deliver_same (r : EvRec) : SameWork (deliver d r) d := by
  simp only [deliver]
  split
  · split
    · exact deliverTo_same ..
    · exact .refl d
  · exact .refl d

theorem deliver_rcd (r : EvRec) : (deliver d r).rcd = d.rcd := by
  simp only [deliver]
  split
  · split
    · exact deliverTo_rcd ..
    · rfl
  · rfl

/-- Blocks are written to the flash alone. -/
theorem writeBlock_flash (kind : Nat) (content : Bytes) :
    ∃ fl, writeBlock d kind content = { d with boot := { d.boot with flash := fl } } := ⟨_, rfl⟩

end

/-- The ring with every record delivered. -/
def ringDelivered (l : List EvRec) : List EvRec := l.map (fun r => { r with delivered := true })

/-- The ring with every record in the journal. -/
def ringJournalled (l : List EvRec) : List EvRec := l.map (fun r => { r with journalled := true })

/-- What a journal write leaves of the recorder: its ring delivered and in the journal. -/
def recorded (x : Recorder) : Recorder := { x with ring := ringJournalled (ringDelivered x.ring) }

theorem recBytes_recorded (x : Recorder) : (recorded x).ring.map recBytes = x.ring.map recBytes := by
  simp only [recorded, ringJournalled, ringDelivered, List.map_map]
  rfl

theorem recorded_reached (x : Recorder) : ∀ r ∈ (recorded x).ring, r.delivered = true ∧ r.journalled = true := by
  intro r hr
  obtain ⟨y, hy, rfl⟩ := List.mem_map.1 hr
  obtain ⟨z, -, rfl⟩ := List.mem_map.1 hy
  exact ⟨rfl, rfl⟩

section
variable {d : Device}

theorem deliverAll_ready (h : d.boot.ended = true) :
    (deliverAll d).rcd = { d.rcd with ring := ringDelivered d.rcd.ring } ∧ SameWork (deliverAll d) d := by
  have hsame : ∀ l : List EvRec, SameWork (l.foldl deliver d) d := fun l => foldl_same l deliver deliver_same d
  have hrcd : ∀ l : List EvRec, (l.foldl deliver d).rcd = d.rcd := fun l => foldl_keeps Device.rcd deliver deliver_rcd l d
  simp only [deliverAll, h, if_true]
  refine ⟨?_, SameWork.trans (by constructor <;> rfl) (hsame (d.rcd.ring.filter (fun r => !r.delivered)))⟩
  rw [hrcd]
  rfl

/-- What a journal write changes of the flash, and nothing beside it. -/
theorem foldl_writeBlock_flash (l : List Bytes) (d : Device) :
    ∃ fl, l.foldl (fun d c => writeBlock d 0 c) d = { d with boot := { d.boot with flash := fl } } := by
  induction l generalizing d with
  | nil => exact ⟨_, rfl⟩
  | cons c l ih =>
    obtain ⟨fl, hfold⟩ := ih (writeBlock d 0 c)
    exact ⟨fl, hfold⟩

theorem journalAll_ready (h : d.rcd.journalReady = true) :
    ∃ fl, journalAll d = { d with boot := { d.boot with flash := fl }
                                  rcd := { d.rcd with ring := ringJournalled d.rcd.ring } } := by
  obtain ⟨fl, hfold⟩ := foldl_writeBlock_flash (packRecords [] (d.rcd.ring.filter (fun r => !r.journalled))) d
  simp only [journalAll, h, if_true, hfold]
  exact ⟨fl, rfl⟩

/-- No source has lost records: none is reported. -/
theorem foldl_reportDrops_none (l : List Source) (h : d.rcd.dropped = []) : l.foldl reportDrops d = d := by
  induction l with
  | nil => rfl
  | cons src l ih =>
    have hone : reportDrops d src = d := by
      simp only [reportDrops, h]
      rfl
    rw [List.foldl_cons, hone, ih]

/-- The device after JOURNAL_WRITE. -/
def journalWritten (d : Device) : Device := sourcesInOrder.foldl reportDrops (journalAll (deliverAll d))

theorem journalWritten_records (hended : d.boot.ended = true) (hready : d.rcd.journalReady = true)
    (hdropped : d.rcd.dropped = []) :
    (journalWritten d).rcd = recorded d.rcd ∧ SameWork { journalWritten d with boot := d.boot } d := by
  obtain ⟨hrcd, hsame⟩ := deliverAll_ready hended
  have hstill : (deliverAll d).rcd.journalReady = true := by rw [hrcd]; exact hready
  obtain ⟨fl, hjournal⟩ := journalAll_ready hstill
  have hnone : (journalAll (deliverAll d)).rcd.dropped = [] := by
    rw [hjournal]
    dsimp only
    rw [hrcd]
    exact hdropped
  rw [journalWritten, foldl_reportDrops_none _ hnone, hjournal]
  dsimp only
  rw [hrcd]
  exact ⟨rfl, { hsame with boot := rfl }⟩

/-- The block that a write adds to the journal. -/
def newBlock (d : Device) (kind : Nat) (content : Bytes) : Block :=
  let fl := d.boot.flash
  let len := 32 + content.length
  let pos := if fl.writePos % sector + len > sector then (fl.writePos / sector + 1) * sector else fl.writePos
  let b : Block := { offset := pos % journalSize fl.size, kind := kind, powerCycles := d.rcd.powerCycles.toNat
                     seq := fl.nextBlock, content := content, tag := [] }
  { b with tag := blockTag d b }

theorem writeBlock_journal (d : Device) (kind : Nat) (content : Bytes) :
    ∃ l, (writeBlock d kind content).boot.flash.journal = l ++ [newBlock d kind content] := ⟨_, rfl⟩

/-- The tag of a new block is that of its bytes. -/
theorem newBlock_tag (d : Device) (kind : Nat) (content : Bytes) :
    (newBlock d kind content).tag = blockTag d (newBlock d kind content) := rfl

theorem verified_newBlock {e : Device} {t : Tree} (ht : d.key.tree = some t) (hkey : e.key = d.key) (kind : Nat)
    (content : Bytes) : verified e (newBlock d kind content) = true := by
  have htag : blockTag e (newBlock d kind content) = blockTag d (newBlock d kind content) := by
    rw [blockTag, blockTag, hkey]
  rw [verified, htag, ← newBlock_tag, hkey, ht]
  simp

theorem checkpoint_ready (h : d.rcd.journalReady = true) :
    checkpoint d = { writeBlock d 1 (leBytes 8 (opTimeUs d) ++ zeros 8) with rcd := { d.rcd with opUnverified := false } } := by
  rw [checkpoint, if_pos h]
  rfl

end

/-! ## EVENT_READ and COUNTER_SNAPSHOT (R718-R726) -/

/-- A scan writes records of the entries that it skips, and nothing else. -/
theorem scanRecords_same (src pc max bufLen : Nat) (only : Bool) (l : List Found) (x : Scanned) :
    SameWork (scanRecords src pc max bufLen only l x).dev x.dev := by
  induction l generalizing x with
  | nil => exact .refl _
  | cons f l ih =>
    simp only [scanRecords]
    split
    · exact .refl _
    · split
      · exact (ih _).trans ((emit_same ..).trans (count_same ..))
      · split
        · exact ih _
        · split
          · exact .refl _
          · exact ih _

section
variable {d : Device} {o : Origin} {desc buf : Bytes}

theorem eventReadBody_reads (hmin : 1 ≤ leField desc 32 4) (hmax : leField desc 32 4 ≤ 4096) (hunit : o.bufLen % 8 = 0)
    (hlow : 520 ≤ o.bufLen) (hhigh : o.bufLen ≤ leField desc 32 4 * 520)
    (hfound : findRecords d (leField desc 20 1) (leField desc 24 4) ≠ []) {x : Scanned}
    (hx : x = scanRecords (leField desc 20 1) (leField desc 24 4) (leField desc 32 4) o.bufLen
      ((byteAt desc 21).getLsbD 0)
      ((findRecords d (leField desc 20 1) (leField desc 24 4)).filter (fun g => leField desc 28 4 ≤ g.seq))
      { dev := d, next := leField desc 28 4 }) :
    eventReadBody o desc buf d = .done x.dev (leBytes 2 x.returned ++ leBytes 2 x.skipped ++ leBytes 2 x.left ++ zeros 2
      ++ leBytes 4 x.next ++ leBytes 4 x.out.length) (some x.out) := by
  have hcount : ¬(leField desc 32 4 = 0 ∨ leField desc 32 4 > 4096) := by omega
  have hlen : ¬(o.bufLen % 8 ≠ 0 ∨ o.bufLen < 520 ∨ o.bufLen > leField desc 32 4 * 520) := by omega
  have hsome : (findRecords d (leField desc 20 1) (leField desc 24 4)).isEmpty = false := by
    rw [List.isEmpty_eq_false_iff]
    exact hfound
  subst hx
  simp only [eventReadBody, if_neg hcount, if_neg hlen, hsome, Bool.false_eq_true, if_false]

theorem snapshotBody_reads (hlen : o.bufLen = 16 + 8 * leField desc 24 4) (hmin : 1 ≤ leField desc 24 4)
    (hmax : leField desc 24 4 ≤ 16384) (hlast : leField desc 20 4 + leField desc 24 4 ≤ 131072) :
    snapshotBody o desc buf d = .done d (zeros 16) (some (leBytes 8 d.clock ++ leBytes 4 (leField desc 20 4)
      ++ leBytes 4 (leField desc 24 4)
      ++ (List.range (leField desc 24 4)).flatMap (fun i => leBytes 8 (counter d (leField desc 20 4 + i)).toNat))) := by
  have hcount : ¬(leField desc 24 4 = 0 ∨ leField desc 24 4 > 16384) := by omega
  have hin : ¬(leField desc 20 4 + leField desc 24 4 > 131072) := by omega
  simp only [snapshotBody, if_neg (not_not.2 hlen), if_neg hcount, if_neg hin]

end

section
variable (s : State) (r : Fin 64)

theorem exec_eventRead : exec (.eventRead r) s =
    .next (s.having (runCommand 0x0011 r (fun _ fn => fn == 0) eventReadOwn eventReadBody [] s.dev)) := rfl

theorem exec_counterSnapshot : exec (.counterSnapshot r) s =
    .next (s.having (runCommand 0x0012 r counterAccess (fun desc => zeroFrom desc 28 63) snapshotBody [] s.dev)) := rfl

theorem exec_journalWrite : exec .journalWrite s = .next (s.having (journalWritten s.dev)) := rfl

theorem exec_checkpoint : exec .checkpoint s = .next (s.having (checkpoint s.dev)) := rfl

end

/-- Settles O23: the two reads by their bodies, the journal by what delivery and its blocks leave of the recorder, the
checkpoint by the tag of its block. -/
theorem recorderReports : Obligations.RecorderReports := by
  refine ⟨?read, ?snapshot, ?journal, ?checkpoint⟩
  case read =>
    rintro r s f rest _ x _ _ hruns rfl rfl hmin hmax hunit hlow hhigh rfl hfound hx
    have hbody := eventReadBody_reads (d := taken s.dev r rest) (buf := fit (originOf s.dev r f).bufLen []) hmin hmax hunit
      hlow hhigh hfound hx
    refine ⟨by rw [exec_eventRead, runCommand_done hruns hbody], ?_⟩
    rw [hx]
    exact (scanRecords_same ..).trans (taken_same ..)
  case snapshot =>
    rintro r s f rest _ _ hruns rfl rfl hmin hmax hlast hlen
    rw [exec_counterSnapshot, runCommand_done hruns (snapshotBody_reads (d := taken s.dev r rest) hlen hmin hmax hlast)]
    rfl
  case journal =>
    intro s hended hready hdropped
    obtain ⟨hrcd, hsame⟩ := journalWritten_records hended hready hdropped
    refine ⟨_, exec_journalWrite s, ?_, ?_, hsame⟩
    · rw [hrcd]
      exact recBytes_recorded _
    · rw [hrcd]
      exact recorded_reached _
  case checkpoint =>
    intro s t hready ht
    obtain ⟨l, hjournal⟩ := writeBlock_journal s.dev 1 (leBytes 8 (opTimeUs s.dev) ++ zeros 8)
    refine ⟨_, l, newBlock s.dev 1 (leBytes 8 (opTimeUs s.dev) ++ zeros 8), exec_checkpoint s, ?_⟩
    rw [checkpoint_ready hready]
    exact ⟨hjournal, rfl, rfl, verified_newBlock ht rfl .., rfl, rfl, by constructor <;> rfl⟩

end Sys2Proof.Machine

/-!
PROOF. What the fixed-latency class and a link's fall leave: the contexts' and lines' work, the frames dropped.
-/
namespace Sys2Proof.Machine

/-! ## Lines leave the ports' counters -/

section
variable (d : Device)

theorem eraseRec_counter (i n : Nat) : counter (eraseRec d n) i = counter d i := by
  simp only [eraseRec]
  split <;> rfl

theorem portCtr_low {k p : Nat} (hk : k < 63) (hp : p < 128) : portCtr k p < 8192 := by
  rw [portCtr]
  omega

variable {i : Nat} (hi : i < 8192)
include hi

/-- A count beyond the ports' counters. -/
theorem counter_count_high {k n : Nat} (hk : 8192 ≤ k) : counter (count d k n) i = counter d i := counter_count_ne (by omega)

theorem emit_portCounter (src : Source) (t : Nat) (p : Bytes) : counter (emit d src t p) i = counter d i :=
  emit_counter (by rw [devCtr]; omega) (by rw [devCtr]; omega)

theorem assocOut_portCounter (a cause : Nat) : counter (assocOut d a cause) i = counter d i := by
  unfold assocOut
  split
  · split
    · rfl
    · refine (emit_portCounter _ hi ..).trans ((counter_count_high _ hi (by decide)).trans ?_)
      exact foldl_keeps (fun d => counter d i) _ (fun d n => eraseRec_counter d i n) ..
  · rfl

theorem freeze_portCounter (g : Nat) : counter (freeze d g) i = counter d i := by
  have hassocs := foldl_keeps (fun d => counter d i) (fun d a => assocOut d a 2) (fun d a => assocOut_portCounter d hi a 2)
  have hsas := foldl_keeps (fun d => counter d i) saOut (fun _ _ => rfl)
  exact (hassocs ..).trans ((hsas ..).trans ((emit_portCounter _ hi ..).trans rfl))

theorem portCounter_keepsLines : KeepsLines (fun d => counter d i) where
  mem _ _ _ _ _ := rfl
  count d _ _ hk := counter_count_high d hi hk

theorem writeLine_portCounter (line : Nat) : counter (writeLine d line) i = counter d i :=
  (portCounter_keepsLines hi).writeLine d (fun d g => freeze_portCounter d hi g) line

end

/-! ## Contexts come and go, and ports enter and leave the fixed-latency class (R122, R132, R152) -/

/-- A part of the device that the work on SA contexts leaves: lines, the presses' facts, statistics, the marks of contexts to be
written back, records, and counts beyond the ports' counters. -/
structure KeepsContexts {β : Type} (get : Device → β) : Prop where
  line : ∀ d n, get (writeLine d n) = get d
  prs : ∀ d x, get { d with prs := x } = get d
  stats : ∀ d acc stats, get { d with ms := { d.ms with acc := acc, stats := stats } } = get d
  clean : ∀ d i x, saOf d i = some x → get (setSa d i { x with dirty := false }) = get d
  count : ∀ d i n, 8192 ≤ i → get (Machine.count d i n) = get d
  emit : ∀ d src t p, get (Machine.emit d src t p) = get d

namespace KeepsContexts

variable {β : Type} {get : Device → β} (h : KeepsContexts get) (d : Device)
include h

theorem addToLine (line : Nat) (l : Tbl W64) : get (addToLine d line l) = get d := by
  unfold Machine.addToLine
  split
  · rfl
  · refine (h.line ..).trans ?_
    split
    · exact h.stats d d.ms.acc _
    · rfl

theorem flushStats (i : Nat) : get (flushStats d i) = get d := by
  rw [flushStats_eq]
  exact (h.addToLine ..).trans ((h.addToLine ..).trans (h.stats d _ d.ms.stats))

theorem writeBack (i : Nat) : get (writeBack d i) = get d := by
  simp only [Machine.writeBack]
  split
  · next x hx =>
    split
    · exact (h.line ..).trans ((h.clean _ _ _ hx).trans (h.flushStats ..))
    · exact h.flushStats ..
  · exact h.flushStats ..

theorem setFetching (l : List Nat) : get (setFetching d l) = get d := by
  simp only [Machine.setFetching]
  split
  · split
    · exact (h.count _ _ _ (by decide)).trans (h.prs ..)
    · exact h.prs ..
  · split <;> exact h.prs ..

theorem startFetch (i : Nat) : get (startFetch d i) = get d := by
  unfold Machine.startFetch
  split
  · rfl
  · exact (h.count _ _ _ (by decide)).trans (h.setFetching ..)

theorem evictSas (l : List Nat) : get (evictSas d l) = get d :=
  (foldl_keeps get Machine.startFetch h.startFetch ..).trans (foldl_keeps get Machine.writeBack h.writeBack ..)

theorem fitSet (set : Nat) (l : List Nat) : get (fitSet d set l) = get d := (h.evictSas ..).trans (h.prs ..)

theorem fillSa (i : Nat) : get (fillSa d i) = get d := by
  unfold Machine.fillSa
  split
  · rfl
  · exact h.fitSet ..

theorem fitCaches : get (fitCaches d) = get d :=
  (h.prs ..).trans (foldl_keeps get (fun d (e : Nat × List Nat) => Machine.fitSet d e.1 e.2) (fun d e => h.fitSet d e.1 e.2) ..)

theorem flEnter (p : Nat) : get (flEnter d p) = get d := by
  unfold Machine.flEnter
  split
  · split
    · exact h.emit ..
    · split
      · exact h.emit ..
      · exact (h.fitCaches _).trans (h.prs ..)
  · rfl

theorem flLeave (reason p : Nat) : get (flLeave reason d p) = get d :=
  (h.emit ..).trans ((foldl_keeps get Machine.fillSa h.fillSa ..).trans (h.prs ..))

theorem flVerify (p : Nat) : get (flVerify d p) = get d := by
  unfold Machine.flVerify
  split
  · exact h.flLeave ..
  · exact h.flEnter ..

end KeepsContexts

theorem portCounter_keepsContexts {i : Nat} (hi : i < 8192) : KeepsContexts (fun d => counter d i) where
  line d n := writeLine_portCounter d hi n
  prs _ _ := rfl
  stats _ _ _ := rfl
  clean _ _ _ _ := rfl
  count d _ _ hk := counter_count_high d hi hk
  emit d src t p := emit_portCounter d hi src t p

/-- What contexts that come and go leave: the lanes, the slots, SecYs and SCs, and each SA but for its service and its mark. -/
def contextBase (d : Device) : Lanes × Tbl Slot × Tbl SecY × Tbl Sc × (Nat → Option Sa) :=
  (d.lane, d.key.slots, d.ms.secys, d.ms.scs, lastingSas d.ms)

theorem emit_contextBase (d : Device) (src : Source) (t : Nat) (p : Bytes) : contextBase (emit d src t p) = contextBase d := by
  have hsame := emit_same d src t p
  simp only [contextBase, hsame.lane, hsame.key, hsame.ms]

theorem contextBase_setSa {d : Device} {i : Nat} {x y : Sa} (hx : Tbl.get? d.ms.sas i = some x) (hy : y.lasting = x.lasting) :
    contextBase (setSa d i y) = contextBase d := by
  have hput : lastingSas (setSa d i y).ms = lastingSas d.ms := lastingSas_put hx hy
  rw [contextBase, hput]
  rfl

theorem assocOut_contextBase (d : Device) (a cause : Nat) : contextBase (assocOut d a cause) = contextBase d := by
  have herase : ∀ e i, contextBase (eraseRec e i) = contextBase e := fun e i => by
    simp only [eraseRec]
    split <;> rfl
  unfold assocOut
  split
  · split
    · rfl
    · rw [emit_contextBase]
      exact foldl_keeps contextBase eraseRec herase ..
  · rfl

theorem saOut_contextBase (d : Device) (i : Nat) : contextBase (saOut d i) = contextBase d := by
  rw [contextBase, saOut_lastingSas]
  rfl

theorem contextBase_keepsContexts : KeepsContexts contextBase where
  line d n := writeLine_leaves (fun _ _ _ => rfl) emit_contextBase saOut_contextBase assocOut_contextBase d n
  prs _ _ := rfl
  stats _ _ _ := rfl
  clean _ _ _ hx := contextBase_setSa hx rfl
  count _ _ _ _ := rfl
  emit := emit_contextBase

/-- Without ports of the class there is nothing to verify. -/
theorem flVerify_of_none {d : Device} (hpassed : d.prs.flPassed = []) (hactive : d.prs.flActive = []) (p : Nat) :
    flVerify d p = d := by
  simp [flVerify, flEnter, flActive, hpassed, hactive]

/-! ## Frames dropped as a link goes down (R147, R155, R419, R737) -/

section
variable (d : Device) (p : Nat)

theorem flushPort_unmoved (outcome ctr : Nat) : unmoved (flushPort d p outcome ctr) = unmoved d :=
  foldl_keeps unmoved _ (fun d (e : Nat × Forme) => by
    split
    · exact (count_unmoved ..).trans (dropForme_unmoved ..)
    · rfl) ..

theorem endHold_unmoved : unmoved (endHold d p) = unmoved d :=
  (emit_unmoved ..).trans (flushPort_unmoved ..)

theorem startHold_unmoved : unmoved (startHold d p) = unmoved d := by
  have hheld : ∀ e g t b, unmoved (emit (setGalPort e p g) .galley t b) = unmoved e := fun e g t b => emit_unmoved ..
  have hsent : unmoved (dropWhere d (fun x => x.w.eg == p && x.stage == .sending) 1 false (fun d _ => count d (portCtr 37 p))) =
      unmoved d := dropWhere_unmoved d _ _ _ _ (fun _ _ => rfl)
  simp only [startHold]
  split
  · exact (endHold_unmoved ..).trans ((hheld ..).trans hsent)
  · exact (hheld ..).trans hsent

theorem flushFl_unmoved : unmoved (flushFl d p) = unmoved d := dropWhere_unmoved d _ _ _ _ (fun _ _ => rfl)

theorem flushStaging_unmoved : unmoved (flushStaging d p) = unmoved d := dropWhere_unmoved d _ _ _ _ (fun _ _ => rfl)

theorem flushMessages_unmoved : unmoved (flushMessages d p) = unmoved d := dropWhere_unmoved d _ _ _ _ (fun _ _ => rfl)

end

end Sys2Proof.Machine

/-!
PROOF. Links come up, go down and are forced down: O51.
-/
namespace Sys2Proof.Machine

/-! ## Lanes gain and lose their stages -/

section
variable (d : Device) (n : Nat)

/-- A lane that gains or loses its lock changes lanes and held outputs alone. -/
theorem setCdr_rest (on : Bool) : ∃ lanes squelched,
    setCdr d n on = { d with lane := { d.lane with lanes := lanes, squelched := squelched } } := by
  have hhold : ∀ (l : List Nat) e, ∃ squelched, l.foldl (fun d i => if rclkOn d i ∧ rclkLane d i = n then setSquelch d i true else d) e =
      { e with lane := { e.lane with squelched := squelched } } := by
    intro l
    induction l with
    | nil => exact fun e => ⟨_, rfl⟩
    | cons i l ih =>
      intro e
      obtain ⟨squelched, hrest⟩ := ih (if rclkOn e i ∧ rclkLane e i = n then setSquelch e i true else e)
      rw [List.foldl_cons, hrest]
      split
      · exact ⟨_, rfl⟩
      · exact ⟨_, rfl⟩
  simp only [setCdr]
  split
  · exact ⟨_, _, rfl⟩
  · split
    · exact ⟨_, _, rfl⟩
    · obtain ⟨squelched, hrest⟩ := hhold [0, 1] (setLane d n
        { laneOf d n with signal := false, cdr := false, block := false, trained := false, ltOwned := false })
      exact ⟨_, _, hrest⟩

theorem setCdr_locks : (laneOf (setCdr d n true) n).cdr = true := by
  simp only [setCdr]
  split
  · next hon => exact hon.1
  · rw [if_pos trivial, laneOf_setLane]

theorem laneOf_setCdr_ne {m : Nat} (h : m ≠ n) : laneOf (setCdr d n true) m = laneOf d m := by
  simp only [setCdr]
  split
  · rfl
  · rw [if_pos trivial, laneOf_setLane_ne _ _ h]

/-- Both stages of a lane that a link waits for. -/
def laneHolds (d : Device) (n : Nat) : Bool := (laneOf d n).cdr && (laneOf d n).block

/-- The lane as a link that comes up leaves it. -/
def heldLane (d : Device) (n : Nat) : Device :=
  setLane (setCdr d n true) n { laneOf (setCdr d n true) n with
    block := true, trained := true, ltOwned := trains (setCdr d n true) n }

theorem laneUp_held : ∃ regs, laneUp d n = { heldLane d n with regs := regs } := by
  simp only [laneUp]
  split
  · exact ⟨_, rfl⟩
  · exact ⟨_, rfl⟩

theorem laneUp_rest : ∃ lanes squelched regs,
    laneUp d n = { d with lane := { d.lane with lanes := lanes, squelched := squelched }, regs := regs } := by
  obtain ⟨regs, hup⟩ := laneUp_held d n
  obtain ⟨lanes, squelched, hcdr⟩ := setCdr_rest d n true
  rw [hup, heldLane]
  generalize setCdr d n true = e at hcdr ⊢
  subst hcdr
  exact ⟨_, _, _, rfl⟩

theorem laneHolds_laneUp : laneHolds (laneUp d n) n = true := by
  obtain ⟨regs, hup⟩ := laneUp_held d n
  have hlane : laneOf (laneUp d n) n = laneOf (heldLane d n) n := by rw [hup]; rfl
  rw [laneHolds, hlane, heldLane, laneOf_setLane]
  exact Bool.and_eq_true_iff.2 ⟨setCdr_locks d n, rfl⟩

theorem laneHolds_of_held {m : Nat} (h : laneHolds d m = true) : laneHolds (laneUp d n) m = true := by
  by_cases hm : m = n
  · rw [hm]
    exact laneHolds_laneUp d n
  · obtain ⟨regs, hup⟩ := laneUp_held d n
    have hlane : laneOf (laneUp d n) m = laneOf d m := by
      rw [hup]
      exact (laneOf_setLane_ne _ _ hm).trans (laneOf_setCdr_ne d n hm)
    rw [laneHolds, hlane]
    exact h

theorem laneHolds_lanesUp_of_held {m : Nat} (l : List Nat) (h : laneHolds d m = true) :
    laneHolds (l.foldl laneUp d) m = true := by
  induction l generalizing d with
  | nil => exact h
  | cons n l ih => exact ih _ (laneHolds_of_held d n h)

theorem laneHolds_lanesUp {m : Nat} (l : List Nat) (h : m ∈ l) : laneHolds (l.foldl laneUp d) m = true := by
  induction l generalizing d with
  | nil => simp at h
  | cons n l ih =>
    rcases List.mem_cons.1 h with rfl | htail
    · exact laneHolds_lanesUp_of_held _ l (laneHolds_laneUp d m)
    · exact ih _ htail

/-- Lanes that come up change the lanes and the registers of their taps. -/
theorem lanesUp_rest (l : List Nat) : ∃ lanes squelched regs,
    l.foldl laneUp d = { d with lane := { d.lane with lanes := lanes, squelched := squelched }, regs := regs } := by
  induction l generalizing d with
  | nil => exact ⟨_, _, _, rfl⟩
  | cons n l ih =>
    obtain ⟨lanes, squelched, regs, hup⟩ := laneUp_rest d n
    obtain ⟨lanes', squelched', regs', hrest⟩ := ih (laneUp d n)
    rw [List.foldl_cons, hrest, hup]
    exact ⟨_, _, _, rfl⟩

end

/-! ## A link comes up (R736) -/

section
variable {d : Device} {p : Nat} (up : BringUp)

theorem countFault_same (d : Device) (p : Nat) : SameWork (countFault d p) d := by
  simp only [countFault]
  split
  · exact count_same ..
  · split
    · exact count_same ..
    · exact .refl d

theorem trainPort_same (d : Device) (p : Nat) (up : BringUp) : SameWork (trainPort d p up) d := by
  refine (foldl_same _ _ (fun d n => ?_) _).trans (count_same ..)
  split
  · exact (emit_same ..).trans (count_same ..)
  · exact .refl d

theorem portCtr_ne {j k : Nat} (h : j ≠ k) : portCtr j p ≠ portCtr k p := by
  rw [portCtr, portCtr]
  omega

theorem trainPort_counter (hp : p < 128) : counter (trainPort (countFault d p) p up) (portCtr 62 p) =
    counter d (portCtr 62 p) + BitVec.ofNat 64 up.restarts := by
  have hlow : portCtr 62 p < 8192 := portCtr_low (by decide) hp
  have hfault : counter (countFault d p) (portCtr 62 p) = counter d (portCtr 62 p) := by
    simp only [countFault]
    split
    · exact counter_count_ne (portCtr_ne (by decide))
    · split
      · exact counter_count_ne (portCtr_ne (by decide))
      · rfl
  refine (foldl_keeps (fun d => counter d (portCtr 62 p)) _ (fun d n => ?_) ..).trans
    ((counter_count ..).trans (by rw [hfault]))
  split
  · exact (emit_portCounter _ hlow ..).trans (counter_count_ne (portCtr_ne (by decide)))
  · rfl

/-- The port's lanes are up, and what training counted is counted. -/
def lanesBrought (d : Device) (p : Nat) (up : BringUp) : Device :=
  (portLanes d p).foldl laneUp (trainPort (countFault d p) p up)

/-- The entry of a port that comes up. -/
def broughtLink (d : Device) (p : Nat) (up : BringUp) : PortLink :=
  { up := true, fecLock := match portCfg d p with | some c => hasFec c | none => false
    anDone := (portLanes d p).any (backplane d) || (match portCfg d p with | some c => c.type == 1 | none => false)
    cause := (portLink d p).cause, merge := up.verified }

/-- The link is up, before its pair's fixed-latency class is judged. -/
def linkBrought (d : Device) (p : Nat) (up : BringUp) : Device :=
  let e := lanesBrought d p up
  resumeHold (emit (setPortLink e p (broughtLink e p up)) .lane 0x01 (leBytes 1 p ++ leBytes 4 up.ms.toNat)) p

/-- The class is judged on the port and on its partner. -/
def pairVerified (d : Device) (p : Nat) : Device :=
  match partner (flVerify d p) p with
  | some q => flVerify (flVerify d p) q
  | none => flVerify d p

theorem goUp_of_ready (heth : isEth d p = true) (hdown : linkUp d p = false) (hforce : forceDown d p = false)
    (hrun : portsRun d = true) (hpll : pllLocked d p = true) :
    goUp d p up = bringUpDone (pairVerified (linkBrought d p up) p) := by
  have hgo : (!isEth d p || linkUp d p || forceDown d p || !portsRun d || !pllLocked d p) = false := by
    simp [heth, hdown, hforce, hrun, hpll]
  rw [goUp, hgo]
  rfl

theorem goUp_of_stopped (h : forceDown d p = true ∨ pllLocked d p = false) : goUp d p up = d := by
  have hstop : (!isEth d p || linkUp d p || forceDown d p || !portsRun d || !pllLocked d p) = true := by
    obtain h | h := h <;> simp [h]
  rw [goUp, if_pos hstop]

theorem resumeHold_same (d : Device) (p : Nat) : SameWork { resumeHold d p with gal := d.gal } d := by
  have hset : ∀ g, SameWork { setGalPort d p g with gal := d.gal } d := fun _ => by constructor <;> rfl
  simp only [resumeHold]
  split
  · exact { (emit_same ..).trans (b := setGalPort d p _) (.refl _) with gal := rfl }
  · exact hset _

/-- What the judgement of the class reads and a link that comes up leaves, and what completes with it. -/
def linkBase (d : Device) : Tbl Slot × MacSec × List Nat × List Nat := (d.key.slots, d.ms, d.prs.flPassed, d.prs.flActive)

theorem lanesBrought_rest (d : Device) (p : Nat) (up : BringUp) : linkBase (lanesBrought d p up) = linkBase d ∧
    (lanesBrought d p up).lane.ports = d.lane.ports ∧
    (lanesBrought d p up).counters = (trainPort (countFault d p) p up).counters := by
  have hsame : SameWork (trainPort (countFault d p) p up) d := (trainPort_same ..).trans (countFault_same ..)
  obtain ⟨lanes, squelched, regs, hrest⟩ := lanesUp_rest (trainPort (countFault d p) p up) (portLanes d p)
  rw [lanesBrought, hrest]
  exact ⟨by simp only [linkBase, hsame.key, hsame.ms, hsame.prs], (congrArg Lanes.ports hsame.lane :), rfl⟩

/-- The link as it comes up: the port's entry is new, the class has nothing else to judge, and the counts stay. -/
theorem linkBrought_entry (d : Device) (p : Nat) (up : BringUp) : ∃ x : PortLink, x.up = true ∧ x.merge = up.verified ∧
    (linkBrought d p up).lane = (setPortLink (lanesBrought d p up) p x).lane :=
  ⟨broughtLink (lanesBrought d p up) p up, rfl, rfl, (resumeHold_same ..).lane.trans (emit_same ..).lane⟩

theorem linkBrought_base (d : Device) (p : Nat) (up : BringUp) : linkBase (linkBrought d p up) = linkBase d := by
  have hsame := fun e => resumeHold_same e p
  refine Eq.trans ?_ (lanesBrought_rest d p up).1
  rw [linkBrought, linkBase]
  simp only [show ∀ e, (resumeHold e p).key = e.key from fun e => (hsame e).key,
    show ∀ e, (resumeHold e p).ms = e.ms from fun e => (hsame e).ms,
    show ∀ e, (resumeHold e p).prs = e.prs from fun e => (hsame e).prs, (emit_same ..).key, (emit_same ..).ms,
    (emit_same ..).prs]
  rfl

theorem linkBrought_counter (hp : p < 128) : counter (linkBrought d p up) (portCtr 62 p) =
    counter d (portCtr 62 p) + BitVec.ofNat 64 up.restarts := by
  have hlow : portCtr 62 p < 8192 := portCtr_low (by decide) hp
  have hresume : ∀ e, counter (resumeHold e p) (portCtr 62 p) = counter e (portCtr 62 p) := fun e => by
    simp only [resumeHold]
    split
    · exact emit_portCounter _ hlow ..
    · rfl
  refine (hresume _).trans ((emit_portCounter _ hlow ..).trans ?_)
  rw [← trainPort_counter up hp]
  exact congrArg (Tbl.getD · (portCtr 62 p) 0#64) (lanesBrought_rest d p up).2.2

theorem KeepsContexts.pairVerified {β : Type} {get : Device → β} (h : KeepsContexts get) (d : Device) (p : Nat) :
    get (pairVerified d p) = get d := by
  unfold Machine.pairVerified
  split
  · exact (h.flVerify ..).trans (h.flVerify ..)
  · exact h.flVerify ..

theorem pairVerified_of_none {d : Device} (hpassed : d.prs.flPassed = []) (hactive : d.prs.flActive = []) (p : Nat) :
    pairVerified d p = d := by
  unfold pairVerified
  split
  · rw [flVerify_of_none hpassed hactive, flVerify_of_none hpassed hactive]
  · rw [flVerify_of_none hpassed hactive]

theorem bringUpDone_glb (d : Device) : ∃ glb, bringUpDone d = { d with glb := glb } := by
  unfold bringUpDone
  split
  · split
    · exact ⟨_, rfl⟩
    · exact ⟨_, rfl⟩
  · exact ⟨_, rfl⟩

theorem pn_of_lastingSas {a b : Device} (h : lastingSas a.ms = lastingSas b.ms) (k : Nat) :
    (saOf a k).map Sa.pn = (saOf b k).map Sa.pn := by
  have hk := congrArg (Option.map Sa.pn) (congrFun h k)
  simp only [lastingSas, Option.map_map] at hk
  exact hk

theorem portLink_setPortLink (d : Device) (p : Nat) (x : PortLink) : portLink (setPortLink d p x) p = x := Tbl.getD_setD ..

theorem portLink_setPortLink_ne (d : Device) {p q : Nat} (x : PortLink) (h : q ≠ p) :
    portLink (setPortLink d p x) q = portLink d q := Tbl.getD_setD_ne _ _ _ _ _ _ h

theorem portLink_congr {a b : Device} (h : a.lane.ports = b.lane.ports) (q : Nat) : portLink a q = portLink b q := by
  rw [portLink, portLink, h]

/-- What LINK_UP leaves and brings on a port that is ready for it. -/
theorem goUp_brings (hp : p < 128) (heth : isEth d p = true) (hdown : linkUp d p = false) (hforce : forceDown d p = false)
    (hrun : portsRun d = true) (hpll : pllLocked d p = true) :
    (portLink (goUp d p up) p).up = true ∧ (portLink (goUp d p up) p).merge = up.verified ∧
      counter (goUp d p up) (portCtr 62 p) = counter d (portCtr 62 p) + BitVec.ofNat 64 up.restarts ∧
      (∀ n ∈ portLanes d p, laneHolds (goUp d p up) n = true) ∧
      (∀ q, q ≠ p → portLink (goUp d p up) q = portLink d q) ∧
      contextBase (goUp d p up) = contextBase (linkBrought d p up) ∧
      (d.prs.flPassed = [] → d.prs.flActive = [] → (goUp d p up).ms = d.ms) := by
  obtain ⟨x, hup, hmerge, hlane⟩ := linkBrought_entry d p up
  obtain ⟨-, hports, -⟩ := lanesBrought_rest d p up
  have hbase := linkBrought_base up (d := d) (p := p)
  obtain ⟨glb, hdone⟩ := bringUpDone_glb (pairVerified (linkBrought d p up) p)
  have hcontext := contextBase_keepsContexts.pairVerified (linkBrought d p up) p
  have hcounter := (portCounter_keepsContexts (portCtr_low (show 62 < 63 by decide) hp)).pairVerified (linkBrought d p up) p
  rw [goUp_of_ready up heth hdown hforce hrun hpll, hdone]
  have hlanes : (pairVerified (linkBrought d p up) p).lane = (setPortLink (lanesBrought d p up) p x).lane :=
    (congrArg Prod.fst hcontext).trans hlane
  have hlink : ∀ q, portLink { pairVerified (linkBrought d p up) p with glb := glb } q =
      portLink (setPortLink (lanesBrought d p up) p x) q := fun q => portLink_congr (congrArg Lanes.ports hlanes) q
  refine ⟨?_, ?_, hcounter.trans (linkBrought_counter up hp), fun n hn => ?_, fun q hq => ?_, hcontext, fun hpassed hactive => ?_⟩
  · rw [hlink, portLink_setPortLink, hup]
  · rw [hlink, portLink_setPortLink, hmerge]
  · have hof : laneOf { pairVerified (linkBrought d p up) p with glb := glb } n = laneOf (lanesBrought d p up) n :=
      laneOf_congr hlanes n
    rw [laneHolds, hof]
    exact laneHolds_lanesUp _ (portLanes d p) hn
  · rw [hlink, portLink_setPortLink_ne _ _ hq, portLink_congr hports]
  · simp only [linkBase, Prod.mk.injEq] at hbase
    obtain ⟨-, hms, hp', ha'⟩ := hbase
    rw [pairVerified_of_none (hp'.trans hpassed) (ha'.trans hactive)]
    exact hms

end

/-! ## A link goes down (R737) -/

/-- What a lane's loss of its stages leaves. -/
def downBase (d : Device) : Glb × Boot × Tbl Slot × Tbl PortLink × (Nat → W32) :=
  (d.glb, d.boot, d.key.slots, d.lane.ports, ethCfgs d)

section
variable (d : Device) (p cause : Nat)

theorem setCdr_downBase (n : Nat) (on : Bool) : downBase (setCdr d n on) = downBase d := by
  obtain ⟨lanes, squelched, hrest⟩ := setCdr_rest d n on
  rw [hrest]
  rfl

theorem laneLoss_downBase (n : Nat) : downBase (laneLoss d cause n) = downBase d := by
  have hset : ∀ e m x, downBase (setLane e m x) = downBase e := fun _ _ _ => rfl
  simp only [laneLoss]
  split
  · exact setCdr_downBase ..
  · split
    · exact (hset ..).trans (setCdr_downBase ..)
    · split <;> rfl

/-- The port's lanes have lost what its cause takes, and its entry says so. -/
def linkLost (d : Device) (p cause : Nat) : Device :=
  setPortLink ((portLanes d p).foldl (fun d n => laneLoss d cause n) d) p (downLink d p cause)

/-- The loss is reported, and fixed-latency frames of the pair are flushed. -/
def lossReported (d : Device) (p cause : Nat) : Device :=
  flushFl (emit (count (if cause = 1 then count (linkLost d p cause) (portCtr 61 p) else linkLost d p cause) (portCtr 47 p))
    .lane 0x02 (leBytes 1 p ++ leBytes 1 cause)) p

theorem goDown_eq (h : linkUp d p = true) : goDown d p cause =
    if isAggregate (lossReported d p cause) p then startHold (flushMessages (lossReported d p cause) p) p
    else if isLink (lossReported d p cause) p then flushStaging (lossReported d p cause) p else lossReported d p cause := by
  rw [goDown, if_neg (by simp [h])]
  rfl

/-- A link that goes down is lost, and drops frames. -/
theorem goDown_unmoved (h : linkUp d p = true) : unmoved (goDown d p cause) = unmoved (linkLost d p cause) := by
  have hcounted : unmoved (if cause = 1 then count (linkLost d p cause) (portCtr 61 p) else linkLost d p cause) =
      unmoved (linkLost d p cause) := by
    split <;> rfl
  have hreported : unmoved (lossReported d p cause) = unmoved (linkLost d p cause) :=
    (flushFl_unmoved ..).trans ((emit_unmoved ..).trans ((count_unmoved ..).trans hcounted))
  rw [goDown_eq d p cause h]
  split
  · exact (startHold_unmoved ..).trans ((flushMessages_unmoved ..).trans hreported)
  · split
    · exact (flushStaging_unmoved ..).trans hreported
    · exact hreported

theorem linkLost_facts : (linkLost d p cause).glb = d.glb ∧ (linkLost d p cause).boot = d.boot ∧
    (linkLost d p cause).key.slots = d.key.slots ∧ portLink (linkLost d p cause) p = downLink d p cause ∧
    (∀ q, q ≠ p → portLink (linkLost d p cause) q = portLink d q) ∧ ethCfgs (linkLost d p cause) = ethCfgs d := by
  have hfold := foldl_keeps downBase (fun d n => laneLoss d cause n) (fun d n => laneLoss_downBase d cause n) (portLanes d p) d
  simp only [downBase, Prod.mk.injEq] at hfold
  obtain ⟨hglb, hboot, hslots, hports, hcfg⟩ := hfold
  exact ⟨hglb, hboot, hslots, portLink_setPortLink .., fun q hq =>
    (portLink_setPortLink_ne _ _ hq).trans (portLink_congr hports q), hcfg⟩

/-- What LINK_DOWN leaves: the port's entry is new, and mode, profile, slots, settings and the other entries stay. -/
theorem goDown_facts (h : linkUp d p = true) : (goDown d p cause).glb = d.glb ∧ (goDown d p cause).boot = d.boot ∧
    (goDown d p cause).key.slots = d.key.slots ∧ portLink (goDown d p cause) p = downLink d p cause ∧
    (∀ q, q ≠ p → portLink (goDown d p cause) q = portLink d q) ∧ ethCfgs (goDown d p cause) = ethCfgs d := by
  have hsame := goDown_unmoved d p cause h
  obtain ⟨hglb, hboot, hslots, hentry, hothers, hcfg⟩ := linkLost_facts d p cause
  have hports := fun q => portLink_congr (congrArg (fun x : Unmoved => x.lane.ports) hsame) q
  exact ⟨(congrArg Unmoved.glb hsame).trans hglb, (congrArg Unmoved.boot hsame).trans hboot,
    (congrArg Unmoved.slots hsame).trans hslots, (hports p).trans hentry, fun q hq => (hports q).trans (hothers q hq),
    (congrArg Unmoved.ethCfgs hsame).trans hcfg⟩

theorem goDown_of_down (h : linkUp d p = false) : goDown d p cause = d := by
  rw [goDown, if_pos (by simp [h])]

end

end Sys2Proof.Machine

/-!
PROOF. A lane group's PLL, held outputs, and the rows of the links: O51.
-/
namespace Sys2Proof.Machine

/-! ## LOS of a port whose group's PLL is lost (R288, R738) -/

/-- What the LOS of a port leaves. -/
def lossBase (d : Device) : Glb × Boot × Tbl Slot × Tbl PortLink := (d.glb, d.boot, d.key.slots, d.lane.ports)

theorem LineWork.lossBase {l : List Nat} {a b : Device} (h : LineWork l a b) : lossBase a = lossBase b := by
  have hglb : a.glb = b.glb := SameWork.glb (a := { a with frm := b.frm, kn := b.kn }) h.work
  have hlane : a.lane = b.lane := SameWork.lane (a := { a with frm := b.frm, kn := b.kn }) h.work
  simp only [Machine.lossBase, hglb, h.boot, h.key, hlane]

section
variable (d : Device) (p : Nat)

theorem setCdr_lossBase (n : Nat) (on : Bool) : lossBase (setCdr d n on) = lossBase d := by
  obtain ⟨lanes, squelched, hrest⟩ := setCdr_rest d n on
  rw [hrest]
  rfl

theorem evalLol_lossBase : lossBase (evalLol d p) = lossBase d := by
  unfold evalLol
  split
  · exact (settleLine_lineWork ..).lossBase.trans (setDefect_lineWork ..).lossBase
  · rfl

theorem losChange_lossBase (raised : Bool) : lossBase (losChange d p raised) = lossBase d := by
  have hlanes : ∀ (l : List Nat) e, lossBase (l.foldl (fun d n => setCdr d n (!raised)) e) = lossBase e :=
    foldl_keeps lossBase _ (fun d n => setCdr_lossBase d n (!raised))
  have hstreams : ∀ (s : Nat → Stream) (l : List Nat) e,
      lossBase (l.foldl (fun e k => setStream (dropTrackers e p k) p k (s k)) e) = lossBase e := fun _ =>
    foldl_keeps lossBase _ (fun _ _ => rfl)
  have htraces : ∀ e, lossBase (clearTraces e p) = lossBase e := fun e =>
    clearTraces_keeps (fun _ _ h => h.lossBase) (fun _ _ _ _ => rfl) e p
  simp only [losChange]
  refine (evalLol_lossBase ..).trans ?_
  split
  · exact (htraces _).trans ((hlanes ..).trans (hstreams ..))
  · exact (setDefect_lineWork ..).lossBase.trans ((hlanes ..).trans (hstreams ..))

theorem countBip_lossBase (key : Nat) (path : Bool) (seen : LineSeen) : lossBase (countBip d p key path seen) = lossBase d := by
  simp only [countBip]
  rfl

theorem losDefectChange_lossBase (raised : Bool) (seen : LineSeen) :
    lossBase (portDefectChange d p 0 raised seen) = lossBase d := by
  have hraised : ∀ e v, lossBase (settleLine (losChange (setDefect e p 0 v) p v) p) = lossBase e := fun e v =>
    (settleLine_lineWork ..).lossBase.trans ((losChange_lossBase ..).trans (setDefect_lineWork ..).lossBase)
  simp only [portDefectChange, show ¬(0 : Nat) = 13 by decide, show ¬(0 : Nat) = 4 by decide, show ¬(0 : Nat) = 14 by decide,
    if_false, if_true]
  generalize he : countBip d p _ _ seen = e
  have hcounted : lossBase e = lossBase d := by rw [← he, countBip_lossBase]
  split
  · exact hcounted
  · exact (hraised ..).trans hcounted

/-! ## PLLs (R738) -/

/-- Mode, profile and slots. -/
def modeBase (d : Device) : Glb × Boot × Tbl Slot := (d.glb, d.boot, d.key.slots)

theorem goDown_modeBase (cause : Nat) : modeBase (goDown d p cause) = modeBase d := by
  cases h : linkUp d p
  · rw [goDown_of_down d p cause h]
  · obtain ⟨hglb, hboot, hslots, -⟩ := goDown_facts d p cause h
    simp only [modeBase, hglb, hboot, hslots]

theorem losePort_modeBase : modeBase (losePort d p) = modeBase d := by
  unfold losePort
  split
  · exact goDown_modeBase ..
  · split
    · rfl
    · exact congrArg (fun x : Glb × Boot × Tbl Slot × Tbl PortLink => (x.1, x.2.1, x.2.2.1)) (losDefectChange_lossBase d p true {})

theorem goDown_down (cause : Nat) : linkUp (goDown d p cause) p = false := by
  cases h : linkUp d p
  · rwa [goDown_of_down d p cause h]
  · obtain ⟨-, -, -, hentry, -⟩ := goDown_facts d p cause h
    exact congrArg PortLink.up hentry

/-- A link that is down stays down as another port is lost. -/
theorem losePort_stays {q : Nat} (hdown : linkUp d q = false) : linkUp (losePort d p) q = false := by
  unfold losePort
  split
  · by_cases hq : q = p
    · rw [hq]
      exact goDown_down ..
    · cases h : linkUp d p
      · rwa [goDown_of_down d p 7 h]
      · obtain ⟨-, -, -, -, hothers, -⟩ := goDown_facts d p 7 h
        exact (congrArg PortLink.up (hothers q hq)).trans hdown
  · split
    · exact hdown
    · have hports : (portDefectChange d p 0 true {}).lane.ports = d.lane.ports :=
        congrArg (fun x : Glb × Boot × Tbl Slot × Tbl PortLink => x.2.2.2) (losDefectChange_lossBase d p true {})
      exact (congrArg PortLink.up (portLink_congr hports q)).trans hdown

theorem isEth_congr {a b : Device} (h : a.boot = b.boot) (q : Nat) : isEth a q = isEth b q := by
  simp only [isEth, portCfg, h]

theorem losePorts_stay {q : Nat} (l : List Nat) (hdown : linkUp d q = false) : linkUp (l.foldl losePort d) q = false := by
  induction l generalizing d with
  | nil => exact hdown
  | cons p l ih => exact ih _ (losePort_stays d p hdown)

/-- Every Ethernet port that is lost is down. -/
theorem losePorts_down {q : Nat} (l : List Nat) (hq : q ∈ l) (heth : isEth d q = true) :
    linkUp (l.foldl losePort d) q = false := by
  induction l generalizing d with
  | nil => simp at hq
  | cons p l ih =>
    rcases List.mem_cons.1 hq with rfl | htail
    · refine losePorts_stay _ l ?_
      rw [losePort, if_pos heth]
      exact goDown_down ..
    · have hboot : (losePort d p).boot = d.boot := congrArg (fun x : Glb × Boot × Tbl Slot => x.2.1) (losePort_modeBase d p)
      exact ih _ htail (by rw [isEth_congr hboot, heth])

end

section
variable {d : Device}

/-- The PLL's loss is reported. -/
def pllReported (d : Device) (g : Nat) : Device :=
  emit (count { d with glb := { d.glb with groupPll := d.glb.groupPll &&& ~~~(1#8 <<< g) } } (unitCtr 19 g)) .lane 0x07
    (leBytes 1 g)

theorem pllLost_eq {g : Nat} (h : d.glb.groupPll.getLsbD g = true) :
    pllLost d g = (groupPorts (pllReported d g) g).foldl losePort (pllReported d g) := by
  rw [pllLost, if_pos h]
  rfl

theorem pllLost_facts {g : Nat} (h : d.glb.groupPll.getLsbD g = true) :
    (pllLost d g).glb.groupPll = d.glb.groupPll &&& ~~~(1#8 <<< g) ∧
      (∀ p ∈ groupPorts d g, isEth d p = true → linkUp (pllLost d g) p = false) ∧
      (pllLost d g).key.slots = d.key.slots := by
  have hsame := emit_same (count { d with glb := { d.glb with groupPll := d.glb.groupPll &&& ~~~(1#8 <<< g) } } (unitCtr 19 g))
    .lane 0x07 (leBytes 1 g)
  have hports : groupPorts (pllReported d g) g = groupPorts d g := by
    rw [groupPorts, show (pllReported d g).boot = d.boot from hsame.boot, groupPorts]
  have hfold := foldl_keeps modeBase losePort losePort_modeBase (groupPorts d g) (pllReported d g)
  rw [pllLost_eq h, hports]
  refine ⟨?_, fun p hp heth => ?_, ?_⟩
  · exact congrArg Glb.groupPll ((congrArg Prod.fst hfold).trans hsame.glb)
  · exact losePorts_down _ _ hp ((isEth_congr (a := pllReported d g) hsame.boot p).trans heth)
  · exact (congrArg (fun x : Glb × Boot × Tbl Slot => x.2.2) hfold).trans (congrArg Keys.slots hsame.key)

theorem pllBack_of_group {g : Nat} (h : 16 * g < d.glb.part.lanes) :
    pllBack d g = wakePath { d with glb := { d.glb with groupPll := d.glb.groupPll ||| (1#8 <<< g) } } := by
  rw [pllBack, if_neg (by omega)]

theorem wakePath_glb (d : Device) : ∃ awake, wakePath d = { d with glb := { d.glb with awake := awake } } := by
  unfold wakePath
  split
  · exact ⟨_, rfl⟩
  · exact ⟨_, rfl⟩

theorem releaseSquelch_of_locked {i : Nat} {x : Lane} (hheld : Tbl.getD d.lane.squelched i false = true)
    (hx : x = laneOf d (rclkLane d i)) (hcdr : x.cdr = true) :
    releaseSquelch d i = setSquelch (elapseTo d (x.cdrAt + 500000)) i false := by
  subst hx
  rw [releaseSquelch, if_pos ⟨hheld, hcdr⟩]
  rfl

/-- A write that forces a port down leaves all but the port's settings, which hold the bit. -/
theorem forceDown_plainWrite {p : Nat} (hp : p < 128) (val : W32) (hbit : bit val 0 = true) :
    forceDown (plainWrite d (ethCfgOff p) val) p = true := by
  have hfused : fusedOff d.glb.part (ethCfgOff p) = false := fusedOff_above _ (by rw [ethCfgOff]; omega)
  have hholds : (regN 0x80000 8 128 (mask 23 16 ||| mask 0 0) 0 0 0x000A0000#32).holds (ethCfgOff p) = true :=
    RegInfo.holds_elem (by decide) hp
  rw [forceDown, bit_plainWrite hfused (i := regN 0x80000 8 128 (mask 23 16 ||| mask 0 0) 0 0 0x000A0000#32) (by decide) hholds
    val (by decide) (by decide) rfl, hbit]

theorem writeEthCfg_of_forced {p : Nat} (hp : p < 128) (val : W32) (hbit : bit val 0 = true) :
    writeEthCfg d p val = goDown (plainWrite d (ethCfgOff p) val) p 8 := by
  rw [writeEthCfg, if_pos (forceDown_plainWrite hp val hbit)]

end

section
variable (s : State)

theorem exec_linkUp (p : Fin 128) (up : BringUp) : exec (.linkUp p up) s = .next (s.having (goUp s.dev p up)) := rfl

theorem exec_linkDown (p : Fin 128) (cause : Fin 9) : exec (.linkDown p cause) s = .next (s.having (goDown s.dev p cause)) := rfl

theorem exec_forceDownWrite (p : Fin 128) (val : W32) :
    exec (.forceDownWrite p val) s = .next (s.having (writeEthCfg s.dev p val)) := rfl

theorem exec_pllUnlock (g : Fin 8) : exec (.pllUnlock g) s = .next (s.having (pllLost s.dev g)) := rfl

theorem exec_groupPllRelock (g : Fin 8) : exec (.groupPllRelock g) s = .next (s.having (pllBack s.dev g)) := rfl

theorem exec_rclkSquelchRelease (i : Fin 2) :
    exec (.rclkSquelchRelease i) s = .next (s.having (releaseSquelch s.dev i)) := rfl

end

/-- Settles O51: a link that comes up by `goUp_brings`, one that goes down by `goDown_facts`, the PLL by `pllLost_facts`. -/
theorem linksFollowTheirLanes : Obligations.LinksFollowTheirLanes := by
  refine ⟨?up, ?stopped, ?down, ?forced, ?unlock, ?absent, ?relock, ?squelch⟩
  case up =>
    intro p up s heth hdown hforce hrun hpll
    obtain ⟨hup, hmerge, hcounter, hlanes, hothers, hcontext, hms⟩ :=
      goUp_brings up p.isLt heth hdown hforce hrun hpll
    have hbase := linkBrought_base up (d := s.dev) (p := p)
    simp only [contextBase, linkBase, Prod.mk.injEq] at hcontext hbase
    obtain ⟨-, hslots, hsecys, hscs, hsas⟩ := hcontext
    obtain ⟨hkept, hmacsec, -⟩ := hbase
    refine ⟨_, exec_linkUp s p up, hup, hmerge, hcounter, fun n hn => Bool.and_eq_true_iff.1 (hlanes n hn),
      fun q hq => congrArg PortLink.up (hothers q hq), hslots.trans hkept, ?_, ?_, fun k => ?_, hms⟩
    · rw [hsecys, hmacsec]
    · rw [hscs, hmacsec]
    · exact pn_of_lastingSas (hsas.trans (congrArg lastingSas hmacsec)) k
  case stopped =>
    intro p up s h
    rw [exec_linkUp, goUp_of_stopped up h]
    rfl
  case down =>
    intro p cause s hup
    obtain ⟨hglb, -, hslots, hentry, hothers, -⟩ := goDown_facts s.dev p cause hup
    exact ⟨_, exec_linkDown s p cause, congrArg PortLink.up hentry, congrArg PortLink.cause hentry, hothers, hslots, hglb⟩
  case forced =>
    intro p val s hbit hup
    have hsame := plainWrite_same s.dev (ethCfgOff p) val
    have hstill : linkUp (plainWrite s.dev (ethCfgOff p) val) p = true := by rw [linkUp, hsame.lane]; exact hup
    obtain ⟨hglb, -, hslots, hentry, -, hcfg⟩ := goDown_facts (plainWrite s.dev (ethCfgOff p) val) p 8 hstill
    refine ⟨_, exec_forceDownWrite s p val, ?_⟩
    rw [writeEthCfg_of_forced p.isLt val hbit]
    refine ⟨congrArg PortLink.up hentry, congrArg PortLink.cause hentry, ?_, hslots.trans (congrArg Keys.slots hsame.key),
      hglb.trans hsame.glb⟩
    exact (congrArg (bit · 0) (congrFun hcfg p)).trans (forceDown_plainWrite p.isLt val hbit)
  case unlock =>
    intro g s h
    exact ⟨_, exec_pllUnlock s g, pllLost_facts h⟩
  case absent =>
    intro g s h
    rw [exec_groupPllRelock, pllBack, if_pos h]
    rfl
  case relock =>
    intro g s h
    obtain ⟨awake, hwake⟩ := wakePath_glb { s.dev with glb := { s.dev.glb with groupPll := s.dev.glb.groupPll ||| (1#8 <<< g.val) } }
    refine ⟨_, exec_groupPllRelock s g, ?_⟩
    rw [pllBack_of_group h, hwake]
    exact ⟨rfl, rfl, rfl, by constructor <;> rfl⟩
  case squelch =>
    intro i s x hheld hx hcdr
    rw [exec_rclkSquelchRelease, releaseSquelch_of_locked hheld hx hcdr]

end Sys2Proof.Machine

/-!
PROOF. Formes: a frame that is dropped leaves none of its own and gives no other frame one, so that traffic that stops
leaves none.
-/
namespace Sys2Proof.Machine

/-! ## Formes come only with frames (R116-R121) -/

/-- The formes in use. -/
def formesOf (d : Device) : Tbl Forme := d.prs.formes

theorem forme?_congr {a b : Device} (h : formesOf a = formesOf b) (k : Nat) : forme? a k = forme? b k :=
  congrArg (fun t => Tbl.get? t k) h

theorem formesOf_keepsDrops : KeepsDrops formesOf where
  same h _ := by simp only [formesOf, h.prs]
  mem _ _ := rfl
  ms _ _ := rfl
  kn _ _ := rfl
  cls _ _ := rfl
  record _ _ _ := rfl
  prs _ _ h _ := h
  gal _ _ := rfl
  queues _ _ h := h

/-- No number has a forme on `a` that has none on `b`. -/
def NoNewForme (a b : Device) : Prop := ∀ k, forme? b k = none → forme? a k = none

theorem NoNewForme.trans {a b c : Device} (h : NoNewForme a b) (g : NoNewForme b c) : NoNewForme a c :=
  fun k hk => h k (g k hk)

theorem NoNewForme.of_formes {a b : Device} (h : formesOf a = formesOf b) : NoNewForme a b :=
  fun k hk => (forme?_congr h k).trans hk

section
variable (d : Device) (f : Nat) (x : Forme)

theorem endForme_forme? (outcome stage k : Nat) :
    forme? (endForme d f x outcome stage) k = if k = f then none else forme? d k := by
  obtain ⟨e, he, hend⟩ := formesOf_keepsDrops.leftPort d f x outcome stage
  have hformes : formesOf (endForme d f x outcome stage) = Tbl.del (formesOf d) f := by
    rw [hend, formesOf_keepsDrops.resumeAlloc, formesOf_keepsDrops.settleRemaps, ← he]
    rfl
  rw [forme?_congr (b := removeForme d f) hformes]
  split
  · next hk =>
    rw [hk]
    exact Tbl.get?_del ..
  · next hk => exact Tbl.get?_del_ne _ _ _ hk

theorem dropOnly_forme? (outcome : Nat) (localDrop : Bool) (k : Nat) :
    forme? (dropOnly d f x outcome localDrop) k = if k = f then none else forme? d k := by
  obtain ⟨e, he, hdrop⟩ := formesOf_keepsDrops.valued d f x outcome localDrop
  rw [hdrop, endForme_forme?, forme?_congr he]

theorem dropOnly_noNewForme (outcome : Nat) (localDrop : Bool) : NoNewForme (dropOnly d f x outcome localDrop) d :=
  fun k hk => by rw [dropOnly_forme?, hk, ite_self]

variable {d f} in
/-- A frame that has a forme only changes it. -/
theorem setForme_noNewForme (hthere : (forme? d f).isSome = true) : NoNewForme (setForme d f x) d := fun k hk => by
  have hne : k ≠ f := fun hkf => by simp [← hkf, hk] at hthere
  exact (Tbl.get?_put_ne _ _ _ _ hne).trans hk

/-! ## The frames behind a dropped one (R193-R199) -/

variable {d f} in
theorem deliverRx_noNewForme (hthere : (forme? d f).isSome = true) : NoNewForme (deliverRx d f x) d := by
  unfold deliverRx
  split
  · exact dropOnly_noNewForme _ _ _ _ _
  · exact setForme_noNewForme x hthere

variable {d f} in
theorem discardRx_noNewForme (i : Nat) (hthere : (forme? d f).isSome = true) : NoNewForme (discardRx d f i x) d := by
  unfold discardRx
  split
  · exact (NoNewForme.of_formes (formesOf_keepsDrops.countStomp ..)).trans (setForme_noNewForme _ hthere)
  · exact dropOnly_noNewForme _ _ _ _ _

/-- A received frame takes its outcome where it stands. -/
theorem settleFrame_eq (i : Nat) : ∃ e, formesOf e = formesOf d ∧ ∃ y, (settleFrame d f i x = deliverRx e f y ∨
    settleFrame d f i x = discardRx e f i y ∨ settleFrame d f i x = dropOnly e f y 1 false) := by
  have hsa : ∀ e a, formesOf (setSa e i a) = formesOf e := fun _ _ => rfl
  simp only [settleFrame]
  split
  · generalize he : addTuple _ _ _ _ _ _ _ _ = e
    have hformes : formesOf e = formesOf d := by
      rw [← he]
      simp only [formesOf_keepsDrops.addTuple, apply_ite formesOf, formesOf_keepsDrops.teach, formesOf_keepsDrops.emit, hsa,
        formesOf_keepsDrops.addStat, ite_self]
    refine ⟨e, hformes, ?_⟩
    split
    · exact ⟨_, .inl rfl⟩
    · exact ⟨_, .inr (.inl rfl)⟩
  · exact ⟨d, rfl, x, .inr (.inr rfl)⟩

variable {d f} in
theorem settleFrame_noNewForme (i : Nat) (hthere : (forme? d f).isSome = true) : NoNewForme (settleFrame d f i x) d := by
  obtain ⟨e, he, y, hsettled⟩ := settleFrame_eq d f x i
  refine NoNewForme.trans ?_ (NoNewForme.of_formes he)
  have hthere : (forme? e f).isSome = true := by rwa [forme?_congr he]
  rcases hsettled with hsettled | hsettled | hsettled <;> rw [hsettled]
  · exact deliverRx_noNewForme y hthere
  · exact discardRx_noNewForme y i hthere
  · exact dropOnly_noNewForme _ _ _ _ _

end

/-- The earlier of two frames in dispatch order. -/
def earlierOf (best : Option (Nat × Forme)) (e : Nat × Forme) : Option (Nat × Forme) :=
  match best with
  | some b => if e.2.w.no < b.2.w.no then some e else some b
  | none => some e

theorem earlierOf_mem (best : Option (Nat × Forme)) (e : Nat × Forme) :
    earlierOf best e = some e ∨ earlierOf best e = best := by
  unfold earlierOf
  split
  · split
    · exact .inl rfl
    · exact .inr rfl
  · exact .inl rfl

theorem firstUnsettled_eq (d : Device) (i : Nat) : firstUnsettled d i = (d.prs.formes.filter
    (fun e => e.2.w.sa == some i && e.2.w.dec && e.2.press.isSome && !e.2.settled)).foldl earlierOf none := rfl

theorem firstUnsettled_isSome {d : Device} {i f : Nat} {x : Forme} (h : firstUnsettled d i = some (f, x)) :
    (forme? d f).isSome = true := by
  rw [firstUnsettled_eq] at h
  refine List.foldlRecOn (motive := fun best => ∀ e, best = some e → (forme? d e.1).isSome = true) _ earlierOf
    (fun _ hnone => by cases hnone) (fun best hbest a ha e he => ?_) (f, x) h
  rcases earlierOf_mem best a with hnext | hnext <;> rw [hnext] at he
  · cases he
    exact Tbl.isSome_get?_of_mem (List.mem_filter.1 ha).1
  · exact hbest e he

theorem settleSa_noNewForme (i n : Nat) (d : Device) : NoNewForme (settleSa i n d) d := by
  induction n generalizing d with
  | zero => exact fun _ h => h
  | succ n ih =>
    unfold settleSa
    split
    · next f x hfirst =>
      split
      · exact (ih _).trans (settleFrame_noNewForme x i (firstUnsettled_isSome hfirst))
      · exact fun _ h => h
    · exact fun _ h => h

/-! ## Drops -/

section
variable (d : Device)

theorem dropForme_of (f : Nat) (x : Forme) (outcome : Nat) (localDrop : Bool) :
    NoNewForme (dropForme d f x outcome localDrop) (dropOnly d f x outcome localDrop) := by
  rw [dropForme, settleAfter]
  split
  · split
    · exact settleSa_noNewForme _ _ _
    · exact fun _ h => h
  · exact fun _ h => h

/-- A dropped frame's forme is free, and no other frame has one that had none. -/
theorem dropForme_noNewForme (f : Nat) (x : Forme) (outcome : Nat) (localDrop : Bool) :
    NoNewForme (dropForme d f x outcome localDrop) d ∧ forme? (dropForme d f x outcome localDrop) f = none :=
  ⟨(dropForme_of _ _ _ _ _).trans (dropOnly_noNewForme _ _ _ _ _),
    dropForme_of d f x outcome localDrop f (by rw [dropOnly_forme?, if_pos rfl])⟩

/-- The frame of forme `f`, if there is one, is dropped and counted by `each`. -/
def dropAt (outcome : Nat) (localDrop : Bool) (each : Device → Forme → Device) (f : Nat) : Device :=
  match forme? d f with
  | some x => each (dropForme d f x outcome localDrop) x
  | none => d

theorem dropWhere_eq (p : Forme → Bool) (outcome : Nat) (localDrop : Bool) (each : Device → Forme → Device) :
    dropWhere d p outcome localDrop each =
      ((d.prs.formes.filter (fun e => p e.2)).map Prod.fst).foldl (fun d f => dropAt d outcome localDrop each f) d := rfl

section
variable {each : Device → Forme → Device} (heach : ∀ e x, formesOf (each e x) = formesOf e)
  (outcome : Nat) (localDrop : Bool)
include heach

theorem dropAt_noNewForme (f : Nat) :
    NoNewForme (dropAt d outcome localDrop each f) d ∧ forme? (dropAt d outcome localDrop each f) f = none := by
  unfold dropAt
  split
  · next x _ =>
    obtain ⟨hnone, hgone⟩ := dropForme_noNewForme d f x outcome localDrop
    exact ⟨(NoNewForme.of_formes (heach ..)).trans hnone, (forme?_congr (heach ..) f).trans hgone⟩
  · next hfree => exact ⟨fun _ h => h, hfree⟩

/-- Once the frames of these formes are dropped, in any order, only other formes are in use. -/
theorem foldl_dropAt (l : List Nat) (e : Device) (h : ∀ k, k ∉ l → forme? e k = none) (k : Nat) :
    forme? (l.foldl (fun d f => dropAt d outcome localDrop each f) e) k = none := by
  induction l generalizing e with
  | nil => exact h k List.not_mem_nil
  | cons f l ih =>
    refine ih _ fun j hj => ?_
    obtain ⟨hnone, hgone⟩ := dropAt_noNewForme e heach outcome localDrop f
    by_cases hjf : j = f
    · exact hjf ▸ hgone
    · exact hnone j (h j (by simp [hjf, hj]))

theorem dropWhere_all : (dropWhere d (fun _ => true) outcome localDrop each).prs.formes = [] := by
  have hgone : ∀ k, forme? (dropWhere d (fun _ => true) outcome localDrop each) k = none := by
    rw [dropWhere_eq, List.filter_true]
    refine foldl_dropAt heach outcome localDrop _ d fun k hk => ?_
    by_contra hthere
    obtain ⟨x, hx⟩ := Option.ne_none_iff_exists'.1 hthere
    exact hk (List.mem_map_of_mem (f := Prod.fst) (Tbl.mem_of_get? hx))
  refine List.eq_nil_iff_forall_not_mem.2 fun e he => ?_
  have hthere := Tbl.isSome_get?_of_mem he
  rw [← forme?, hgone] at hthere
  cases hthere

end

theorem stopTraffic_formes : (stopTraffic d).prs.formes = [] := by
  obtain ⟨l, hstop⟩ := stopTraffic_eq d
  have hfifo : ∀ e x, formesOf (dropFifo e x) = formesOf e := fun e x =>
    foldl_keeps formesOf _ (fun e w => (formesOf_keepsDrops.count ..).trans (formesOf_keepsDrops.dropWork e w ..)) ..
  have hfetching : ∀ e, formesOf (setFetching e []) = formesOf e := fun e => by
    simp only [setFetching]
    (repeat' split) <;> rfl
  have hpaths : ∀ e, formesOf (pathsEmptied e) = formesOf e := fun _ => rfl
  rw [← formesOf, hstop, hpaths, hfetching, foldl_keeps formesOf dropFifo hfifo]
  exact dropWhere_all d (each := fun d _ => count d (devCtr 61)) (fun _ _ => rfl) ..

end

end Sys2Proof.Machine

/-!
PROOF. The warm restart: O29 (installed profiles, PROFILE_SELECT, and the restart's end).
-/
namespace Sys2Proof.Machine

/-! ## What ends with the frames in flight (R28, R226-R229, R250-R254, R312, R355) -/

/-- What the ends of switches, deletions and turns leave: clock, modes, boot, slots, formes and FIFOs. -/
def drainBase (d : Device) : Nat × Glb × Boot × Tbl Slot × Tbl Forme × Tbl (List Work) :=
  (d.clock, d.glb, d.boot, d.key.slots, d.prs.formes, d.prs.fifo)

theorem SameWork.drainBase {a b : Device} (h : SameWork a b) : drainBase a = drainBase b := by
  simp only [Machine.drainBase, h.clock, h.glb, h.boot, h.key, h.prs]

theorem LineWork.drainBase {l : List Nat} {a b : Device} (h : LineWork l a b) : drainBase a = drainBase b :=
  SameWork.drainBase (a := { a with frm := b.frm, kn := b.kn }) h.work

theorem drainBase_keepsErasures : KeepsErasures drainBase where
  same h _ := h.drainBase
  mem _ _ := rfl
  ms _ _ := rfl
  kn _ _ := rfl
  cls _ _ := rfl
  record _ _ _ := rfl
  prs _ _ hformes hfifo := by simp only [drainBase, hformes, hfifo]

section
variable (d : Device)

theorem flushStats_drainBase (i : Nat) : drainBase (flushStats d i) = drainBase d := by
  rw [flushStats_eq, drainBase_keepsErasures.addToLine, drainBase_keepsErasures.addToLine]
  rfl

theorem eraseRecord_drainBase (i : Nat) : drainBase (eraseRecord d i) = drainBase d :=
  (drainBase_keepsErasures.writeLine ..).trans (drainBase_keepsErasures.eraseRec ..)

/-- Context, marks and caches of an SA go. -/
theorem contextGone_drainBase (i : Nat) : ∃ e, drainBase e = drainBase (flushStats d i) ∧
    eraseSa d i = writeLines (eraseRecord e i) [ctxLine i 0, ctxLine i 1] := by
  refine ⟨_, ?_, rfl⟩
  generalize flushStats d i = e
  rfl

theorem eraseSa_drainBase (i : Nat) : drainBase (eraseSa d i) = drainBase d := by
  obtain ⟨e, he, herase⟩ := contextGone_drainBase d i
  rw [herase, writeLines, foldl_keeps drainBase writeLine drainBase_keepsErasures.writeLine, eraseRecord_drainBase, he,
    flushStats_drainBase]

theorem starve_drainBase (a : Nat) (x : Assoc) (v : Bool) : drainBase (starve d a x v) = drainBase d := by
  simp only [starve]
  split
  · rfl
  · split
    · exact (emit_same ..).drainBase
    · rfl

theorem knCapacity_drainBase : drainBase (knCapacity d) = drainBase d :=
  foldl_keeps drainBase _ (fun d (x : Nat × Assoc) => starve_drainBase d x.1 x.2 _) ..

theorem removeAssoc_drainBase (a : Nat) : drainBase (removeAssoc d a) = drainBase d := by
  have hgone : ∀ e, drainBase (withoutAssoc e a) = drainBase e := fun _ => rfl
  rw [removeAssoc_eq, knCapacity_drainBase, hgone, foldl_keeps drainBase eraseRecord eraseRecord_drainBase]

theorem assocDelDone_drainBase (a : Nat) : drainBase (assocDelDone d a) = drainBase d := by
  unfold assocDelDone
  split
  · exact (mirrorThenPost_same ..).drainBase.trans (removeAssoc_drainBase ..)
  · rfl

theorem finishDelete_drainBase (x : Deletion) : drainBase (finishDelete d x) = drainBase d := by
  have herased : ∀ ms, drainBase (eraseSa { d with ms := ms } x.sa) = drainBase d := fun ms => (eraseSa_drainBase ..).trans rfl
  simp only [finishDelete]
  split
  · exact (mirrorThenPost_same ..).drainBase.trans (herased _)
  · exact herased _

theorem commitSwitch_drainBase (c : Nat) : drainBase (commitSwitch d c) = drainBase d := by
  unfold commitSwitch
  split
  · split
    · simp only
      split
      · exact (finish_same ..).drainBase
      · rfl
    · rfl
  · rfl

theorem drainLater_drainBase (l : List TsiLater) : drainBase (drainLater d l) = drainBase d := by
  induction l generalizing d with
  | nil => rfl
  | cons x l ih =>
    cases x with
    | page => exact (ih _).trans rfl
    | switch => rfl

theorem finishSwitch_drainBase (x : TsiSwitch) : drainBase (finishSwitch d x) = drainBase d := by
  have hvoided : drainBase (windowsVoided d) = drainBase d := by
    have hwork := windowsVoided_digestWork d
    rw [DigestWork] at hwork
    rw [hwork]
    rfl
  have hswitched : drainBase (pagesSwitched d x) = drainBase d := Eq.trans rfl hvoided
  have hdrained := (drainLater_drainBase (switchReported d x) (switchReported d x).frm.later).trans
    ((switchReported_lineWork d x).drainBase.trans hswitched)
  rcases finishSwitch_eq d x rfl with hfinish | ⟨desc, due, hfinish⟩ <;> rw [hfinish]
  · exact hdrained
  · exact (mirrorThenPost_same ..).drainBase.trans hdrained

theorem endWaits_drainBase : drainBase (endWaits d) = drainBase d := by
  have hends : ∀ e, drainBase ((e.kn.assocs.map Prod.fst).foldl assocDelDone e) = drainBase e := fun e =>
    foldl_keeps drainBase assocDelDone assocDelDone_drainBase ..
  have hdeleted : ∀ e, drainBase (e.ms.deletions.foldl finishDelete e) = drainBase e := fun e =>
    foldl_keeps drainBase finishDelete finishDelete_drainBase ..
  have hswitched : ∀ e, drainBase (e.ms.switches.foldl (fun d s => commitSwitch d s.sc) e) = drainBase e := fun e =>
    foldl_keeps drainBase _ (fun d (s : TxSwitch) => commitSwitch_drainBase d s.sc) ..
  have hall := (hends _).trans ((hdeleted _).trans
    (hswitched { d with ms := { d.ms with turns := [], holds := [], intents := [] } }))
  simp only [endWaits]
  split
  · exact (finishSwitch_drainBase ..).trans hall
  · exact hall

/-! ## What a restart erases (R26) -/

theorem dropSc_drainBase (c : Nat) : drainBase (dropSc d c) = drainBase d := by
  have hgone : ∀ l : List Nat, drainBase (removeSc (l.foldl eraseSa d) c) = drainBase d := fun l =>
    Eq.trans rfl (foldl_keeps drainBase eraseSa eraseSa_drainBase ..)
  simp only [dropSc]
  split
  · exact hgone _
  · exact (emit_same ..).drainBase.trans (hgone _)

theorem dropSecys_eq (new : Profile) : ∃ (scs : List Nat) (secys : Tbl SecY),
    dropSecys d new = { scs.foldl dropSc d with ms := { (scs.foldl dropSc d).ms with secys := secys } } := ⟨_, _, rfl⟩

theorem dropSecys_drainBase (new : Profile) : drainBase (dropSecys d new) = drainBase d := by
  obtain ⟨scs, secys, hdrop⟩ := dropSecys_eq d new
  rw [hdrop]
  exact Eq.trans rfl (foldl_keeps drainBase dropSc dropSc_drainBase scs d)

theorem dropAssocs_drainBase (new : Profile) : drainBase (dropAssocs d new) = drainBase d :=
  foldl_keeps drainBase _ (fun d a => (emit_same ..).drainBase.trans (removeAssoc_drainBase d a)) ..

theorem restartAssoc_drainBase (a : Nat) : drainBase (restartAssoc d a) = drainBase d := by
  have hsent : ∀ e s x, drainBase (turnSent e a s x) = drainBase e := fun e s x =>
    (emit_same ..).drainBase.trans (Eq.trans rfl (eraseRecord_drainBase e (knRecord a x 0 0)))
  simp only [restartAssoc]
  split
  · split
    · split
      · rfl
      · exact (hsent _ _ _).trans rfl
    · rfl
  · rfl

theorem refreshLine_drainBase : drainBase (refreshLine d) = drainBase d :=
  (settleAll_lineWork _).drainBase.trans ((checkSizes_lineWork _).drainBase.trans
    (foldl_keeps drainBase _ (fun d k => (evalTim_lineWork d (k / 16384) (k % 16384)).drainBase) ..))

end

/-! ## What the end of a restart puts in place (R700) -/

/-- Mode and number of the profile, the restart in progress, the profile, and the slots. -/
def profileBase (d : Device) : Mode × Nat × Option Restart × Profile × Tbl Slot :=
  (d.glb.mode, d.glb.profileIdx, d.boot.restart, d.boot.profile, d.key.slots)

theorem profileBase_congr {a b : Device} (h : drainBase a = drainBase b) : profileBase a = profileBase b := by
  simp only [drainBase, Prod.mk.injEq] at h
  obtain ⟨-, hglb, hboot, hslots, -⟩ := h
  simp only [profileBase, hglb, hboot, hslots]

theorem SameWork.profileBase {a b : Device} (h : SameWork a b) : profileBase a = profileBase b :=
  profileBase_congr h.drainBase

theorem profileBase_keepsContexts : KeepsContexts profileBase where
  line d n := profileBase_congr (drainBase_keepsErasures.writeLine d n)
  prs _ _ := rfl
  stats _ _ _ := rfl
  clean _ _ _ _ := rfl
  count _ _ _ _ := rfl
  emit _ _ _ _ := (emit_same ..).profileBase

section
variable (d : Device)

theorem flSeal_profileBase : profileBase (flSeal d) = profileBase d :=
  foldl_keeps profileBase _ (fun e p => by
    split
    · split
      · exact (emit_same ..).profileBase
      · exact (profileBase_keepsContexts.flEnter ..).trans rfl
    · rfl) ..

theorem flAgain_profileBase : profileBase (flAgain d) = profileBase d := by
  unfold flAgain
  split
  · exact (flSeal_profileBase ..).trans rfl
  · rfl

theorem wakePath_profileBase : profileBase (wakePath d) = profileBase d := by
  obtain ⟨awake, hwake⟩ := wakePath_glb d
  rw [hwake]
  rfl

theorem takeBudget_profileBase : profileBase (takeBudget d) = profileBase d := by
  simp only [takeBudget]
  split
  · exact (emit_same ..).profileBase
  · rfl

/-- Framer, lanes and sensors of the old profile go. -/
theorem installProfile_eq (i : Nat) (new : Profile) : ∃ e : Device,
    profileBase e = (new.mode, i, d.boot.restart, new, d.key.slots) ∧ installProfile d i new =
      takeBudget (if new.mode = .maintain then (if style d == 0 && new.style != 0 then setPin e false else e)
        else endTests (if style d == 0 && new.style != 0 then setPin e false else e)) :=
  ⟨_, rfl, rfl⟩

theorem installProfile_profileBase (i : Nat) (new : Profile) :
    profileBase (installProfile d i new) = (new.mode, i, d.boot.restart, new, d.key.slots) := by
  obtain ⟨e, he, hinstall⟩ := installProfile_eq d i new
  rw [hinstall, takeBudget_profileBase, ← he]
  have hpin : ∀ c : Prop, [Decidable c] → profileBase (if c then setPin e false else e) = profileBase e := fun c _ => by
    split
    · exact (setPin_same ..).profileBase
    · rfl
  split
  · exact hpin _
  · exact Eq.trans rfl (hpin _)

theorem erased_drainBase (new : Profile) : drainBase (disarmGone (dropAssocs (dropSecys d new) new)) = drainBase d :=
  Eq.trans rfl ((dropAssocs_drainBase ..).trans (dropSecys_drainBase ..))

theorem endRestart_profileBase (x : Restart) :
    profileBase (endRestart d x) = (x.profile.mode, x.index, none, x.profile, d.key.slots) := by
  unfold endRestart
  extract_lets oldIdx boot e1 e2 e3 e4 glb e5 e6 e7
  have h1 : drainBase e1 = drainBase { d with boot := { d.boot with restart := none } } := endWaits_drainBase _
  clear_value e1
  have h2 : drainBase e2 = drainBase e1 := erased_drainBase _ _
  clear_value e2
  have h3 : drainBase e3 = drainBase e2 := foldl_keeps drainBase restartAssoc restartAssoc_drainBase ..
  clear_value e3
  have h4 : profileBase e4 = profileBase (installProfile (restartTables e3) x.index x.profile) :=
    profileBase_congr (refreshLine_drainBase _)
  clear_value e4
  have h5 : profileBase e5 = profileBase e4 := (wakePath_profileBase _).trans rfl
  clear_value e5
  have h6 : profileBase e6 = profileBase e5 :=
    (profileBase_congr (knCapacity_drainBase _)).trans ((settlePin_same _).profileBase.trans (flAgain_profileBase _))
  clear_value e6
  have h7 : profileBase e7 = profileBase e6 := (emit_same ..).profileBase
  have hboot := h3.trans (h2.trans h1)
  simp only [drainBase, Prod.mk.injEq] at hboot
  obtain ⟨-, -, hboot, hslots, -⟩ := hboot
  rw [(finish_same ..).profileBase, h7, h6, h5, h4, installProfile_profileBase, ← hslots]
  simp only [restartTables, hboot]

/-! ## The tick (log 6) -/

theorem settleOutputs_drainBase : drainBase (settleOutputs d) = drainBase d :=
  foldl_keeps drainBase _ (fun d p => (setDefect_lineWork d p 16 _).drainBase) ..

theorem writeEdge_drainBase (raised : Bool) (key : Nat) (x : Edge) : drainBase (writeEdge d raised key x) = drainBase d :=
  (emit_same ..).drainBase.trans rfl

theorem flushEdges_drainBase : drainBase (flushEdges d) = drainBase d := by
  have hside : ∀ e raised (l : Tbl Edge), drainBase (l.foldl (fun d e => writeEdge d raised e.1 e.2) e) = drainBase e :=
    fun e raised l => foldl_keeps drainBase _ (fun d (x : Nat × Edge) => writeEdge_drainBase d raised x.1 x.2) ..
  exact (hside ..).trans (hside ..)

theorem idleTick_drainBase : drainBase (idleTick d) = drainBase (restartTick (elapse d 1)) :=
  (flushEdges_drainBase ..).trans (settleOutputs_drainBase ..)

variable {d} {x : Restart}

theorem restartTick_before (hrestart : d.boot.restart = some x) (hclock : d.clock < x.ends) : restartTick d = d := by
  simp only [restartTick, hrestart, if_neg (Nat.not_le.2 hclock)]

theorem restartTick_due (hrestart : d.boot.restart = some x) (hclock : x.ends ≤ d.clock) : restartTick d = endRestart d x := by
  simp only [restartTick, hrestart, if_pos hclock]

end

/-! ## PROFILE_INSTALL (R694) -/

theorem exec_profileInstall (r : Fin 64) (buf : Bytes) (s : State) : exec (.profileInstall r buf) s =
    .next (s.having (runCommand 0x0023 r anyRight profInstallOwn (profInstallBody s.fuses) buf s.dev)) := rfl

theorem exec_profileInstallDone (ok : Bool) (s : State) : exec (.profileInstallDone ok) s =
    .next (s.having (profInstallDone s.dev ok)) := rfl

theorem profileCheck_taken (d : Device) (f : Fuses) (r : Nat) (rest : List Fetched) (img : Bytes) :
    profileCheck (taken d r rest) f img = profileCheck d f img := rfl

/-- An accepted PROFILE_INSTALL. -/
def profileInstallOf (o : Origin) (desc buf : Bytes) : Install :=
  { origin := o, index := leField desc 20 1, advance := false, revoke := 0, image := buf }

section
variable {f : Fuses} {o : Origin} {desc buf : Bytes} {d : Device} (hlen : o.bufLen = leField buf 6 2)
  (hfree : profileInUse d (leField desc 20 1) = false)
include hlen hfree

theorem profInstallBody_of_good (hgood : profileCheck d f buf = none) (hnone : d.boot.profInstall = none) :
    profInstallBody f o desc buf d = .accept (enterInflight { d with boot := { d.boot with
      profInstall := some (profileInstallOf o desc buf) } } o 0x0023) := by
  simp [profInstallBody, hlen, hfree, hgood, hnone, profileInstallOf]

theorem profInstallBody_of_bad {c : Nat × Nat} (hbad : profileCheck d f buf = some c) :
    profInstallBody f o desc buf d =
      .fail (profileRejected d (leField desc 20 1) c.1 c.2 2) .badField (imageResult c.1 c.2) := by
  simp [profInstallBody, hlen, hfree, hbad]

end

/-- The region is written, the install is over, and nothing else but the reports has changed. -/
theorem profInstallDone_written {d : Device} {x : Install} (h : d.boot.profInstall = some x) : ∃ tag,
    (profInstallDone d true).boot = { d.boot with profInstall := none, flash := { d.boot.flash with
      profiles := Tbl.put d.boot.flash.profiles x.index { image := x.image, tag := tag } } } ∧
    SameWork { profInstallDone d true with boot := d.boot } d := by
  have hdone : ∃ (tag : Bytes) (report : Bytes), profInstallDone d true = finish (emit (putProfile
      { d with boot := { d.boot with profInstall := none } } x.index { image := x.image, tag := tag }) .boot 0x05 report)
        x.origin .ok (zeros 16) := by
    simp only [profInstallDone, h]
    exact ⟨_, _, rfl⟩
  obtain ⟨tag, report, hdone⟩ := hdone
  have hwork := (finish_same (emit (putProfile { d with boot := { d.boot with profInstall := none } } x.index
    { image := x.image, tag := tag }) .boot 0x05 report) x.origin .ok (zeros 16)).trans (emit_same ..)
  rw [hdone]
  exact ⟨tag, hwork.boot, { hwork with boot := rfl }⟩

/-! ## PROFILE_SELECT (R699, R700) -/

theorem exec_profileSelect (r : Fin 64) (us : Fin 300001) (s : State) : exec (.profileSelect r us) s =
    .next (s.having (runCommand 0x0038 r anyRight profInstallOwn (selectBody s.fuses us) [] s.dev)) := rfl

section
variable {f : Fuses} {us : Nat} {o : Origin} {desc buf : Bytes} {d : Device} {g : Region}
  (himage : Tbl.get? d.boot.flash.profiles (leField desc 20 1) = some g) (hallowed : selectDenied d (some g.image) = false)
include himage hallowed

theorem selectBody_of_good (hgood : profileCheck d f g.image = none) (hnone : d.boot.restart = none) :
    selectBody f us o desc buf d = .accept (restartTick (beginRestart (enterInflight d o 0x0038) o (leField desc 20 1)
      (readProfile g.image) us)) := by
  simp [selectBody, himage, hallowed, hgood, hnone]

theorem selectBody_of_bad {c : Nat × Nat} (hbad : profileCheck d f g.image = some c) : selectBody f us o desc buf d =
    .fail (profileRejected d (leField desc 20 1) c.1 c.2 1) .badField (imageResult c.1 c.2) := by
  simp [selectBody, himage, hallowed, hbad]

end

/-- RESTART is a bit of its own. -/
theorem glbState_restart (d : Device) : bit (glbState d) 9 = d.boot.restart.isSome := by
  simp only [glbState, bit_or, bit_flagAt _ (show 9 < 32 by decide), bit_place (show 9 < 32 by decide)]
  simp

/-- The restart is on, its end is set, and no frame is left. -/
theorem beginRestart_stops (d : Device) (o : Origin) (i : Nat) (new : Profile) (us : Nat) :
    (beginRestart d o i new us).boot.restart = some { origin := o, index := i, profile := new, us := us
                                                      ends := d.clock + us * 500 } ∧
    (beginRestart d o i new us).prs.formes = [] ∧ (beginRestart d o i new us).prs.fifo = [] ∧
    (beginRestart d o i new us).key.slots = d.key.slots := by
  have hends := endWaits_drainBase (stopTraffic d)
  have hstop := stopTraffic_unmoved d
  simp only [drainBase, Prod.mk.injEq, stopTraffic_formes, stopTraffic_fifo] at hends
  obtain ⟨hclock, -, -, hslots, hformes, hfifo⟩ := hends
  have hstarted : (stopTraffic d).clock = d.clock := congrArg Unmoved.clock hstop
  have hkept : (stopTraffic d).key.slots = d.key.slots := congrArg Unmoved.slots hstop
  simp only [beginRestart, hclock, hstarted, hformes, hfifo, hslots, hkept, usTicks, and_self]

/-- Settles O29: an install by its checks and by what is written; PROFILE_SELECT by the same checks and by the traffic that stops;
the restart by what its end puts in place. -/
theorem profilesAndRestart : Obligations.ProfilesAndRestart := by
  refine ⟨?install, ?written, ?select, ?tick⟩
  case install =>
    rintro r s f rest buf b o x c hruns rfl rfl hlen hfree hnone rfl rfl
    rw [exec_profileInstall]
    refine congrArg (fun d => Host.Outcome.next (s.having d)) ?_
    cases hcheck : profileCheck s.dev s.fuses (fit (originOf s.dev r f).bufLen buf) with
    | none =>
      rw [if_pos rfl]
      exact runCommand_accept hruns (profInstallBody_of_good (d := taken s.dev r rest) hlen hfree hcheck hnone)
    | some c =>
      rw [if_neg (by simp)]
      exact runCommand_fail hruns (profInstallBody_of_bad (d := taken s.dev r rest) hlen hfree hcheck)
  case written =>
    intro s x hinstall
    obtain ⟨tag, hboot, hwork⟩ := profInstallDone_written hinstall
    refine ⟨_, tag, exec_profileInstallDone true s, ?_, fun k hk => ?_, ?_, hwork⟩ <;> rw [hboot]
    · exact Tbl.get?_put ..
    · exact Tbl.get?_put_ne _ _ _ _ hk
  case select =>
    rintro r us s f rest i g d c hruns rfl himage - hallowed rfl hnone rfl
    rw [exec_profileSelect]
    cases hcheck : profileCheck s.dev s.fuses g.image with
    | none =>
      have haccepted := runCommand_accept (buf := []) hruns
        (selectBody_of_good (us := us.val) (d := taken s.dev r rest) himage hallowed hcheck hnone)
      obtain ⟨hrestart, hformes, hfifo, hslots⟩ := beginRestart_stops
        (enterInflight (taken s.dev r rest) (originOf s.dev r f) 0x0038) (originOf s.dev r f) (leField f.desc 20 1)
        (readProfile g.image) us.val
      have hsame := (enterInflight_same (taken s.dev r rest) (originOf s.dev r f) 0x0038).trans (taken_same ..)
      rw [if_pos rfl]
      refine ⟨congrArg (fun d => Host.Outcome.next (s.having d)) haccepted, ?_, ?_, hformes, hfifo, ?_⟩
      · rw [hrestart, hsame.clock]
      · rw [glbState_restart, hrestart]
        rfl
      · rw [hslots, hsame.key]
    | some c =>
      rw [if_neg (by simp)]
      have hrejected := runCommand_fail (buf := []) hruns
        (selectBody_of_bad (us := us.val) (d := taken s.dev r rest) himage hallowed hcheck)
      exact congrArg (fun d => Host.Outcome.next (s.having d)) hrejected
  case tick =>
    intro s x hrestart hempty
    refine ⟨fun hbefore => ⟨_, step_of_empty hempty, ?_⟩, fun hdue => ⟨_, step_of_empty hempty, ?_⟩⟩
    · have htick := idleTick_drainBase s.dev
      rw [restartTick_before (d := elapse s.dev 1) hrestart hbefore] at htick
      simp only [drainBase, Prod.mk.injEq] at htick
      obtain ⟨-, hglb, hboot, -⟩ := htick
      exact ⟨hboot ▸ hrestart, hglb⟩
    · have htick := profileBase_congr (idleTick_drainBase s.dev)
      rw [restartTick_due (d := elapse s.dev 1) hrestart hdue, endRestart_profileBase] at htick
      simp only [profileBase, Prod.mk.injEq] at htick
      obtain ⟨hmode, hidx, hnone, hprofile, hslots⟩ := htick
      exact ⟨hnone, hmode, hidx, hprofile, hslots⟩

end Sys2Proof.Machine
